-- ==== Sys2Proof/Word.lean ====
section
/-! DEFINITION. The word types: 32-bit registers (R11) and bytes. -/

namespace Sys2Proof

/-- A register word (R11). -/
abbrev Word := BitVec 32

/-- A byte of an image, a message or a record. -/
abbrev Byte := BitVec 8

end Sys2Proof
end

