-- ==== Sys2Proof/Syntax.lean ====
section
/-! DEFINITION. The commands the block takes, one constructor for each row of the opcode table, with the operands
that the rules of each row give it: what reaches the module from outside (levels, measurements, frames, stamps) and
what a writer names (a register value, an instance). -/

namespace Sys2Proof

/-- What the release of RESET finds at the contacts (R24, R28, R520): XRST_N and SSEL in mV, how long UB has stayed
between 8.5 and 36.0 V in ms, and how long the module was held in RESET in ms. -/
structure ReleaseIn where
  xrstMv : Nat
  sselMv : Nat
  okMs : Nat
  heldMs : Nat
deriving DecidableEq, Repr

/-- A PWM period start (R241): the output and the phase. -/
structure PwmStart where
  n : Fin 16
  phase : Fin 10000
deriving DecidableEq, Repr

/-- A Pdelay exchange of this module (R95, R105): the path delay it gives, MT units, and the stamps of its Pdelay_Req sent and
of the Pdelay_Resp received (none: missing). -/
structure PdelayIn where
  delay : Int
  tx : Option Nat
  rx : Option Nat
deriving DecidableEq, Repr

/-- What LOAD meets (R67, R68): which microcode read-backs mismatch for firmware A and B, and the time since reset
release in ms. -/
structure LoadIn where
  ucodeBadA : Bool
  ucodeBadB : Bool
  ms : Nat
deriving DecidableEq, Repr

/-- What PROVE finds (Table 2.8): the tests that have no repair, the failing scratchpad rows (bank, row, failing words), the failing
slices (group, cell, position), the training of each ring port over its loopback, the PC outputs whose stage test
failed, a detected error outside the march of severity 2 or above, and the two durations in ms. -/
structure ProveIn where
  chronOk : Bool
  lockstepOk : Bool
  dramOk : Bool
  eccOk : Bool
  badRows : List (Nat × Nat × Nat)
  badSlices : List (Nat × Nat × Nat)
  trainedW : Bool
  trainedE : Bool
  pcFaulty : Nat
  otherError : Bool
  proveMs : Nat
  startMs : Nat
deriving DecidableEq, Repr

/-- A sample of an analogue input (R245, Table 6.4): its raw value, and for a bridge input the differential in µV and
the common mode in mV. -/
structure AiSample where
  n : Nat
  raw : Int
  diffUv : Int := 0
  cmMv : Nat := 2500
deriving DecidableEq, Repr

/-- What the module samples at a tick edge: UB and UV in mV (Table 1.16), the AI values, the IMU's six values in Q7.24
and its fault (R177), the PC outputs' mean currents over the tick in µA and the regulators at full duty (Table 6.11),
the Binnacle thermistor resistance in ohms with its supply VLCD in mV (R481), and the asynchronous domains that the edge
reached outside its class P bound (EV000). -/
structure TickIn where
  ubMv : Nat
  uvMv : Nat
  ai : List AiSample
  imu : List Int
  imuFault : Bool
  pcUa : List Nat
  pcFull : Nat
  ntcOhm : Nat
  vlcdMv : Nat
  late : List Nat := []
deriving DecidableEq, Repr

/-- An active edge at a pulse input (R116, R118, R249): its stamp, none where the stamp point lost it (R95), and whether the
crossing's Gray code moved by more than one step. -/
structure PulseIn where
  stamp : Option Nat
  gray : Bool := false
deriving DecidableEq, Repr

/-- A station slot of a pass (Table 4.4): ADDR's address and kind (1 C-slot, 2 D-slot), STATUS, payload bytes, whose number is
LEN, and CRC. -/
structure RingSlot where
  addr : Nat
  kind : Nat
  status : Nat
  payload : List Nat
  crc : Nat := 0
deriving DecidableEq, Repr

/-- An announcement entry (Table 4.3). -/
structure RingAnn where
  type : Nat := 0
  seq : Nat := 0
  tick : Nat := 0
  arg : Nat := 0
deriving DecidableEq, Repr

/-- A mail region (Table 4.6): its header, the payload of MAIL_LEN bytes, of which LEN are in use, and its CRC. -/
structure RingMail where
  addr : Nat := 0
  bcast : Bool := false
  filled : Bool := false
  len : Nat := 0
  op : Nat := 0
  seq : Nat := 0
  status : Nat := 0
  payload : List Nat := []
  crc : Nat := 0
deriving DecidableEq, Repr

/-- A ring pass (Tables 4.2 to 4.6): FLAGS' DIR, WRAP, ORIGIN, TAI_VALID and mode, LEN, MAPVER, tick count, MT_LAUNCH, ACC in
1/16 ns, HOPS, NSLOT and HCRC of the header, the slots in order, the announcement block with its CRC, and the mail. -/
structure RingFrame where
  ftype : Nat
  dir : Nat
  wrap : Bool := false
  origin : Nat := 0
  tai : Nat := 0
  mode : Nat := 0
  len : Nat := 0
  mapver : Nat := 0
  tick : Nat := 0
  mtLaunch : Nat := 0
  acc : Nat := 0
  hops : Nat := 1
  nslot : Nat := 0
  hcrc : Nat := 0
  slots : List RingSlot := []
  ann : List RingAnn := []
  annCrc : Nat := 0
  mail : RingMail := {}
deriving DecidableEq, Repr

/-- A probe frame (Table 4.7): TURN in 1/16 ns. -/
structure ProbeFrame where
  ftype : Nat
  seq : Nat
  turn : Nat := 0
  crc : Nat := 0
deriving DecidableEq, Repr

/-- What a station sampled at the edge of a tick (R140), the snapshot blocks of its channels at that edge (R166), and whether it
is too busy for a request (R156). -/
structure NodeSample where
  payload : List Nat := []
  blocks : List Nat := []
  busy : Bool := false
deriving DecidableEq, Repr

/-- A station's IDENT reply (Table 4.15). -/
structure IdentReply where
  vendor : Nat
  product : Nat
  hwRev : Nat := 0
  bootRev : Nat := 0
  fwdCw : Nat
  fwdCcw : Nat
  ready : Nat
  cLen : Nat
  dLen : Nat
  flags : Nat
  nchan : Nat
  hopsCw : Nat
  hopsCcw : Nat
  capacity : Nat := 0
  digest : List Nat := []
deriving DecidableEq, Repr

/-- Who read the scratchpad word that was in error (Table 10.3): a Helm channel's law state or table, an input copy of a
Helm channel (its slot: 0 IN_SRC, 1 to 3 AUX), the D-slot take of a station, the input table of a station, the mailbox
engine at a word, the Plotter's job under a tag, the block of a Sextant pipeline, Lookout's inference, the Pilot or a debug
access, or the scrubber. -/
inductive SpdReader where
  | helmState (ch : Nat)
  | helmInput (ch slot : Nat)
  | dSlot (st : Nat)
  | inputTable (st : Nat)
  | mailbox (word : Nat)
  | plotter (tag : Nat)
  | sextant (pipe : Nat)
  | lookout
  | pilot
  | debug
  | scrubber
deriving DecidableEq, Repr

/-- Where a DRAM ECC error was met, and by whom (R392). -/
structure DramUse where
  addr : Nat
  rd : SpdReader
deriving DecidableEq, Repr


/-- What an NMEA 0183 sentence says (R268), by sentence: the UTC time of day in ms where it has one; latitude and
longitude in 10⁻⁹ degree, height in mm, fix quality and satellites; validity, speed over ground in mm/s, course in µrad
and the date in days since 1970; standard deviations in mm; true heading in µrad. -/
inductive Nmea where
  | gga (tod : Nat) (lat lon hgt : Int) (qual sats : Nat)
  | rmc (tod : Nat) (ok : Bool) (speed course days : Nat)
  | gst (tod : Nat) (sLat sLon sHgt : Nat)
  | hdt (hdg : Nat)
  | zda (tod days : Nat)
  | other
deriving DecidableEq, Repr

/-- A fleet message whose fragments have all arrived within 10 ms (R508): the sender's IPv4 address, MSG_SEQ, the receive
stamp of fragment 0, the sender's TAI_VALID, and the entries, 64 bytes each (Table 8.3). -/
structure FleetMsg where
  addr : BitVec 32
  seq : Nat
  stamp : Option Nat
  tai : Bool
  entries : List (List Nat)
deriving DecidableEq, Repr

/-- A CSI-2 Frame Start packet (Table 9.1): its frame number, virtual channel, and whether its header is good or corrected. -/
structure FrameStartPkt where
  no : BitVec 16
  vc : Nat := 0
  hdrOk : Bool := true
deriving DecidableEq, Repr

/-- A CSI-2 Frame End packet (Table 9.1): its stamp (none: missing), virtual channel, and whether its header is good or
corrected. -/
structure FrameEndPkt where
  stamp : Option Nat
  vc : Nat := 0
  hdrOk : Bool := true
deriving DecidableEq, Repr

/-- A CSI-2 long packet (Table 9.1, R333): virtual channel, data type, whether its header is good or corrected, its payload
CRC good and the FIFO of R331 full, and the bytes of its payload. -/
structure LinePkt where
  vc : Nat
  dt : Nat
  hdrOk : Bool := true
  crcOk : Bool := true
  fifoFull : Bool := false
  data : List Nat := []
deriving DecidableEq, Repr

/-- A CAN frame: identifier (a base identifier in bits 28 to 18), extended format, FDF, BRS, ESI, remote, DLC and data. -/
structure CanFrame where
  id : Nat
  xtd : Bool
  fdf : Bool := false
  brs : Bool := false
  esi : Bool := false
  remote : Bool := false
  dlc : Nat
  data : List Nat := []
deriving DecidableEq, Repr

/-- How the write of a settings frame ends (R471, Table 13.7): written, failed (EV087), or cut by the loss of power. -/
inductive SetWrite where
  | done
  | failed
  | cut
deriving DecidableEq, Repr

/-- How an attempt of the head entry begins or ends (R412): arbitration lost; an error of a kind (LEC), with whether one of
ISO 11898-1's exceptions holds (R419): no dominant bit in the passive error flag after an acknowledge error, or a stuff error
during arbitration at a bit sent recessive; or sent. -/
inductive TxEnd where
  | started
  | lost
  | failed (lec : Nat) (exempt : Bool)
  | sent (stamp : Option Nat)
deriving DecidableEq, Repr

/-- Where a request of the HSI comes from and what its header carries (R495, Table 15.1): the ETH port, the host's IPv4
address and UDP port, SEQ, TOKEN, and the phase of the tick at which it is accepted. -/
structure HsiHdr where
  eth : Fin 3
  ip : BitVec 32
  port : BitVec 16
  seq : BitVec 32
  token : BitVec 64
  phase : Fin 10000
deriving DecidableEq, Repr
/-- Where a datagram came from (R493): the ETH port, the sender's IPv4 address and UDP
port. -/
structure HsiFrom where
  eth : Fin 3
  ip : BitVec 32
  port : BitVec 16
deriving DecidableEq, Repr
/-- The commands of the block, one constructor per row of spec/opcode_table.json, in the table's order. -/
inductive Instr where
  /-- R28: UB is applied to an unpowered module; the PWR registers take their reset values and the module holds itself in RESET. -/
  | ubApply (ub : Int)
  /-- R25: UB crosses a threshold of Table 1.10, which raises EV120 or EV121, sheds camera supplies below 8.0 V and begins ride-through below 6.5 V. -/
  | ubLevelChange (ub : Int)
  /-- R25: UB has stayed between 36.0 and 48.0 V for 60 s, so the camera supplies are shed and EV121 is raised with parameter 1. -/
  | cameraShedOvervoltage
  /-- R26: The overvoltage time limit expires; the module carries out the power-fail actions and holds itself in RESET with cause 0x06. -/
  | overvoltageShutdown
  /-- R52: UB has stayed below 6.5 V for 2.0 ms; the module releases KW, zeroes its outputs, writes the power-fail record and enters RESET with cause 0x00. -/
  | powerFailure
  /-- R29: After UB has been in range for 100 ms, the next enabled camera port returns to power; ports return 20 ms apart in ascending order. -/
  | cameraSupplyReturn
  /-- R30: IGN changes level; going high wakes the module or cancels a pending shutdown request. -/
  | ignChange (mv lowMs : Nat)
  /-- R64: IGN has been low for 2.0 s; SHUTREQ is set and the request is handled according to the mode (Table 2.4). -/
  | shutdownRequest
  /-- R524: STILL_CHAN has stayed below STILL_THRESH for STILL_TIME ticks; with a shutdown pending, ROAD or FIELD enters STANDBY with cause 0x23. -/
  | standstillReached
  /-- R524: Once per second while the module waits for standstill, EV115 is raised with parameter 3. -/
  | standstillWaitReport
  /-- R64: Power-down of a shutdown request: pending NOR and MRAM writes complete, settings and the shutdown record are written, the relays close and the module enters RESET with cause 0x05. -/
  | powerDown
  /-- R31: XRST_N has been low for 192 consecutive CLK_S cycles, so the module enters RESET with cause 0x01. -/
  | xrstAssert
  /-- R520: The release condition for the cause of the RESET is met; the domains are released in order, SSEL is read and LOAD begins. -/
  | resetRelease (r : ReleaseIn)
  /-- R67: The firmware, the Almanac and the microcode have been read, checked and applied; the module enters PROVE or, with no Almanac accepted, SERVICE. -/
  | loadComplete (r : LoadIn)
  /-- R70: The PROVE steps have finished; the module enters STANDBY if PROVE passed, or SERVICE if it failed. -/
  | proveComplete (r : ProveIn)
  /-- R153: After listening on West in for 2 ticks, the module takes the standby role, forwards as S1, or begins to launch as S0. -/
  | listenEnd (seen : Option (Fin 2))
  /-- R153: 8 valid pass headers have arrived on West in, at least 10 ms after KW, so the KE coil is energised. -/
  | cwInsertionComplete
  /-- R153: CW insertion has not completed 100 ms after KW opened; EV025 is raised and KE is opened anyway. -/
  | cwInsertionTimeout
  /-- R46: KE closes at least 30 ms after KW has closed, including the hold-up release on loss of supply. -/
  | keClose
  /-- R53: 10 ms after a coil change, the auxiliary contact is compared with the command; a disagreement sets the fault bit, raises EV126 and may hold MOD_OK off. -/
  | relayCheck (relay : Fin 2) (aux : Bool) (t10us : Nat)
  /-- R47: A relay's cut window ends 25 ms after its coil change, and its BUSY bit clears. -/
  | relayCutEnd (relay : Fin 2)
  /-- R48: A write of PWR_RELAY KW_CMD or KE_CMD commands a relay in SERVICE, is held during the other relay's window, or is ignored outside SERVICE. -/
  | relayCommand (kw ke : Bool)
  /-- R48: A held relay command takes effect 3 ms after the other relay's cut window ends. -/
  | relayHeldRelease (relay : Fin 2)
  /-- R32: In LIMP, MOD_OK toggles every 500 ms. -/
  | modOkToggle
  /-- R34: UV has stayed below 8.0 V for 100 µs; all PC outputs go to zero current and EV122 is raised. -/
  | uvLoss (mv : Nat)
  /-- R34: UV has stayed at or above 9.0 V for 10 ms; the PC outputs resume from zero through hand-over. -/
  | uvRestore (mv : Nat)
  /-- R37: TJ and TCP are measured every tick and compared with the thresholds of Table 1.12. -/
  | tempMeasure (tj tcp : Int)
  /-- R42: A sensor supply has exceeded its current limit for 1 ms; it switches off and EV125 is raised. -/
  | sensorSupplyTrip (sup : Fin 8)
  /-- R42: 100 ms after a trip, a sensor supply retries once, and latches off if it fails again. -/
  | sensorSupplyRetry (sup : Fin 8) (fails : Bool)
  /-- R42: A write of 1 to PWR_SENS.FLT clears a latched sensor supply fault and lets the supply return. -/
  | sensFaultClear (mask : BitVec 8)
  /-- R43: A camera port has drawn more than 320 mA for 1 ms; it switches off and EV124 is raised. -/
  | cameraSupplyTrip (port : Fin 8)
  /-- R43: 100 ms after a trip, a camera port retries once, and latches off if it fails again. -/
  | cameraSupplyRetry (port : Fin 8) (fails : Bool)
  /-- R43: A write of 1 to PWR_CAM.FLT clears a latched camera port and re-enables it if its EN bit is 1. -/
  | camFaultClear (mask : BitVec 8)
  /-- R59: 100 ticks pass without a Pilot heartbeat; a management-plane failure enters LIMP with cause 0x31, or RESET with cause 0x08 in LOAD and PROVE. -/
  | watchdogExpiry
  /-- R59: The Pilot lockstep comparison fails, which is a management-plane failure. -/
  | lockstepMismatch
  /-- R100: Every 10,000 CLK_T cycles the tick count advances and the edge-ordered actions of the tick take place. -/
  | tickEdge (x : TickIn)
  /-- R82: A write of ALM_COMMIT with GO = 1 commits a region, or is refused as REGION_BUSY or as no such region. -/
  | commit (region : BitVec 8) (phase : Fin 10000)
  /-- R82: At the edge that applies a committed region, the staged values all take effect together and the pending bit clears. -/
  | commitApply (region : BitVec 8)
  /-- R81: A write to a register field without a row of its own acts under its access type and change class, or sets LATE or STAGE_LOCKED. -/
  | registerWrite (addr : Nat) (value : BitVec 32)
  /-- R123: A read of CHR_MT64_LO returns MT64[31:0] and latches the high word for this master. -/
  | chrMt64LoRead (m : Nat) (phase : Fin 10000)
  /-- R123: A read of CHR_TICK_LO returns the tick count [31:0] and latches the high bits for this master. -/
  | chrTickLoRead (m : Nat)
  /-- R114: A read of CHR_XING.LOST returns the count of lost pulses and clears it. -/
  | chrXingRead
  /-- R102: A write of CHR_SNAP_CTL.GO arms a snapshot slot for tick count T, or refuses it as SNAP_LATE or slot busy. -/
  | snapArm (slot : Fin 4) (t : BitVec 48)
  /-- R102: At the edge where the tick count becomes T, the snapshot strobe fires and every group latches its 64-byte blocks. -/
  | snapFire (slot : Fin 4)
  /-- R104: An active PPS edge is stamped and checked as a reference event, or rejected with EV005. -/
  | ppsEdge (input : Fin 2) (raw : Option Nat)
  /-- R270: The Plotter gives the Chronometer the TAI second of a whole-second fix, with its arrival stamp. -/
  | timeOfDay (input : Fin 2)
  /-- R105: An 802.1AS Sync with its Follow_Up arrives on ETH0 or ETH1 and serves as a reference event. -/
  | gptpSync (port : Fin 2) (rx : Option Nat) (origin : Nat)
  /-- R510: Every 1 s, each gPTP port sends Pdelay_Req and Announce as its mode requires. -/
  | gptpPdelayReq
  /-- R510: A gPTP receipt timeout of 3 intervals expires; the reference is lost and EV006 is raised. -/
  | gptpReceiptTimeout (port : Fin 2)
  /-- R106: The reference has been lost for 3 s while LOCKED, so the state becomes HOLDOVER. -/
  | referenceLost
  /-- R106: HOLDOVER_S has elapsed in HOLDOVER, so the state becomes FREE and EV008 is raised. -/
  | holdoverExpiry
  /-- R103: A more preferred source has stayed qualified for 60 s, so the module changes to it. -/
  | sourceSwitch (code : Fin 5)
  /-- R107: At the announced edge, MT64 jumps by the step on every station while the tick count stays unchanged, and EV004 is raised. -/
  | mt64Step
  /-- R114: A class P crossing takes a source pulse, or an acknowledge, and counts the pulses pending or lost. -/
  | xingPulse (id : BitVec 16) (ack : Bool)
  /-- R118: A class H or P acknowledge has not returned within 64 destination cycles; EV010 is raised and the crossing is reset. -/
  | xingAckTimeout (id : BitVec 16)
  /-- R95: A stamp point stamps an event and queues the stamp, or drops it at a full queue and raises EV012. -/
  | stamp (point : Fin 66) (stamp : Nat)
  /-- R121: The TCXO has stopped or PLL_T has lost lock; the PWR domain acts as for power fail and the module enters RESET with cause 0x07. -/
  | clockFailure
  /-- R121: PLL_P loses lock and the Pilot stops, which is a management-plane failure. -/
  | pllPUnlock
  /-- R408: PLL_C loses lock; every CAN controller goes recessive, empties its queue and raises EV099. -/
  | pllCUnlock
  /-- R408: PLL_C locks again; the controllers reset their crossings and counters and begin bus integration. -/
  | pllCRelock
  /-- R121: PLL_D loses lock, which is treated as a data-plane failure. -/
  | pllDUnlock
  /-- R128: At phase 1.00 µs the launcher launches a C-pass in both directions. -/
  | cPassLaunch
  /-- R178: From 59.00 µs the ring gathers the D-slot words from the scratchpad; a slot with an uncorrectable error goes out with VALID = 0. -/
  | dSlotTake
  /-- R128: At phase 60.00 µs the launcher launches a D-pass with the announcements, the D-slots and the mail. -/
  | dPassLaunch
  /-- R150: A pass copy returns to the master, or reaches a station, and its header is checked. -/
  | passReceive (f : RingFrame) (rttNs : Nat)
  /-- R150: At 99.00 µs the master compares the C-slot copies of each station and marks its input valid, MISMATCH or MISSING. -/
  | cSlotCollect
  /-- R139: A station forwards a ring frame, updates ACC, HOPS and HCRC, inserts its C-slot and reads its D-slot. -/
  | frameForward (st : Fin 64) (f : RingFrame) (sample : NodeSample) (fwd : Nat) (rx : Option Nat)
  /-- R142: At OUT_PHASE a station applies the D-slot data of the previous tick, or holds its last outputs. -/
  | stationOutputApply (st : Fin 64)
  /-- R142: HOLD_TICKS ticks pass without usable D-slot data, so the station goes to its safe state and reports SAFE. -/
  | stationSafe (st : Fin 64)
  /-- R144: 8 ticks pass without a valid pass; the station clears TIME_OK and falls to LISTEN. -/
  | noPassTimeout (st : Fin 64)
  /-- R167: At the edge AT of a RESET announcement, each named station goes safe, discards its image and enters LOADING. -/
  | stationReset (st : Fin 64)
  /-- R137: At phase 80.00 µs a station sends a PROBE on the reverse direction of each in pair. -/
  | probe (st : Fin 64) (seq : BitVec 8)
  /-- R137: A PROBE arrives, and the station answers with a REPLY within 2 µs. -/
  | probeReceive (st : Fin 64) (dir : Fin 2) (f : ProbeFrame) (turn : Nat)
  /-- R145: A REPLY arrives, and the link delay estimate is updated or the exchange is discarded. -/
  | replyReceive (st : Fin 64) (dir : Fin 2) (t1 t4 : Option Nat) (f : ProbeFrame)
  /-- R158: A ring PHY link goes down; that input is dead at once, and a ring port error is detected while the module is inserted. -/
  | ringLinkDown (dir : Fin 2)
  /-- R158: 4 consecutive passes are missing on one direction while the other delivers, so the input is declared dead. -/
  | inputDead (dir : Fin 2)
  /-- R158: 8 consecutive valid headers arrive on a dead input, so it is declared alive again. -/
  | inputAlive (dir : Fin 2)
  /-- R163: S1 has seen no pass from S0 for 4 passes, with its conditions met; it launches with ORIGIN = 1 and raises EV026. -/
  | takeover
  /-- R154: The master mails IDENT to a station and compares the reply with the declared topology. -/
  | ident (st : Fin 64) (reply : IdentReply)
  /-- R154: A station has not answered IDENT within 4 ticks three times, so it fails the topology check. -/
  | identTimeout (st : Fin 64)
  /-- R156: The master broadcasts LOAD_BEGIN with IMG_LEN, ENTRY and DIGEST to the stations of an image. -/
  | loadBegin (img : Nat)
  /-- R156: The master sends the next block of a node image by mail. -/
  | loadData (img : Nat)
  /-- R156: The master requests the node's digest and repeats the load if it differs. -/
  | loadEnd (st : Fin 64)
  /-- R156: The master tells a loaded station to run its image. -/
  | run (st : Fin 64) (busy : Bool)
  /-- R166: The master reads a station's snapshot blocks by mail. -/
  | snapRead (st : Fin 64) (slot : Fin 4) (first : Nat) (busy : Bool)
  /-- R155: The master reads a station's 16 error and delay counters by mail. -/
  | stats (st : Fin 64)
  /-- R169: A read of MRD_ERR_A returns the HCRC and slot CRC counts and clears them. -/
  | mrdErrARead
  /-- R169: A read of MRD_ERR_B returns the MISMATCH and MISSING counts and clears them. -/
  | mrdErrBRead
  /-- R172: The group sequencer starts a channel's computation on its cell in the cycle that the timetable gives. -/
  | computationStart (ch : Fin 128) (ai : List AiSample)
  /-- R184: A computation finishes its law and holds its result for the output instant, entering HOLD or SAFE on invalid inputs. -/
  | computationEnd (ch : Fin 128)
  /-- R176: At the channel's output instant, Helm writes the held output into its sink. -/
  | outputApply (ch : Fin 128)
  /-- R232: A computation has not ended by its window end; it is aborted and the channel enters HOLD, or SAFE after three overruns. -/
  | overrun (ch : Fin 128)
  /-- R207: A requested channel reset acts at its edge; the sink takes SAFE_RAW and the law state clears. -/
  | channelReset (ch : Fin 128)
  /-- R207: At the edge after the reset tick, the channel enters STOPPED or starts its law. -/
  | channelResetEnd (ch : Fin 128)
  /-- R208: A requested group reset acts; all 16 channels enter RESET and the sequencer stops. -/
  | groupReset (g : Fin 8)
  /-- R208: After two reload ticks, the group's channels continue as after a channel reset. -/
  | groupResetEnd (g : Fin 8)
  /-- R205: A write of HLM_BC_CTL with GO = 1 delivers the value to the named groups. -/
  | broadcast (value : BitVec 32) (word : Fin 16) (gmask : BitVec 8)
  /-- R205: At the first edge after the last delivery, the broadcast word takes effect in every named group. -/
  | broadcastAct
  /-- R202: The Pilot rechecks the group after HALT writes and rebuilds its timetable, clearing TT_STALE or setting TT_FAIL. -/
  | timetableRebuild (g : Fin 8)
  /-- R235: The Pilot precomputes the fallback timetables of a group and sets HLM_FB.READY. -/
  | fallbackCompute (g : Fin 8)
  /-- R236: At the edge after a slice is lost with no spare, the cell's fallback timetable comes into force. -/
  | fallbackApply (cell : Fin 32)
  /-- R225: A request for AUTO acts at its edge, is refused with a reason, or starts a hand-over with cause 2. -/
  | autoRequest (ch : Fin 128)
  /-- R225: A request for MAN starts a hand-over with cause 3. -/
  | manRequest (ch : Fin 128)
  /-- R232: A read of HLM_OVR.TOTAL returns the overrun count and clears it. -/
  | hlmOvrRead (ch : Fin 128)
  /-- R241: A PC PWM period begins, takes up the latest current value, and applies any deferred PWM or band change. -/
  | pwmPeriodStart (x : PwmStart)
  /-- R243: Every 10 ms the coil resistance and temperature are estimated and the open-load condition is checked. -/
  | coilEstimate (n : Fin 16) (mv ua : Nat) (openLoad : Bool)
  /-- R244: A PC output exceeds 5.0 A for 5 µs; it is latched off and its channel enters SAFE. -/
  | pcOvercurrent (n : Fin 16)
  /-- R244: A write of 1 to DIO_PCn_STAT.OC re-enables the output, and its channel returns through hand-over. -/
  | pcOcClear (n : Fin 16)
  /-- R247: A modulator finishes its 10 ms calibration, or is retired if it fails its limits. -/
  | aiCalibrationDone (m : Fin 26) (ok : Bool)
  /-- R247: A calibrated modulator takes over an input at a tick edge and records CAL_DELTA. -/
  | aiModulatorTakeover (n : Fin 24) (delta : Int)
  /-- R246: A 4–20 mA input exceeds 25 mA; the burden disconnects and the input becomes faulty. -/
  | aiBurdenDisconnect (n : Fin 24)
  /-- R246: A write of 1 to DIO_AIn_STAT.BURDEN reconnects the burden. -/
  | aiBurdenClear (n : Fin 24)
  /-- R249: An active edge at a PI input is counted and stamped. -/
  | pulseEdge (n : Fin 16) (e : PulseIn)
  /-- R250: TIMEOUT ticks pass without an edge, so the RATE value becomes 0. -/
  | pulseTimeout (n : Fin 16)
  /-- R251: An edge at a DIO input is stamped and debounced. -/
  | dioEdge (n : Fin 16) (high : Bool) (stamp : Option Nat) (heldUs : Nat)
  /-- R251: A DIO output exceeds its limits; it switches off, sets DIO_OFLT and raises reason 0x17. -/
  | dioOvercurrent (n : Fin 16)
  /-- R251: A write of 1 to DIO_OFLT re-enables a DIO output. -/
  | dioOfltClear (mask : BitVec 16)
  /-- R268: An NMEA sentence arrives on a GNSS input and is checked and collected into a fix. -/
  | nmeaSentence (input : Fin 2) (stamp : Option Nat) (csOk : Bool) (len : Nat) (x : Nmea)
  /-- R268: The GNSS line has been idle for 200 µs after a GGA and an RMC, so the fix is complete and ingested. -/
  | gnssFixComplete (input : Fin 2) (phase : Fin 10000)
  /-- R268: A fix is not complete 50 ms after its first sentence and is discarded. -/
  | gnssFixTimeout (input : Fin 2)
  /-- R269 (the bytes of the frame, from its SYNC): A Sichecen GNSS frame arrives and is ingested as a complete fix once its CRC has been checked. -/
  | gnssBinaryFrame (input : Fin 2) (phase : Fin 10000) (stamp : Option Nat) (bytes : List Nat)
  /-- R264: No sample has been ingested for TIMEOUT ticks, so the source becomes UNLOCKED with reason 2. -/
  | sourceTimeout (src : Fin 64)
  /-- R271: At its cut-off, the job that computes a product output is admitted. -/
  | productCutoff (p : Fin 16)
  /-- R277: A job of the Plotter fabric completes and enters the reorder buffer. -/
  | plotterJobComplete (tag : Nat)
  /-- R271: At its release edge, an output or revision record is written to its queue. -/
  | productRelease (p : Fin 16)
  /-- R276: A primary job has not finished by its deadline, so the output is missed and EV051 is raised. -/
  | outputMissed (p : Fin 16)
  /-- R385: A mailbox word's expiry passes without a newer write, so its valid bit falls to 0. -/
  | mailboxExpiry (word : BitVec 16)
  /-- R289: A write of PLT_CTL.STOP in SERVICE stops admission and drains the fabric. -/
  | plotterStop
  /-- R289: A read of PLT_JOBS returns HWM and resets it to the present count. -/
  | pltJobsRead
  /-- R289: A read of PLT_CNT_MISSED returns the count and clears it. -/
  | pltCntMissedRead
  /-- R289: A read of PLT_CNT_LATE returns the count and clears it. -/
  | pltCntLateRead
  /-- R289: A read of PLT_CNT_DROP returns the count and clears it. -/
  | pltCntDropRead
  /-- R289: A read of PLT_CNT_REVDROP returns the count and clears it. -/
  | pltCntRevdropRead
  /-- R289: A read of PLT_VS_CNT returns the GATED and REPLAYS counts and clears them. -/
  | pltVsCntRead
  /-- R289: A read of PLT_SRCn_CNT returns the QUAR and DISC counts and clears them. -/
  | pltSrcCntRead (src : Fin 64)
  /-- R295: A track update sorts its measurements, associates, births, deletes and writes the track list. -/
  | trackUpdate (done : Bool)
  /-- R305: Every SHARE_T ticks, a fleet message of the own machine and its confirmed tracks is sent on ETH0 and ETH1. -/
  | fleetShare
  /-- R508: The fragments of a fleet message arrive from a known peer and the message is ingested as a kind 0x09 sample. -/
  | fleetMessage (f : FleetMsg)
  /-- R508: A fleet message is not complete within 10 ms and is counted as dropped. -/
  | fleetFragmentTimeout (addr : BitVec 32)
  /-- R306: A peer has sent no SELF entry for FLEET_TIMEOUT ticks, so its MACHINE track is deleted. -/
  | machineTrackTimeout (src : Fin 64)
  /-- R327: A read of PLT_TRK_CNT returns the REFUSED and OOS counts and clears them. -/
  | pltTrkCntRead
  /-- R307: A yield step forms the mass flow, builds cells and evaluates the tank mass. -/
  | yieldStep (done : Bool)
  /-- R319: PLT_TANK_CTL with OP CLOSE closes the open load. -/
  | tankClose
  /-- R323: PLT_TANK_CTL with OP ZERO, in SERVICE at rest, begins setting TARE. -/
  | tankZero
  /-- R323: PLT_TANK_CTL with OP SPAN, in SERVICE at rest, begins scaling LC_GAIN to PLT_TANK_REF. -/
  | tankSpan
  /-- R323: After T_AVG, the ZERO or SPAN result is set, reported and stored in the settings. -/
  | tankCalComplete
  /-- R327: A read of PLT_YLD_CNT returns the TDROP and WREJ counts and clears them. -/
  | pltYldCntRead
  /-- R330: A camera link or its clock is lost; the port goes DOWN, its frame closes SHORT and EV064 is raised. -/
  | cameraLinkLoss (port : Fin 8)
  /-- R330: A camera port completes training and reaches UP. -/
  | cameraTrained (port : Fin 8)
  /-- R330: Every 100 ms, a DOWN port that is enabled retrains. -/
  | cameraRetrain (port : Fin 8)
  /-- R332: A CSI-2 Frame Start packet is stamped and opens a frame, closing any open one SHORT. -/
  | frameStart (port : Fin 8) (k : FrameStartPkt) (stamp : Option Nat)
  /-- R331: A long packet is written as one line into the input buffer, with damage handled and overflow detected. -/
  | linePacket (port : Fin 8) (k : LinePkt)
  /-- R332: A Frame End packet closes the frame with its flags. -/
  | frameEnd (port : Fin 8) (k : FrameEndPkt)
  /-- R332: No long packet arrives for TIMEOUT µs, so the frame closes SHORT. -/
  | frameTimeout (port : Fin 8)
  /-- R335: A triggered port sends its trigger at TRIG_PHASE. -/
  | cameraTrigger (port : Fin 8)
  /-- R335: No Frame Start arrives within the trigger window, so the trigger is counted missed and EV069 is raised. -/
  | triggerMissed (port : Fin 8)
  /-- R341: A free pipeline chooses a ready 16-line block and starts it. -/
  | blockStart (pipe : Fin 4)
  /-- R338: A block finishes its stages, and at the last block the frame is written to the output rings. -/
  | blockComplete (pipe : Fin 4) (phase : Fin 10000)
  /-- R354: The encoder writes a coded access unit, or drops it at overrun and forces an IDR. -/
  | encodeAccessUnit (stream : Fin 4) (au : List Nat)
  /-- R366: A write of SXT_PIPEk_CTL.PAUSE finishes the frames in progress and admits no new ones. -/
  | pipelinePause (pipe : Fin 4)
  /-- R366: A read of SXT_PORTn_CNT returns the frame counts and clears them. -/
  | sxtPortCntRead (port : Fin 8)
  /-- R366: A read of SXT_PORTn_PERR returns the packet error counts and clears them. -/
  | sxtPortPerrRead (port : Fin 8)
  /-- R340: A read of SXT_PORTn_HWM returns the deepest fill and resets it to the present fill. -/
  | sxtPortHwmRead (port : Fin 8)
  /-- R354: A read of SXT_ENCs_DROP returns the dropped access units and clears the count. -/
  | sxtEncDropRead (stream : Fin 4)
  /-- R360: The array starts the next waiting binding job in order of frame completion. -/
  | lookoutJobStart
  /-- R364: An inference completes and its detection record and scalars are written. -/
  | lookoutJobComplete (cycles : BitVec 32)
  /-- R360: A job has not finished JOB_MAX µs after it started; it is aborted and EV075 is raised. -/
  | lookoutJobAbort (cycles : BitVec 32)
  /-- R366: A write of LKT_CTL.PAUSE finishes the job in progress and admits no new ones. -/
  | lookoutPause
  /-- R366: A read of LKT_CNT returns the ABORT and SKIP counts and clears them. -/
  | lktCntRead
  /-- R375: An ADD32 on half a scratchpad word returns the old value and writes the sum. -/
  | atomicAdd32 (level : Fin 7) (word : Nat) (half : Fin 2) (v : BitVec 32) (ue : Bool)
  /-- R375: An ADD64 on a scratchpad word returns the old value and writes the sum. -/
  | atomicAdd64 (level : Fin 7) (word : Nat) (v : BitVec 64) (ue : Bool)
  /-- R375: A SWAP32 returns the old value and writes the new one, unless the read finds an uncorrectable error. -/
  | atomicSwap32 (level : Fin 7) (word : Nat) (half : Fin 2) (v : BitVec 32) (ue : Bool)
  /-- R375: A SWAP64 returns the old 64-bit value and writes the new one. -/
  | atomicSwap64 (level : Fin 7) (word : Nat) (v : BitVec 64) (ue : Bool)
  /-- R377: A scratchpad read or scrub finds a corrected or uncorrectable error, which is counted, raised and handled by its reader. -/
  | scratchpadError (bank : Fin 32) (row : Fin 160) (ue : Bool) (rd : SpdReader)
  /-- R378: In its reserved slot, the scrubber reads the next word of a bank. -/
  | scrubStep (bank : Fin 32) (err : Option Bool)
  /-- R379: The copy of a row to its spare completes, and the remap comes into force with EV082. -/
  | rowRemap (bank : Fin 32) (row : Fin 160)
  /-- R380: SPD_MARCH_CTL GO with MODE 0 starts a preserving march run, or refuses it. -/
  | marchPreserving (bank : Fin 32) (first last : Fin 160)
  /-- R382: SPD_MARCH_CTL GO with MODE 1 starts a destructive march run in SERVICE, or refuses it. -/
  | marchDestructive (bank : Fin 32) (first last : Fin 160)
  /-- R380: A march run ends and reports its result; after a destructive run the rows are rewritten and groups reset. -/
  | marchEnd (fails : List (Nat × Nat))
  /-- R374: A read of SPD_CONFm returns the stall cycles and clears them. -/
  | spdConfRead (m : Fin 8)
  /-- R396: A read of SPD_BANKn_HEALTH returns the CE and UE counts and clears them. -/
  | spdBankHealthRead (bank : Fin 32)
  /-- R392: A DRAM ECC error is corrected or found uncorrectable, and is counted toward DRAM_UE_MAX. -/
  | dramEccError (ue : Bool) (use : DramUse)
  /-- R393: A fabric transaction has not completed after 10 ms, so EV086 is raised and a data-plane failure is declared. -/
  | fabricTimeout (cls : Fin 5) (tag : Nat)
  /-- R397: A read of FAB_STATUS returns HWM and resets it to the present count. -/
  | fabStatusRead
  /-- R397: A read of FAB_ERR returns the DRAM error counts and clears them. -/
  | fabErrRead
  /-- R397: A read of FAB_CLASSc returns TAGS_HWM and resets it to the present count. -/
  | fabClassRead (cls : Fin 5)
  /-- R395: An MRAM write fails its retry, or a NOR program or erase fails, and EV087 is raised. -/
  | nvmOperationFail (mram : Bool) (where_ kind : Nat)
  /-- R410: A valid CAN frame is matched to a receive object and stored, or is counted as unmatched. -/
  | canRxFrame (c : Fin 6) (f : CanFrame) (stamp : Option Nat)
  /-- R411: A read of a receive object's lock word locks the object for that master. -/
  | rxoLockRead (c : Fin 6) (o : Fin 256) (m : Nat)
  /-- R411: The owner's read of the release word clears NEW and LOST, releases the lock and promotes the shadow. -/
  | rxoReleaseRead (c : Fin 6) (o : Fin 256) (m : Nat)
  /-- R411: A lock has not been released 10 µs after it was taken; it is released with LOCKTO and EV088 + c. -/
  | rxoLockTimeout (c : Fin 6) (o : Fin 256)
  /-- R416: In its tick, a transmit object submits a frame from its mailbox words, or counts STALE. -/
  | txobjSubmit (c : Fin 6) (j : Fin 32)
  /-- R412: The head entry loses arbitration, fails or completes; a completion updates TXDONE and TXSTAMP. -/
  | canTxAttemptEnd (c : Fin 6) (r : TxEnd)
  /-- R413: An entry has waited TX_MAX ms and is removed. -/
  | txMaxExpiry (c : Fin 6)
  /-- R414: BUS_TXCMD with OP REQUEUE moves the entries ahead of the first at or below KEY to the tail. -/
  | requeue (c : Fin 6)
  /-- R414: BUS_TXCMD with OP ABORT removes the entries ahead of the first at or below KEY. -/
  | txAbort (c : Fin 6)
  /-- R407: A write of BUS_CTL.STOP = 1 in STANDBY or SERVICE takes the controller off the bus at bus idle. -/
  | busStop (c : Fin 6)
  /-- R407: A write of BUS_CTL.STOP = 0 starts bus integration. -/
  | busStart (c : Fin 6)
  /-- R419: A write of BUS_CTL.RECOVER begins bus-off recovery. -/
  | busRecover (c : Fin 6)
  /-- R419: After 128 occurrences of 11 recessive bits, the controller returns from bus-off. -/
  | busOffRecovered (c : Fin 6)
  /-- R420: At entry to STANDBY, the firmware claims its ISOBUS address. -/
  | addressClaim (c : Fin 2)
  /-- R420: 250 ms after the claim, other traffic from the address may begin. -/
  | addressClaimWaitEnd (c : Fin 2)
  /-- R420: Every 1 s while the active list is not empty, DM1 is sent. -/
  | dm1Transmit (c : Fin 2)
  /-- R420: A transport session times out under ISO 11783-3 and is aborted with EV097. -/
  | tpSessionTimeout (c : Fin 2) (peer : BitVec 8) (tx : Bool)
  /-- R424: A read of BUS_CNT0 returns UNMATCHED and LOST and clears them. -/
  | busCnt0Read (c : Fin 6)
  /-- R424: A read of BUS_CNT1 returns TXDROP and FWDROP and clears them. -/
  | busCnt1Read (c : Fin 6)
  /-- R424: A read of BUS_TXOj_STAT returns STALE and SKIP and clears them. -/
  | busTxoStatRead (c : Fin 6) (j : Fin 32)
  /-- R426: A slice residue check fails; the slice is isolated and a handling entry is opened. -/
  | sliceResidueError (g : Fin 8) (cell : Fin 4) (pos : Fin 5)
  /-- R426: A run of 4 bad-HCRC copies while the other input delivers is detected as a ring port error. -/
  | ringPortError (dir : Fin 2)
  /-- R430: A queued or deferred Sounding begins when its engine and conditions allow. -/
  | soundingStart (entry : Fin 32)
  /-- R434: A Sounding ends and classes its unit LASTING or TRANSIENT, with retirement or replacement following. -/
  | soundingResult (entry : Fin 32) (failed : Bool)
  /-- R431: A slice classed TRANSIENT rejoins its cell at the next tick edge. -/
  | sliceRejoin (cell : Fin 32) (pos : Fin 5)
  /-- R441: A data-plane block completes no job for 100 ticks while it has work, which declares a data-plane failure. -/
  | dataPlaneStall (block : Fin 3)
  /-- R442: The Logbook controller writes the next queued record into MRAM, or merges it into the last. -/
  | logRecordWrite
  /-- R453: A read of LOG_LOST returns the count and clears it. -/
  | logLostRead
  /-- R453: A read of LOG_MERGED returns the count and clears it. -/
  | logMergedRead
  /-- R452: REP_CMD with OP 0 starts a port Sounding of the West input in SERVICE, or refuses it. -/
  | repSoundingWest
  /-- R452: REP_CMD with OP 1 starts a port Sounding of the East input in SERVICE, or refuses it. -/
  | repSoundingEast
  /-- R452: REP_CMD with OP 2 starts a Sounding of the slice in REP_CMDUNIT, or refuses it. -/
  | repSoundingSlice (unit : BitVec 32)
  /-- R459: The staged delta's header, key slot, signature and base digests are checked, and the update moves to APPLYING or fails. -/
  | deltaCheck
  /-- R460: The target images have been written and verified, and the state becomes VERIFIED or fails. -/
  | applyComplete (fail : Bool)
  /-- R470: At STANDBY after a start, the Pilot examines staging and resumes application or reaches VERIFIED. -/
  | stagingExamine
  /-- R463: 16 ticks before AT, the lock against DISARM, power-down and ROAD or FIELD begins. -/
  | waypointLock
  /-- R464: At edge AT, the module activates the update by RESET with cause 0x04, or enters DUE. -/
  | waypointEdge
  /-- R471: A new settings frame is written into the other partition, CRC last. -/
  | settingsWrite (r : SetWrite)
  /-- R480: A Binnacle frame begins; content, band, page, blink and crack check take effect. -/
  | binFrameStart (crackOhm crackUa : Nat) (outFault : BitVec 10)
  /-- R478: The next drive slot of the frame begins with its COM and SEG levels. -/
  | binSlot
  /-- R489: 1 s after a charge pump fault, the pump retries once. -/
  | binPumpRetry (ok : Bool)
  /-- R485: A write of 1 to BIN_STAT.OUT_FLT returns the output at the next frame start. -/
  | binOutFltClear (mask : BitVec 10)
  /-- R488: A write of 1 to CRACK or CRACK_LEAK restores the segments at the next frame start if the loop passes. -/
  | binCrackClear (crack leak : Bool)
  /-- R489: A write of 1 to PUMP_FLT lets the charge pump restart. -/
  | binPumpFltClear
  /-- R499: The HSI returns the 128-byte status body. -/
  | statusGet (h : HsiHdr)
  /-- R499: A host subscribes to status pushes for a period and a lifetime. -/
  | statusSub (h : HsiHdr) (period life : Nat)
  /-- R499: Each subscribed period, the module pushes its status. -/
  | statusPush (ip : BitVec 32) (port : BitVec 16)
  /-- R500: SETPOINT writes HLM_SP of up to 32 channels, acting at the edge R101 gives. -/
  | setpoint (h : HsiHdr) (l : List (Nat × BitVec 32))
  /-- R500: MAILBOX writes up to 32 mailbox words under R384 to R386, or refuses driven words. -/
  | mailbox (h : HsiHdr) (l : List (Nat × BitVec 32 × Nat × Nat))
  /-- R500: AM writes HLM_AM.REQ and HLM_MAN of a channel. -/
  | am (h : HsiHdr) (ch req : Nat) (man : BitVec 32)
  /-- R500: MODE requests a mode transition under Table 2.2 and R60, or refuses it with its condition. -/
  | mode (h : HsiHdr) (target : Nat)
  /-- R499: RESET with a valid token enters RESET with cause 0x02. -/
  | reset (h : HsiHdr)
  /-- R499: SHUTDOWN raises a shutdown request under R64, recorded with PARAM1 = 1. -/
  | shutdown (h : HsiHdr)
  /-- R518: REG_READ reads up to 64 registers in order, performing RS side effects. -/
  | regRead (h : HsiHdr) (l : List Nat)
  /-- R518: REG_WRITE writes up to 64 documented registers in order, with a valid token. -/
  | regWrite (h : HsiHdr) (l : List (Nat × BitVec 32))
  /-- R500: LOG_READ returns up to 44 Logbook slots copied consistently. -/
  | logRead (h : HsiHdr) (first count : Nat)
  /-- R499: LOG_WRITE queues a host record, or answers BUSY above 10 per second. -/
  | logWrite (h : HsiHdr) (code : Nat) (ps : List (BitVec 32))
  /-- R505: TILE_LIST returns up to 80 dirty tiles from a directory entry. -/
  | tileList (h : HsiHdr) (first : Nat)
  /-- R505: TILE_READ returns a block of a tile with its REV at the read. -/
  | tileRead (h : HsiHdr) (te tn : Int) (off len : Nat)
  /-- R505: TILE_ACK clears a tile's DIRTY if the REV is still current, or refuses it with CHANGED. -/
  | tileAck (h : HsiHdr) (te tn : Int) (rev : Nat)
  /-- R504: RING_READ returns records from a Plotter, yield, track or Lookout ring by index. -/
  | ringRead (h : HsiHdr) (ring index off : Nat)
  /-- R506: STREAM_SUB subscribes one host to a display port or a coding stream. -/
  | streamSub (h : HsiHdr) (kind n div life : Nat)
  /-- R506: The module pushes display frames or Annex B bytes to the subscriber and advances SXT_ENCs_RD. -/
  | streamPush (kind : Fin 2) (n : Fin 8) (room : Bool)
  /-- R506: A subscription reaches the end of its lifetime without renewal and ends. -/
  | subscriptionExpiry
  /-- R507: CAN_TX submits up to 16 frames with TAGs to a controller's queue as the host source. -/
  | canTx (h : HsiHdr) (c : Nat) (l : List (List (BitVec 32)))
  /-- R507: CAN_SUB subscribes a host to unserved PGN requests and foreign DM1 messages. -/
  | canSub (h : HsiHdr) (mask life : Nat)
  /-- R507: DTC_SET replaces a controller's active DM1 list. -/
  | dtcSet (h : HsiHdr) (c : Nat) (codes : List (BitVec 32))
  /-- R499: SET_READ returns bytes of a host settings item. -/
  | setRead (h : HsiHdr) (item off : Nat)
  /-- R503: SET_WRITE writes a host item, and the frame is written with the last byte. -/
  | setWrite (h : HsiHdr) (item len off : Nat) (bytes : List Nat)
  /-- R459: UPD_BEGIN starts a transfer and enters RECEIVING. -/
  | updBegin (h : HsiHdr) (len : Nat)
  /-- R501: UPD_DATA takes the next block at the expected offset into staging, or refuses it with ORDER. -/
  | updData (h : HsiHdr) (off : Nat) (bytes : List Nat)
  /-- R459: UPD_END completes the transfer and enters RECEIVED. -/
  | updEnd (h : HsiHdr)
  /-- R461: ABORT stops an update at the next sector boundary and invalidates what it wrote. -/
  | updAbort (h : HsiHdr)
  /-- R462: ARM sets a waypoint at WP_MT in VERIFIED, or refuses it. -/
  | updArm (h : HsiHdr) (wp : BitVec 64)
  /-- R463: DISARM withdraws the waypoint unless the lock holds. -/
  | updDisarm (h : HsiHdr)
  /-- R469: CONFIRM ends a trial with a frame of TRIAL = 0 and revokes the named key slots. -/
  | updConfirm (h : HsiHdr)
  /-- R469: ROLLBACK writes a frame with the previous banks active, acting from the next start. -/
  | updRollback (h : HsiHdr)
  /-- R502: RING_RESET arms announcement entry 6 with a station mask and AT. -/
  | ringReset (h : HsiHdr) (mask : BitVec 64) (edge : Nat)
  /-- R502: SVC_DRIVE moves a channel's output toward a raw value in SERVICE, or releases it. -/
  | svcDrive (h : HsiHdr) (ch : Nat) (release : Bool) (raw : BitVec 32)
  /-- R497: TOKEN_REQ returns a 16-byte nonce valid for 10 s. -/
  | tokenReq (h : HsiHdr)
  /-- R497: TOKEN_GRANT verifies the signed nonce and issues a service token. -/
  | tokenGrant (h : HsiHdr) (slot life : Nat) (sig : List Byte)
  /-- R498: TOKEN_DROP ends the token, leaving SERVICE if held there. -/
  | tokenDrop (h : HsiHdr)
  /-- R498: A token's lifetime or 60 s idle expires; in SERVICE the module returns to STANDBY and service drives end. -/
  | tokenExpiry
  /-- R509: A UDP datagram at an HSISENS port is read as a sample of its kind 0x07 sources. -/
  | sensorDatagram (eth : Fin 3) (ip : BitVec 32) (dport : BitVec 16) (stamp : Option Nat) (bytes : List Nat)
  /-- R493: An ARP request is answered on an HSI port. -/
  | arpRequest (eth : Fin 3) (ip : BitVec 32)
  /-- R493: An ICMP echo request is answered on an HSI port. -/
  | icmpEcho (eth : Fin 3) (ip : BitVec 32) (bytes : List Nat)
  /-- R512: A read of HSI_CNT0 returns BAD and DUP and clears them. -/
  | hsiCnt0Read
  /-- R512: A read of HSI_CNT1 returns the fleet counts and clears them. -/
  | hsiCnt1Read
  /-- R512: A read of HSI_CNT2 returns STREAM_DROP and clears it. -/
  | hsiCnt2Read
  /-- R52: After a power failure, the internal hold-up energy runs out. The module becomes unpowered: the PWR domain loses its contents, the held events are discarded, the relays and MOD_OK take their unpowered states and TERM opens. -/
  | holdUpEnd
  /-- R126: A ring PHY reaches link on an in or out pair, after a neighbour appears or a segment finishes training, so forwarding on that direction can begin. -/
  | ringLinkUp (dir : Fin 2)
  /-- R120: The link of ETH0, ETH1 or ETH2 goes down or comes up, which changes HSI_STAT.LINK; on loss of CLK_En the port's crossings are reset. -/
  | ethLinkChange (n : Fin 3) (up : Bool)
  /-- R419: A CAN controller detects a bus error while receiving (stuff, form, CRC, acknowledge or bit error). It signals the error, updates REC and LEC, and may change its error state with EV088 + c. -/
  | canBusError (c : Fin 6) (lec : Fin 7) (primary : Bool)
  /-- R406: A CAN controller that is integrating (ESTATE 3) sees the recessive bits that bus integration requires and becomes error active on the bus. -/
  | busIntegrationComplete (c : Fin 6)
  /-- R510: An 802.1AS Announce message arrives on ETH0 or ETH1, feeds the best master clock algorithm, and may change the grandmaster and raise EV006. -/
  | gptpAnnounce (port : Fin 2) (prio : List Nat) (gm : BitVec 64)
  /-- R105: An 802.1AS Pdelay_Resp with its follow-up arrives on ETH0 or ETH1, and the measured path delay that corrects Sync stamps is updated. -/
  | gptpPdelayResp (port : Fin 2) (x : PdelayIn)
  /-- R494: A datagram arrives at the HSI port with a bad MAGIC, VER, LEN or CRC and is discarded without a reply and counted in HSI_CNT0.BAD, or it has an unknown TYPE and is answered UNKNOWN. -/
  | badDatagram (src : HsiFrom) (phase : Fin 10000) (bytes : List Byte)
deriving DecidableEq, Repr

end Sys2Proof
end

