-- ==== Sys2Proof/Config.lean ====
section
/-! DEFINITION. What an implementation fixes and what the manual leaves open: constants with no body, so that no
statement can lean on a value of theirs. Each is named in the assumption log. -/

namespace Sys2Proof.Config

/-- The fresh free value of width `w` that the step takes at position `n` of the free-value counter. -/
opaque freeValue : (w n : Nat) → BitVec w

/-- ECDSA P-256 over SHA-256 (R73, R459, R497): whether `sig` signs `msg` under the public key in fuse `slot`. -/
opaque ecdsaOk : (slot : Nat) → (msg sig : List Byte) → Bool

/-- SHA-256 (FIPS 180-4), which the manual names and does not restate. -/
opaque sha256 : List Byte → List Byte

/-- The correction that the discipline servo chooses in a discipline state, with its time constant of 1 s in ACQUIRE and 8 s in
LOCKED: from the offset, the rate estimate and the present correction, before the limits of R108. -/
opaque servoRate : (state : Nat) → (offset est now : Int) → Int

/-- The correction that S1 chooses to steer its PLL_T to the ring (R148): from the error of a pass in 1/16 ns and the present
correction. -/
opaque ringRate : (error now : Int) → Int

/-- The module's own gPTP clock (R510): offsetScaledLogVariance and clock identity, which the manual does not give. -/
opaque gptpVariance : Nat
opaque gptpIdentity : Nat

/-- Which inputs (kind 0 AI, 1 PI, 2 DIO) the harness feeds from supply 0 SUP5A, 1 SUP5B or 2 SUP10 (R42). -/
opaque sensorFed : (sup kind n : Nat) → Bool

/-- The Helm group that owns a crossing with a side in CLK_H (R112, R208): the owning block gives the instance numbers. -/
opaque xingGroup : (id : Nat) → Nat

/-- Whether a block of the DAT reset domain (Table 2.5) is a side of a crossing (R112, R120): the owning block gives the instance
numbers. -/
opaque xingDat : (id : Nat) → Bool

/-- The vehicle-state filter (R282, R283), an error-state Kalman filter whose integration, initial covariance and bias noise
the manual does not state. A filter is its 15 states (position in mm, velocity in mm/s and attitude ROLL, PITCH, HEADING in µrad
with the errors folded in, gyro and accelerometer biases in Q7.24; each with 32 fractional bits) and then its covariance. At
alignment from the mean acceleration, the antenna's position and lever arm, and the heading; over one tick from SIG_ACC, SIG_GYR
and the body's acceleration and rates; the normalised innovation squared of a measurement (1 position, 2 velocity, 3 heading, 4
ground speed, 5 lateral and vertical velocity, 6 standstill) from its values and standard deviations, in mm, mm/s and µrad; the
filter updated by it; and the deviations SIG_E, SIG_N, SIG_U in mm and SIG_HDG in 10 µrad. -/
opaque ekfInit : (acc pos lever : List Int) → (hdg : Int) → List Int
opaque ekfPropagate : (sigAcc sigGyr : Int) → (imu filter : List Int) → List Int
opaque ekfNis : (code : Nat) → (z sig : List Rat) → (filter : List Int) → Rat
opaque ekfUpdate : (code : Nat) → (z sig : List Rat) → (filter : List Int) → List Int
opaque ekfSig : (filter : List Int) → List Nat

/-- The acceleration of gravity at the origin of the VSTATE record, Q7.24 m/s² (Table 7.7 removes it). -/
opaque gravity : (origin : List Int) → BitVec 32

/-- The standard deviation of a measurement combined with those of the pose (R293). -/
opaque combineSig : (sig sigE sigN : Nat) → Nat

/-- Stage 4 of a pipeline (R347), which interpolates along the direction of smaller gradient: the gradient of a frame of the
colour filter array `cfa` at a line and column in a direction, the colour `want` (0 R, 1 G, 2 B) interpolated there along a
direction, and the direction where the gradients are equal. The manual states none of the three. -/
opaque gradient : (vertical : Bool) → (cfa : Nat) → List (List Nat) → (y x : Nat) → Nat
opaque along : (vertical : Bool) → (cfa : Nat) → List (List Nat) → (want y x : Nat) → BitVec 16
opaque tieVertical : Bool

/-- The display tap's scaling (R350), whose filter coefficients the manual does not state: the planes of a frame scaled
to a width and a height. -/
opaque scale : (planes : List (List (List Nat))) → (w h : Nat) → List (List (List Nat))

/-- What an inference (R359) leaves open, the layout of a tensor and of the operator parameters not being stated. An operator
is its 32-byte entry, a tensor its 16-byte entry. The accumulator of element `k` of an output from the inputs and the weights
at the operator's offset; for the elementwise ADD and MUL from the two elements, and the channel of element `k`; the index into
the table of LUT for a value; MULT and SHIFT of element `k` where FLAGS[0] puts them at the weight offset; the output that 6
stands for in ReLU6; the index of SCALAR; and the boxes of DETECT after its threshold and suppression, best first: class,
confidence and the corners U0, V0, U1, V1 in pixels of the network's input. -/
opaque opAcc : (op : List Nat) → (tensors : List (List Nat)) → (in0 in1 : List Int) → (weights : List Nat) → (k : Nat) → BitVec 32
opaque elementAcc : (op : List Nat) → (a b : Int) → (zp0 zp1 : Int) → BitVec 32
opaque channel : (tensor : List Nat) → (k : Nat) → Nat
opaque lutIndex : (v : Int) → BitVec 8
opaque channelScale : (op : List Nat) → (weights : List Nat) → (k : Nat) → BitVec 32 × BitVec 5
opaque relu6Top : (op : List Nat) → BitVec 8
opaque scalarIndex : (op : List Nat) → BitVec 3
opaque detect : (op : List Nat) → (tensors : List (List Nat)) → (in0 in1 : List Int) → List (List Nat)

/-- Whether a network container keeps the limits of Table 9.8 on kernels, strides, dilation and padding, which stand in the
operators' parameters, whose layout the manual does not state. -/
opaque netLimits : (net : List Nat) → Bool

/-- A station's IDENT reply (Table 4.15) as its making fixes it: 64 bytes, HOPS, FLAGS[2] and the digest of the running image
not counted. -/
opaque nodeIdent : (st : Nat) → List Nat

/-- What a firmware image holds, in a format the manual does not give: whether its signature verifies under the fuse
slots usable (R460), its release and settings format, and node image `k` with its entry (Table 4.19, IMAGE 0x80 to
0xBF). -/
opaque fwSigned : (usable : Nat) → (img : List Nat) → Bool
opaque fwRelease : (img : List Nat) → Nat
opaque fwSetFmt : (img : List Nat) → Nat
opaque fwNode : (img : List Nat) → (k : Nat) → Option (List Nat × Nat)

/-- The glass temperature in Q11.4 °C that a thermistor resistance converts to (R481), by a formula and to a precision
that the manual does not state. -/
opaque glassTemp : (r25 beta ohm : Nat) → Int

/-- R472: a settings item's body converted from one settings format to another, where the firmware can. -/
opaque convertItem : (old new item : Nat) → (body : List Nat) → Option (List Nat)

/-- Where in DRAM a camera port's ring lies (Table 9.12, RSEL: 0 input, 1 display, 2 machine vision, 3 statistics), which
the manual does not fix. -/
opaque camRing : (port ring : Nat) → BitVec 40

/-- The 8 check bits of the SECDED code over 64 data bits (R377, R392), which the manual does not state. -/
opaque secded : BitVec 64 → BitVec 8

/-- What bus timing makes of the memory traffic (R371 to R374, R389 to R391): the cycles in tick `t` in which scratchpad master `m`
wanted a bank and lost it; the tags that a fabric class holds at a moment; the most that all classes (0 to 4: one of them)
held at once in a tick; and a class's bandwidth over the 100 ticks before one. -/
opaque stalls : (m t : Nat) → BitVec 22
opaque tagsHeld : (cls t phase : Nat) → BitVec 8
opaque tagsPeak : (cls t : Nat) → BitVec 8
opaque inflightPeak : (t : Nat) → BitVec 10
opaque bandwidth : (cls t : Nat) → BitVec 16

/-- Where in DRAM a slot of the tile store lies (R314). -/
opaque tileSlot : (slot : Nat) → BitVec 32

/-- What a management read returns from an address of DRAM (Table 16.4), whose layout the manual does not fix. -/
opaque dramWord : (addr : Nat) → BitVec 32

/-- The MAC address of an ETH port, from the fuses (R493). -/
opaque mac : (port : Nat) → BitVec 48

/-- The fuse slots that hold a key, bit by slot, set when the part is made (R73). -/
opaque fuseKeys : Nat

end Sys2Proof.Config
end

