-- ==== Sys2Proof/Machine/Operands.lean ====
section
/-! DEFINITION. Number formats: two's complement and Q notation (R10), the rounding of R183, saturation, and
little-endian bytes (R9). -/

namespace Sys2Proof.Machine

/-- The signed value of the low `w` bits of `n` (R10). -/
def toInt (w n : Nat) : Int :=
  if 2 * (n % 2 ^ w) < 2 ^ w then (n % 2 ^ w : Nat) else (n % 2 ^ w : Nat) - (2 ^ w : Nat)

/-- The `w`-bit two's complement of an integer, wrapping. -/
def ofInt (w : Nat) (i : Int) : Nat := (i % (2 ^ w : Nat)).toNat

/-- An integer held within `lo` and `hi`. -/
def clamp (lo hi i : Int) : Int := max lo (min hi i)

/-- An integer saturated to a signed `w`-bit value. -/
def satS (w : Nat) (i : Int) : Int := clamp (-(2 ^ (w - 1) : Nat)) ((2 ^ (w - 1) : Nat) - 1) i

/-- A count saturated to an unsigned `w`-bit value. -/
def satU (w n : Nat) : Nat := min n (2 ^ w - 1)

/-- The quotient rounded to the nearest integer, ties away from zero (R183); the divisor is positive. -/
def roundDiv (n d : Int) : Int :=
  if n ≥ 0 then (2 * n + d) / (2 * d) else -((2 * (-n) + d) / (2 * d))

/-- A value shifted right by `k` bits with the rounding of R183; `k` negative shifts left. -/
def roundShift (n k : Int) : Int :=
  if k ≤ 0 then n * 2 ^ (-k).toNat else roundDiv n (2 ^ k.toNat)

/-- Bit `i` of a number. -/
def bit (n i : Nat) : Bool := n.testBit i

/-- A number with bit `i` set or cleared. -/
def setBit (n i : Nat) (b : Bool) : Nat :=
  if b then n ||| 2 ^ i else if n.testBit i then n - 2 ^ i else n

/-- Bits cleared: those of `n` that are not in `m` (W1C, R12). -/
def clearBits (n m : Nat) : Nat := n - (n &&& m)

/-- The bits `lo` to `lo + w - 1` of a number. -/
def bits (n lo w : Nat) : Nat := n / 2 ^ lo % 2 ^ w

/-- 1 for true. -/
def b2n (b : Bool) : Nat := if b then 1 else 0

/-- A sorted list with one more element, before those it does not follow. -/
def insertBy {α : Type} (le : α → α → Bool) (x : α) : List α → List α
  | [] => [x]
  | y :: l => if le x y then x :: y :: l else y :: insertBy le x l

/-- A list in the order of `le`; elements that it does not order keep their places. -/
def sortBy {α : Type} (le : α → α → Bool) : List α → List α
  | [] => []
  | x :: l => insertBy le x (sortBy le l)

/-- A little-endian number from its bytes (R9). -/
def leNat : List Nat → Nat
  | [] => 0
  | b :: bs => b % 256 + 256 * leNat bs

/-- The `n` little-endian bytes of a number (R9). -/
def leBytes : Nat → Nat → List Nat
  | 0, _ => []
  | n + 1, v => v % 256 :: leBytes n (v / 256)

/-- The signed 32-bit difference `a - b` of two MT32 values (R16). -/
def mtDiff (a b : Nat) : Int := toInt 32 (ofInt 32 ((a : Int) - b))

/-- R16: `a` is later than `b`. -/
def mtLater (a b : Nat) : Bool := decide (mtDiff a b > 0)

end Sys2Proof.Machine
end

