-- ==== Sys2Proof/Machine/State.lean ====
section
/-! DEFINITION. The state of the block as plain data: the register file, the state behind the registers block by block,
and the queue of commands that wait. -/

namespace Sys2Proof.Machine

/-- Why a run stops. -/
inductive Fault where
  /-- Raised by a register write whose reserved bits are not 0: R13 leaves the behaviour undefined. Safe. -/
  | reservedFieldWritten
  /-- Raised by UB_LEVEL_CHANGE and UB_APPLY above 60.0 V or below −36.0 V, outside the rating of Table 1.10. Safe. -/
  | outsideRating
deriving DecidableEq, Repr

/-- Why a command has no meaning. -/
inductive Refusal where
  /-- Raised by an arm of exec whose command has no meaning yet. Safe. -/
  | notModelled (mnemonic : String)
deriving DecidableEq, Repr

/-- A bypass relay (R46 to R53): whether its coil is energised (open), the command held under R48, whether it has
failed to open or failed to close since the last check that showed it (R53), whether its cut window runs, powered or not
(R47), and the time of the PWR domain, in CLK_T cycles, at which its last one ended (R48). -/
structure Relay where
  coil : Bool := false
  held : Option Bool := none
  failOpen : Bool := false
  failClose : Bool := false
  cut : Bool := false
  cutEnd : Option Nat := none
deriving DecidableEq, Repr

/-- An event held by the PWR domain while MGT is in reset (R522): source, parameters of the first occurrence, further
occurrences. -/
structure HeldEvent where
  code : Nat
  params : List Nat
  count : Nat
deriving DecidableEq, Repr

/-- The PWR domain beside its registers. -/
structure Pwr where
  /-- UB has been applied and the hold-up has not run out. -/
  powered : Bool := true
  /-- UB, mV. -/
  ub : Int := 24000
  /-- UV, mV. -/
  uv : Nat := 24000
  /-- The cause of the last entry to RESET, held for START (Table 12.8). -/
  rstCause : Nat := 0
  /-- A RESET with cause 0x04 has begun, and the boot loader has not made its check of R467 since (R474). -/
  actDue : Bool := false
  /-- A power failure has been declared and the hold-up runs (R52). -/
  holdUp : Bool := false
  /-- 0 IGN, 1 HSI: who asked for the shutdown (Table 12.8). -/
  shutSrc : Nat := 0
  /-- A power-down has begun (R64). -/
  pdBegun : Bool := false
  /-- The PWR domain's own time, ticks of 100 µs since UB was applied. -/
  clock : Nat := 0
  /-- Times of the clock failures and of the management-plane failures in LOAD and PROVE (Table 3.9, R59). -/
  clkFails : List Nat := []
  mgFails : List Nat := []
  /-- The module stays in RESET until UB is reapplied (Table 3.9, R59). -/
  stuck : Bool := false
  /-- The thermal actions at 110, 118 and 125 °C in force (Table 1.12). -/
  tWarn : Bool := false
  tLimp : Bool := false
  tTrip : Bool := false
  /-- PC outputs are off for want of UV (R34). -/
  uvLost : Bool := false
  kw : Relay := {}
  ke : Relay := {}
  /-- KW has been released and KE follows (R46). -/
  keClosing : Bool := false
  /-- MOD_OK conducts in the present half-period of LIMP's toggle (R32). -/
  modOkPhase : Bool := true
  /-- Camera ports and sensor supplies off after a first trip (R42, R43), and camera ports that wait for their turn
  of R29: bit n for port or supply n. -/
  camTrip : Nat := 0
  sensTrip : Nat := 0
  camWait : Nat := 0
  /-- Events held while MGT is in reset, ascending by source (R522). -/
  held : List HeldEvent := []
  /-- SSEL as read at the last release: 0 S0, 1 S1, 2 between the levels (R24). -/
  ssel : Nat := 0
deriving DecidableEq, Repr

/-- A Logbook record (Table 12.7); SEQ is 0 until it is written, and `held` marks one whose MT64 is that of its writing (R522). -/
structure LogRec where
  code : Nat := 0
  flags : Nat := 0
  rep : Nat := 0
  seq : Nat := 0
  mt : Nat := 0
  params : List Nat := [0, 0, 0, 0]
  held : Bool := false
deriving DecidableEq, Repr

/-- The Logbook: its queue and the power-fail record ahead of it, what MRAM holds (ring slots by number and the control
words of Table 12.9), and the relay counts kept in MRAM (R54). -/
structure Log where
  /-- The Logbook and MRAM controllers are out of reset. -/
  up : Bool := false
  urgent : List LogRec := []
  queue : List LogRec := []
  /-- Records lost since the last EV110 (R442). -/
  lostSince : Nat := 0
  slots : List (Nat × LogRec) := []
  widx : Nat := 0
  lastSeq : Nat := 0
  gen : Nat := 0
  starts : Nat := 0
  lostEver : Nat := 0
  relayKw : Nat := 0
  relayKe : Nat := 0
  /-- The last record written, for R446. -/
  last : Option LogRec := none
deriving DecidableEq, Repr

/-- What the loader and the mode logic hold beside ALM's registers. -/
structure Alm where
  /-- Types and instances of the records of the running Almanac. -/
  present : List (Nat × Nat) := []
  /-- Mode changes accepted in this tick, oldest first: target, cause (R58). -/
  modeReq : List (Nat × Nat) := []
  /-- Ticks for which the standstill condition has held (R524). -/
  stillCount : Nat := 0
  /-- The latest computation of STILL_CHAN met the condition of R524. -/
  stillOk : Bool := false
  /-- A management-plane failure has been declared in this run; the Pilot runs. -/
  mgmtFailed : Bool := false
  pilotUp : Bool := true
  /-- STANDBY has been entered since the last RESET (R426). -/
  standbySeen : Bool := false
  /-- Both ring ports trained over the loopback in PROVE (R152). -/
  trained : Bool := false
  /-- Both firmware banks have failed: the boot loader holds the module in LOAD (R67, R474). -/
  recovery : Bool := false
  /-- The mode of the tick that the last edge ended (R464). -/
  modeWas : Nat := 0
  /-- An error of severity 2 or above has been raised in this PROVE (R70). -/
  proveErr : Bool := false
deriving DecidableEq, Repr

/-- A snapshot slot (R102): armed, the tick count T it fires at, and MT64 of that edge once it has fired: what the set
latched for it carries. -/
structure Snap where
  armed : Bool := false
  t : Nat := 0
  mt : Nat := 0
deriving DecidableEq, Repr

/-- A class P crossing (R114): identifier, toggle awaiting its acknowledge, pulses pending, pulses lost in the open
saturation episode. -/
structure Xing where
  id : Nat
  busy : Bool := false
  pend : Nat := 0
  lost : Nat := 0
deriving DecidableEq, Repr

/-- A stamp point's queue (R95): the point, the stamps held, oldest first, and the stamps lost at it. -/
structure StampQ where
  point : Nat
  stamps : List Nat := []
  lost : Nat := 0
deriving DecidableEq, Repr

/-- A discipline source (R103, R104): consecutive good reference events, the tick count since which it has been
qualified, the last accepted event (stamp), the TAI second that names it, and whether its time of day has come. -/
structure Ref where
  good : Nat := 0
  qualTick : Option Nat := none
  edge : Option Nat := none
  sec : Option Nat := none
  named : Bool := false
  /-- Path delay measured by Pdelay, MT units (R105). -/
  delay : Int := 0
  /-- Consecutive events whose TCXO rate error is above 20 ppm (Table 3.9). -/
  fast : Nat := 0
  /-- The rate error measured against the source, Q8.23 ppm; and at its last accepted event the tick count and the sum of
  the corrections of all ticks. -/
  rate : Int := 0
  tickAt : Nat := 0
  corrAt : Int := 0
deriving DecidableEq, Repr

/-- The Chronometer beside its registers. -/
structure Chr where
  /-- The CHR domain is released: ticks run. -/
  running : Bool := false
  /-- The tick count (R98). -/
  tick : Nat := 0
  /-- MT64 at the last tick edge (R91, R97). -/
  base : Nat := 0
  /-- Phase of the latest command that names one, CLK_T cycles since the edge (R99). -/
  phase : Nat := 0
  /-- High-word latches of R123: master, MT64[63:32], tick count [47:32]. -/
  latches : List (Nat × Nat × Nat) := []
  snaps : List Snap := List.replicate 4 {}
  xings : List Xing := []
  stamps : List StampQ := []
  /-- The four discipline sources, by code minus 1 (Table 3.7). -/
  refs : List Ref := List.replicate 4 {}
  /-- Consecutive offsets within ±40 ns, and beyond ±200 ns (Table 3.5). -/
  inTol : Nat := 0
  outTol : Nat := 0
  /-- The TCXO rate estimate, Q8.23 ppm. -/
  rateEst : Int := 0
  /-- The correction that CHR_RATE moves to, Q8.23 ppm (R108), and the sum of CHR_RATE over the ticks. -/
  rateWant : Int := 0
  corrSum : Int := 0
  /-- The tick count at which HOLDOVER was entered. -/
  holdTick : Nat := 0
  /-- The step announced: tick count of its edge, ticks to add (R107). -/
  step : Option (Nat × Int) := none
  /-- The offset whose step waits for STANDBY (R107). -/
  stepWait : Option Int := none
deriving DecidableEq, Repr

/-- A handling entry (R429): unit word, 0 queued 1 Sounding 2 deferred, severity, repeats, escalated, MT64 of the first
error, opened by REP_CMD and not by an error (R452). -/
structure HEntry where
  unit : Nat
  state : Nat := 0
  sev : Nat := 0
  rep : Nat := 0
  esc : Bool := false
  mt : Nat := 0
  byCmd : Bool := false
deriving DecidableEq, Repr

/-- A cell's slices by position 0 to 4 (R428, R431, R435): retired, isolated now, and to rejoin at the next edge, with the tick
count of the result. -/
structure Cell where
  retired : List Nat := []
  isolated : List Nat := []
  rejoin : List (Nat × Nat) := []
deriving DecidableEq, Repr

/-- The repair controller beside REP's registers. -/
structure Rep where
  /-- The 32 handling entries (R429); the order of opening is `order`, oldest first. -/
  table : List (Option HEntry) := List.replicate 32 none
  order : List Nat := []
  /-- Unit, and MT64 of its latest error of severity 2 or above, of the groups' units (R440). -/
  errTimes : List (Nat × Nat) := []
  /-- Units classed TRANSIENT for an error, with MT64 (R434). -/
  transients : List (Nat × Nat) := []
  /-- The 32 cells, group by group. -/
  cells : List Cell := List.replicate 32 {}
  /-- Port inputs retired (R437): 0 West, 1 East. -/
  retiredPorts : List Nat := []
  /-- MT64 of the uncorrectable DRAM errors (R441). -/
  dramUe : List Nat := []
  /-- Causes of R441 whose lasting condition has begun and not ended. -/
  dpActive : List Nat := []
deriving DecidableEq, Repr

/-- A mailbox word in force (R383, R385): value, valid, and the tick count from whose edge it is no longer valid. -/
structure Mbx where
  val : Nat := 0
  valid : Bool := false
  expires : Option Nat := none
deriving DecidableEq, Repr

/-- A mailbox write that acts at the coming edge (R384). -/
structure MbxWrite where
  word : Nat
  val : Nat
  valid : Bool
  exp : Nat
deriving DecidableEq, Repr

/-- A march run that SPD_MARCH_CTL started (R380 to R382). -/
structure March where
  destructive : Bool
  bank : Nat
  first : Nat
  last : Nat
deriving DecidableEq, Repr

/-- The row in the march engine's holding buffer (R381): its bytes by place, and the bits in error of its words. -/
structure HeldRow where
  bank : Nat
  row : Nat
  data : List Host.Cell := []
  bad : List (Nat × Nat) := []
deriving DecidableEq, Repr

/-- The shared scratchpad beside its registers. -/
structure Spd where
  /-- Data bytes by place (R368: bank, row, word, byte; the spare rows among them), rising, none 0; an unlisted byte reads 0. -/
  mem : List Host.Cell := []
  /-- Words in which an uncorrectable error was found and that have not been written since (R377): the word's place, 8 bytes each,
  and which of its 72 stored bits are in error. -/
  flips : List (Nat × Nat) := []
  /-- The row under test (R381). -/
  hold : Option HeldRow := none
  /-- By level (Table 10.2): the master's last access that a command reports ended in an error (R376; a bus error for the Pilot and
  debug, Table 10.3). -/
  ended : List Bool := List.replicate 7 false
  /-- SPD_CONFm (R374), saturating, and the high-water marks of FAB_STATUS and FAB_CLASS0 to 4 (R397). -/
  conf : List Nat := List.replicate 8 0
  hwm : List Nat := List.replicate 6 0
  /-- Words of the protected DRAM in which an uncorrectable error was found (R392): the address and the bits in error. -/
  dramFlips : List (Nat × Nat) := []
  /-- Mailbox words in force, rising; an unlisted word reads 0, not valid (R383). -/
  mbx : List (Nat × Mbx) := []
  /-- Mailbox writes of this tick, oldest first. -/
  mbxW : List MbxWrite := []
  /-- Rows remapped: bank, row, spare (R379). -/
  remaps : List (Nat × Nat × Nat) := []
  /-- Copies in progress: bank, row, spare. -/
  copying : List (Nat × Nat × Nat) := []
  /-- Spare rows out of the pool, and rows LASTING with no spare: bank, row. -/
  deadSpares : List (Nat × Nat) := []
  unrepaired : List (Nat × Nat) := []
  /-- Words left to the scrubber's position in each bank, and the banks that have finished the present pass. -/
  scrubPos : List Nat := List.replicate 32 0
  scrubDone : Nat := 0
  march : Option March := none
deriving DecidableEq, Repr

/-- A ring station as the ring sees it (Table 4.8 and the obligations of R138 to R148): the states are 0 OFF, 1 LISTEN,
2 SYNC, 3 LOADING, 4 RUN, 5 SAFE. Pairs are CW and CCW. -/
structure Station where
  state : Nat := 0
  /-- Local tick count and MT64 at its last edge, once loaded from a header (R146). -/
  synced : Bool := false
  tick : Nat := 0
  mt : Int := 0
  timeOk : Bool := false
  goodPass : Nat := 0
  badPass : Nat := 0
  /-- The estimate of the pass in progress: its number, HOPS, direction, error in 1/16 ns (R146). -/
  est : Option (Nat × Nat × Nat × Int) := none
  /-- The number of the last pass whose estimate steered the clock (R147). -/
  lastEst : Option Nat := none
  /-- The module's tick count at its last valid pass (R144). -/
  lastPass : Nat := 0
  needLoad : Bool := true
  /-- The last request served: tick of its D-pass, SEQ (R136). -/
  asked : Option (Nat × Nat) := none
  /-- Snapshot blocks of the last four edges, latest first (R166): tick, bytes; entries 0 to 3 of the last announcement block;
  and the blocks taken: slot, SEQ, tick, bytes. -/
  hist : List (Nat × List Nat) := []
  annSnap : List RingAnn := []
  snaps : List (Nat × Nat × Nat × List Nat) := []
  /-- The image received so far and its declared length, entry and digest (R156). -/
  buf : List Nat := []
  imgLen : Nat := 0
  entry : Nat := 0
  digest : List Nat := []
  /-- The latest D-slot copies with good CRCs (R141): tick count of the pass, VALID, payload. -/
  dCw : Option (Nat × Bool × List Nat) := none
  dCcw : Option (Nat × Bool × List Nat) := none
  /-- Outputs in force, and whether they are at the safe state; ticks without usable data (R142). -/
  outputs : List Nat := []
  outSafe : Bool := true
  hold : Nat := 0
  /-- Inputs declared dead (R158): bit 0 CW, bit 1 CCW; passes missed and valid headers in a row. -/
  dead : Nat := 0
  miss : Nat × Nat := (0, 0)
  good : Nat × Nat := (0, 0)
  /-- Valid exchanges of each in link, latest first, 1/16 ns (R145); the SEQ of the PROBE that waits. -/
  probeW : List Nat := []
  probeE : List Nat := []
  probeSeq : Option Nat := none
  /-- Counters of STATS (Table 4.14). -/
  cntHcrc : Nat × Nat := (0, 0)
  cntSlot : Nat := 0
  cntMiss : Nat := 0
  cntDiff : Nat := 0
  cntProbe : Nat := 0
  /-- Entries 4, 5 and 6 of the last valid announcement block received (R148, R165, R167). -/
  annStep : RingAnn := {}
  annWp : RingAnn := {}
  annReset : RingAnn := {}
  hops : Nat × Nat := (0, 0)
  /-- The reply that waits for the mail region of a C-pass, and the tick of the request (R136). -/
  reply : Option (Nat × RingMail) := none
deriving DecidableEq, Repr

/-- A station's input as the ring input table holds it (R150, R388). -/
structure RingIn where
  valid : Bool := false
  status : Nat := 0
  payload : List Nat := []
deriving DecidableEq, Repr

/-- A D-slot as the ring will carry it (R178): payload bytes, and whether it was computed in this tick. -/
structure DSlot where
  payload : List Nat := []
  valid : Bool := false
deriving DecidableEq, Repr

/-- The Meridian ring beside its registers. Pairs are CW and CCW. -/
structure Mrd where
  stations : List Station := List.replicate 64 {}
  /-- The eight announcement entries the master carries (R133), the tick whose D-pass first carries each, and those
  that a D-pass has carried (bit by entry). -/
  ann : List RingAnn := List.replicate 8 {}
  annFrom : List Nat := List.replicate 8 0
  annSent : Nat := 0
  /-- The frames the last ring command put on a link: station and frame. -/
  tx : List (Nat × RingFrame) := []
  /-- The probe frames the last ring command sent: station, direction of the in pair, frame. -/
  probes : List (Nat × Nat × ProbeFrame) := []
  /-- C-slot copies of this tick: direction and copy (R150). -/
  copies : List (Nat × RingSlot) := []
  /-- Bad-HCRC copies in this tick by direction. -/
  badTick : Nat × Nat := (0, 0)
  /-- Wrapped passes received in this tick and in the last, by input (bits as the directions). -/
  wrapTick : Nat := 0
  wrapLast : Nat := 0
  /-- The ring input table in force and as it will be at the next edge, by station. -/
  inTab : List (Nat × RingIn) := []
  inNext : List (Nat × RingIn) := []
  /-- The D-slots taken for the next D-pass (R178). -/
  dTaken : List (Nat × DSlot) := []
  /-- D-slots spoilt by an uncorrectable error in this tick (R178). -/
  dSpoilt : List Nat := []
  /-- Payloads of the last D-slots seen, by station (R228). -/
  dSeen : List (Nat × List Nat) := []
  /-- This module's inputs: passes missed, valid headers and bad headers in a row (R158, Table 12.1), link up. -/
  miss : Nat × Nat := (0, 0)
  good : Nat × Nat := (0, 0)
  bad : Nat × Nat := (0, 0)
  linkUp : Nat := 0
  /-- A port under line test, and port inputs held dead (R430, R437): bit 0 CW, bit 1 CCW. -/
  heldDead : Nat := 0
  /-- The standby role (R163, R164). -/
  standby : Bool := false
  /-- The tick from which this module launches (R153, R163), and the tick in which it last heard the launcher. -/
  launchFrom : Nat := 0
  heardAt : Option Nat := none
  /-- The number of the last valid pass with ORIGIN 0 (2 × tick, + 1 for a D-pass), and the mode it carried (R163). -/
  lastS0 : Nat := 0
  s0Mode : Nat := 0
  /-- Mail of the coming D-passes, one each (R136), the last SEQ, and the ADDR that the next C-pass carries. -/
  mail : List RingMail := []
  mailSeq : Nat := 0
  mailAddr : Nat := 0
  /-- Stations that have answered IDENT, with the reply; an undeclared station has been reported (R154). -/
  ident : List (Nat × IdentReply) := []
  hopsTold : Bool := false
  /-- Stations loaded and told to run since this start (R69). -/
  loaded : List Nat := []
  /-- The tick of the D-pass that carried each station's last RUN. -/
  ranAt : List (Nat × Nat) := []
  /-- Failed loads by station (R156), stations FAILED, and stations to be loaded alone (R156, R157). -/
  loadTries : List (Nat × Nat) := []
  loadFailed : List Nat := []
  reload : List Nat := []
  /-- Image loads in progress: image number, the one station addressed (none: a broadcast), next offset (R156). -/
  loads : List (Nat × Option Nat × Nat) := []
  /-- Stations that reported TIME_OK, and stations present, in the last tick collected (EV021, EV024). -/
  timeOk : List Nat := []
  present : List Nat := []
  /-- Snapshot blocks read out: station, slot, first channel and bytes (R166). Counters read out (Table 4.14). -/
  snapRead : List (Nat × Nat × Nat × List Nat) := []
  stats : List (Nat × List Nat) := []
  /-- This module's own link delay estimates at TIME_OK, 1/16 ns (EV030). -/
  delayRef : Nat × Nat := (0, 0)
deriving DecidableEq, Repr

/-- A Helm channel beside its registers and record bodies. -/
structure Chan where
  /-- Law state and limiter memories (R184 to R190): r_prev and uo_prev in Q7.24; I, D or Lv, v_prev and e_prev in
  Q15.32; p_prev of R229. -/
  rPrev : Int := 0
  uoPrev : Int := 0
  integ : Int := 0
  dl : Int := 0
  vPrev : Int := 0
  ePrev : Int := 0
  pPrev : Option Int := none
  /-- The next computation starts the states (R190). -/
  fresh : Bool := true
  /-- raw_out of the last computation of the law (R220). -/
  rawLaw : Option Int := none
  /-- The computation in progress: the values read, each with its validity, in the order of `srcList`. -/
  run : Option (List (Int × Bool)) := none
  /-- The result held for the output instant. -/
  result : Option Int := none
  /-- The last valid setpoint (R182), the one last used, and the ramp of R215: start, end, step; an outer update that
  the next computation takes up. -/
  spLast : Int := 0
  spUsed : Option Int := none
  rampOld : Int := 0
  rampNew : Int := 0
  rampJ : Nat := 0
  update : Bool := false
  /-- The outer has computed in this tick; the update is there from the next edge on (R214, R215). -/
  updNext : Bool := false
  /-- An overrun pauses the hand-over at the coming output instant (R232). -/
  paused : Bool := false
  /-- The direct inputs that the last computation found faulty or invalid (R248), as the detail of reason 0x18, and those of
  MAN_SRC and MAN_FORCE that the computation in progress found so. -/
  faulty : List Nat := []
  manBad : List Nat := []
  /-- The last valid manual value (R222). -/
  man : Int := 0
  /-- The state a hand-over leads to (Table 5.1), and whether HO_TIME has been reported (R218). -/
  target : Nat := 0
  hoTold : Bool := false
  /-- Why the channel is in SAFE or on its way: 1 invalid inputs, 2 overruns, 3 its sink is off, 4 removed by the
  ladder. -/
  why : Nat := 0
  /-- Computations missed since RUN was left, and HOLD or SAFE has been entered since (reason 0x02). -/
  missed : Nat := 0
  back : Bool := false
  /-- The cell of the computation in progress (R172), and the tick count of the last one started. -/
  cell : Nat := 0
  ranAt : Option Nat := none
  /-- Removed from the timetable, and shed, by the ladder (R237). -/
  removed : Bool := false
  shed : Bool := false
  /-- Fields that a commit changed, with their values before (R200). -/
  old : List (Nat × Nat) := []
  /-- The raw value a service drive moves the output to (R502). -/
  svc : Option Int := none
  /-- Latched at the tick edge: uo, y, the applied value, clip, in RUN (R177, R216, R217). -/
  lUo : Int := 0
  lY : Int := 0
  lRaw : Int := 0
  lClip : Int := 0
  lRun : Bool := false
  /-- Values of the snapshot block (Table 5.11): r, u, AUX1 to AUX3, tick and phase of the sample. -/
  snR : Int := 0
  snU : Int := 0
  snAux : List Int := [0, 0, 0]
  snTick : Nat := 0
  snPhase : Nat := 0
deriving DecidableEq, Repr

/-- A channel as the timetable sees it: cost, K and TOFF, release and deadline in CLK_H cycles, SHED_PRIO, K_FLOOR, and
the outer channel of its cascade. -/
structure TtChan where
  ch : Nat
  cost : Nat
  k : Nat
  toff : Nat
  rel : Nat
  dl : Nat
  prio : Nat
  floor : Nat
  outer : Option Nat
deriving DecidableEq, Repr

/-- A group's timetable in force (R172, R194): the healthy slices of its cells and the channels it was built for. R194's
placement gives each of its jobs a cell and a start. -/
structure Timetable where
  a : List Nat := [4, 4, 4, 4]
  chans : List TtChan := []
deriving DecidableEq, Repr

/-- A fallback timetable (R235): its cell, K and TOFF of the channels it sheds in the order of its steps, channels it
removes, shed steps, and the timetable that comes into force. -/
structure Fallback where
  cell : Nat
  shed : List (Nat × Nat × Nat) := []
  removed : List Nat := []
  steps : Nat := 0
  tt : Timetable := {}
deriving DecidableEq, Repr

/-- A word in a group's copy (R387): the selector that names it, its value and valid bit. -/
structure CopyWord where
  sel : Nat
  val : Int := 0
  ok : Bool := false
deriving DecidableEq, Repr

/-- A group's double-buffered copy (R387): the half that its sequencer reads in this tick, and the half that the mailbox engine
writes. -/
structure GroupCopy where
  front : List CopyWord := []
  back : List CopyWord := []
deriving DecidableEq, Repr

/-- Helm beside its registers. -/
structure Hlm where
  chans : List Chan := List.replicate 128 {}
  /-- Channels whose running computation counts as a cell arithmetic error (R232). -/
  arith : List Nat := []
  /-- Input copies lost for the running computation: channel, slot (Table 10.3). -/
  badIn : List (Nat × Nat) := []
  /-- Cells whose fallback timetable is due at an edge (R236), and those whose want of one has been raised. -/
  fbDue : List Nat := []
  fbTold : List Nat := []
  fbs : List Fallback := []
  /-- The groups' timetables in force (R194), and the groups rebuilt since the last edge (R202). -/
  tts : List Timetable := List.replicate 8 {}
  ttNew : List Nat := []
  /-- Resets requested, with the tick count of the request: channels, groups (R101, R207, R208). -/
  rstReq : List (Nat × Nat) := []
  grpReq : List (Nat × Nat) := []
  /-- Groups to reset at the next edge for a march run (R382). -/
  grpRst : List Nat := []
  /-- Resets in progress: channel or group, and the tick count at whose edge they end. -/
  rstEnd : List (Nat × Nat) := []
  grpEnd : List (Nat × Nat) := []
  /-- Broadcast words delivered and not yet in force: group, word, value, tick count of the delivery (R205). -/
  bcPend : List (Nat × Nat × Nat × Nat) := []
  /-- Requests of R225 that act now: channel, and 1 for MAN. -/
  amReq : List (Nat × Nat) := []
  /-- Snapshot blocks by slot: 128 blocks of 64 bytes (R206); slot + 4 holds what the edge that fires a slot latched. -/
  snaps : List (Nat × List (List Nat)) := []
  /-- The groups' input copies (R387). -/
  copies : List GroupCopy := List.replicate 8 {}
deriving DecidableEq, Repr

/-- A current output (R240 to R244): the sink value, the corrected value the regulator took, and the reference with its
dither at the start of the PWM period, µA; the PWM and dither settings in force; CLK_T cycles of the dither period gone by at
that start; whether R_est has been formed; the band that waits. -/
structure Pc where
  val : Int := 0
  taken : Int := 0
  ref : Int := 0
  period : Nat := 0
  ofs : Nat := 0
  dithPer : Nat := 0
  dithAmp : Nat := 0
  dithT : Nat := 0
  est : Bool := false
  bandDue : Nat := 0
deriving DecidableEq, Repr

/-- A pulse input (R116, R249, R250): edges of this tick with first and last stamp; the completed ticks, latest first; the
last edge of all; ticks without an edge; the times of this tick's edges in the count, CLK_T cycles of the tick count; and the
edges that the source has counted and the destination not yet. -/
structure Pulse where
  n : Nat := 0
  first : Nat := 0
  last : Nat := 0
  hist : List (Nat × Nat × Nat) := []
  lastEdge : Option Nat := none
  idle : Nat := 0
  at_ : List Nat := []
  behind : Nat := 0
deriving DecidableEq, Repr

/-- The direct I/O beside its registers. -/
structure Dio where
  pcs : List Pc := List.replicate 16 {}
  pis : List Pulse := List.replicate 16 {}
  /-- IMU sample of the tick, Q7.24, and its fault. -/
  imu : List Int := [0, 0, 0, 0, 0, 0]
  imuFault : Bool := false
  /-- The modulator of each analogue input, those in calibration, calibrated and waiting, retired (R247). -/
  aiMod : List (Option Nat) := (List.range 24).map some
  calib : List Nat := [24, 25]
  ready : List Nat := []
  retired : List Nat := []
  /-- Analogue inputs whose fault has been seen at the last edge sample. -/
  aiDiff : List (Nat × Int × Nat) := []
  /-- Last edge stamp of each DIO input. -/
  edge : List (Nat × Nat) := []
  /-- Levels that FILTER holds back (R251): input, level, and the time it is taken over, CLK_T cycles of the tick count. -/
  deb : List (Nat × Bool × Nat) := []
deriving DecidableEq, Repr

/-- A sample in a source's history (R260, R265): validity time, ingest tick and phase, field values, and the products
that dropped it (R274). -/
structure Sample where
  tv : Int
  tick : Nat
  phase : Nat
  vals : List Int := []
  dropped : List Nat := []
  /-- Fields that are invalid (R363). -/
  bad : List Nat := []
deriving DecidableEq, Repr

/-- A measurement of the track stage (R292, R293): source, kind, validity, ingest tick and phase, E, N, σ, heading,
length, width, confidence, imported. -/
structure Meas where
  src : Nat
  kind : Nat
  tv : Int
  tick : Nat
  phase : Nat
  x : Int
  y : Int
  sig : Nat
  hdg : Option Int := none
  len : Option Nat := none
  wid : Option Nat := none
  conf : Nat := 0
  birth : Bool := true
  /-- E, N and the standard deviation are in the world already (a fleet entry, R306). -/
  world : Bool := false
deriving DecidableEq, Repr

/-- What a Lookout job gives of a quarantined frame (R265, R292, R363): fields with the invalid ones, and detections. -/
structure HeldJob where
  fields : Option (List Int × List Nat) := none
  dets : Option (List Meas) := none
deriving DecidableEq, Repr

/-- A quarantined sample (R265): unwrapped source time, arrival stamp, field values, and for a frame what Lookout has made of
it. -/
structure HeldSample where
  tau : Int
  a : Int
  vals : List Int := []
  jobs : List HeldJob := []
deriving DecidableEq, Repr

/-- A source's history and its clock model (R262, R263): θ in 2⁻¹⁶ MT units, ρ in Q8.23 ppm. -/
structure Src where
  hist : List Sample := []
  held : List HeldSample := []
  /-- The last source time as it came, and unwrapped (R261). -/
  raw : Option Nat := none
  tau : Int := 0
  theta : Int := 0
  rho : Int := 0
  tau0 : Int := 0
  tauW : Int := 0
  /-- The next window is the first of an acquisition. -/
  first : Bool := true
  /-- Samples in the window; its best sample: residual, source time, stamp; N_WIN, ALPHA, BETA, LOCK_N and LOCK_TOL as
  the window opened with them. -/
  win : Nat := 0
  best : Option (Int × Int × Int) := none
  params : List Nat := []
  /-- Consecutive good windows, and windows since the acquisition began. -/
  good : Nat := 0
  windows : Nat := 0
  /-- Ticks without an ingested sample. -/
  idle : Nat := 0
  /-- A fleet peer reports TAI_VALID (R266). -/
  peerTai : Bool := false
  /-- Frames of a free-running camera that were ingested: frame number and validity time, the newest first. -/
  frames : List (Nat × Int) := []
deriving DecidableEq, Repr

/-- An NMEA fix being collected (R268): its UTC time of day, the stamp of its first sentence, and what has come. -/
structure Fix where
  tod : Nat
  stamp : Option Nat
  /-- GGA: latitude, longitude, height, quality, satellites. -/
  gga : Option (List Int) := none
  /-- RMC: status, speed, course. -/
  rmc : Option (List Int) := none
  days : Option Nat := none
  gst : Option (List Nat) := none
  hdt : Option Nat := none
deriving DecidableEq, Repr

/-- What a job computes of a record (Tables 7.4, 7.7): contributors, age, EXTRAP, the 96 bytes of the body, and the guidance
registers that act on its output (R286). -/
structure PRec where
  contrib : Nat := 0
  age : Nat := 0
  extrap : Bool := false
  body : List Nat := []
  guide : List Nat := []
deriving DecidableEq, Repr

/-- A job of the fabric (R277): its tag, product, output, kind (0 primary, 1 revision, 2 replay; 3 track update and 4 yield step,
under the product numbers 16 and 17; 5 the work of a load's close, whose output is the load's number), the tick it was made in,
its record, the tick it completed in, whether its output was missed, and whether an engine has taken it. -/
structure PJob where
  tag : Nat
  prod : Nat
  out : Nat
  kind : Nat
  made : Nat
  data : PRec := {}
  done : Option Nat := none
  missed : Bool := false
  taken : Bool := false
deriving DecidableEq, Repr

/-- An output that has been released: product, output, latest REV, STATE of its record, and its guidance registers (R286). -/
structure POut where
  prod : Nat
  out : Nat
  rev : Nat
  st : Nat
  guide : List Nat := []
deriving DecidableEq, Repr

/-- A released vehicle-state record as the track and yield stages read it: validity, REV, STATE, and the words E, N,
VE, VN, ROLL, PITCH, HEADING, WZ, AZ, SPEED, SIG_E, SIG_N. -/
structure Pose where
  tv : Int
  rev : Nat
  st : Nat
  w : List Int
deriving DecidableEq, Repr

/-- An event of the vehicle-state filter (R275, R282, R283): its validity, the tick and phase of its ingest, its kind (0 an IMU
sample, propagated; 1 a GNSS fix, 2 the RATE field, 3 standstill, 4 an output's lateral and vertical velocity) and values, and
whether the live filter has it: a late fix enters when its replay has run. -/
structure VsEv where
  tv : Int
  tick : Nat
  phase : Nat := 0
  kind : Nat
  vals : List Int := []
  fused : Bool := true
deriving DecidableEq, Repr

/-- The vehicle state (R282 to R284): its state and, by tick, the states before; IMU samples levelled in INIT and the last 1,000
accelerations, the last IMU sample and the IMU ticks without one; the antenna's position and the heading of INIT; fixes in a row
at HDG_SPEED, ticks since a position was accepted, ticks at speed 0, the best fix since the last record, and a replay that has
finished; the filter D + W ticks ago and the events since, in order of validity. -/
structure Vs where
  st : Nat := 0
  sts : List (Nat × Nat) := []
  level : Nat := 0
  acc : List (List Int) := []
  imu : List Int := []
  imuMiss : Nat := 0
  posOk : Bool := false
  pos : List Int := []
  hdgOk : Bool := false
  hdg : Int := 0
  course : Nat := 0
  noPos : Nat := 0
  still : Nat := 0
  bestFix : Nat := 0
  replayed : Bool := false
  base : List Int := []
  ev : List VsEv := []
deriving DecidableEq, Repr

/-- An entry of the track table (R298 to R306, Table 8.3). -/
structure Track where
  id : Nat
  kind : Nat
  state : Nat := 1
  flags : Nat := 0
  hist : Nat := 1
  misses : Nat := 0
  peer : Nat := 255
  remote : Nat := 0
  birth : Nat := 0
  tLast : Int := 0
  /-- The filter at time `tEst` (R301): E, N, VE, VN, the covariance of one axis (position, position and velocity, velocity), in mm
  and mm/s with 16 fractional bits; of a MACHINE track E, N, VE, VN, SIG_E, SIG_N, SIG_V. -/
  est : List Int := []
  tEst : Int := 0
  u : Int := 0
  hdg : Int := 0
  len : Nat := 0
  wid : Nat := 0
  conf : Nat := 0
  /-- Sources that contributed, by update, latest first. -/
  srcs : List Nat := []
  lived : Nat := 1
  /-- Ticks since the last SELF entry (R306). -/
  quiet : Nat := 0
deriving DecidableEq, Repr

/-- The track stage. -/
structure Trk where
  tracks : List Track := []
  /-- Measurements that wait for an update, and sources that have delivered a sample since the last one. -/
  meas : List Meas := []
  /-- Fleet messages used: source, validity, ingest tick and phase, the 32-bit words of the entries (R306). -/
  fleet : List (Nat × Int × Nat × Nat × List Int) := []
  /-- With the tick and phase of the ingest. -/
  heard : List (Nat × Nat × Nat) := []
  /-- SEQ of the next list, and the tick of the last update. -/
  seq : Nat := 0
  last : Option Nat := none
  /-- The tick of the last list released. -/
  listed : Option Nat := none
  /-- Measurements discarded since the last update. -/
  oos : Nat := 0
  /-- The entries of the last fleet message sent (R305), and its tick. -/
  shared : List (List Nat) := []
  sharedAt : Option Nat := none
  /-- The update whose job was admitted, and the one whose job has completed (R294). -/
  cut : Option Nat := none
  fin : Option Nat := none
deriving DecidableEq, Repr

/-- A cell under construction or released (R308, R312, Table 8.4). Masses in kg, distances in µm, times in MT units. -/
structure YCell where
  seg : Nat
  tStart : Int
  tEnd : Int
  load : Nat
  no : Nat := 0
  dist : Nat := 0
  sumE : Rat := 0
  sumN : Rat := 0
  hdg0 : Int := 0
  wet : Rat := 0
  moist : Rat := 0
  calW : Rat := 0
  speed : Int := 0
  steps : Nat := 0
  slow : Nat := 0
  flags : Nat := 0
  wid : Rat := 0
  /-- Position of the segment's centre at the last step, µm. -/
  posE : Int := 0
  posN : Int := 0
deriving DecidableEq, Repr

/-- A cell record that has been queued: its words as Table 8.4 orders them. -/
structure CellRec where
  tStart : Int
  (dur no load seg flags : Nat)
  (e n : Int)
  (len wid area wet dry moist speed cal f rev : Nat)
  /-- Deposited in its tile. -/
  dep : Bool := false
deriving DecidableEq, Repr

/-- A map cell (Table 8.6). -/
structure MapCell where
  idx : Nat
  wet : Nat := 0
  dry : Nat := 0
  area : Nat := 0
  moist : Nat := 0
  flags : Nat := 0
  /-- Cell records deposited, and those of them that a correction has reached. -/
  cells : Nat := 0
  corr : Nat := 0
deriving DecidableEq, Repr

/-- A tile of the store (Tables 8.5 and 8.6). -/
structure Tile where
  te : Int
  tn : Int
  rev : Nat := 0
  cells : Nat := 0
  tFirst : Int := 0
  tLast : Int := 0
  dirty : Bool := true
  map : List MapCell := []
deriving DecidableEq, Repr

/-- What a yield step leaves for the calibration windows (R316 to R318): validity, tank mass, the load cells' sum and
the cosine product, raw mass, and the conditions of Table 8.7. -/
structure YStep where
  tv : Int
  m : Option Rat
  sum : Rat := 0
  cos : Rat := 1
  raw : Rat
  flowInv : Bool
  unloading : Bool
  tilt : Bool
  az : Rat
  vsOk : Bool
  field : Bool
deriving DecidableEq, Repr

/-- The open tank load (R319). -/
structure YLoad where
  tOpen : Int
  cells : List CellRec := []
  /-- The map cells of the cells beyond the 65,536 that the list keeps. -/
  spots : List (Int × Int × Nat) := []
  count : Nat := 0
  overflow : Bool := false
  raw : Rat := 0
  mapped : Rat := 0
  sumI : Rat := 0
  sumM : Rat := 0
  windows : Nat := 0
  area : Nat := 0
  moist : Rat := 0
  wet : Rat := 0
  steps : Nat := 0
  inv : Nat := 0
deriving DecidableEq, Repr

/-- The work of a load's close that waits in the fabric (R320): the load's number, the factor of a corrected one, its cells, and the
map cells of those beyond the list. -/
structure Closing where
  no : Nat
  f : Option Rat
  cells : List CellRec
  spots : List (Int × Int × Nat) := []
deriving DecidableEq, Repr

/-- The yield stage. -/
structure Yld where
  /-- CAL, ρ_b and the last valid moisture. -/
  cal : Rat := 1
  rho : Rat := 0
  moist : Rat := 0
  load : Option YLoad := none
  loadNo : Nat := 0
  /-- Start of the earliest window not yet closed. -/
  t0 : Int := 0
  steps : List YStep := []
  segs : List (Option YCell) := List.replicate 16 none
  cellNo : Nat := 0
  /-- Loads with their T_OPEN, and loads closed with the factor of a corrected one, for cells released later; the newest
  first. -/
  loads : List (Nat × Int) := []
  closed : List (Nat × Option Rat) := []
  tiles : List (Option Tile) := []
  unloading : Bool := false
  /-- Values invalid at the last step (EV062, EV063): 0 to 3 flows, moisture, elevator; 8 to 12 load cells, attitude. -/
  inv : List Nat := []
  cellSeq : Nat := 0
  loadSeq : Nat := 0
  /-- ZERO (1) or SPAN (2) in progress, and the MT64 at which it was accepted. -/
  calOp : Option (Nat × Int) := none
  /-- A TANK commit changed CAL_WIN, T_TANK or T_AVG. -/
  changed : Bool := false
  /-- Tick of the last step, of the step whose job was admitted, and of the one whose job has completed. -/
  last : Option Nat := none
  cut : Option Nat := none
  fin : Option Nat := none
  closing : List Closing := []
deriving DecidableEq, Repr

/-- The Plotter beside its registers. -/
structure Plt where
  /-- Jobs of outputs that failed (Table 10.3), until their output is missed. -/
  failed : List PJob := []
  /-- Ticks with work admitted in which no job completed, and whether a failure has been declared for them (R441). -/
  quiet : Nat := 0
  stalled : Bool := false
  /-- The Plotter is out of reset. -/
  up : Bool := false
  srcs : List Src := List.replicate 64 {}
  /-- The fix that each GNSS input collects. -/
  fixes : List (Option Fix) := [none, none]
  /-- Whole-second fixes that the Chronometer has not taken: input, TAI second, stamp (R270). -/
  tods : List (Nat × Nat × Nat) := []
  /-- Jobs in the fabric, jobs that wait for admission, and completed jobs in the reorder buffer. -/
  jobs : List PJob := []
  waiting : List PJob := []
  rob : List PJob := []
  outs : List POut := []
  /-- SEQ of each product's next record. -/
  seqs : List Nat := List.replicate 16 0
  /-- Tick of the last cut-off taken, by product. -/
  cuts : List (Option Nat) := List.replicate 16 none
  /-- MT64 steps: tick count of the edge and the step (R267). -/
  steps : List (Nat × Int) := []
  vs : Vs := {}
  poses : List Pose := []
  trk : Trk := {}
  yld : Yld := {}
deriving DecidableEq, Repr

/-- A frame of a camera port (R331 to R337): Frame Start stamp, frame number, trigger edge and its tick count, flags of
Table 9.6, the lines written, lines in error, surplus lines, closure (stamp, tick count), the blocks processed, and the
parameter set the frame uses (R349). -/
structure SxFrame where
  fs : Option Nat := none
  no : Nat := 0
  trig : Option (Nat × Nat) := none
  flags : Nat := 0
  lines : List (List Nat) := []
  errs : Nat := 0
  surplus : Nat := 0
  closed : Option (Nat × Nat) := none
  blocks : Nat := 0
  setver : Nat := 0
  pars : List Nat := []
  tone : List Nat := []
  /-- The Frame Start stamp of the port's previous frame (R363). -/
  prevFs : Option Nat := none
  /-- Its place among the port's frames since LOAD (R353). -/
  idx : Nat := 0
  /-- The SXTPIPE body the frame uses (R349). -/
  pipe : List Nat := []
  /-- Its temporal references were invalidated while it was in the port (R345). -/
  stale : Bool := false
  /-- Its lines after stage 2b, of the blocks processed (R345). -/
  tnr : List (List Nat) := []
deriving DecidableEq, Repr

/-- A camera port: frames in reception and processing, oldest first; the rest of a truncated frame is being discarded;
triggers whose frame has not started; the port has been absent; the temporal reference by line (R345); clean frames
since LOAD and frames since LOAD; WIDX of its rings and the slot each fills next (R355); the last trigger edge. -/
structure SxPort where
  frames : List SxFrame := []
  skip : Bool := false
  trigs : List (Nat × Nat) := []
  lost : Bool := false
  ref : List (Option (List Nat)) := []
  lastFs : Option Nat := none
  clean : Nat := 0
  total : Nat := 0
  widx : List Nat := [0, 0, 0, 0]
  slot : List Nat := [0, 0, 0, 0]
  edge : Nat := 0
deriving DecidableEq, Repr

/-- A pipeline: the port of the block in progress, and the port of the last block processed. -/
structure SxPipe where
  run : Option Nat := none
  last : Option Nat := none
deriving DecidableEq, Repr

/-- A picture for the encoder (R350, R353): Frame Start stamp, frame number, flags and tick count of its frame, and its
samples from the coding tap. -/
structure SxPic where
  fs : Nat
  no : Nat
  flags : Nat
  tick : Nat
  data : List Nat := []
deriving DecidableEq, Repr

/-- A coding stream: the pictures to code, the samples of the last one coded, to which a P picture refers (R353), pictures
since the last IDR, SEQ, and the bytes written and not read. -/
structure SxEnc where
  queue : List SxPic := []
  ref : List Nat := []
  gop : Nat := 0
  seq : Nat := 0
  buf : List Nat := []
deriving DecidableEq, Repr

/-- Sextant beside its registers. -/
structure Sxt where
  /-- As for the Plotter (R441). -/
  quiet : Nat := 0
  stalled : Bool := false
  up : Bool := false
  ports : List SxPort := List.replicate 8 {}
  pipes : List SxPipe := List.replicate 4 {}
  encs : List SxEnc := List.replicate 4 {}
deriving DecidableEq, Repr

/-- A Lookout job (R360): binding, order of completion of its frame, the frame, its machine-vision data, and the MV_X, MV_Y
and MV_DS they were taken with (R352). -/
structure LktJob where
  bind : Fin 16
  order : Nat
  port : Nat
  fs : Nat
  no : Nat
  trig : Option (Nat × Nat)
  long : Bool
  prevFs : Option Nat
  mv : List Nat := []
  roi : List Nat := [0, 0, 0]
deriving DecidableEq, Repr

/-- Lookout beside its registers. -/
structure Lkt where
  /-- As for the Plotter (R441). -/
  quiet : Nat := 0
  stalled : Bool := false
  up : Bool := false
  waiting : List LktJob := []
  run : Option LktJob := none
  order : Nat := 0
  seq : Nat := 0
deriving DecidableEq, Repr

/-- A frame as a receive object holds it (R410): its SOF stamp (none: missing) and whether its data were cut. -/
structure RxMsg where
  frame : CanFrame
  stamp : Option Nat
  trunc : Bool := false
deriving DecidableEq, Repr

/-- A receive object (R410, R411): content, NEW, LOST, LOCKTO, the master that locks it, the shadow and whether it was
overwritten, and the tick count of the last LOST event. -/
structure RxObj where
  msg : Option RxMsg := none
  new : Bool := false
  lost : Bool := false
  lockTo : Bool := false
  lock : Option Nat := none
  shadow : Option RxMsg := none
  shadowLost : Bool := false
  told : Option Nat := none
deriving DecidableEq, Repr

/-- An entry of a transmit queue (R412): frame, source (0 forwarding, 1 transmit object, 2 firmware, 3 host), TAG, the
transmit object, whether a SAFE object submitted it, the tick count of its arrival, and whether it is in
transmission. -/
structure TxEntry where
  frame : CanFrame
  src : Nat
  tag : Nat := 0
  obj : Option Nat := none
  safe : Bool := false
  arrived : Nat
  sending : Bool := false
deriving DecidableEq, Repr

/-- A transport session of the firmware (R420): this side transmits, the other address, PGN, size, the data, the next
packet, the packets the receiver has cleared, broadcast. -/
structure TpSession where
  tx : Bool
  peer : Nat
  pgn : Nat
  size : Nat
  data : List Nat := []
  next : Nat := 1
  cleared : Nat := 0
  bcast : Bool := false
  /-- Ticks until the next packet of a broadcast. -/
  wait : Nat := 0
  /-- The packets that the sender allows per clear-to-send (RTS, byte 5). -/
  limit : Nat := 255
deriving DecidableEq, Repr

/-- The firmware's ISO 11783 functions on a bus (R420): address held, address claimed and waiting, cannot claim, the
addresses that others hold, the frame queue and the frames lost, sessions, active and previously active codes. -/
structure Iso where
  addr : Option Nat := none
  claim : Option Nat := none
  /-- Tick count at which the address was claimed, and of the last DM1 sent. -/
  claimAt : Nat := 0
  dm1At : Option Nat := none
  cannot : Bool := false
  others : List Nat := []
  queue : List RxMsg := []
  lost : Nat := 0
  sessions : List TpSession := []
  active : List Nat := []
  prev : List Nat := []
  /-- The active list has changed since the last DM1. -/
  changed : Bool := false
deriving DecidableEq, Repr

/-- A CAN controller beside its registers: the transmit queue; the key of a command that waits for the entry in
transmission, and whether it aborts; receive objects by number, rising; transmit objects in a run of stale ticks; the tick in
which each transmit object last acted; the transmit error count; the firmware functions. -/
structure Bus where
  queue : List TxEntry := []
  after : Option (Nat × Bool) := none
  rx : List (Nat × RxObj) := []
  stale : List Nat := []
  acted : List (Option Nat) := List.replicate 32 none
  tec : Nat := 0
  iso : Iso := {}
  /-- MT64 of the entry to LIMP, and of the write of STOP: a frame that began before goes on as it began (R406, R407). -/
  limpAt : Option Nat := none
  stopAt : Option Nat := none
  /-- R423: the commits of the last 10 ms, oldest first: MT64 of the edge, and the cells they changed with their values before. -/
  rxWas : List (Nat × List (Nat × Nat)) := []
deriving DecidableEq, Repr

/-- A reply of the HSI (R496): the message's TYPE, SEQ, STATUS, COND, and the bytes after COND. -/
structure HsiReply where
  typ : Nat
  seq : Nat
  status : Nat
  cond : Nat
  body : List Nat := []
deriving DecidableEq, Repr

/-- A host that the module tracks (R495, R497): address and port, tick count of its last request that was no duplicate,
the stored reply, its nonce with the tick count of its issue, and the tick count at which it was last heard from. -/
structure HsiHost where
  ip : Nat
  port : Nat
  last : Nat
  reply : Option HsiReply := none
  nonce : Option (List Nat × Nat) := none
  seen : Nat := last
deriving DecidableEq, Repr

/-- The service token (R497, R498): its value, its host, the tick counts of its expiry and of its last use. -/
structure HsiToken where
  val : Nat
  ip : Nat
  port : Nat
  expiry : Nat
  used : Nat
deriving DecidableEq, Repr

/-- A subscription (R499, R506): kind 0 status, 1 display, 2 coding; the port or stream; the host; period in ticks or
DIV; the tick counts of its begin and end; the display frames counted; the Ethernet port. -/
structure HsiSub where
  kind : Nat
  n : Nat
  eth : Nat
  ip : Nat
  port : Nat
  div : Nat
  start : Nat
  stop : Nat
  frames : Nat := 0
deriving DecidableEq, Repr

/-- A gPTP port (R510): the grandmaster heard, and whether this port is master. -/
structure GptpPort where
  gm : Option Nat := none
  master : Bool := false
deriving DecidableEq, Repr

/-- The Host Service Interface beside its registers. -/
structure Hsi where
  /-- What the module has pushed in this tick (R499, R506, R507): message type and bytes. -/
  pushes : List (Nat × List Nat) := []
  /-- The CAN_SUB subscription of a host: host, controller mask, the tick count of its end (R507). -/
  canSub : List (Nat × Nat × Nat) := []
  /-- MSG_SEQ of each peer's last fleet message, by address (R508). -/
  fleetSeq : List (Nat × Nat) := []
  hosts : List HsiHost := []
  token : Option HsiToken := none
  subs : List HsiSub := []
  /-- The reply to the last request. -/
  reply : Option HsiReply := none
  /-- Tick count of the last settings frame written for a host (R503), and of the host records of the last second. -/
  setTick : Option Nat := none
  logTicks : List Nat := []
  gptp : List GptpPort := [{}, {}]
  /-- What the last command sent on a port beside HSI messages: port, 0 ARP, 1 ICMP, 2 Pdelay_Req, 3 Announce, and its
  content. -/
  net : List (Nat × Nat × List Nat) := []
deriving DecidableEq, Repr

/-- A settings block (Table 13.5). -/
structure SetBlock where
  fmt : Nat
  item : Nat
  body : List Nat
deriving DecidableEq, Repr

/-- A settings frame (Table 13.5): BANKS as its byte; the blocks in the format in use, and during a trial those of the
previous firmware, frozen (R472). -/
structure SetFrame where
  gen : Nat := 0
  banks : Nat := 0
  trial : Nat := 0
  starts : Nat := 0
  result : Nat := 0
  uid : Nat := 0
  blocks : List SetBlock := []
  frozen : List SetBlock := []
deriving DecidableEq, Repr

/-- The NOR contents (Table 10.7) and the fuses: firmware and Almanac images A and B, the staging bytes, the settings
partitions (sector and frame) with the sector last written in each, and the fuse slots revoked. -/
structure Nor where
  fw : List (List Nat) := [[], []]
  alm : List (List Nat) := [[], []]
  /-- The Boot partition, which nothing on the module writes, and the Reserved one (R394). -/
  boot : List Nat := []
  reserved : List Nat := []
  /-- What lies in the banks firmware A, B, Almanac A, B behind the image (R460). -/
  rest : List (List Nat) := [[], [], [], []]
  staging : List Nat := []
  sets : List (List (Nat × SetFrame)) := [[], []]
  lastSec : List Nat := [63, 63]
  /-- The write of a frame was cut, and none has been written since (R471). -/
  torn : Bool := false
  revoked : Nat := 0
deriving DecidableEq, Repr

/-- Field update and settings beside UPD's registers. -/
structure Upd where
  /-- The current frame, and the frames that wait to be written (R471). -/
  cur : SetFrame := {}
  queue : List SetFrame := []
  /-- The frame of a rollback has been made, which acts from the next start (R468, R469): what the running firmware saves is lost. -/
  rolled : Bool := false
  /-- WP_MT as ARM accepted it (R462), the tick count of AT, and the lock of R463. -/
  wp : Nat := 0
  at_ : Option Nat := none
  lock : Bool := false
  /-- Staging is still to be examined in this run (R470). -/
  exam : Bool := false
  /-- LENGTH of the transfer and the bytes received (R501). -/
  len : Nat := 0
  got : Nat := 0
  /-- Host items whose bytes are being written (R503). -/
  items : List (Nat × List Nat) := []
deriving DecidableEq, Repr

/-- The Binnacle beside its registers: the tick count at which the frame ends, its length and slot, the VLCD set, the
segments shown (bit by segment), the levels 0 to 3 at COM0 to COM3 and SEG0 to SEG47, the currents in mA of the ten
outputs, the thermistor's last samples (Q11.4 °C) and ticks back in range, the measured band, consecutive frames of an
open crack loop and of a VLCD deviation, the pump (0 running, 1 stopped before the retry, 2 stopped after it) and the tick
count at which it stopped, the stress in rated-current seconds, and the outputs reported under R487. -/
structure Bin where
  frameEnd : Option Nat := none
  len : Nat := 0
  slot : Nat := 0
  vlcd : Nat := 0
  shown : Nat := 0
  com : List Nat := [0, 0, 0, 0]
  seg : List Nat := List.replicate 48 0
  ma : List Rat := List.replicate 10 0
  glass : List Int := []
  ntcGood : Nat := 0
  band : Nat := 0
  crackN : Nat := 0
  vlcdN : Nat := 0
  pump : Nat := 0
  pumpAt : Nat := 0
  stress : List Rat := List.replicate 10 0
  limTold : List Nat := []
deriving DecidableEq, Repr

/-- The state of the block. -/
structure State where
  /-- The commands that wait, first in, first out. -/
  pending : List Instr := []
  /-- Register fields and record bytes in force, by bit address, rising, none at its reset value. -/
  regs : List (Nat × Nat) := []
  /-- TICK-class values written and not yet in force (R81): field and value, in order of writing. -/
  tickW : List (Nat × Nat) := []
  /-- Staging copies (R81): region, field and staged value. -/
  staged : List (Nat × Nat × Nat) := []
  /-- Pending commits: region and the tick count at whose edge it acts (R82). -/
  commits : List (Nat × Nat) := []
  /-- Position in the sequence of free values: the model's own field. -/
  freeCtr : Nat := 0
  pwr : Pwr := {}
  chr : Chr := {}
  log : Log := {}
  alm : Alm := {}
  rep : Rep := {}
  spd : Spd := {}
  mrd : Mrd := {}
  hlm : Hlm := {}
  dio : Dio := {}
  plt : Plt := {}
  sxt : Sxt := {}
  lkt : Lkt := {}
  bus : List Bus := List.replicate 6 {}
  hsi : Hsi := {}
  nor : Nor := {}
  upd : Upd := {}
  bin : Bin := {}
  /-- Records of the rings and queues in DRAM: ring number times 2^32 plus slot, rising, and the record's bytes. -/
  rings : List (Nat × List Nat) := []
  /-- What the last register read returned to its reader. -/
  rdata : Nat := 0
deriving DecidableEq, Repr

/-- The machine right after reset: UB present, every register at its reset value, the module held in RESET. -/
def State.reset : State := {}

end Sys2Proof.Machine
end

