-- ==== Sys2Proof/Machine/Flags.lean ====
section
/-! DEFINITION. The modes (Table 2.1), the severities of the event sources (Table 16.2) and the FLAGS word of a Logbook
record (Table 12.7). -/

namespace Sys2Proof.Machine

/-- The modes with the encoding of Table 2.1. -/
abbrev mRESET : Nat := 0
abbrev mLOAD : Nat := 1
abbrev mPROVE : Nat := 2
abbrev mSTANDBY : Nat := 3
abbrev mROAD : Nat := 4
abbrev mFIELD : Nat := 5
abbrev mLIMP : Nat := 6
abbrev mSERVICE : Nat := 7

/-- Sources of severity 1 whatever their parameters (Table 16.2). -/
def sevOnes : List Nat := [2, 16, 80]

/-- Sources of severity 2 whatever their parameters (Table 16.2). -/
def sevTwos : List Nat :=
  [0, 9, 10, 12, 13, 17, 18, 22, 23, 29, 31] ++ [50, 51, 52, 61, 65, 67, 68, 69, 71, 75] ++
    [81, 83, 86, 87, 94, 95, 98] ++ [100, 108, 109, 110, 112, 113, 117, 122, 124, 125, 126]

/-- Table 16.2: the severity of an event source from its parameters. -/
def severity (code : Nat) (ps : List Nat) : Nat :=
  let p0 := ps.getD 0 0
  let p1 := ps.getD 1 0
  if code = 1 then [4, 3, 2, 3].getD p0 0
  else if code = 85 then [1, 2].getD p0 0
  else if code = 99 then [2, 0].getD p0 0
  else if code = 114 then [2, 0].getD p0 0
  else if code = 119 then [0, 2, 2].getD p0 0
  else if code = 121 then [0, 0, 4].getD p0 0
  else if code = 123 then [0, 3, 4].getD p0 0
  else if 32 ≤ code ∧ code ≤ 47 then
    if code % 2 = 0 then (if p1 ∈ [0x00, 0x01, 0x04, 0x10, 0x11, 0x17, 0x18] then 2 else 0)
    else (if p0 ∈ [0x12, 0x14] then 2 else 0)
  else if 88 ≤ code ∧ code ≤ 93 then (if p0 ∈ [2, 4, 6, 7] then 2 else 0)
  else if code = 127 then (if p0 ∈ [0, 1, 3, 4] then 2 else 0)
  else if code = 106 ∨ code = 107 then 3
  else if code ∈ sevTwos then 2
  else if code ∈ sevOnes then 1
  else 0

/-- FLAGS of Table 12.7: severity, mode at the raise, TAI_VALID, ESCALATED, HOST. -/
def logFlags (sev mode tai : Nat) (esc host : Bool) : Nat :=
  sev % 8 + 8 * (mode % 8) + 64 * (tai % 2) + 128 * b2n esc + 256 * b2n host

end Sys2Proof.Machine
end

