-- ==== Sys2Proof/Machine/Regs.lean ====
section
/-! DEFINITION. The named register fields of the block (Table 16.6 and the register tables it names). A field is
kept under its bit address: eight times the byte address of its register (R517) plus its lowest bit. -/

namespace Sys2Proof.Machine

/-- A register field: the bit address it is stored under, and its width in bits. -/
structure Fld where
  key : Nat
  w : Nat
deriving DecidableEq, Repr

/-- The field at bits `lo` to `lo + w - 1` of the register at byte address `addr`. -/
def Fld.at (addr lo w : Nat) : Fld := ⟨8 * addr + lo, w⟩

/-- R517, Table 16.5: the base address of the register window of the block with identifier `id`. -/
def blockBase (id : Nat) : Nat := 0xF000000000 + 0x100000 * id

end Sys2Proof.Machine

namespace Sys2Proof.Machine.R

/-! PWR_SUPPLY (Table 1.16) -/
def PWR_SUPPLY_UV_MV : Fld := .at 0xF001000000 16 16
def PWR_SUPPLY_UB_MV : Fld := .at 0xF001000000 0 16

/-! PWR_STATUS (Table 1.17) -/
def PWR_STATUS_IGN : Fld := .at 0xF001000004 9 1
def PWR_STATUS_SHUTREQ : Fld := .at 0xF001000004 8 1
def PWR_STATUS_T_TRIP : Fld := .at 0xF001000004 7 1
def PWR_STATUS_T_LIMP : Fld := .at 0xF001000004 6 1
def PWR_STATUS_T_WARN : Fld := .at 0xF001000004 5 1
def PWR_STATUS_UV_LOSS : Fld := .at 0xF001000004 4 1
def PWR_STATUS_UB_OV : Fld := .at 0xF001000004 3 1
def PWR_STATUS_UB_RIDE : Fld := .at 0xF001000004 2 1
def PWR_STATUS_UB_SHED : Fld := .at 0xF001000004 1 1
def PWR_STATUS_UB_WARN : Fld := .at 0xF001000004 0 1

/-! PWR_TEMP (Table 1.18) -/
def PWR_TEMP_TCP : Fld := .at 0xF001000008 16 16
def PWR_TEMP_TJ : Fld := .at 0xF001000008 0 16

/-! PWR_CAM (Table 1.19) -/
def PWR_CAM_SHED : Fld := .at 0xF00100000C 16 1
def PWR_CAM_FLT : Fld := .at 0xF00100000C 8 8
def PWR_CAM_EN : Fld := .at 0xF00100000C 0 8

/-! PWR_SENS (Table 1.20) -/
def PWR_SENS_FLT : Fld := .at 0xF001000010 16 8
def PWR_SENS_EN : Fld := .at 0xF001000010 0 8

/-! PWR_RELAY (Table 1.21) -/
def PWR_RELAY_HELD : Fld := .at 0xF001000014 9 1
def PWR_RELAY_IGNORED : Fld := .at 0xF001000014 8 1
def PWR_RELAY_KE_FLT : Fld := .at 0xF001000014 7 1
def PWR_RELAY_KW_FLT : Fld := .at 0xF001000014 6 1
def PWR_RELAY_KE_BUSY : Fld := .at 0xF001000014 5 1
def PWR_RELAY_KW_BUSY : Fld := .at 0xF001000014 4 1
def PWR_RELAY_KE_POS : Fld := .at 0xF001000014 3 1
def PWR_RELAY_KW_POS : Fld := .at 0xF001000014 2 1
def PWR_RELAY_KE_CMD : Fld := .at 0xF001000014 1 1
def PWR_RELAY_KW_CMD : Fld := .at 0xF001000014 0 1

/-! PWR_RELAY_TIME (Table 1.22) -/
def PWR_RELAY_TIME_KE_T : Fld := .at 0xF001000018 16 16
def PWR_RELAY_TIME_KW_T : Fld := .at 0xF001000018 0 16

/-! PWR_RELAY_CNT_KW (Table 1.22) -/
def PWR_RELAY_CNT_KW_COUNT : Fld := .at 0xF00100001C 0 32

/-! PWR_RELAY_CNT_KE (Table 1.22) -/
def PWR_RELAY_CNT_KE_COUNT : Fld := .at 0xF001000020 0 32

/-! ALM_MODE (Table 2.16) -/
def ALM_MODE_CAUSE : Fld := .at 0xF000C00000 24 8
def ALM_MODE_PREV : Fld := .at 0xF000C00000 16 3
def ALM_MODE_LIMP_SET : Fld := .at 0xF000C00000 8 1
def ALM_MODE_RING_READY : Fld := .at 0xF000C00000 4 1
def ALM_MODE_DEGRADED : Fld := .at 0xF000C00000 3 1
def ALM_MODE_MODE : Fld := .at 0xF000C00000 0 3

/-! ALM_LOAD (Table 2.17) -/
def ALM_LOAD_B_RESULT : Fld := .at 0xF000C00004 24 8
def ALM_LOAD_A_RESULT : Fld := .at 0xF000C00004 16 8
def ALM_LOAD_FW_BANK : Fld := .at 0xF000C00004 1 1
def ALM_LOAD_ALM_BANK : Fld := .at 0xF000C00004 0 1

/-! ALM_LOAD_REC (Table 2.18) -/
def ALM_LOAD_REC_B_REC : Fld := .at 0xF000C00008 16 16
def ALM_LOAD_REC_A_REC : Fld := .at 0xF000C00008 0 16

/-! ALM_START (Table 2.19) -/
def ALM_START_PROVE_MS : Fld := .at 0xF000C0000C 16 16
def ALM_START_STANDBY_MS : Fld := .at 0xF000C0000C 0 16

/-! ALM_COMMIT (Table 2.20) -/
def ALM_COMMIT_GO : Fld := .at 0xF000C00010 31 1
def ALM_COMMIT_RESULT : Fld := .at 0xF000C00010 16 3
def ALM_COMMIT_REGION : Fld := .at 0xF000C00010 0 8

/-! ALM_CHG_STATUS (Table 2.20) -/
def ALM_CHG_STATUS_LATE_BLK : Fld := .at 0xF000C00014 24 8
def ALM_CHG_STATUS_STAGE_REGION : Fld := .at 0xF000C00014 16 8
def ALM_CHG_STATUS_STAGE_LOCKED : Fld := .at 0xF000C00014 1 1
def ALM_CHG_STATUS_LATE : Fld := .at 0xF000C00014 0 1

/-! ALM_PENDING (Table 2.21) -/
def ALM_PENDING_PEND (i : Nat) : Fld := .at (0xF000C00020 + 0x4 * i) 0 32

/-! CHR_MT64_LO (Table 3.10) -/
def CHR_MT64_LO_VALUE : Fld := .at 0xF000100000 0 32

/-! CHR_MT64_HI (Table 3.10) -/
def CHR_MT64_HI_VALUE : Fld := .at 0xF000100004 0 32

/-! CHR_TICK_LO (Table 3.10) -/
def CHR_TICK_LO_VALUE : Fld := .at 0xF000100008 0 32

/-! CHR_TICK_HI (Table 3.10) -/
def CHR_TICK_HI_VALUE : Fld := .at 0xF00010000C 0 16

/-! CHR_PHASE (Table 3.10) -/
def CHR_PHASE_CYCLE : Fld := .at 0xF000100010 0 14

/-! CHR_DISC (Table 3.11) -/
def CHR_DISC_TAI_UTC : Fld := .at 0xF000100014 24 8
def CHR_DISC_SLEWING : Fld := .at 0xF000100014 11 1
def CHR_DISC_STEPPED : Fld := .at 0xF000100014 10 1
def CHR_DISC_STEP_PENDING : Fld := .at 0xF000100014 9 1
def CHR_DISC_TAI_VALID : Fld := .at 0xF000100014 8 1
def CHR_DISC_SOURCE : Fld := .at 0xF000100014 4 3
def CHR_DISC_STATE : Fld := .at 0xF000100014 0 2

/-! CHR_OFFSET (Table 3.11) -/
def CHR_OFFSET_VALUE : Fld := .at 0xF000100018 0 32

/-! CHR_RATE (Table 3.11) -/
def CHR_RATE_VALUE : Fld := .at 0xF00010001C 0 32

/-! CHR_CFG (Table 3.12) -/
def CHR_CFG_SLEW_MAX : Fld := .at 0xF000100020 24 8
def CHR_CFG_STEP_EN : Fld := .at 0xF000100020 16 1
def CHR_CFG_SRC_ORDER : Fld := .at 0xF000100020 0 16

/-! CHR_PPS_DLY (Table 3.12) -/
def CHR_PPS_DLY_PPS1 : Fld := .at 0xF000100024 16 16
def CHR_PPS_DLY_PPS0 : Fld := .at 0xF000100024 0 16

/-! CHR_REF (Table 3.12) -/
def CHR_REF_TAI_UTC : Fld := .at 0xF000100028 24 8
def CHR_REF_EDGE1 : Fld := .at 0xF000100028 17 1
def CHR_REF_EDGE0 : Fld := .at 0xF000100028 16 1
def CHR_REF_HOLDOVER_S : Fld := .at 0xF000100028 0 12

/-! CHR_SNAP_AT (Table 3.13) -/
def CHR_SNAP_AT_AT_LO : Fld := .at 0xF00010002C 0 32

/-! CHR_SNAP_CTL (Table 3.13) -/
def CHR_SNAP_CTL_GO : Fld := .at 0xF000100030 31 1
def CHR_SNAP_CTL_RESULT : Fld := .at 0xF000100030 24 3
def CHR_SNAP_CTL_SLOT : Fld := .at 0xF000100030 16 2
def CHR_SNAP_CTL_AT_HI : Fld := .at 0xF000100030 0 16

/-! CHR_SNAP_STAT (Table 3.13) -/
def CHR_SNAP_STAT_FIRED : Fld := .at 0xF000100034 4 4
def CHR_SNAP_STAT_ARMED : Fld := .at 0xF000100034 0 4

/-! CHR_CLKSTAT (Table 3.14) -/
def CHR_CLKSTAT_TCXO_RATE : Fld := .at 0xF000100038 8 1
def CHR_CLKSTAT_LOCK_D : Fld := .at 0xF000100038 3 1
def CHR_CLKSTAT_LOCK_C : Fld := .at 0xF000100038 2 1
def CHR_CLKSTAT_LOCK_P : Fld := .at 0xF000100038 1 1
def CHR_CLKSTAT_LOCK_T : Fld := .at 0xF000100038 0 1

/-! CHR_XING (Table 3.14) -/
def CHR_XING_LAST_ID : Fld := .at 0xF00010003C 16 16
def CHR_XING_LOST : Fld := .at 0xF00010003C 0 16

/-! MRD_STATUS (Table 4.21) -/
def MRD_STATUS_PRESENT_N : Fld := .at 0xF000200000 16 8
def MRD_STATUS_INSERT : Fld := .at 0xF000200000 8 4
def MRD_STATUS_SYNTON : Fld := .at 0xF000200000 6 1
def MRD_STATUS_WRAP_SEEN : Fld := .at 0xF000200000 5 1
def MRD_STATUS_CCW_DEAD : Fld := .at 0xF000200000 4 1
def MRD_STATUS_CW_DEAD : Fld := .at 0xF000200000 3 1
def MRD_STATUS_YIELDED : Fld := .at 0xF000200000 2 1
def MRD_STATUS_LAUNCH : Fld := .at 0xF000200000 1 1
def MRD_STATUS_ROLE : Fld := .at 0xF000200000 0 1

/-! MRD_RTT (Table 4.22) -/
def MRD_RTT_RTT_CCW : Fld := .at 0xF000200004 16 16
def MRD_RTT_RTT_CW : Fld := .at 0xF000200004 0 16

/-! MRD_PRESENT (Table 4.23) -/
def MRD_PRESENT_BITS (i : Nat) : Fld := .at (0xF000200008 + 0x4 * i) 0 32

/-! MRD_RUN (Table 4.23) -/
def MRD_RUN_BITS (i : Nat) : Fld := .at (0xF000200010 + 0x4 * i) 0 32

/-! MRD_MISM (Table 4.23) -/
def MRD_MISM_BITS (i : Nat) : Fld := .at (0xF000200018 + 0x4 * i) 0 32

/-! MRD_ERR_A (Table 4.24) -/
def MRD_ERR_A_HCRC : Fld := .at 0xF000200020 16 16
def MRD_ERR_A_SLOTCRC : Fld := .at 0xF000200020 0 16

/-! MRD_ERR_B (Table 4.24) -/
def MRD_ERR_B_MISMATCH : Fld := .at 0xF000200024 16 16
def MRD_ERR_B_MISSING : Fld := .at 0xF000200024 0 16

/-! MRD_CFG (Table 4.24) -/
def MRD_CFG_TAKEOVER : Fld := .at 0xF000200028 16 1
def MRD_CFG_MAIL_LEN : Fld := .at 0xF000200028 0 11

/-! MRD_MAPSTAT (Table 4.24) -/
def MRD_MAPSTAT_MAPVER : Fld := .at 0xF00020002C 16 16
def MRD_MAPSTAT_REJ_D : Fld := .at 0xF00020002C 1 1
def MRD_MAPSTAT_REJ_C : Fld := .at 0xF00020002C 0 1

/-! MRD_CSLOT (Table 4.25) -/
def MRD_CSLOT_ORDER (i : Nat) : Fld := .at (0xF000200100 + 0x4 * i) 16 8
def MRD_CSLOT_EN (i : Nat) : Fld := .at (0xF000200100 + 0x4 * i) 15 1
def MRD_CSLOT_LEN (i : Nat) : Fld := .at (0xF000200100 + 0x4 * i) 0 11

/-! MRD_DSLOT (Table 4.25) -/
def MRD_DSLOT_ORDER (i : Nat) : Fld := .at (0xF000200200 + 0x4 * i) 16 8
def MRD_DSLOT_EN (i : Nat) : Fld := .at (0xF000200200 + 0x4 * i) 15 1
def MRD_DSLOT_LEN (i : Nat) : Fld := .at (0xF000200200 + 0x4 * i) 0 11

/-! HLM_BC_VAL (Table 5.15) -/
def HLM_BC_VAL_VALUE : Fld := .at 0xF000300000 0 32

/-! HLM_BC_CTL (Table 5.15) -/
def HLM_BC_CTL_GO : Fld := .at 0xF000300004 31 1
def HLM_BC_CTL_GMASK : Fld := .at 0xF000300004 8 8
def HLM_BC_CTL_WORD : Fld := .at 0xF000300004 0 4

/-! HLM_SUM (Table 5.15) -/
def HLM_SUM_TT_FAIL : Fld := .at 0xF000300008 24 8
def HLM_SUM_DEGRADED : Fld := .at 0xF000300008 16 8
def HLM_SUM_IDLE : Fld := .at 0xF000300008 0 8

/-! HLM_GSTAT (Table 5.16) -/
def HLM_GSTAT_TT_CODE (i : Nat) : Fld := .at (0xF000310000 + 0x10000 * i) 16 8
def HLM_GSTAT_SL_OK (i : Nat) : Fld := .at (0xF000310000 + 0x10000 * i) 8 5
def HLM_GSTAT_RESETTING (i : Nat) : Fld := .at (0xF000310000 + 0x10000 * i) 4 1
def HLM_GSTAT_TT_FAIL (i : Nat) : Fld := .at (0xF000310000 + 0x10000 * i) 3 1
def HLM_GSTAT_TT_STALE (i : Nat) : Fld := .at (0xF000310000 + 0x10000 * i) 2 1
def HLM_GSTAT_DEGRADED (i : Nat) : Fld := .at (0xF000310000 + 0x10000 * i) 1 1
def HLM_GSTAT_IDLE (i : Nat) : Fld := .at (0xF000310000 + 0x10000 * i) 0 1

/-! HLM_GRES (Table 5.16) -/
def HLM_GRES_ROWS_OK (i : Nat) : Fld := .at (0xF000310004 + 0x10000 * i) 16 16
def HLM_GRES_ROWS_SPARE (i : Nat) : Fld := .at (0xF000310004 + 0x10000 * i) 8 8
def HLM_GRES_SL_SPARE (i : Nat) : Fld := .at (0xF000310004 + 0x10000 * i) 0 3

/-! HLM_GRST (Table 5.16) -/
def HLM_GRST_GROUP (i : Nat) : Fld := .at (0xF000310008 + 0x10000 * i) 31 1
def HLM_GRST_CH (i : Nat) : Fld := .at (0xF000310008 + 0x10000 * i) 0 16

/-! HLM_BCW (Table 5.16) -/
def HLM_BCW_VALUE (i j : Nat) : Fld := .at (0xF000310040 + 0x10000 * i + 0x4 * j) 0 32

/-! HLM_SP (Table 5.17) -/
def HLM_SP_VALUE (n : Nat) : Fld := .at (0xF000311080 + 0x10000 * (n / 16) + 0x100 * (n % 16)) 0 32

/-! HLM_CHST (Table 5.17) -/
def HLM_CHST_INVCNT (n : Nat) : Fld := .at (0xF000311084 + 0x10000 * (n / 16) + 0x100 * (n % 16)) 16 8
def HLM_CHST_SP_INVALID (n : Nat) : Fld := .at (0xF000311084 + 0x10000 * (n / 16) + 0x100 * (n % 16)) 9 1
def HLM_CHST_IN_INVALID (n : Nat) : Fld := .at (0xF000311084 + 0x10000 * (n / 16) + 0x100 * (n % 16)) 8 1
def HLM_CHST_CLIP (n : Nat) : Fld := .at (0xF000311084 + 0x10000 * (n / 16) + 0x100 * (n % 16)) 4 2
def HLM_CHST_STATE (n : Nat) : Fld := .at (0xF000311084 + 0x10000 * (n / 16) + 0x100 * (n % 16)) 0 3

/-! HLM_CHY (Table 5.17) -/
def HLM_CHY_VALUE (n : Nat) : Fld := .at (0xF000311088 + 0x10000 * (n / 16) + 0x100 * (n % 16)) 0 32

/-! HLM_CHU (Table 5.17) -/
def HLM_CHU_VALUE (n : Nat) : Fld := .at (0xF00031108C + 0x10000 * (n / 16) + 0x100 * (n % 16)) 0 32

/-! HLM_CHRAW (Table 5.17) -/
def HLM_CHRAW_VALUE (n : Nat) : Fld := .at (0xF000311090 + 0x10000 * (n / 16) + 0x100 * (n % 16)) 0 32

/-! HLM_CHCNT (Table 5.17) -/
def HLM_CHCNT_VALUE (n : Nat) : Fld := .at (0xF000311094 + 0x10000 * (n / 16) + 0x100 * (n % 16)) 0 32

/-! HLM_AM (Table 6.9) -/
def HLM_AM_REASON (n : Nat) : Fld := .at (0xF000316020 + 0x10000 * (n / 16) + 0x40 * (n % 16)) 12 4
def HLM_AM_REFUSED (n : Nat) : Fld := .at (0xF000316020 + 0x10000 * (n / 16) + 0x40 * (n % 16)) 11 1
def HLM_AM_FORCED (n : Nat) : Fld := .at (0xF000316020 + 0x10000 * (n / 16) + 0x40 * (n % 16)) 10 1
def HLM_AM_DISAGREE (n : Nat) : Fld := .at (0xF000316020 + 0x10000 * (n / 16) + 0x40 * (n % 16)) 9 1
def HLM_AM_AM (n : Nat) : Fld := .at (0xF000316020 + 0x10000 * (n / 16) + 0x40 * (n % 16)) 8 1
def HLM_AM_MAN_INV (n : Nat) : Fld := .at (0xF000316020 + 0x10000 * (n / 16) + 0x40 * (n % 16)) 1 1
def HLM_AM_REQ (n : Nat) : Fld := .at (0xF000316020 + 0x10000 * (n / 16) + 0x40 * (n % 16)) 0 1

/-! HLM_MAN (Table 6.9) -/
def HLM_MAN_VALUE (n : Nat) : Fld := .at (0xF000316024 + 0x10000 * (n / 16) + 0x40 * (n % 16)) 0 32

/-! HLM_HOV (Table 6.9) -/
def HLM_HOV_ACTIVE (n : Nat) : Fld := .at (0xF000316028 + 0x10000 * (n / 16) + 0x40 * (n % 16)) 31 1
def HLM_HOV_CAUSE (n : Nat) : Fld := .at (0xF000316028 + 0x10000 * (n / 16) + 0x40 * (n % 16)) 24 3
def HLM_HOV_TICKS (n : Nat) : Fld := .at (0xF000316028 + 0x10000 * (n / 16) + 0x40 * (n % 16)) 0 16

/-! HLM_HOVD (Table 6.9) -/
def HLM_HOVD_VALUE (n : Nat) : Fld := .at (0xF00031602C + 0x10000 * (n / 16) + 0x40 * (n % 16)) 0 32

/-! HLM_RATE (Table 6.9) -/
def HLM_RATE_TOFF_NOW (n : Nat) : Fld := .at (0xF000316030 + 0x10000 * (n / 16) + 0x40 * (n % 16)) 16 7
def HLM_RATE_K_NOW (n : Nat) : Fld := .at (0xF000316030 + 0x10000 * (n / 16) + 0x40 * (n % 16)) 8 3
def HLM_RATE_K_CFG (n : Nat) : Fld := .at (0xF000316030 + 0x10000 * (n / 16) + 0x40 * (n % 16)) 0 3

/-! HLM_OVR (Table 6.9) -/
def HLM_OVR_TOTAL (n : Nat) : Fld := .at (0xF000316034 + 0x10000 * (n / 16) + 0x40 * (n % 16)) 16 16
def HLM_OVR_CONSEC (n : Nat) : Fld := .at (0xF000316034 + 0x10000 * (n / 16) + 0x40 * (n % 16)) 0 8

/-! HLM_FB (Table 6.10) -/
def HLM_FB_STEPS (i : Nat) : Fld := .at (0xF000316400 + 0x10000 * i) 24 8
def HLM_FB_A (i : Nat) : Fld := .at (0xF000316400 + 0x10000 * i) 8 16
def HLM_FB_NOSPARE (i : Nat) : Fld := .at (0xF000316400 + 0x10000 * i) 4 4
def HLM_FB_READY (i : Nat) : Fld := .at (0xF000316400 + 0x10000 * i) 0 4

/-! HLM_TWSEL (Table 6.10) -/
def HLM_TWSEL_TAB (i : Nat) : Fld := .at (0xF000316404 + 0x10000 * i) 8 2
def HLM_TWSEL_CH (i : Nat) : Fld := .at (0xF000316404 + 0x10000 * i) 0 4

/-! DIO_PC_STAT (Table 6.11) -/
def DIO_PC_STAT_BAND (i : Nat) : Fld := .at (0xF001100000 + 0x10 * i) 29 3
def DIO_PC_STAT_DUTY_MAX (i : Nat) : Fld := .at (0xF001100000 + 0x10 * i) 4 1
def DIO_PC_STAT_SUPPLY_LOST (i : Nat) : Fld := .at (0xF001100000 + 0x10 * i) 3 1
def DIO_PC_STAT_OPEN (i : Nat) : Fld := .at (0xF001100000 + 0x10 * i) 2 1
def DIO_PC_STAT_FAULTY (i : Nat) : Fld := .at (0xF001100000 + 0x10 * i) 1 1
def DIO_PC_STAT_OC (i : Nat) : Fld := .at (0xF001100000 + 0x10 * i) 0 1

/-! DIO_PC_I (Table 6.11) -/
def DIO_PC_I_VALUE (i : Nat) : Fld := .at (0xF001100004 + 0x10 * i) 0 32

/-! DIO_PC_R (Table 6.11) -/
def DIO_PC_R_VALUE (i : Nat) : Fld := .at (0xF001100008 + 0x10 * i) 0 32

/-! DIO_PC_T (Table 6.11) -/
def DIO_PC_T_TCOIL (i : Nat) : Fld := .at (0xF00110000C + 0x10 * i) 0 16

/-! DIO_AI_VAL (Table 6.11) -/
def DIO_AI_VAL_VALUE (i : Nat) : Fld := .at (0xF001100100 + 0x8 * i) 0 32

/-! DIO_AI_STAT (Table 6.11) -/
def DIO_AI_STAT_CAL_DELTA (i : Nat) : Fld := .at (0xF001100104 + 0x8 * i) 8 24
def DIO_AI_STAT_NOMOD (i : Nat) : Fld := .at (0xF001100104 + 0x8 * i) 2 1
def DIO_AI_STAT_BURDEN (i : Nat) : Fld := .at (0xF001100104 + 0x8 * i) 1 1
def DIO_AI_STAT_FAULTY (i : Nat) : Fld := .at (0xF001100104 + 0x8 * i) 0 1

/-! DIO_PI_CNT (Table 6.11) -/
def DIO_PI_CNT_VALUE (i : Nat) : Fld := .at (0xF001100200 + 0x8 * i) 0 32

/-! DIO_PI_RATE (Table 6.11) -/
def DIO_PI_RATE_VALUE (i : Nat) : Fld := .at (0xF001100204 + 0x8 * i) 0 32

/-! DIO_IN (Table 6.11) -/
def DIO_IN_LEVEL : Fld := .at 0xF001100280 0 16

/-! DIO_OUT (Table 6.11) -/
def DIO_OUT_STATE : Fld := .at 0xF001100284 0 16

/-! DIO_OFLT (Table 6.11) -/
def DIO_OFLT_OC : Fld := .at 0xF001100288 0 16

/-! PLT_STATUS (Table 7.10) -/
def PLT_STATUS_VS_STATE : Fld := .at 0xF000400000 4 4
def PLT_STATUS_RESTRICT : Fld := .at 0xF000400000 1 1
def PLT_STATUS_IDLE : Fld := .at 0xF000400000 0 1

/-! PLT_CTL (Table 7.10) -/
def PLT_CTL_STOP : Fld := .at 0xF000400004 0 1

/-! PLT_JOBS (Table 7.10) -/
def PLT_JOBS_HWM : Fld := .at 0xF000400008 16 10
def PLT_JOBS_INFLIGHT : Fld := .at 0xF000400008 0 10

/-! PLT_CNT_MISSED (Table 7.10) -/
def PLT_CNT_MISSED_VALUE : Fld := .at 0xF00040000C 0 32

/-! PLT_CNT_LATE (Table 7.10) -/
def PLT_CNT_LATE_VALUE : Fld := .at 0xF000400010 0 32

/-! PLT_CNT_DROP (Table 7.10) -/
def PLT_CNT_DROP_VALUE : Fld := .at 0xF000400014 0 32

/-! PLT_CNT_REVDROP (Table 7.10) -/
def PLT_CNT_REVDROP_VALUE : Fld := .at 0xF000400018 0 32

/-! PLT_VS_CNT (Table 7.10) -/
def PLT_VS_CNT_GATED : Fld := .at 0xF00040001C 16 16
def PLT_VS_CNT_REPLAYS : Fld := .at 0xF00040001C 0 16

/-! PLT_GUIDE_AE (Table 7.11) -/
def PLT_GUIDE_AE_VALUE : Fld := .at 0xF000400040 0 32

/-! PLT_GUIDE_AN (Table 7.11) -/
def PLT_GUIDE_AN_VALUE : Fld := .at 0xF000400044 0 32

/-! PLT_GUIDE_BE (Table 7.11) -/
def PLT_GUIDE_BE_VALUE : Fld := .at 0xF000400048 0 32

/-! PLT_GUIDE_BN (Table 7.11) -/
def PLT_GUIDE_BN_VALUE : Fld := .at 0xF00040004C 0 32

/-! PLT_GUIDE_CTL (Table 7.11) -/
def PLT_GUIDE_CTL_EN : Fld := .at 0xF000400050 0 1

/-! PLT_SRC_STAT (Table 7.11) -/
def PLT_SRC_STAT_HELD (i : Nat) : Fld := .at (0xF000400100 + 0x10 * i) 8 8
def PLT_SRC_STAT_REASON (i : Nat) : Fld := .at (0xF000400100 + 0x10 * i) 4 3
def PLT_SRC_STAT_STATE (i : Nat) : Fld := .at (0xF000400100 + 0x10 * i) 0 2

/-! PLT_SRC_RES (Table 7.11) -/
def PLT_SRC_RES_VALUE (i : Nat) : Fld := .at (0xF000400104 + 0x10 * i) 0 32

/-! PLT_SRC_RATE (Table 7.11) -/
def PLT_SRC_RATE_VALUE (i : Nat) : Fld := .at (0xF000400108 + 0x10 * i) 0 32

/-! PLT_SRC_CNT (Table 7.11) -/
def PLT_SRC_CNT_QUAR (i : Nat) : Fld := .at (0xF00040010C + 0x10 * i) 16 16
def PLT_SRC_CNT_DISC (i : Nat) : Fld := .at (0xF00040010C + 0x10 * i) 0 16

/-! PLT_P_WIDX (Table 7.11) -/
def PLT_P_WIDX_VALUE (i : Nat) : Fld := .at (0xF000400500 + 0x10 * i) 0 32

/-! PLT_P_QBASE_LO (Table 7.11) -/
def PLT_P_QBASE_LO_VALUE (i : Nat) : Fld := .at (0xF000400504 + 0x10 * i) 0 32

/-! PLT_P_QBASE_HI (Table 7.11) -/
def PLT_P_QBASE_HI_VALUE (i : Nat) : Fld := .at (0xF000400508 + 0x10 * i) 0 8

/-! PLT_P_LAST (Table 7.11) -/
def PLT_P_LAST_SEQ (i : Nat) : Fld := .at (0xF00040050C + 0x10 * i) 16 16
def PLT_P_LAST_REV (i : Nat) : Fld := .at (0xF00040050C + 0x10 * i) 0 8

/-! PLT_TRK_STAT (Table 8.11) -/
def PLT_TRK_STAT_NEXT_ID : Fld := .at 0xF000408000 16 16
def PLT_TRK_STAT_USED : Fld := .at 0xF000408000 0 9

/-! PLT_TRK_CNT (Table 8.11) -/
def PLT_TRK_CNT_REFUSED : Fld := .at 0xF000408004 16 16
def PLT_TRK_CNT_OOS : Fld := .at 0xF000408004 0 16

/-! PLT_TRK_BUF_LO (Table 8.11) -/
def PLT_TRK_BUF_LO_VALUE : Fld := .at 0xF000408008 0 32

/-! PLT_TRK_BUF_HI (Table 8.11) -/
def PLT_TRK_BUF_HI_CUR : Fld := .at 0xF00040800C 8 1
def PLT_TRK_BUF_HI_VALUE : Fld := .at 0xF00040800C 0 8

/-! PLT_YLD_STAT (Table 8.11) -/
def PLT_YLD_STAT_LOAD : Fld := .at 0xF000408010 16 16
def PLT_YLD_STAT_LOAD_OPEN : Fld := .at 0xF000408010 7 1
def PLT_YLD_STAT_UNLOADING : Fld := .at 0xF000408010 6 1
def PLT_YLD_STAT_WIN_OK : Fld := .at 0xF000408010 5 1
def PLT_YLD_STAT_INV : Fld := .at 0xF000408010 0 4

/-! PLT_YLD_CAL (Table 8.11) -/
def PLT_YLD_CAL_VALUE : Fld := .at 0xF000408014 0 32

/-! PLT_TANK_M (Table 8.11) -/
def PLT_TANK_M_VALUE : Fld := .at 0xF000408018 0 32

/-! PLT_YLD_CNT (Table 8.11) -/
def PLT_YLD_CNT_TDROP : Fld := .at 0xF00040801C 16 16
def PLT_YLD_CNT_WREJ : Fld := .at 0xF00040801C 0 16

/-! PLT_TANK_CTL (Table 8.11) -/
def PLT_TANK_CTL_GO : Fld := .at 0xF000408020 31 1
def PLT_TANK_CTL_RESULT : Fld := .at 0xF000408020 16 3
def PLT_TANK_CTL_OP : Fld := .at 0xF000408020 0 2

/-! PLT_TANK_REF (Table 8.11) -/
def PLT_TANK_REF_VALUE : Fld := .at 0xF000408024 0 32

/-! PLT_CELLQ_WIDX (Table 8.11) -/
def PLT_CELLQ_WIDX_VALUE : Fld := .at 0xF000408028 0 32

/-! PLT_LOADQ_WIDX (Table 8.11) -/
def PLT_LOADQ_WIDX_VALUE : Fld := .at 0xF00040802C 0 32

/-! PLT_CELLQ_BASE_LO (Table 8.11) -/
def PLT_CELLQ_BASE_LO_VALUE : Fld := .at 0xF000408030 0 32

/-! PLT_CELLQ_BASE_HI (Table 8.11) -/
def PLT_CELLQ_BASE_HI_VALUE : Fld := .at 0xF000408034 0 8

/-! PLT_LOADQ_BASE_LO (Table 8.11) -/
def PLT_LOADQ_BASE_LO_VALUE : Fld := .at 0xF000408038 0 32

/-! PLT_LOADQ_BASE_HI (Table 8.11) -/
def PLT_LOADQ_BASE_HI_VALUE : Fld := .at 0xF00040803C 0 8

/-! PLT_TILES (Table 8.11) -/
def PLT_TILES_DIRTY : Fld := .at 0xF000408040 16 16
def PLT_TILES_USED : Fld := .at 0xF000408040 0 16

/-! PLT_TILEDIR_LO (Table 8.11) -/
def PLT_TILEDIR_LO_VALUE : Fld := .at 0xF000408044 0 32

/-! PLT_TILEDIR_HI (Table 8.11) -/
def PLT_TILEDIR_HI_VALUE : Fld := .at 0xF000408048 0 8

/-! SXT_PORT_STAT (Table 9.12) -/
def SXT_PORT_STAT_GEAR (i : Nat) : Fld := .at (0xF000500000 + 0x40 * i) 8 2
def SXT_PORT_STAT_STATE (i : Nat) : Fld := .at (0xF000500000 + 0x40 * i) 0 2

/-! SXT_PORT_LAST (Table 9.12) -/
def SXT_PORT_LAST_VLINES (i : Nat) : Fld := .at (0xF000500004 + 0x40 * i) 16 16
def SXT_PORT_LAST_FLAGS (i : Nat) : Fld := .at (0xF000500004 + 0x40 * i) 0 16

/-! SXT_PORT_CNT (Table 9.12) -/
def SXT_PORT_CNT_TRUNC (i : Nat) : Fld := .at (0xF000500008 + 0x40 * i) 24 8
def SXT_PORT_CNT_LONG (i : Nat) : Fld := .at (0xF000500008 + 0x40 * i) 16 8
def SXT_PORT_CNT_SHORT (i : Nat) : Fld := .at (0xF000500008 + 0x40 * i) 8 8
def SXT_PORT_CNT_MISSED (i : Nat) : Fld := .at (0xF000500008 + 0x40 * i) 0 8

/-! SXT_PORT_PERR (Table 9.12) -/
def SXT_PORT_PERR_HDR (i : Nat) : Fld := .at (0xF00050000C + 0x40 * i) 16 16
def SXT_PORT_PERR_LINE (i : Nat) : Fld := .at (0xF00050000C + 0x40 * i) 0 16

/-! SXT_PORT_HWM (Table 9.12) -/
def SXT_PORT_HWM_VALUE (i : Nat) : Fld := .at (0xF000500010 + 0x40 * i) 0 32

/-! SXT_PORT_RSEL (Table 9.12) -/
def SXT_PORT_RSEL_RING (i : Nat) : Fld := .at (0xF000500014 + 0x40 * i) 0 2

/-! SXT_PORT_RADDR_LO (Table 9.12) -/
def SXT_PORT_RADDR_LO_VALUE (i : Nat) : Fld := .at (0xF000500018 + 0x40 * i) 0 32

/-! SXT_PORT_RADDR_HI (Table 9.12) -/
def SXT_PORT_RADDR_HI_VALUE (i : Nat) : Fld := .at (0xF00050001C + 0x40 * i) 0 8

/-! SXT_PORT_RWIDX (Table 9.12) -/
def SXT_PORT_RWIDX_VALUE (i : Nat) : Fld := .at (0xF000500020 + 0x40 * i) 0 32

/-! SXT_PIPE_STAT (Table 9.12) -/
def SXT_PIPE_STAT_SETVER (i : Nat) : Fld := .at (0xF000500200 + 0x40 * i) 16 16
def SXT_PIPE_STAT_CUR (i : Nat) : Fld := .at (0xF000500200 + 0x40 * i) 2 1
def SXT_PIPE_STAT_BUSY (i : Nat) : Fld := .at (0xF000500200 + 0x40 * i) 1 1
def SXT_PIPE_STAT_IDLE (i : Nat) : Fld := .at (0xF000500200 + 0x40 * i) 0 1

/-! SXT_PIPE_CTL (Table 9.12) -/
def SXT_PIPE_CTL_PAUSE (i : Nat) : Fld := .at (0xF000500204 + 0x40 * i) 0 1

/-! SXT_PIPE_LAT (Table 9.12) -/
def SXT_PIPE_LAT_VALUE (i : Nat) : Fld := .at (0xF000500208 + 0x40 * i) 0 32

/-! SXT_ENC_STAT (Table 9.12) -/
def SXT_ENC_STAT_IDR_PEND (i : Nat) : Fld := .at (0xF000500300 + 0x20 * i) 1 1
def SXT_ENC_STAT_ON (i : Nat) : Fld := .at (0xF000500300 + 0x20 * i) 0 1

/-! SXT_ENC_RD (Table 9.12) -/
def SXT_ENC_RD_VALUE (i : Nat) : Fld := .at (0xF000500304 + 0x20 * i) 0 32

/-! SXT_ENC_WR (Table 9.12) -/
def SXT_ENC_WR_VALUE (i : Nat) : Fld := .at (0xF000500308 + 0x20 * i) 0 32

/-! SXT_ENC_BASE_LO (Table 9.12) -/
def SXT_ENC_BASE_LO_VALUE (i : Nat) : Fld := .at (0xF00050030C + 0x20 * i) 0 32

/-! SXT_ENC_BASE_HI (Table 9.12) -/
def SXT_ENC_BASE_HI_VALUE (i : Nat) : Fld := .at (0xF000500310 + 0x20 * i) 0 8

/-! SXT_ENC_DROP (Table 9.12) -/
def SXT_ENC_DROP_VALUE (i : Nat) : Fld := .at (0xF000500314 + 0x20 * i) 0 32

/-! LKT_STAT (Table 9.13) -/
def LKT_STAT_WAITING : Fld := .at 0xF000600000 8 5
def LKT_STAT_BIND : Fld := .at 0xF000600000 2 4
def LKT_STAT_BUSY : Fld := .at 0xF000600000 1 1
def LKT_STAT_IDLE : Fld := .at 0xF000600000 0 1

/-! LKT_CTL (Table 9.13) -/
def LKT_CTL_PAUSE : Fld := .at 0xF000600004 0 1

/-! LKT_CNT (Table 9.13) -/
def LKT_CNT_ABORT : Fld := .at 0xF000600008 16 16
def LKT_CNT_SKIP : Fld := .at 0xF000600008 0 16

/-! LKT_RUNS (Table 9.13) -/
def LKT_RUNS_VALUE : Fld := .at 0xF00060000C 0 32

/-! LKT_RING_LO (Table 9.13) -/
def LKT_RING_LO_VALUE : Fld := .at 0xF000600010 0 32

/-! LKT_RING_HI (Table 9.13) -/
def LKT_RING_HI_VALUE : Fld := .at 0xF000600014 0 8

/-! LKT_RING_WIDX (Table 9.13) -/
def LKT_RING_WIDX_VALUE : Fld := .at 0xF000600018 0 32

/-! LKT_BIND_CYC (Table 9.13) -/
def LKT_BIND_CYC_VALUE (i : Nat) : Fld := .at (0xF000600100 + 0x10 * i) 0 32

/-! LKT_BIND_LAST (Table 9.13) -/
def LKT_BIND_LAST_FRAME_NO (i : Nat) : Fld := .at (0xF000600104 + 0x10 * i) 16 16
def LKT_BIND_LAST_COUNT (i : Nat) : Fld := .at (0xF000600104 + 0x10 * i) 0 7

/-! SPD_MARCH_CTL (Table 10.8) -/
def SPD_MARCH_CTL_GO : Fld := .at 0xF000700000 31 1
def SPD_MARCH_CTL_MODE : Fld := .at 0xF000700000 30 1
def SPD_MARCH_CTL_RESULT : Fld := .at 0xF000700000 24 3
def SPD_MARCH_CTL_BANK : Fld := .at 0xF000700000 16 5
def SPD_MARCH_CTL_FIRST : Fld := .at 0xF000700000 8 8
def SPD_MARCH_CTL_LAST : Fld := .at 0xF000700000 0 8

/-! SPD_MARCH_RES (Table 10.8) -/
def SPD_MARCH_RES_FAILS : Fld := .at 0xF000700004 16 16
def SPD_MARCH_RES_ROW : Fld := .at 0xF000700004 0 8

/-! SPD_MBX_IDX (Table 10.8) -/
def SPD_MBX_IDX_INDEX : Fld := .at 0xF000700010 0 16

/-! SPD_MBX_VAL (Table 10.8) -/
def SPD_MBX_VAL_VALUE : Fld := .at 0xF000700014 0 32

/-! SPD_MBX_CTL (Table 10.8) -/
def SPD_MBX_CTL_GO : Fld := .at 0xF000700018 31 1
def SPD_MBX_CTL_RESULT : Fld := .at 0xF000700018 24 3
def SPD_MBX_CTL_VALID : Fld := .at 0xF000700018 8 1
def SPD_MBX_CTL_EXP : Fld := .at 0xF000700018 0 8

/-! SPD_MBX_RD (Table 10.8) -/
def SPD_MBX_RD_VALUE : Fld := .at 0xF00070001C 0 32

/-! SPD_MBX_RDST (Table 10.8) -/
def SPD_MBX_RDST_VALID : Fld := .at 0xF000700020 0 1

/-! SPD_CONF (Table 10.8) -/
def SPD_CONF_VALUE (i : Nat) : Fld := .at (0xF000700040 + 0x4 * i) 0 32

/-! SPD_SCRUB (Table 10.8) -/
def SPD_SCRUB_PASSES : Fld := .at 0xF000700060 0 32

/-! SPD_BANK_HEALTH (Table 10.8) -/
def SPD_BANK_HEALTH_CE (i : Nat) : Fld := .at (0xF000700100 + 0x4 * i) 24 8
def SPD_BANK_HEALTH_SPARE_LEFT (i : Nat) : Fld := .at (0xF000700100 + 0x4 * i) 16 6
def SPD_BANK_HEALTH_UNREPAIRED (i : Nat) : Fld := .at (0xF000700100 + 0x4 * i) 8 8
def SPD_BANK_HEALTH_UE (i : Nat) : Fld := .at (0xF000700100 + 0x4 * i) 0 8

/-! FAB_STATUS (Table 10.9) -/
def FAB_STATUS_HWM : Fld := .at 0xF000800000 16 10
def FAB_STATUS_INFLIGHT : Fld := .at 0xF000800000 0 10

/-! FAB_ERR (Table 10.9) -/
def FAB_ERR_CE : Fld := .at 0xF000800004 16 16
def FAB_ERR_UE : Fld := .at 0xF000800004 0 16

/-! FAB_CLASS (Table 10.9) -/
def FAB_CLASS_TAGS_HWM (i : Nat) : Fld := .at (0xF000800100 + 0x4 * i) 24 8
def FAB_CLASS_BW (i : Nat) : Fld := .at (0xF000800100 + 0x4 * i) 0 16

/-! BUS_STAT (Table 11.7) -/
def BUS_STAT_TXQ (i : Nat) : Fld := .at (0xF000900000 + 0x10000 * i) 8 6
def BUS_STAT_CLK_LOST (i : Nat) : Fld := .at (0xF000900000 + 0x10000 * i) 5 1
def BUS_STAT_STOPPED (i : Nat) : Fld := .at (0xF000900000 + 0x10000 * i) 4 1
def BUS_STAT_SILENT (i : Nat) : Fld := .at (0xF000900000 + 0x10000 * i) 3 1
def BUS_STAT_ESTATE (i : Nat) : Fld := .at (0xF000900000 + 0x10000 * i) 0 2

/-! BUS_ERRC (Table 11.7) -/
def BUS_ERRC_BOFF (i : Nat) : Fld := .at (0xF000900004 + 0x10000 * i) 24 8
def BUS_ERRC_TEC (i : Nat) : Fld := .at (0xF000900004 + 0x10000 * i) 16 8
def BUS_ERRC_REC (i : Nat) : Fld := .at (0xF000900004 + 0x10000 * i) 8 8
def BUS_ERRC_LEC (i : Nat) : Fld := .at (0xF000900004 + 0x10000 * i) 0 3

/-! BUS_CTL (Table 11.7) -/
def BUS_CTL_RECOVER (i : Nat) : Fld := .at (0xF000900008 + 0x10000 * i) 2 1
def BUS_CTL_STOP (i : Nat) : Fld := .at (0xF000900008 + 0x10000 * i) 0 1

/-! BUS_TXCMD (Table 11.7) -/
def BUS_TXCMD_GO (i : Nat) : Fld := .at (0xF00090000C + 0x10000 * i) 31 1
def BUS_TXCMD_RESULT (i : Nat) : Fld := .at (0xF00090000C + 0x10000 * i) 24 3
def BUS_TXCMD_OP (i : Nat) : Fld := .at (0xF00090000C + 0x10000 * i) 8 2
def BUS_TXCMD_MOVED (i : Nat) : Fld := .at (0xF00090000C + 0x10000 * i) 0 6

/-! BUS_TXKEY (Table 11.7) -/
def BUS_TXKEY_KEY (i : Nat) : Fld := .at (0xF000900010 + 0x10000 * i) 0 30

/-! BUS_TXDONE (Table 11.7) -/
def BUS_TXDONE_TAG (i : Nat) : Fld := .at (0xF000900014 + 0x10000 * i) 0 16

/-! BUS_TXSTAMP (Table 11.7) -/
def BUS_TXSTAMP_VALUE (i j : Nat) : Fld := .at (0xF000900018 + 0x10000 * i + 0x4 * j) 0 32

/-! BUS_CNT0 (Table 11.7) -/
def BUS_CNT0_UNMATCHED (i : Nat) : Fld := .at (0xF000900020 + 0x10000 * i) 16 16
def BUS_CNT0_LOST (i : Nat) : Fld := .at (0xF000900020 + 0x10000 * i) 0 16

/-! BUS_CNT1 (Table 11.7) -/
def BUS_CNT1_TXDROP (i : Nat) : Fld := .at (0xF000900024 + 0x10000 * i) 16 16
def BUS_CNT1_FWDROP (i : Nat) : Fld := .at (0xF000900024 + 0x10000 * i) 0 16

/-! BUS_TXW (Table 11.7) -/
def BUS_TXW_VALUE (i j : Nat) : Fld := .at (0xF000900040 + 0x10000 * i + 0x4 * j) 0 32

/-! BUS_TXSUB (Table 11.7) -/
def BUS_TXSUB_GO (i : Nat) : Fld := .at (0xF000900088 + 0x10000 * i) 31 1
def BUS_TXSUB_RESULT (i : Nat) : Fld := .at (0xF000900088 + 0x10000 * i) 0 2

/-! BUS_TXO_STAT (Table 11.7) -/
def BUS_TXO_STAT_STALE (i j : Nat) : Fld := .at (0xF000904000 + 0x10000 * i + 0x10 * j) 16 16
def BUS_TXO_STAT_SKIP (i j : Nat) : Fld := .at (0xF000904000 + 0x10000 * i + 0x10 * j) 0 16

/-! BUS_TXO_SOF (Table 11.7) -/
def BUS_TXO_SOF_VALUE (i j k : Nat) : Fld := .at (0xF000904004 + 0x10000 * i + 0x10 * j + 0x4 * k) 0 32

/-! REP_STAT (Table 12.11) -/
def REP_STAT_ACTIVE : Fld := .at 0xF000B00000 24 6
def REP_STAT_DEFERRED : Fld := .at 0xF000B00000 16 6
def REP_STAT_TABLE_FULL : Fld := .at 0xF000B00000 7 1
def REP_STAT_DP_FAIL : Fld := .at 0xF000B00000 6 1
def REP_STAT_DP_CAUSE : Fld := .at 0xF000B00000 0 4

/-! REP_CFG (Table 12.11) -/
def REP_CFG_TRANS_WIN : Fld := .at 0xF000B00004 16 16
def REP_CFG_DRAM_UE_MAX : Fld := .at 0xF000B00004 8 8
def REP_CFG_TRANS_MAX : Fld := .at 0xF000B00004 0 4

/-! REP_GRP (Table 12.11) -/
def REP_GRP_UNITS_1S (i : Nat) : Fld := .at (0xF000B00010 + 0x4 * i) 16 8
def REP_GRP_ISOLATED (i : Nat) : Fld := .at (0xF000B00010 + 0x4 * i) 0 5

/-! REP_PORT (Table 12.11) -/
def REP_PORT_EAST : Fld := .at 0xF000B00030 2 2
def REP_PORT_WEST : Fld := .at 0xF000B00030 0 2

/-! REP_HSEL (Table 12.11) -/
def REP_HSEL_ENTRY : Fld := .at 0xF000B00040 0 5

/-! REP_HENT0 (Table 12.11) -/
def REP_HENT0_VALID : Fld := .at 0xF000B00044 31 1
def REP_HENT0_STATE : Fld := .at 0xF000B00044 28 3
def REP_HENT0_ESCALATED : Fld := .at 0xF000B00044 27 1
def REP_HENT0_SEV : Fld := .at 0xF000B00044 24 3
def REP_HENT0_REPEAT : Fld := .at 0xF000B00044 16 8

/-! REP_HENT1 (Table 12.11) -/
def REP_HENT1_UNIT : Fld := .at 0xF000B00048 0 32

/-! REP_HENT23 (Table 12.11) -/
def REP_HENT23_VALUE (i : Nat) : Fld := .at (0xF000B0004C + 0x4 * i) 0 32

/-! REP_CMD (Table 12.11) -/
def REP_CMD_GO : Fld := .at 0xF000B00060 31 1
def REP_CMD_RESULT : Fld := .at 0xF000B00060 24 3
def REP_CMD_OP : Fld := .at 0xF000B00060 0 2

/-! REP_CMDUNIT (Table 12.11) -/
def REP_CMDUNIT_UNIT : Fld := .at 0xF000B00064 0 32

/-! LOG_STAT (Table 12.12) -/
def LOG_STAT_QDEPTH : Fld := .at 0xF000A00000 16 9
def LOG_STAT_MRAM_FAIL : Fld := .at 0xF000A00000 1 1
def LOG_STAT_RECOVERED : Fld := .at 0xF000A00000 0 1

/-! LOG_WIDX (Table 12.12) -/
def LOG_WIDX_WIDX : Fld := .at 0xF000A00004 0 19

/-! LOG_GEN (Table 12.12) -/
def LOG_GEN_VALUE : Fld := .at 0xF000A00008 0 32

/-! LOG_LAST (Table 12.12) -/
def LOG_LAST_SEQ : Fld := .at 0xF000A0000C 16 16
def LOG_LAST_REPEAT : Fld := .at 0xF000A0000C 0 16

/-! LOG_LOST (Table 12.12) -/
def LOG_LOST_VALUE : Fld := .at 0xF000A00010 0 32

/-! LOG_MERGED (Table 12.12) -/
def LOG_MERGED_VALUE : Fld := .at 0xF000A00014 0 32

/-! LOG_RSEL (Table 12.12) -/
def LOG_RSEL_SLOT : Fld := .at 0xF000A00020 0 19

/-! LOG_RD (Table 12.12) -/
def LOG_RD_VALUE (i : Nat) : Fld := .at (0xF000A00040 + 0x4 * i) 0 32

/-! LOG_MASK (Table 12.12) -/
def LOG_MASK_VALUE (i : Nat) : Fld := .at (0xF000A00080 + 0x4 * i) 0 32

/-! UPD_STAT (Table 13.9) -/
def UPD_STAT_RESULT : Fld := .at 0xF000D00000 24 8
def UPD_STAT_STARTS : Fld := .at 0xF000D00000 10 2
def UPD_STAT_MIXED : Fld := .at 0xF000D00000 9 1
def UPD_STAT_STAGED : Fld := .at 0xF000D00000 8 1
def UPD_STAT_STATE : Fld := .at 0xF000D00000 0 3

/-! UPD_PROG (Table 13.9) -/
def UPD_PROG_RX_KIB : Fld := .at 0xF000D00004 16 16
def UPD_PROG_APPLY_KIB : Fld := .at 0xF000D00004 0 16

/-! UPD_UID (Table 13.9) -/
def UPD_UID_VALUE (i : Nat) : Fld := .at (0xF000D00008 + 0x4 * i) 0 32

/-! UPD_WP (Table 13.9) -/
def UPD_WP_VALUE (i : Nat) : Fld := .at (0xF000D00010 + 0x4 * i) 0 32

/-! UPD_WP_AT (Table 13.9) -/
def UPD_WP_AT_VALUE : Fld := .at 0xF000D00018 0 32

/-! UPD_SET (Table 13.9) -/
def UPD_SET_GEN : Fld := .at 0xF000D0001C 0 32

/-! UPD_SETFMT (Table 13.9) -/
def UPD_SETFMT_NEW : Fld := .at 0xF000D00020 16 16
def UPD_SETFMT_OLD : Fld := .at 0xF000D00020 0 16

/-! UPD_CTL (Table 13.9) -/
def UPD_CTL_GO : Fld := .at 0xF000D00024 31 1
def UPD_CTL_RESULT : Fld := .at 0xF000D00024 24 3
def UPD_CTL_OP : Fld := .at 0xF000D00024 0 3

/-! BIN_STAT (Table 14.6) -/
def BIN_STAT_PAGE : Fld := .at 0xF000E00000 20 2
def BIN_STAT_BAND_PEND : Fld := .at 0xF000E00000 19 1
def BIN_STAT_BAND : Fld := .at 0xF000E00000 16 3
def BIN_STAT_OUT_FLT : Fld := .at 0xF000E00000 6 10
def BIN_STAT_COMP_LIM : Fld := .at 0xF000E00000 5 1
def BIN_STAT_CRACK_LEAK : Fld := .at 0xF000E00000 4 1
def BIN_STAT_CRACK : Fld := .at 0xF000E00000 3 1
def BIN_STAT_NTC_FLT : Fld := .at 0xF000E00000 2 1
def BIN_STAT_PUMP_FLT : Fld := .at 0xF000E00000 1 1
def BIN_STAT_BLANKED : Fld := .at 0xF000E00000 0 1

/-! BIN_GLASS (Table 14.6) -/
def BIN_GLASS_VLCD_MV : Fld := .at 0xF000E00004 16 16
def BIN_GLASS_TGLASS : Fld := .at 0xF000E00004 0 16

/-! BIN_FRAME (Table 14.6) -/
def BIN_FRAME_START : Fld := .at 0xF000E00008 0 32

/-! BIN_SEG (Table 14.6) -/
def BIN_SEG_BITS (i : Nat) : Fld := .at (0xF000E00010 + 0x4 * i) 0 32

/-! BIN_BLINK (Table 14.6) -/
def BIN_BLINK_BITS (i : Nat) : Fld := .at (0xF000E00030 + 0x4 * i) 0 32

/-! BIN_LED (Table 14.6) -/
def BIN_LED_BL : Fld := .at 0xF000E00060 16 4
def BIN_LED_LED : Fld := .at 0xF000E00060 0 16

/-! BIN_DIM (Table 14.6) -/
def BIN_DIM_LED_DIM : Fld := .at 0xF000E00064 8 8
def BIN_DIM_BL_DIM : Fld := .at 0xF000E00064 0 8

/-! BIN_STRESS (Table 14.6) -/
def BIN_STRESS_VALUE (i : Nat) : Fld := .at (0xF000E00080 + 0x4 * i) 0 32

/-! HSI_STAT (Table 15.8) -/
def HSI_STAT_TOKEN_S : Fld := .at 0xF000F00000 16 16
def HSI_STAT_HOSTS : Fld := .at 0xF000F00000 3 4
def HSI_STAT_LINK : Fld := .at 0xF000F00000 0 3

/-! HSI_CNT0 (Table 15.8) -/
def HSI_CNT0_BAD : Fld := .at 0xF000F00004 16 16
def HSI_CNT0_DUP : Fld := .at 0xF000F00004 0 16

/-! HSI_CNT1 (Table 15.8) -/
def HSI_CNT1_FLEET_DUP : Fld := .at 0xF000F00008 16 16
def HSI_CNT1_FLEET_DROP : Fld := .at 0xF000F00008 0 16

/-! HSI_CNT2 (Table 15.8) -/
def HSI_CNT2_STREAM_DROP : Fld := .at 0xF000F0000C 0 32

end Sys2Proof.Machine.R
end

