-- ==== Sys2Proof/Machine/Ops.lean ====
section
/-! DEFINITION. The named operations every meaning is written over: register fields and record bytes, machine time, the
Logbook queue and its ring, and the free values. -/

namespace Sys2Proof.Machine

/-- What a meaning answers. -/
abbrev Out := Host.Outcome State Fault Refusal

/-! ### The register file -/

/-- What a field that is not listed reads: its reset value (the Reset columns; 0 but for REP_CFG and
ALM_LOAD_REC). -/
def resetOf (key : Nat) : Nat :=
  if key = R.REP_CFG_TRANS_WIN.key then 60
  else if key = R.REP_CFG_DRAM_UE_MAX.key then 8
  else if key = R.REP_CFG_TRANS_MAX.key then 3
  else if key = R.ALM_LOAD_REC_A_REC.key ∨ key = R.ALM_LOAD_REC_B_REC.key then 0xFFFF
  else 0

/-- The value listed for a key. -/
def cellGet (k : Nat) : List (Nat × Nat) → Option Nat
  | [] => none
  | (a, v) :: l => if a = k then some v else cellGet k l

/-- The list without the entries of a key. -/
def cellErase (k : Nat) : List (Nat × Nat) → List (Nat × Nat)
  | [] => []
  | (a, v) :: l => if a = k then cellErase k l else (a, v) :: cellErase k l

/-- The list, rising by key, with a key's value set. -/
def cellSet (k v : Nat) : List (Nat × Nat) → List (Nat × Nat)
  | [] => [(k, v)]
  | (a, w) :: l =>
    if k < a then (k, v) :: (a, w) :: l
    else if k = a then (k, v) :: l
    else (a, w) :: cellSet k v l

/-- Storing keeps the canonical form: a key at its reset value is not listed. -/
def cellStore (k v : Nat) (l : List (Nat × Nat)) : List (Nat × Nat) :=
  if v = resetOf k then cellErase k l else cellSet k v l

/-- Keys strictly rising, from a lower bound on. -/
def cellsRise : Nat → List (Nat × Nat) → Bool
  | _, [] => true
  | b, (a, _) :: l => decide (b ≤ a) && cellsRise (a + 1) l

/-- The canonical form of the register file: keys rise and no value is the reset value. -/
def cellsWf (l : List (Nat × Nat)) : Bool :=
  cellsRise 0 l && l.all fun e => decide (e.2 ≠ resetOf e.1)

/-- A field's value in force. -/
def State.get (s : State) (f : Fld) : Nat := (cellGet f.key s.regs).getD (resetOf f.key)

/-- A field set, in its width. -/
def State.put (s : State) (f : Fld) (v : Nat) : State :=
  { s with regs := cellStore f.key (v % 2 ^ f.w) s.regs }

/-- Fields set one after another. -/
def State.puts (s : State) : List (Fld × Nat) → State
  | [] => s
  | (f, v) :: l => (s.put f v).puts l

/-- A field read as a flag. -/
def State.flag (s : State) (f : Fld) : Bool := s.get f != 0

/-- A counter field raised by `n`, saturating at its width. -/
def State.bump (s : State) (f : Fld) (n : Nat := 1) : State := s.put f (min (s.get f + n) (2 ^ f.w - 1))

/-- Bits of a field set. -/
def State.orBits (s : State) (f : Fld) (m : Nat) : State := s.put f (s.get f ||| m)

/-- Bits of a field cleared. -/
def State.clrBits (s : State) (f : Fld) (m : Nat) : State := s.put f (clearBits (s.get f) m)

/-- What a read of a writable field returns: the last TICK value written, else the staged value, else the value in
force (R81). -/
def State.seen (s : State) (f : Fld) : Nat :=
  match (s.tickW.filter fun e => e.1 = f.key).getLast? with
  | some e => e.2
  | none =>
    match (s.staged.filter fun e => e.2.1 = f.key).getLast? with
    | some e => e.2.2
    | none => s.get f

/-- A TICK-class write: the value waits for the next tick edge (R81, R101). -/
def State.putTick (s : State) (f : Fld) (v : Nat) : State :=
  { s with tickW := (s.tickW.filter fun e => decide (e.1 ≠ f.key)) ++ [(f.key, v % 2 ^ f.w)] }

/-! ### Record bytes -/

/-- The field that holds byte `off` of the body of record (type, instance) of the running Almanac. -/
def recByte (t i off : Nat) : Fld := ⟨8 * (2 ^ 48 + (t * 2 ^ 16 + i) * 2 ^ 24 + off), 8⟩

/-- An unsigned little-endian field of a record body in force. -/
def State.cfg (s : State) (t i off : Nat) : (n : Nat) → Nat
  | 0 => 0
  | n + 1 => s.get (recByte t i off) + 256 * s.cfg t i (off + 1) n

/-- A signed little-endian field of a record body in force. -/
def State.cfgI (s : State) (t i off n : Nat) : Int := toInt (8 * n) (s.cfg t i off n)

/-- Bytes stored into a record body. -/
def State.cfgPut (s : State) (t i off : Nat) : List Nat → State
  | [] => s
  | b :: bs => (s.put (recByte t i off) b).cfgPut t i (off + 1) bs

/-- An IPv4 field of a record body as a number whose most significant octet is the first (R9, R511). -/
def State.ipField (s : State) (t i off : Nat) : Nat :=
  [0, 1, 2, 3].foldl (fun a k => 256 * a + s.cfg t i (off + k) 1) 0

/-- The octets of an IPv4 address in network order. -/
def ipOctets (ip : Nat) : List Nat := (leBytes 4 ip).reverse

/-- The running Almanac holds the record. -/
def State.has (s : State) (t i : Nat) : Bool := decide ((t, i) ∈ s.alm.present)

/-! ### Modes and time -/

/-- ALM_MODE.MODE (Table 2.1). -/
def State.mode (s : State) : Nat := s.get R.ALM_MODE_MODE

/-- The module is in one of the modes named. -/
def State.inMode (s : State) (l : List Nat) : Bool := decide (s.mode ∈ l)

/-- MT64 at the phase of the present command (R91, R99); 0 while CHR is in reset. -/
def State.now (s : State) : Nat := if s.chr.running then s.chr.base + 8 * s.chr.phase else 0

/-- The present command falls at a phase of the tick. -/
def State.atPhase (s : State) (c : Nat) : State := { s with chr := { s.chr with phase := c % 10000 } }

/-- A fresh free value of width `w`. -/
def State.free (s : State) (w : Nat) : Nat × State :=
  ((Config.freeValue w s.freeCtr).toNat, { s with freeCtr := s.freeCtr + 1 })

/-- The time of an event, CLK_T cycles of the tick count: that of its stamp, or of the present phase where the stamp is lost. -/
def State.cyclesAt (s : State) : Option Nat → Nat
  | some t => (10000 * (s.chr.tick : Int) + ((t : Int) - s.chr.base) / 8).toNat
  | none => 10000 * s.chr.tick + s.chr.phase

/-- The stamp of an event, or a free value where its point lost it (R95) and the spec states nothing in its place. -/
def State.stampOr (s : State) : Option Nat → Nat × State
  | some t => (t, s)
  | none => s.free 64

/-! ### Stamp points (R94, R95), numbered in the order of Table 3.2 -/

def ptPps (n : Nat) : Nat := n
def ptRing (rx dir : Nat) : Nat := 2 + 2 * rx + dir
def ptEth (n tx : Nat) : Nat := 6 + 2 * n + tx
def ptCam (n : Nat) : Nat := 12 + n
def ptBus (n tx : Nat) : Nat := 20 + 6 * tx + n
def ptPi (n : Nat) : Nat := 32 + n
def ptDio (n : Nat) : Nat := 48 + n
def ptGnss (n : Nat) : Nat := 64 + n

/-- A stamp point's queue. -/
def State.stampQ (s : State) (p : Nat) : StampQ := (s.chr.stamps.find? fun q => q.point == p).getD { point := p }

/-- A stamp point's queue replaced. -/
def State.setStampQ (s : State) (q : StampQ) : State :=
  { s with chr.stamps := (s.chr.stamps.filter fun x => x.point != q.point) ++ [q] }

/-- R95: the owner takes the oldest stamp of a point. -/
def State.takeStamp (s : State) (p : Nat) : State :=
  match (s.stampQ p).stamps with
  | [] => s
  | _ :: l => s.setStampQ { s.stampQ p with stamps := l }

/-- R95: the owner takes the stamp that came with a message, when it is not missing. -/
def State.tookStamp (s : State) (p : Nat) (x : Option Nat) : State := if x.isSome then s.takeStamp p else s

/-! ### The Logbook -/

/-- The parameters of a record: four words, unused ones 0 (Table 12.7). -/
def params4 (ps : List Nat) : List Nat := [0, 1, 2, 3].map fun i => ps.getD i 0 % 2 ^ 32

/-- A record of the present moment (R443, Table 12.7). -/
def State.mkRec (s : State) (code sev : Nat) (ps : List Nat) (esc host : Bool) : LogRec :=
  { code, flags := logFlags sev s.mode (s.get R.CHR_DISC_TAI_VALID) esc host, mt := s.now, params := params4 ps }

/-- R442: a record joins the queue, or is lost and counted when 256 records wait. -/
def State.enqueue (s : State) (r : LogRec) : State :=
  if s.log.queue.length < 256 then { s with log := { s.log with queue := s.log.queue ++ [r] } }
  else
    { s.bump R.LOG_LOST_VALUE with
      log := { s.log with lostSince := s.log.lostSince + 1, lostEver := min (s.log.lostEver + 1) (2 ^ 32 - 1) } }

/-- The sources the PWR domain holds while MGT is in reset (R522). -/
def heldSource (code : Nat) : Bool := code == 1 || (decide (120 ≤ code) && decide (code ≤ 126))

/-- R522: a held source keeps its first parameters and counts further occurrences. -/
def holdEvent (code : Nat) (ps : List Nat) : List HeldEvent → List HeldEvent
  | [] => [⟨code, ps, 0⟩]
  | h :: l =>
    if code < h.code then ⟨code, ps, 0⟩ :: h :: l
    else if code = h.code then { h with count := min (h.count + 1) 65535 } :: l
    else h :: holdEvent code ps l

/-- R450, R514: the source's mask bit suppresses its records of severity 0. -/
def State.masked (s : State) (code sev : Nat) : Bool :=
  decide (sev = 0) && bit (s.get (R.LOG_MASK_VALUE (code / 32))) (code % 32)

/-- R442, R513, R522: an event is raised: it joins the Logbook queue, or the PWR domain holds it. -/
def State.raiseE (s : State) (esc : Bool) (code : Nat) (ps : List Nat) : State :=
  if s.log.up then
    if s.masked code (severity code ps) then s
    else s.enqueue (s.mkRec code (severity code ps) ps esc false)
  else if heldSource code then { s with pwr := { s.pwr with held := holdEvent code (params4 ps) s.pwr.held } }
  else s

/-- An event raised. -/
def State.raise (s : State) (code : Nat) (ps : List Nat) : State := s.raiseE false code ps

/-- A system record of Table 12.8. -/
def State.sysRec (s : State) (code : Nat) (ps : List Nat) : State :=
  if s.log.up then s.enqueue (s.mkRec code 0 ps false false) else s

/-- R447: a POWER_FAIL or CLOCK_FAIL record goes ahead of the queue; PARAM2 is the number of records queued. -/
def State.urgentRec (s : State) (code : Nat) (ps : List Nat) : State :=
  if s.log.up then { s with log := { s.log with urgent := s.log.urgent ++ [s.mkRec code 0 ps false false] } } else s

/-- SEQ after `n` (Table 12.7): 1 to 65,535, never 0. -/
def nextSeq (n : Nat) : Nat := if n % 65536 = 65535 then 1 else n % 65536 + 1

/-- A slot of the ring (Table 12.7); one never written is all 0. -/
def slotGet (n : Nat) : List (Nat × LogRec) → LogRec
  | [] => {}
  | (a, r) :: l => if a = n then r else slotGet n l

/-- The ring, rising by slot number, with a slot replaced. -/
def slotSet (n : Nat) (r : LogRec) : List (Nat × LogRec) → List (Nat × LogRec)
  | [] => [(n, r)]
  | (a, q) :: l =>
    if n < a then (n, r) :: (a, q) :: l
    else if n = a then (n, r) :: l
    else (a, q) :: slotSet n r l

/-- R445: a record written as a new one, then the control words (Table 12.9). -/
def Log.append (l : Log) (r : LogRec) : Log :=
  let r := { r with seq := nextSeq l.lastSeq }
  { l with
    slots := slotSet l.widx r l.slots
    widx := (l.widx + 1) % 524288
    lastSeq := r.seq
    gen := if l.widx + 1 = 524288 then l.gen + 1 else l.gen
    last := some r }

/-- R446: the record merges with the last one written. -/
def Log.merges (l : Log) (r : LogRec) : Bool :=
  match l.last with
  | some q => decide (q.code = r.code ∧ q.flags = r.flags ∧ q.params = r.params ∧ q.rep < 65535)
  | none => false

/-- R446: one more occurrence of the last record. -/
def Log.merge (l : Log) : Log :=
  match l.last with
  | some q =>
    let q := { q with rep := q.rep + 1 }
    { l with slots := slotSet ((l.widx + 524287) % 524288) q l.slots, last := some q }
  | none => l

/-- R445, R446, R522: a record reaches MRAM, merged or new; a held one carries the MT64 of this moment. -/
def State.logWrite (s : State) (r : LogRec) : State :=
  let r := if r.held then { r with mt := s.now, held := false } else r
  if s.log.merges r then { s.bump R.LOG_MERGED_VALUE with log := s.log.merge }
  else { s with log := s.log.append r }

/-- The urgent record and every queued record are written. -/
def State.logFlush (s : State) : State :=
  let t := (s.log.urgent ++ s.log.queue).foldl State.logWrite s
  { t with log := { t.log with urgent := [], queue := [] } }

/-- R442, R447: the urgent record and every queued record are written, and the records lost meanwhile are recorded as EV110. -/
def State.logDrain (s : State) : State :=
  let t := s.logFlush
  if t.log.lostSince = 0 then t
  else (({ t with log := { t.log with lostSince := 0 } } : State).raise 110 [t.log.lostSince]).logFlush

end Sys2Proof.Machine
end

