-- ==== Sys2Proof/Machine/Reset.lean ====
section
/-! DEFINITION. The shared operations on modes, relays and resets: requesting a mode, closing the relays, entering
RESET, and the crossings. -/

namespace Sys2Proof.Machine

/-! ### Relays -/

/-- The relay numbered 0 KW, 1 KE (R53). -/
def State.relay (s : State) (r : Fin 2) : Relay := if r = 0 then s.pwr.kw else s.pwr.ke

/-- The relay's state replaced. -/
def State.setRelay (s : State) (r : Fin 2) (x : Relay) : State :=
  if r = 0 then { s with pwr := { s.pwr with kw := x } } else { s with pwr := { s.pwr with ke := x } }

/-- The register fields of a relay (Table 1.21). -/
def relayCmd (r : Fin 2) : Fld := if r = 0 then R.PWR_RELAY_KW_CMD else R.PWR_RELAY_KE_CMD
def relayPos (r : Fin 2) : Fld := if r = 0 then R.PWR_RELAY_KW_POS else R.PWR_RELAY_KE_POS
def relayBusy (r : Fin 2) : Fld := if r = 0 then R.PWR_RELAY_KW_BUSY else R.PWR_RELAY_KE_BUSY
def relayFlt (r : Fin 2) : Fld := if r = 0 then R.PWR_RELAY_KW_FLT else R.PWR_RELAY_KE_FLT
def relayTime (r : Fin 2) : Fld := if r = 0 then R.PWR_RELAY_TIME_KW_T else R.PWR_RELAY_TIME_KE_T

/-- The other relay. -/
def otherRelay (r : Fin 2) : Fin 2 := if r = 0 then 1 else 0

/-- R46, R47: a coil is energised (open) or released; the change begins the cut window. A relay that has failed to open
is not commanded open again until PROVE (R53). DESIGN CHOICE (log entry `relay failed to open`): R53's 'not commanded again'
does not keep the relay from being closed. -/
def State.coilTo (s : State) (r : Fin 2) (pos : Bool) : State :=
  let x := s.relay r
  if pos && x.failOpen then (s.setRelay r { x with held := none }).put (relayCmd r) (b2n x.coil)
  else if x.coil = pos then (s.setRelay r { x with held := none }).put (relayCmd r) (b2n pos)
  else ((s.setRelay r { x with coil := pos, held := none, cut := true }).put (relayCmd r) (b2n pos)).put (relayBusy r) 1

/-- R46: a command that SERVICE still holds under R48 lapses when SERVICE is left (log entry `held relay commands`). -/
def State.dropHeld (s : State) (r : Fin 2) : State :=
  if (s.relay r).held.isSome then
    (s.setRelay r { s.relay r with held := none }).put (relayCmd r) (b2n (s.relay r).coil)
  else s

/-- R46: both relays are commanded to bypass; KW closes first and KE at least 30 ms later (KE_CLOSE). -/
def State.closeRelays (s : State) : State :=
  let s := s.coilTo 0 false
  { s with
    pwr := { s.pwr with
      keClosing := s.pwr.ke.coil
      kw := { s.pwr.kw with held := none }
      ke := { s.pwr.ke with held := none } } }.put R.PWR_RELAY_KE_CMD 0

/-! ### Camera and sensor supplies -/

/-- The camera ports that carry power (Table 2.3, R29, R43): bit n for CAMn; none while no Almanac runs (R80). -/
def State.camOn (s : State) : Nat :=
  if s.pwr.powered && s.inMode [mSTANDBY, mROAD, mFIELD, mSERVICE] && !s.flag R.PWR_CAM_SHED && !s.alm.present.isEmpty then
    clearBits (clearBits (clearBits (s.get R.PWR_CAM_EN) (s.get R.PWR_CAM_FLT)) s.pwr.camTrip) s.pwr.camWait
  else 0

/-- The sensor supplies that are on (R42): bits as PWR_SENS.EN. -/
def State.sensOn (s : State) : Nat :=
  if s.pwr.powered then clearBits (clearBits (s.get R.PWR_SENS_EN) (s.get R.PWR_SENS_FLT)) s.pwr.sensTrip else 0

/-- R32, R53: MOD_OK conducts. -/
def State.modOk (s : State) : Bool :=
  let hold (r : Fin 2) := (s.relay r).failClose && s.flag (relayFlt r)
  s.pwr.powered && s.inMode [mSTANDBY, mROAD, mFIELD, mLIMP, mSERVICE] && !hold 0 && !hold 1 &&
    (s.mode != mLIMP || s.pwr.modOkPhase)

/-! ### Modes -/

/-- R58: a mode change accepted now acts at the next tick edge. -/
def State.reqMode (s : State) (target cause : Nat) : State :=
  { s with alm := { s.alm with modeReq := s.alm.modeReq ++ [(target, cause)] } }

/-- Table 2.2: LIMP is entered from STANDBY, ROAD, FIELD and SERVICE only. -/
def State.reqLimp (s : State) (cause : Nat) : State :=
  if s.inMode [mSTANDBY, mROAD, mFIELD, mSERVICE] then s.reqMode mLIMP cause else s

/-- R84: every pending commit and staging copy is discarded. -/
def State.discardStaged (s : State) : State := { s with staged := [], commits := [] }

/-- The key belongs to a register of the PWR domain, which RESET keeps (R56, R66). -/
def pwrKey (k : Nat) : Bool :=
  decide (8 * blockBase 0x10 ≤ k) && decide (k < 8 * blockBase 0x11)

/-- R56, R58, R64 to R66, R84, R447, R498: entry to RESET. It acts at once; a shutdown request that stands powers the
module down in RESET too. The Logbook writes its queue first, or works
on through the hold-up after a power failure; every domain but PWR takes its reset values, and the NOR, the MRAM and
the other stations of the ring keep theirs; the relays close; the camera and sensor enables clear. -/
def State.enterReset (s : State) (cause : Nat) : State :=
  let holdUp := decide (cause = 0) || s.pwr.holdUp
  let s1 := if holdUp then s else s.logDrain
  let s2 : State :=
    { pending := s1.pending
      freeCtr := s1.freeCtr
      regs := s1.regs.filter fun e => pwrKey e.1
      nor := s1.nor
      mrd := { stations := s1.mrd.stations.set (s1.get R.MRD_STATUS_ROLE) {} }
      pwr := { s1.pwr with
        rstCause := if holdUp then 0 else cause, actDue := s1.pwr.actDue || decide (cause = 4), holdUp := holdUp, pdBegun := s1.flag R.PWR_STATUS_SHUTREQ && cause != 5, modOkPhase := true
        camTrip := 0, sensTrip := 0, camWait := 0 }
      log := { s1.log with up := holdUp && s.log.up } }
  (s2.puts [(R.ALM_MODE_MODE, mRESET), (R.ALM_MODE_PREV, s.mode), (R.ALM_MODE_CAUSE, cause),
    (R.PWR_CAM_EN, 0), (R.PWR_CAM_FLT, 0), (R.PWR_SENS_EN, 0), (R.PWR_SENS_FLT, 0)]).closeRelays

/-- Failures within the last 60 s of the PWR domain's time, the present one among them. -/
def recent (clock : Nat) (l : List Nat) : List Nat := clock :: l.filter fun t => decide (clock < t + 600000)

/-- The PWR domain's time in CLK_T cycles. -/
def State.pwrNow (s : State) : Nat := 10000 * s.pwr.clock + s.chr.phase

/-- R48: a relay's cut window runs, or has ended less than `gap` CLK_T cycles ago. -/
def State.cutNear (s : State) (r : Fin 2) (gap : Nat) : Bool :=
  (s.relay r).cut || (s.relay r).cutEnd.any fun t => decide (s.pwrNow < t + gap)

/-! ### Crossings (R112 to R120) -/

def State.xing (s : State) (id : Nat) : Xing := (s.chr.xings.find? fun x => x.id == id).getD { id := id }

def State.setXing (s : State) (x : Xing) : State :=
  { s with chr.xings := (s.chr.xings.filter fun y => y.id != x.id) ++ [x] }

/-- R114: a saturation episode ends. -/
def State.endEpisode (s : State) (x : Xing) : State :=
  if x.lost = 0 then s
  else
    ((s.setXing { x with lost := 0 }).bump R.CHR_XING_LOST x.lost |>.put R.CHR_XING_LAST_ID x.id).raise 9 [x.id, x.lost]

/-- R119, R120: both sides of a crossing are reset: nothing pends and nothing is in flight. -/
def State.resetXing (s : State) (id : Nat) : State :=
  let x := s.xing id
  (s.setXing { id := id, lost := x.lost }).endEpisode { id := id, lost := x.lost }

/-- R120: the crossings of a clock domain (Table 3.1) are reset; of a domain with ports, those whose instance is the
port. -/
def State.resetDomain (s : State) (code : Nat) (port : Option Nat := none) : State :=
  let mine (x : Xing) : Bool :=
    (bits x.id 12 4 == code || bits x.id 8 4 == code) && (port.all fun n => bits x.id 0 8 == n)
  ((s.chr.xings.filter mine).map (·.id)).foldl State.resetXing s

end Sys2Proof.Machine
end

