-- ==== Sys2Proof/Machine/SpdWords.lean ====
section
/-! DEFINITION. The stored words of the shared scratchpad (R368, R369, R377, R379, R381): data bytes by physical place, spare
rows among them; the bits in error of a word; and the row in the march engine's holding buffer. -/

namespace Sys2Proof.Machine

/-! ### Bytes -/

/-- A byte placed in the scratchpad's list, rising by place. -/
def spdPut (a : Nat) (b : BitVec 8) : List Host.Cell → List Host.Cell
  | [] => [(a, b)]
  | (x, v) :: l => if a < x then (a, b) :: (x, v) :: l else if a = x then (a, b) :: l else (x, v) :: spdPut a b l

/-- The bytes of the scratchpad: one byte stored; a byte of 0 is not listed. -/
def spdStore (a : Nat) (b : BitVec 8) (l : List Host.Cell) : List Host.Cell :=
  if b = 0 then l.filter fun c => c.1 != a else spdPut a b l

/-- A byte of the scratchpad. -/
def spdByte (a : Nat) : List Host.Cell → BitVec 8
  | [] => 0
  | (x, v) :: l => if a = x then v else spdByte a l

/-! ### Places -/

/-- R369: the bank and the row of a scratchpad offset. -/
def spdBank (a : Nat) : Nat := 4 * bits a 20 3 + bits a 3 2
def spdRow (a : Nat) : Nat := bits a 13 7

/-- R368: where the 2 KiB of a row begin: 160 rows a bank, 128 in use and 32 spare. -/
def rowPlace (bank row : Nat) : Nat := (bank * 160 + row) * 2048

/-- A place lies in a row. -/
def inRow (bank row p : Nat) : Bool := p / 2048 == bank * 160 + row

/-- R379: the row that holds a row's words: the spare that has replaced it, else itself. -/
def State.physRow (s : State) (bank row : Nat) : Nat :=
  ((s.spd.remaps.find? fun m => m.1 == bank && m.2.1 == row).map (·.2.2)).getD row

/-- R369, R379: the place of the byte at a scratchpad offset. -/
def State.spdPhys (s : State) (a : Nat) : Nat :=
  rowPlace (spdBank a) (s.physRow (spdBank a) (spdRow a)) + 8 * bits a 5 8 + a % 8

/-! ### The holding buffer (R381) -/

/-- A place is served from the holding buffer. -/
def State.heldPlace (s : State) (p : Nat) : Option HeldRow := s.spd.hold.filter fun h => inRow h.bank h.row p

/-- The row in the holding buffer is written back, its marks with it. -/
def State.releaseRow (s : State) : State :=
  match s.spd.hold with
  | none => s
  | some h =>
    { s with
      spd.hold := none
      spd.mem := h.data.foldl (fun m c => spdStore c.1 c.2 m) (s.spd.mem.filter fun c => !inRow h.bank h.row c.1)
      spd.flips := s.spd.flips ++ h.bad }

/-- A preserving run copies a row into the holding buffer, the marks of its words with it. -/
def State.holdRow (s : State) (bank row : Nat) : State :=
  let s := s.releaseRow
  let here (w : Nat) : Bool := inRow bank row (8 * w)
  { s with
    spd.hold := some ⟨bank, row, s.spd.mem.filter fun c => inRow bank row c.1, s.spd.flips.filter fun f => here f.1⟩
    spd.flips := s.spd.flips.filter fun f => !here f.1 }

/-! ### Reads and writes -/

/-- A byte at a place, as every master reads it. -/
def State.spdAt (s : State) (p : Nat) : BitVec 8 :=
  match s.heldPlace p with
  | some h => spdByte p h.data
  | none => spdByte p s.spd.mem

/-- A byte written at a place; its word is whole again. -/
def State.spdSet (s : State) (p : Nat) (b : BitVec 8) : State :=
  match s.heldPlace p with
  | some h =>
    { s with spd.hold := some { h with data := spdStore p b h.data, bad := h.bad.filter fun f => f.1 != p / 8 } }
  | none => { s with spd.mem := spdStore p b s.spd.mem, spd.flips := s.spd.flips.filter fun f => f.1 != p / 8 }

/-- A little-endian number of `n` bytes at a scratchpad offset. -/
def State.spdRead (s : State) (a : Nat) : (n : Nat) → Nat
  | 0 => 0
  | n + 1 => (s.spdAt (s.spdPhys a)).toNat + 256 * s.spdRead (a + 1) n

/-- `n` bytes of a number stored at a scratchpad offset. -/
def State.spdWrite (s : State) (a : Nat) : (n v : Nat) → State
  | 0, _ => s
  | n + 1, v => (s.spdSet (s.spdPhys a) (BitVec.ofNat 8 v)).spdWrite (a + 1) n (v / 256)

/-- R377: an uncorrectable error is found in a word of a row: which of its 72 bits are in error is free. -/
def State.spoilWord (s : State) (bank row word : Nat) : State :=
  let (x, s) := s.free 72
  let w := rowPlace bank row / 8 + word
  match s.heldPlace (8 * w) with
  | some h => { s with spd.hold := some { h with bad := (h.bad.filter fun f => f.1 != w) ++ [(w, x)] } }
  | none => { s with spd.flips := (s.spd.flips.filter fun f => f.1 != w) ++ [(w, x)] }

/-- R368, R377: the 72 bits stored for the word at place 8 `w`: its data, the SECDED code over them above, and the bits in error
turned. -/
def State.storedWord (s : State) (w : Nat) : BitVec 72 :=
  let data := leNat ((List.range 8).map fun k => (s.spdAt (8 * w + k)).toNat)
  let bad := match s.heldPlace (8 * w) with
    | some h => h.bad
    | none => s.spd.flips
  BitVec.ofNat 72 (data + 2 ^ 64 * (Config.secded (BitVec.ofNat 64 data)).toNat) ^^^
    BitVec.ofNat 72 ((bad.lookup w).getD 0)

/-- R379: row `r` of a bank is copied into spare row `sp`, the marks of its words with it. -/
def State.copyRow (s : State) (bank r sp : Nat) : State :=
  let cells := (s.spd.mem.filter fun c => inRow bank r c.1).map fun c => (rowPlace bank sp + c.1 % 2048, c.2)
  let marks := (s.spd.flips.filter fun f => inRow bank r (8 * f.1)).map fun f => (rowPlace bank sp / 8 + f.1 % 256, f.2)
  { s with
    spd.mem := cells.foldl (fun m c => spdStore c.1 c.2 m) (s.spd.mem.filter fun c => !inRow bank sp c.1)
    spd.flips := (s.spd.flips.filter fun f => !inRow bank sp (8 * f.1)) ++ marks }

end Sys2Proof.Machine
end

