-- ==== Sys2Proof/Machine/Repair.lean ====
section
/-! DEFINITION. Errors on units, Soundings and what they lead to, and the data-plane failure (Errors, Sounding, Repair
and the Logbook). -/

namespace Sys2Proof.Machine

/-! ### Units (Table 12.3) -/

def sliceUnit (cell pos : Nat) : Nat := 0x10000000 + cell / 4 * 128 + cell % 4 * 32 + pos
def rowUnit (bank row : Nat) : Nat := 0x20000000 + bank * 256 + row
def portUnit (dir : Nat) : Nat := 0x30000000 + dir

def unitType (u : Nat) : Nat := bits u 28 4
/-- The cell of a slice unit, 4 g + cell. -/
def unitCell (u : Nat) : Nat := 4 * bits u 7 3 + bits u 5 2
def unitPos (u : Nat) : Nat := bits u 0 3
def unitBank (u : Nat) : Nat := bits u 8 5
def unitRow (u : Nat) : Nat := bits u 0 8
def unitDir (u : Nat) : Nat := bits u 0 1

/-- The row that a spare row in use stands for, else the row itself. -/
def State.rowOf (s : State) (bank row : Nat) : Nat :=
  match s.spd.remaps.find? fun m => m.1 == bank && m.2.2 == row with
  | some m => m.2.1
  | none => row

/-- R428: the group that a unit belongs to: a slice's, or a group row's. -/
def State.unitGroup (s : State) (u : Nat) : Option Nat :=
  if unitType u = 1 then some (bits u 7 3)
  else if unitType u = 2 ∧ s.rowOf (unitBank u) (unitRow u) < 32 then some (unitBank u / 4)
  else none

/-! ### Cells -/

def State.cell (s : State) (c : Nat) : Cell := s.rep.cells.getD c {}

def State.modCell (s : State) (c : Nat) (f : Cell → Cell) : State :=
  { s with rep.cells := s.rep.cells.modify c f }

/-- The healthy active slices of a cell (R431): at most 4 of the 5 that are neither retired nor isolated. -/
def Cell.a (c : Cell) : Nat := min 4 (5 - (c.retired ++ c.isolated).dedup.length)

/-- The cell has a spare slice left. -/
def Cell.spare (c : Cell) : Bool := c.retired.isEmpty

/-- The registers that show a group's slices: HLM_GRES.SL_SPARE, HLM_FB.A and NOSPARE. -/
def State.refreshCells (s : State) (g : Nat) : State :=
  let cs := (List.range 4).map fun c => s.cell (4 * g + c)
  s.puts [
    (R.HLM_GRES_SL_SPARE g, (cs.filter Cell.spare).length),
    (R.HLM_FB_A g, (cs.map Cell.a).foldr (fun a n => a + 16 * n) 0),
    (R.HLM_FB_NOSPARE g, (cs.map fun c => b2n !c.spare).foldr (fun b n => b + 2 * n) 0)]

/-! ### Rows -/

/-- The spare rows of a bank that are free. -/
def State.freeSpares (s : State) (bank : Nat) : List Nat :=
  ((List.range 32).map (· + 128)).filter fun r =>
    !(s.spd.remaps.any fun m => m.1 == bank && m.2.2 == r) &&
    !(s.spd.copying.any fun m => m.1 == bank && m.2.2 == r) && !s.spd.deadSpares.contains (bank, r)

/-- Rows of a bank out of use for a fault: replaced, spares that failed, and rows left unrepaired. -/
def State.badRows (s : State) (bank : Nat) : Nat :=
  (s.spd.remaps.filter fun m => m.1 == bank).length + (s.spd.deadSpares.filter fun d => d.1 == bank).length

/-- The registers that show a bank's rows: SPARE_LEFT, UNREPAIRED, and its group's ROWS_OK and ROWS_SPARE. -/
def State.refreshRows (s : State) (bank : Nat) : State :=
  let un (b : Nat) := (s.spd.unrepaired.filter fun d => d.1 == b).length
  let bs := (List.range 4).map fun i => bank / 4 * 4 + i
  s.puts [
    (R.SPD_BANK_HEALTH_SPARE_LEFT bank, 32 - s.badRows bank),
    (R.SPD_BANK_HEALTH_UNREPAIRED bank, min 255 (un bank)),
    (R.HLM_GRES_ROWS_OK (bank / 4), (bs.map fun b => 160 - s.badRows b - un b).sum),
    (R.HLM_GRES_ROWS_SPARE (bank / 4), (bs.map fun b => 32 - s.badRows b).sum)]

/-! ### The handling table -/

/-- The entry of a unit. -/
def State.entryOf (s : State) (u : Nat) : Option (Nat × HEntry) :=
  (List.range 32).findSome? fun i =>
    match s.rep.table.getD i none with
    | some e => if e.unit = u then some (i, e) else none
    | none => none

def State.setEntry (s : State) (i : Nat) (e : Option HEntry) : State :=
  { s with rep.table := s.rep.table.set i e }

/-- A row on which no Sounding starts: unrepaired, or being copied to a spare (Table 12.5). -/
def State.rowRecordOnly (s : State) (u : Nat) : Bool :=
  s.spd.unrepaired.contains (unitBank u, unitRow u) ||
    s.spd.deadSpares.contains (unitBank u, unitRow u) ||
    s.spd.copying.any fun m => m.1 == unitBank u && m.2.1 == unitRow u

/-- The unit has left use for this run, so that its errors are recorded only (Table 12.5). -/
def State.recordOnly (s : State) (u : Nat) : Bool :=
  if unitType u = 2 then s.rowRecordOnly u
  else if unitType u = 3 then s.rep.retiredPorts.contains (unitDir u)
  else false

/-- The port input is dead or held dead (R158, R430, R437). -/
def State.inputDead (s : State) (dir : Nat) : Bool :=
  bit s.mrd.heldDead dir || s.flag (if dir = 0 then R.MRD_STATUS_CW_DEAD else R.MRD_STATUS_CCW_DEAD)

/-- R433: why a port Sounding is deferred (EV103). -/
def State.deferReason (s : State) (dir : Nat) : Option Nat :=
  if s.inputDead (1 - dir) then some 0
  else if s.flag R.PWR_RELAY_KW_BUSY || s.flag R.PWR_RELAY_KE_BUSY then some 1
  else if s.get R.MRD_STATUS_INSERT ≠ 4 then some 2
  else none

/-- R433: an entry becomes deferred; EV103 once. -/
def State.deferEntry (s : State) (i : Nat) (e : HEntry) (reason : Nat) : State :=
  if e.state = 2 then s else (s.setEntry i (some { e with state := 2 })).raise 103 [e.unit, reason]

/-- R431: a slice is isolated from its cell. -/
def State.isolate (s : State) (u : Nat) : State :=
  (s.modCell (unitCell u) fun c => { c with isolated := c.isolated ++ [unitPos u] }).refreshCells (unitCell u / 4)

/-- A port input is held dead for its handling (R430); it returns by the alive rule. -/
def State.holdDead (s : State) (dir : Nat) : State :=
  let s := { s with mrd.heldDead := setBit s.mrd.heldDead dir true }
  s.put (if dir = 0 then R.MRD_STATUS_CW_DEAD else R.MRD_STATUS_CCW_DEAD) 1

/-- What opening an entry does to its unit (R431, R433, Table 12.4): a slice is isolated; a port's Sounding may be deferred, and its
input stays under R158 until the test. -/
def State.takeUnit (s : State) (i : Nat) (e : HEntry) : State :=
  if unitType e.unit = 1 then s.isolate e.unit
  else if unitType e.unit = 3 then
    match s.deferReason (unitDir e.unit) with
    | some r => s.deferEntry i e r
    | none => s
  else s

/-- R429: a handling entry is opened, in the lowest free place. -/
def State.openEntry (s : State) (e : HEntry) : State :=
  match (List.range 32).find? fun i => (s.rep.table.getD i none).isNone with
  | some i => ({ s with rep.order := s.rep.order ++ [i] }.setEntry i (some e)).takeUnit i e
  | none => (s.raise 109 [e.unit, e.sev]).put R.REP_STAT_TABLE_FULL 1

/-! ### Errors -/

/-- R440: one second in MT units. -/
def oneSecond : Nat := 800000000

/-- R440: the units of a group whose latest error of severity 2 or above lies within the last second. -/
def State.unitsIn1s (s : State) (g : Nat) : List Nat :=
  (s.rep.errTimes.filter fun e => s.unitGroup e.1 == some g && decide (s.now ≤ e.2 + oneSecond)).map (·.1)

/-- R440: an error of severity 2 or above counts its unit; the third of a group within one second forces LIMP. -/
def State.countUnit (s : State) (u sev : Nat) : State :=
  if sev < 2 then s
  else
    let s := { s with rep.errTimes := (s.rep.errTimes.filter fun e => e.1 != u) ++ [(u, s.now)] }
    match s.unitGroup u with
    | none => s
    | some g =>
      if 3 ≤ (s.unitsIn1s g).length ∧ s.inMode [mSTANDBY, mROAD, mFIELD, mSERVICE] ∧
          (mLIMP, 0x33) ∉ s.alm.modeReq then
        (s.raise 106 [g, u]).reqLimp 0x33
      else s

/-- R70: an error of Table 12.1 of severity 2 or above in PROVE fails it. -/
def State.proveError (s : State) (sev : Nat) : State :=
  if s.mode = mPROVE ∧ 2 ≤ sev then { s with alm.proveErr := true } else s

/-- R426 to R440: a unit error: its event is raised first, then the handling table acts. -/
def State.unitError (s : State) (u sev code : Nat) (ps : List Nat) : State :=
  if !s.alm.standbySeen then (s.raise code ps).proveError sev
  else if s.recordOnly u then (s.raise code ps).countUnit u sev
  else
    match s.entryOf u with
    | some (i, e) =>
      if sev ≤ e.sev then
        ((s.raise code ps).setEntry i (some { e with rep := min 255 (e.rep + 1) })).countUnit u sev
      else
        let s := (s.raiseE true code ps).setEntry i
          (some { e with sev := sev, esc := true, state := if e.state = 1 then 0 else e.state })
        (s.raise 102 [u, e.sev, sev]).countUnit u sev
    | none => ((s.raise code ps).openEntry { unit := u, sev := sev, mt := s.now }).countUnit u sev

/-- R441: a data-plane failure begins. -/
def State.dataPlaneFail (s : State) (cause : Nat) : State :=
  if s.alm.standbySeen then
    (((s.raise 107 [cause]).put R.REP_STAT_DP_FAIL 1).put R.REP_STAT_DP_CAUSE cause).reqLimp 0x30
  else s

/-! ### The commands -/

/-- R232, R431: the job that a cell has in progress counts as a cell arithmetic error. -/
def State.spoilJob (s : State) (cell : Nat) : State :=
  let jobs := ((List.range 16).map (16 * (cell / 4) + ·)).filter fun c =>
    let x := s.hlm.chans.getD c {}
    x.run.isSome && x.cell == cell % 4
  { s with hlm.arith := s.hlm.arith ++ jobs }

/-- SLICE_RESIDUE_ERROR (R426, R431): EV100, the slice's handling entry, and the job in progress. A slice that is
isolated, retired, or a spare in standby takes no part in a computation. -/
def execSliceResidueError (g : Fin 8) (x : Fin 4) (pos : Fin 5) (s : State) : Out :=
  let cell := 4 * g.val + x.val
  let c := s.cell cell
  if c.isolated.contains pos.val || c.retired.contains pos.val ||
      (pos.val == 4 && c.isolated.isEmpty && c.retired.isEmpty) then .next s
  else .next ((s.unitError (sliceUnit cell pos) 2 100 [sliceUnit cell pos, cell / 4]).spoilJob cell)

/-- RING_PORT_ERROR (Table 12.1): four copies with bad HCRC in a row while the other input delivers. An input that R158 holds dead
for them, or whose Sounding waits or runs, goes on reporting (R433). -/
def execRingPortError (dir : Fin 2) (s : State) : Out :=
  if s.inputDead (1 - dir) then .next s else .next (s.unitError (portUnit dir) 2 108 [portUnit dir, 1])

/-- Entries in a state, of one engine (Table 12.4): the units that share the test engine of `u`. -/
def sameEngine (u v : Nat) : Bool :=
  unitType u == unitType v && (unitType u != 1 || bits u 7 3 == bits v 7 3)

/-- Table 12.4: the engine is free, and no entry of the same engine has waited longer. -/
def State.engineFor (s : State) (i : Nat) (u : Nat) : Bool :=
  let es := s.rep.order.filterMap fun j => (s.rep.table.getD j none).map fun e => (j, e)
  let mine := es.filter fun p => sameEngine u p.2.unit
  !(mine.any fun p => p.2.state == 1) && (mine.head?.map (·.1) == some i || unitType u == 3)

/-- R430: a Sounding runs: a row is served from the holding buffer (R381), a port's input is treated as dead for its test. -/
def State.sound (s : State) (i : Nat) (e : HEntry) : State :=
  let s := s.setEntry i (some { e with state := 1 })
  if unitType e.unit = 3 then s.holdDead (unitDir e.unit)
  else if unitType e.unit = 2 then s.holdRow (unitBank e.unit) (unitRow e.unit) else s

/-- SOUNDING_START (R429, R430, R433): a waiting Sounding begins, or a port's is deferred. -/
def execSoundingStart (entry : Fin 32) (s : State) : Out :=
  match s.rep.table.getD entry none with
  | none => .next s
  | some e =>
    if e.state = 1 then .next s
    else
      match if unitType e.unit = 3 then s.deferReason (unitDir e.unit) else none with
      | some r => .next (s.deferEntry entry e r)
      | none => .next (if s.engineFor entry e.unit then s.sound entry e else s)

/-- R434: the reason of a result: 0 to 2 LASTING, 3 TRANSIENT. -/
def State.resultReason (s : State) (e : HEntry) (failed : Bool) : Nat :=
  let win := s.get R.REP_CFG_TRANS_WIN * oneSecond
  let before := (s.rep.transients.filter fun t => t.1 == e.unit && decide (s.now ≤ t.2 + win)).length
  if failed then 0 else if 2 ≤ e.rep then 1
  else if !(e.byCmd && unitType e.unit == 1) && decide (s.get R.REP_CFG_TRANS_MAX ≤ before + 1) then 2 else 3

/-- R435: a slice is retired; the spare takes its place if its cell has one. -/
def State.retireSlice (s : State) (u : Nat) : State :=
  let c := unitCell u
  let g := c / 4
  let had := (s.cell c).spare
  let s := (s.modCell c fun x =>
    { x with retired := x.retired ++ [unitPos u], isolated := x.isolated.filter (· != unitPos u) }).refreshCells g
  if had then (s.raise 104 [u, s.get (R.HLM_GRES_SL_SPARE g)]).put (R.HLM_FB_READY g) 0
  else ({ s with hlm.fbDue := s.hlm.fbDue ++ [c] } : State).raise 105 [u, (s.cell c).a]

/-- R436: a row is replaced by a spare, leaves the pool of spares, or stays unrepaired. -/
def State.retireRow (s : State) (u : Nat) : State :=
  let b := unitBank u
  let r := unitRow u
  if 128 ≤ r ∧ !(s.spd.remaps.any fun m => m.1 == b && m.2.2 == r) then
    ({ s with spd.deadSpares := s.spd.deadSpares ++ [(b, r)] } : State).refreshRows b
  else
    match s.freeSpares b with
    | sp :: _ => { s with spd.copying := s.spd.copying ++ [(b, r, sp)] }
    | [] => (({ s with spd.unrepaired := s.spd.unrepaired ++ [(b, r)] } : State).refreshRows b).raise 83 [b, r]

/-- R161, R437: a port input is retired; a module that does not launch bypasses itself. -/
def State.retirePort (s : State) (dir : Nat) : State :=
  let s := { s with rep.retiredPorts := s.rep.retiredPorts ++ [dir] }
  if s.flag R.MRD_STATUS_LAUNCH then s
  else ((s.closeRelays.put R.MRD_STATUS_INSERT 5).raise 31 [dir])

/-- R380: the end of a march run over one bank: SPD_MARCH_RES and EV084. -/
def State.marchDone (s : State) (bank row words : Nat) : State :=
  (s.puts [(R.SPD_MARCH_RES_FAILS, min words 65535), (R.SPD_MARCH_RES_ROW, row)]).raise 84
    [bank, if words = 0 then 2 else 3, words]

/-- R380, R381: a row Sounding's run ends, and its row is written back; of a failed one the command does not say how many of the 256 words failed, which is free. -/
def State.rowRunEnds (s : State) (u : Nat) (failed : Bool) : State :=
  let s := s.releaseRow
  if failed then
    let (n, s) := s.free 8
    s.marchDone (unitBank u) (unitRow u) (n + 1)
  else s.marchDone (unitBank u) 0 0

/-- SOUNDING_RESULT (R434 to R437): the unit is classed and its entry closes. -/
def execSoundingResult (entry : Fin 32) (failed : Bool) (s : State) : Out :=
  match s.rep.table.getD entry none with
  | none => .next s
  | some e =>
    if e.state ≠ 1 then .next s
    else
      let reason := s.resultReason e failed
      let u := e.unit
      let s := if unitType u = 2 then s.rowRunEnds u failed else s
      let s := s.raise 101 [u, b2n (reason < 3), e.rep, reason]
      let s := { s.setEntry entry none with rep.order := s.rep.order.filter (· != entry.val) }
      if reason = 3 then
        let s := if e.byCmd && unitType u == 1 then s
          else { s with rep.transients := s.rep.transients ++ [(u, s.now)] }
        if unitType u = 1 then
          .next (s.modCell (unitCell u) fun c => { c with rejoin := c.rejoin ++ [(unitPos u, s.chr.tick)] })
        else if unitType u = 3 then
          .next { s with mrd.heldDead := setBit s.mrd.heldDead (unitDir u) false }
        else .next s
      else if unitType u = 1 then .next (s.retireSlice u)
      else if unitType u = 2 then .next (s.retireRow u)
      else .next (s.retirePort (unitDir u))

/-- R431: a slice of a cell waits to rejoin, and a tick edge has passed since its result. -/
def State.mayRejoin (s : State) (c pos : Nat) : Bool :=
  (s.cell c).rejoin.any fun r => r.1 == pos && decide (r.2 < s.chr.tick)

/-- SLICE_REJOIN (R431): at the tick edge a slice classed TRANSIENT takes part again. -/
def execSliceRejoin (cell : Fin 32) (pos : Fin 5) (s : State) : Out :=
  if s.mayRejoin cell pos then
    .next ((s.modCell cell fun c => { c with
      rejoin := c.rejoin.filter (·.1 != pos.val), isolated := c.isolated.filter (· != pos.val) }).refreshCells (cell / 4))
  else .next s

/-- The ticks for which the Plotter (0), Sextant (1) or Lookout (2) has completed nothing with work admitted, and whether
the failure has been taken. -/
def State.blockQuiet (s : State) (block : Fin 3) : Nat × Bool :=
  if block = 0 then (s.plt.quiet, s.plt.stalled)
  else if block = 1 then (s.sxt.quiet, s.sxt.stalled) else (s.lkt.quiet, s.lkt.stalled)

/-- R441: 100 ticks have passed, and the failure has not been taken. -/
def State.blockStalls (s : State) (block : Fin 3) : Bool :=
  decide (100 ≤ (s.blockQuiet block).1) && !(s.blockQuiet block).2

/-- DATA_PLANE_STALL (R441, causes 3 to 5): the Plotter (0), Sextant (1) or Lookout (2) completed nothing for 100
ticks with work admitted; one occurrence until it completes something. -/
def execDataPlaneStall (block : Fin 3) (s : State) : Out :=
  if !s.blockStalls block then .next s
  else
    let s : State := if block = 0 then { s with plt.stalled := true }
      else if block = 1 then { s with sxt.stalled := true } else { s with lkt.stalled := true }
    .next (s.dataPlaneFail (3 + block))

/-- FABRIC_TIMEOUT (R393): EV086 and a data-plane failure with cause 1. -/
def execFabricTimeout (cls : Fin 5) (tag : Nat) (s : State) : Out :=
  .next ((s.raise 86 [cls, tag % 512]).dataPlaneFail 1)

/-- PLL_D_UNLOCK (Table 3.9, R441): a data-plane failure with cause 0; while PLL_D stays out of lock it is one occurrence. -/
def execPllDUnlock (s : State) : Out :=
  .next (if !s.flag R.CHR_CLKSTAT_LOCK_D then s else ((s.put R.CHR_CLKSTAT_LOCK_D 0).raise 1 [3]).dataPlaneFail 0)

/-! ### REP_CMD (R452) -/

/-- The result of REP_CMD. -/
def State.repResult (s : State) (r : Nat) : State := s.put R.REP_CMD_RESULT r

/-- An entry is opened by command, or refused for a full table. -/
def State.repOpen (s : State) (u : Nat) : State :=
  if s.rep.table.all Option.isSome then s.repResult 4
  else (s.repResult 1).openEntry { unit := u, mt := s.now, byCmd := true }

/-- R452: a port Sounding by command. -/
def State.repPort (s : State) (dir : Nat) : State :=
  if s.mode ≠ mSERVICE then s.repResult 2
  else if (s.entryOf (portUnit dir)).isSome || s.rep.retiredPorts.contains dir || (s.deferReason dir).isSome then
    s.repResult 3
  else s.repOpen (portUnit dir)

/-- R452: `u` is a slice unit word. -/
def isSliceUnit (u : Nat) : Bool :=
  decide (unitPos u ≤ 4) && u == sliceUnit (unitCell u) (unitPos u)

/-- R452: a slice Sounding by command. -/
def State.repSlice (s : State) (u : Nat) : State :=
  if s.mode ≠ mSERVICE then s.repResult 2
  else if !isSliceUnit u then s.repResult 5
  else
    let c := s.cell (unitCell u)
    if c.retired.contains (unitPos u) || c.isolated.contains (unitPos u) then s.repResult 3
    else s.repOpen u

/-- R452, Table 12.11: a GO of REP_CMD with its OP. -/
def State.repCommand (s : State) (op : Nat) : State :=
  if op = 0 then s.repPort 0
  else if op = 1 then s.repPort 1
  else if op = 2 then s.repSlice (s.get R.REP_CMDUNIT_UNIT)
  else if s.mode ≠ mSERVICE then s.repResult 2 else s.repResult 5

/-- REP_SOUNDING_WEST, REP_SOUNDING_EAST: REP_CMD with OP 0 and OP 1. -/
def execRepSoundingWest (s : State) : Out := .next ((s.put R.REP_CMD_OP 0).repCommand 0)
def execRepSoundingEast (s : State) : Out := .next ((s.put R.REP_CMD_OP 1).repCommand 1)

/-- REP_SOUNDING_SLICE: REP_CMDUNIT, then REP_CMD with OP 2. -/
def execRepSoundingSlice (unit : BitVec 32) (s : State) : Out :=
  .next (((s.put R.REP_CMDUNIT_UNIT unit.toNat).put R.REP_CMD_OP 2).repCommand 2)

/-! ### The Logbook's controller and counters -/

/-- LOG_RECORD_WRITE (R442, R445, R446): the next record goes to MRAM; once the queue has room again, the records lost
are recorded as EV110. -/
def execLogRecordWrite (s : State) : Out :=
  if !s.log.up then .next s
  else
    match s.log.urgent, s.log.queue with
    | r :: rest, _ => .next (({ s with log.urgent := rest } : State).logWrite r)
    | [], r :: rest =>
      let n := s.log.lostSince
      let s := ({ s with log.queue := rest, log.lostSince := 0 } : State).logWrite r
      .next (if n = 0 then s else s.raise 110 [n])
    | [], [] => .next s

/-- LOG_LOST_READ, LOG_MERGED_READ (R453): reads that clear. -/
def State.readClear (s : State) (f : Fld) : State := ({ s with rdata := s.get f } : State).put f 0

def execLogLostRead (s : State) : Out := .next (s.readClear R.LOG_LOST_VALUE)
def execLogMergedRead (s : State) : Out := .next (s.readClear R.LOG_MERGED_VALUE)

end Sys2Proof.Machine
end

