-- ==== Sys2Proof/Machine/Spd.lean ====
section
/-! DEFINITION. The shared scratchpad: atomics, ECC errors, scrubbing, remaps, march runs and the mailboxes (Shared
Scratchpad and Memory Fabric). -/

namespace Sys2Proof.Machine

/-! ### Atomics -/

/-- R371, R375, Table 10.1: an atomic may be issued by level `lvl` on the word at offset `a`: not on the Helm region,
the mailbox words or beyond the scratchpad. -/
def atomicAllowed (lvl a : Nat) : Bool :=
  (lvl == 2 || lvl == 4 || lvl == 5) && decide (a < 0x800000) && decide (0x60000 ≤ a % 0x100000)

/-! ### Errors -/

/-- The level of a reader as EV081 gives it. -/
def readerLevel : SpdReader → Nat
  | .helmState _ | .helmInput _ _ => 0
  | .dSlot _ | .inputTable _ | .mailbox _ => 1
  | .plotter _ => 2
  | .sextant _ => 3
  | .lookout => 4
  | .pilot => 5
  | .debug => 6
  | .scrubber => 7

/-- R377: a scratchpad error is counted and raised, and its row is handled. -/
def State.spdError (s : State) (bank row : Nat) (ue : Bool) (lvl : Nat) : State :=
  if ue then (s.bump (R.SPD_BANK_HEALTH_UE bank)).unitError (rowUnit bank row) 2 81 [bank, row, lvl]
  else (s.bump (R.SPD_BANK_HEALTH_CE bank)).unitError (rowUnit bank row) 1 80 [bank, row]

/-! ### Mailboxes -/

/-- A mailbox word in force. -/
def mbxGet (i : Nat) : List (Nat × Mbx) → Mbx
  | [] => {}
  | (a, m) :: l => if a = i then m else mbxGet i l

/-- A mailbox word placed in the list, rising by index. -/
def mbxPut (i : Nat) (m : Mbx) : List (Nat × Mbx) → List (Nat × Mbx)
  | [] => [(i, m)]
  | (a, x) :: l => if i < a then (i, m) :: (a, x) :: l else if i = a then (i, m) :: l else (a, x) :: mbxPut i m l

/-- The mailbox words, rising, with one set; a word at value 0, not valid, is not listed. -/
def mbxSet (i : Nat) (m : Mbx) (l : List (Nat × Mbx)) : List (Nat × Mbx) :=
  if m = {} then l.filter fun p => p.1 != i else mbxPut i m l

/-- A mailbox word as its readers see it in this tick: not valid from the edge at which it expires (R385). -/
def State.mbx (s : State) (i : Nat) : Mbx :=
  let m := mbxGet i s.spd.mbx
  { m with valid := m.valid && m.expires.all fun t => decide (s.chr.tick < t) }

def State.setMbx (s : State) (i : Nat) (m : Mbx) : State := { s with spd.mbx := mbxSet i m s.spd.mbx }

/-- R384: a write reaches the mailbox engine and acts at the coming edge. -/
def State.mbxWrite (s : State) (word val : Nat) (valid : Bool) (exp : Nat) : State :=
  { s with spd.mbxW := s.spd.mbxW ++ [⟨word, val % 2 ^ 32, valid, exp % 256⟩] }

/-- R384, R385: at the edge that begins tick `t` the writes act; the later of two stays in force. -/
def State.mbxEdge (s : State) (t : Nat) : State :=
  let m := s.spd.mbxW.foldl
    (fun l w => mbxSet w.word ⟨w.val, w.valid, if w.exp = 0 then none else some (t + w.exp)⟩ l) s.spd.mbx
  { s with spd.mbx := m, spd.mbxW := [] }

/-- MAILBOX_EXPIRY (R385): at the edge beginning tick `t + x` a word with no newer write is no longer valid. -/
def execMailboxExpiry (word : BitVec 16) (s : State) : Out :=
  let m := s.mbx word.toNat
  match m.expires with
  | some t => .next (if t ≤ s.chr.tick then s.setMbx word.toNat { m with valid := false, expires := none } else s)
  | none => .next s

/-! ### Scrubbing and remaps -/

/-- SCRUB_STEP (R378): the scrubber reads a bank's next word, `err` being the error it meets (true uncorrectable). A
pass ends when every bank has been read through. -/
def execScrubStep (bank : Fin 32) (err : Option Bool) (s : State) : Out :=
  let pos := s.spd.scrubPos.getD bank 0
  let s := match err with
    | some ue =>
      let s := s.spdError bank (pos / 256) ue 7
      if ue then s.spoilWord bank (pos / 256) (pos % 256) else s
    | none => s
  if pos + 1 < 40960 then .next { s with spd.scrubPos := s.spd.scrubPos.set bank (pos + 1) }
  else
    let done := setBit s.spd.scrubDone bank true
    let s := { s with spd.scrubPos := s.spd.scrubPos.set bank 0, spd.scrubDone := done }
    if done = 2 ^ 32 - 1 then
      .next (({ s with spd.scrubDone := 0 } : State).put R.SPD_SCRUB_PASSES (s.get R.SPD_SCRUB_PASSES + 1))
    else .next s

/-- ROW_REMAP (R379): the copy of a row ends: the spare holds its words, and from the next cycle on its accesses go there. -/
def execRowRemap (bank : Fin 32) (row : Fin 160) (s : State) : Out :=
  match s.spd.copying.find? fun m => m.1 == bank.val && m.2.1 == row.val with
  | none => .next s
  | some (b, r, sp) =>
    let rest := s.spd.copying.filter fun m => !(m.1 == b && m.2.1 == r)
    let s := s.copyRow b r sp
    let s : State :=
      if 128 ≤ r then
        { s with
          spd.copying := rest
          spd.deadSpares := s.spd.deadSpares ++ [(b, r)]
          spd.remaps := s.spd.remaps.map fun m => if m.1 = b ∧ m.2.2 = r then (b, m.2.1, sp) else m }
      else { s with spd.copying := rest, spd.remaps := s.spd.remaps ++ [(b, r, sp)] }
    let s := s.refreshRows b
    .next (s.raise 82 [b, r, s.get (R.SPD_BANK_HEALTH_SPARE_LEFT b)])

/-! ### March runs -/

/-- R432: a row Sounding runs; a requested run pauses meanwhile. -/
def State.rowUnderTest (s : State) : Bool :=
  s.rep.table.any fun e => e.any fun e => e.state == 1 && unitType e.unit == 2

/-- SPD_MARCH_CTL with GO (R380 to R382): a requested run begins, its first row in the holding buffer if it preserves, or is
refused: for the mode, or while another run of Table 10.4 is in progress. -/
def State.marchGo (s : State) (destructive : Bool) (bank first last : Nat) : State :=
  let s := s.puts [(R.SPD_MARCH_CTL_MODE, b2n destructive), (R.SPD_MARCH_CTL_BANK, bank),
    (R.SPD_MARCH_CTL_FIRST, first), (R.SPD_MARCH_CTL_LAST, last)]
  if s.spd.march.isSome || s.rowUnderTest then s.put R.SPD_MARCH_CTL_RESULT 5
  else if (destructive && s.mode != mSERVICE) || s.mode == mLIMP then s.put R.SPD_MARCH_CTL_RESULT 4
  else
    let s := ({ s with spd.march := some ⟨destructive, bank, first, last⟩ } : State).put R.SPD_MARCH_CTL_RESULT 1
    if destructive then s else s.holdRow bank first

def execMarchPreserving (bank : Fin 32) (first last : Fin 160) (s : State) : Out :=
  .next (s.marchGo false bank first last)

def execMarchDestructive (bank : Fin 32) (first last : Fin 160) (s : State) : Out :=
  .next (s.marchGo true bank first last)

/-- A mailbox word's 16 bytes (Table 10.1: 8,192 words in 128 KiB from offset 0x4_0000 of a quadrant) have a part in
rows `first` to `last` of a bank, spare rows that hold them among these. -/
def State.mbxIn (s : State) (bank first last i : Nat) : Bool :=
  let a := i / 8192 * 0x100000 + 0x40000 + 16 * (i % 8192)
  let r := s.physRow bank (spdRow a)
  (spdBank a == bank || spdBank (a + 8) == bank) && decide (first ≤ r) && decide (r ≤ last)

/-- R382, R383: the contents after a requested destructive run stand as after PROVE: the mailbox words of its rows read
0, not valid; the group of the bank is reset at the next edge. -/
def State.marchDestroy (s : State) (m : March) : State :=
  let hit (p : Nat) : Bool := decide (rowPlace m.bank m.first ≤ p) && decide (p < rowPlace m.bank (m.last + 1))
  { s with
    spd.mbx := s.spd.mbx.filter fun p => !s.mbxIn m.bank m.first m.last p.1
    spd.mem := s.spd.mem.filter fun c => !hit c.1
    spd.flips := s.spd.flips.filter fun f => !hit (8 * f.1)
    hlm.grpRst := s.hlm.grpRst ++ [m.bank / 4] }

/-- MARCH_END (R380, R432): the requested run ends; `fails` gives the failing rows, each with its failing words, rising. -/
def execMarchEnd (fails : List (Nat × Nat)) (s : State) : Out :=
  match s.spd.march with
  | none => .next s
  | some m =>
    if s.rowUnderTest then .next s
    else
      let words := (fails.map (·.2)).sum
      let s := s.put R.SPD_MARCH_CTL_RESULT (if words = 0 then 2 else 3)
      let s := ({ s with spd.march := none } : State).marchDone m.bank (((fails.find? fun f => f.2 != 0).map (·.1)).getD 0) words
      .next (if m.destructive then s.marchDestroy m else s.releaseRow)

/-! ### Counters that a read clears (R396, R397) -/

/-- R374: the cycles of a tick in which each master wanted a bank and lost it are counted; Helm's never (R372). -/
def State.confEdge (s : State) : State :=
  { s with spd.conf := s.spd.conf.zipIdx.map fun (v, m) =>
      if m = 0 then v else min (2 ^ 32 - 1) (v + (Config.stalls m s.chr.tick).toNat) }

/-- SPD_CONF_READ (R374, R396): the count is returned and cleared; SPD_CONF0 reads 0. -/
def execSpdConfRead (m : Fin 8) (s : State) : Out :=
  if m = 0 then .next { s with rdata := 0 }
  else .next { s with rdata := s.spd.conf.getD m 0, spd.conf := s.spd.conf.set m 0 }

/-- SPD_BANK_HEALTH_READ: the word is returned, CE and UE clear. -/
def execSpdBankHealthRead (bank : Fin 32) (s : State) : Out :=
  let v := s.get (R.SPD_BANK_HEALTH_CE bank) * 2 ^ 24 + s.get (R.SPD_BANK_HEALTH_SPARE_LEFT bank) * 2 ^ 16 +
    s.get (R.SPD_BANK_HEALTH_UNREPAIRED bank) * 2 ^ 8 + s.get (R.SPD_BANK_HEALTH_UE bank)
  .next (({ s with rdata := v } : State).puts [(R.SPD_BANK_HEALTH_CE bank, 0), (R.SPD_BANK_HEALTH_UE bank, 0)])

/-- The tag quotas of Table 10.6. -/
def classTags (c : Nat) : Nat := [32, 96, 96, 192, 96].getD c 0

/-- R389, R397: the tags that a class holds now, within its quota, and the transactions outstanding. -/
def State.tagsNow (s : State) (c : Nat) : Nat := min (classTags c) (Config.tagsHeld c s.chr.tick s.chr.phase).toNat
def State.inflight (s : State) : Nat := ((List.range 5).map s.tagsNow).sum

/-- R397: the high-water marks take what was highest in the tick: 0 all transactions, 1 to 5 the classes' tags. -/
def State.fabEdge (s : State) : State :=
  let peak (i : Nat) : Nat := if i = 0 then min 512 (Config.inflightPeak s.chr.tick).toNat
    else min (classTags (i - 1)) (Config.tagsPeak (i - 1) s.chr.tick).toNat
  { s with spd.hwm := s.spd.hwm.zipIdx.map fun (v, i) => max v (peak i) }

/-- FAB_STATUS_READ (R397): HWM is returned and takes the present count. -/
def execFabStatusRead (s : State) : Out :=
  let n := s.inflight
  .next { s with rdata := max n (s.spd.hwm.getD 0 0) * 2 ^ 16 + n, spd.hwm := s.spd.hwm.set 0 n }

/-- FAB_ERR_READ (R397). -/
def execFabErrRead (s : State) : Out :=
  .next (({ s with rdata := s.get R.FAB_ERR_CE * 2 ^ 16 + s.get R.FAB_ERR_UE } : State).puts
    [(R.FAB_ERR_CE, 0), (R.FAB_ERR_UE, 0)])

/-- FAB_CLASS_READ (R397): TAGS_HWM is returned and takes the tags held now. -/
def execFabClassRead (cls : Fin 5) (s : State) : Out :=
  let n := s.tagsNow cls
  .next { s with
    rdata := max n (s.spd.hwm.getD (cls + 1) 0) * 2 ^ 24 + (Config.bandwidth cls s.chr.tick).toNat
    spd.hwm := s.spd.hwm.set (cls + 1) n }

end Sys2Proof.Machine
end

