-- ==== Sys2Proof/Machine/Binnacle.lean ====
section
/-! DEFINITION. The Binnacle: the thermistor and the bands, frames and slots, pages and value fields, outputs and their
ageing, glass supervision (Binnacle Backup Display). -/

namespace Sys2Proof.Machine

def State.modBin (s : State) (f : Bin → Bin) : State := { s with bin := f s.bin }

/-- EV127 with a reason and a detail (R492). -/
def State.binEvent (s : State) (reason detail : Nat) : State := s.raise 127 [reason, detail]

/-- A field of BINCFG in force (Table 14.5). -/
def State.bcfg (s : State) (off n : Nat) : Nat := s.cfg 0x0E00 0 off n

/-! ### The thermistor, the bands and the stress counters (R481, R486) -/

/-- R481: the band after a temperature, with 2 K of hysteresis. -/
def bandFrom (tb : Nat → Int) (t : Int) (b : Nat) : Nat :=
  let up := (List.range 7).foldl (fun b k => if b = k ∧ tb k ≤ t then k + 1 else b) b
  ((List.range 7).reverse).foldl (fun b k => if b = k + 1 ∧ t < tb k - 32 then k else b) up

/-- The band that the next frame applies. -/
def State.bandWanted (s : State) : Nat := if s.flag R.BIN_STAT_NTC_FLT then s.bcfg 0x2A 1 else s.bin.band

/-- R481: a thermistor sample in or out of range. -/
def State.ntcSample (s : State) (ohm : Nat) : State :=
  if ohm < 100 ∨ 1000000 < ohm then
    let s := s.modBin fun b => { b with ntcGood := 0 }
    if s.flag R.BIN_STAT_NTC_FLT then s else (s.put R.BIN_STAT_NTC_FLT 1).binEvent 2 0
  else
    let l := (Config.glassTemp (s.bcfg 0 2) (s.bcfg 2 2) ohm :: s.bin.glass).take 16
    let t := roundDiv l.sum l.length
    let s := s.modBin fun b =>
      { b with glass := l, ntcGood := b.ntcGood + 1, band := bandFrom (fun k => s.cfgI 0x0E00 0 (4 + 2 * k) 2) t b.band }
    let s := s.put R.BIN_GLASS_TGLASS (ofInt 16 t)
    if s.flag R.BIN_STAT_NTC_FLT ∧ 16 ≤ s.bin.ntcGood then (s.put R.BIN_STAT_NTC_FLT 0).binEvent 2 1 else s

/-- I_RATED of an output in mA (Table 14.5). -/
def State.iRated (s : State) (n : Nat) : Rat := (s.bcfg (0x4A + n) 1 : Rat) / (if n < 8 then 10 else 5)

/-- R486: the current of the ending tick joins the stress counters; the registers show whole seconds. -/
def State.stressTick (s : State) : State :=
  let l := (List.range 10).map fun n =>
    s.bin.stress.getD n 0 + (if s.iRated n = 0 then 0 else s.bin.ma.getD n 0 / s.iRated n / 10000)
  (s.modBin fun b => { b with stress := l }).puts
    ((List.range 10).map fun n => (R.BIN_STRESS_VALUE n, (l.getD n 0).floor.toNat))

/-- What the Binnacle does at a tick edge (R481, R486): with its domain out of reset. -/
def State.binTick (s : State) (ohm vlcdMv : Nat) : State :=
  let s := ((s.put R.BIN_GLASS_VLCD_MV vlcdMv).ntcSample ohm).stressTick
  s.put R.BIN_STAT_BAND_PEND (b2n (s.bin.frameEnd.isSome && s.bandWanted != s.get R.BIN_STAT_BAND))

/-- R486: a write sets a stress counter. -/
def State.stressWrite (s : State) (n v : Nat) : State :=
  (s.modBin fun b => { b with stress := b.stress.set n v }).put (R.BIN_STRESS_VALUE n) v

/-! ### Content (R482 to R484) -/

/-- The page of a mode (Table 14.3): 0 off, 1 NORMAL, 2 LIMP. -/
def State.binPage (s : State) : Nat :=
  if s.inMode [mSTANDBY, mROAD, mFIELD, mSERVICE] then 1 else if s.mode = mLIMP then 2 else 0

/-- R482: shown in a frame that starts at tick count `t`: settings 0 steady, 1 A, 2 B, 3 A in antiphase. -/
def State.blinkOn (s : State) (setting t : Nat) : Bool :=
  let p := s.bcfg (if setting = 2 then 0x56 else 0x54) 2
  let on := decide (2 * (t % max p 1) < p)
  if setting = 0 then true else if setting = 3 then !on else on

/-- A page's segment bits and blink settings, from the registers or from BINPAGE instance 1. -/
def State.pageSeg (s : State) (i : Nat) : Bool :=
  if s.binPage = 1 then bit (s.get (R.BIN_SEG_BITS (i / 32))) (i % 32) else bit (s.cfg 0x0E01 1 (i / 8) 1) (i % 8)

def State.pageBlink (s : State) (i : Nat) : Nat :=
  if s.binPage = 1 then bits (s.get (R.BIN_BLINK_BITS (i / 16))) (2 * (i % 16)) 2
  else bits (s.cfg 0x0E01 1 (0x18 + i / 4) 1) (2 * (i % 4)) 2

/-- The on code of an output: LED0 to LED7, BLA, BLB (Table 14.6). -/
def State.pageOut (s : State) (n : Nat) : Nat :=
  let w := if s.binPage = 1 then s.get R.BIN_LED_LED + 65536 * s.get R.BIN_LED_BL else s.cfg 0x0E01 1 0x48 4
  bits w (2 * n) 2

def State.pageDim (s : State) (n : Nat) : Nat :=
  if s.binPage = 1 then s.get (if n < 8 then R.BIN_DIM_LED_DIM else R.BIN_DIM_BL_DIM)
  else s.cfg 0x0E01 1 (if n < 8 then 0x4C else 0x4D) 1

/-- Segments a to g of a decimal digit, bit by segment; the segment shapes are those of every seven-segment digit. -/
def digitSegs (d : Nat) : Nat := [0x3F, 0x06, 0x5B, 0x4F, 0x66, 0x6D, 0x7D, 0x07, 0x7F, 0x6F].getD d 0

/-- R484: what each digit of a field shows: segments a to g. -/
def State.fieldSegs (s : State) (i : Nat) : List Nat :=
  let n := s.cfg 0x0E02 i 4 1
  let w := s.mbx (s.cfg 0x0E02 i 0 4 % 2 ^ 20)
  let v := roundDiv (toInt 32 w.val * s.cfg 0x0E02 i 8 4) (2 ^ 40)
  if w.valid ∧ 0 ≤ v ∧ v < 10 ^ n then
    (List.range n).map fun d => if d = 0 ∨ 10 ^ d ≤ v.toNat then digitSegs (v.toNat / 10 ^ d % 10) else 0
  else List.replicate n 0x40

/-- The segments that fields drive on the page, each with whether it is on. -/
def State.fieldMap (s : State) : List (Nat × Bool) :=
  (List.range 4).flatMap fun i =>
    if s.has 0x0E02 i && bit (s.cfg 0x0E02 i 5 1) (s.binPage - 1) then
      (s.fieldSegs i).zipIdx.flatMap fun (m, d) =>
        (List.range 7).map fun k => (s.cfg 0x0E02 i (0x0C + 7 * d + k) 1, bit m k)
    else []

/-- The segments shown in a frame that starts at tick count `t`, bit by segment. -/
def State.segments (s : State) (t : Nat) : Nat :=
  let fs := s.fieldMap
  (List.range 192).foldl (fun m i =>
    let on := match fs.find? fun f => f.1 == i with
      | some (_, b) => b
      | none => s.pageSeg i
    if on && s.blinkOn (s.pageBlink i) t then m + 2 ^ i else m) 0

/-! ### Outputs (R485, R487) -/

/-- R487: the compensation gain at a stress in seconds, interpolated between COMP[0] to COMP[7]. -/
def State.compGain (s : State) (stress : Rat) : Rat :=
  let c (i : Nat) : Rat := (s.bcfg (0x30 + 2 * i) 2 : Rat) / 16384
  let step : Rat := 3600 * s.bcfg 0x2E 2
  if step = 0 then c 0
  else
    let x := stress / step
    let i := x.floor.toNat
    if 7 ≤ i then c 7 else c i + (c (i + 1) - c i) * (x - i)

/-- R485: what an output would draw, and its limit, in mA. -/
def State.outWant (s : State) (n : Nat) : Rat :=
  let i : Rat := if n < 8 then (s.bcfg (0x40 + n) 1 : Rat) / 10 else (s.bcfg (0x48 + n - 8) 1 : Rat) / 5
  i * s.pageDim n / 255 * s.compGain (s.bin.stress.getD n 0)

def outMax (n : Nat) : Rat := if n < 8 then 20 else 40

/-- The output is on in a frame that starts at `t`. -/
def State.outOn (s : State) (n t : Nat) : Bool :=
  let c := s.pageOut n
  !bit (s.get R.BIN_STAT_OUT_FLT) n && c != 0 && (c == 1 || s.blinkOn (c - 1) t)

/-- R485, R487: the ten outputs of a frame. -/
def State.outputs (s : State) (t : Nat) : State :=
  (List.range 10).foldl (fun s n =>
    if !s.outOn n t then s.modBin fun b => { b with ma := b.ma.set n 0 }
    else
      let w := s.outWant n
      let lim := decide (outMax n < w)
      let s' := s.modBin fun b => { b with
        ma := b.ma.set n (min w (outMax n)), limTold := if lim then n :: b.limTold.filter (· != n) else b.limTold }
      if lim && !s.bin.limTold.contains n then (s'.put R.BIN_STAT_COMP_LIM 1).binEvent 5 n else s') s

/-! ### Frames and slots (R478 to R480, R488, R489) -/

/-- The glass is dark: no page, segments blanked, or the pump stopped (R483, R488, R489). -/
def State.glassDark (s : State) : Bool :=
  s.get R.BIN_STAT_PAGE == 0 || s.flag R.BIN_STAT_BLANKED || s.bin.pump != 0

/-- Table 14.2: the levels of a slot; a dark glass holds V0. -/
def State.slotLevels (s : State) (slot : Nat) (dark : Bool) : State :=
  let c := slot % 4
  let neg := decide (4 ≤ slot)
  let com (k : Nat) : Nat := if k = c then (if neg then 0 else 3) else if neg then 2 else 1
  let seg (k : Nat) : Nat := if s.bin.shown.testBit (48 * c + k) then (if neg then 3 else 0) else if neg then 1 else 2
  s.modBin fun b => { b with
    slot := slot
    com := if dark then [0, 0, 0, 0] else (List.range 4).map com
    seg := if dark then List.replicate 48 0 else (List.range 48).map seg }

/-- R488: the crack loop passes. -/
def State.loopPasses (s : State) (ohm ua : Nat) : Bool :=
  decide (ohm ≤ s.bcfg 0x2C 2) && decide (900 ≤ ua ∧ ua ≤ 1100)

/-- R488: the crack loop at a frame start: BLANKED follows the latches as they stood, then the loop is measured. -/
def State.crackCheck (s : State) (ohm ua : Nat) : State :=
  let latched := s.flag R.BIN_STAT_CRACK || s.flag R.BIN_STAT_CRACK_LEAK
  let blank := s.bcfg 0x2B 1 == 1 && (latched || s.flag R.BIN_STAT_BLANKED && !s.loopPasses ohm ua)
  let s := s.put R.BIN_STAT_BLANKED (b2n blank)
  let n := if s.bcfg 0x2C 2 < ohm then s.bin.crackN + 1 else 0
  let s := s.modBin fun b => { b with crackN := n }
  let s := if 3 ≤ n ∧ !s.flag R.BIN_STAT_CRACK then (s.put R.BIN_STAT_CRACK 1).binEvent 0 0 else s
  if !(decide (900 ≤ ua ∧ ua ≤ 1100)) ∧ !s.flag R.BIN_STAT_CRACK_LEAK then (s.put R.BIN_STAT_CRACK_LEAK 1).binEvent 1 0
  else s

/-- R489: VLCD against its set value at a frame start, while the pump runs. -/
def State.pumpCheck (s : State) : State :=
  let v := s.get R.BIN_GLASS_VLCD_MV
  let off := decide (s.bin.vlcd < 10 * ((v : Int) - s.bin.vlcd).natAbs)
  let n := if off && s.bin.frameEnd.isSome && s.bin.pump == 0 then s.bin.vlcdN + 1 else 0
  let s := s.modBin fun b => { b with vlcdN := n }
  if 2 ≤ n then
    ((s.modBin fun b => { b with pump := 1, pumpAt := s.chr.tick, vlcdN := 0 }).put R.BIN_STAT_PUMP_FLT 1).binEvent 3 0
  else s

/-- R485: outputs whose sink or string failed over the last frame. -/
def State.outFaults (s : State) (m : Nat) : State :=
  (List.range 10).foldl (fun s n =>
    if bit m n && !bit (s.get R.BIN_STAT_OUT_FLT) n && decide (0 < s.bin.ma.getD n 0) then
      (s.orBits R.BIN_STAT_OUT_FLT (2 ^ n)).binEvent 4 n
    else s) s

/-- BIN_FRAME_START (R479 to R489): a frame begins at a tick edge where the last one ends; the crack loop's resistance
and returned current, and the outputs that failed over the last frame. -/
def execBinFrameStart (crackOhm crackUa : Nat) (outFault : BitVec 10) (s : State) : Out :=
  let t := s.chr.tick
  let due := match s.bin.frameEnd with
    | some e => decide (e ≤ t)
    | none => true
  if s.binPage = 0 ∨ due = false then .next s
  else
    let s := ((s.atPhase 0).pumpCheck).outFaults outFault.toNat
    let band := s.bandWanted
    let len := s.bcfg (0x22 + band) 1
    let s := s.puts [(R.BIN_STAT_BAND, band), (R.BIN_STAT_BAND_PEND, 0), (R.BIN_STAT_PAGE, s.binPage),
      (R.BIN_FRAME_START, t)]
    let s := s.crackCheck crackOhm crackUa
    let s := s.modBin fun b => { b with
      frameEnd := some (t + len), len, vlcd := s.bcfg (0x12 + 2 * band) 2, shown := s.segments t }
    .next ((s.outputs t).slotLevels 0 (s.outputs t).glassDark)

/-- BIN_SLOT (R478, R479): the next of the eight slots. A glass that a frame began dark stays dark to its end, since every segment
sees a zero mean over each whole frame. -/
def execBinSlot (s : State) : Out :=
  let next := s.bin.slot + 1
  match s.bin.frameEnd with
  | none => .next s
  | some e =>
    if 8 ≤ next ∨ s.chr.tick + s.bin.len < e + next * (s.bin.len / 8) then .next s
    else .next ((s.atPhase 0).slotLevels next (s.glassDark || s.bin.com == [0, 0, 0, 0]))

/-- BIN_PUMP_RETRY (R489): one retry after 1 s. -/
def execBinPumpRetry (ok : Bool) (s : State) : Out :=
  if s.bin.pump ≠ 1 ∨ s.chr.tick < s.bin.pumpAt + 10000 then .next s
  else if ok then .next (s.modBin fun b => { b with pump := 0 })
  else .next ((s.modBin fun b => { b with pump := 2 }).binEvent 3 1)

/-- BIN_OUT_FLT_CLEAR, BIN_CRACK_CLEAR, BIN_PUMP_FLT_CLEAR (R485, R488, R489): W1C of BIN_STAT. -/
def State.outFltClear (s : State) (m : Nat) : State := s.clrBits R.BIN_STAT_OUT_FLT m

def State.crackClear (s : State) (crack leak : Bool) : State :=
  let s := if crack then s.put R.BIN_STAT_CRACK 0 else s
  if leak then s.put R.BIN_STAT_CRACK_LEAK 0 else s

def State.pumpClear (s : State) : State := (s.modBin fun b => { b with pump := 0, vlcdN := 0 }).put R.BIN_STAT_PUMP_FLT 0

def execBinOutFltClear (mask : BitVec 10) (s : State) : Out := .next (s.outFltClear mask.toNat)
def execBinCrackClear (crack leak : Bool) (s : State) : Out := .next (s.crackClear crack leak)
def execBinPumpFltClear (s : State) : Out := .next s.pumpClear

end Sys2Proof.Machine
end

