-- ==== Sys2Proof/Machine/Law.lean ====
section
/-! DEFINITION. The arithmetic of a Helm law: Q15.32 sums and products (R183), the laws of R185 to R189, and the tables
of R192, R229 and R230. -/

namespace Sys2Proof.Machine

/-- R183: a sum saturates at the Q15.32 limits. -/
def satQ (x : Int) : Int := satS 48 x

/-- Q7.24 as Q15.32, and back with the rounding and saturation of R183. -/
def q32 (x : Int) : Int := x * 256
def q24 (x : Int) : Int := satS 32 (roundShift x 8)

/-- A product of a Q15.32 value and a factor with `f` fractional bits, rounded to Q15.32. -/
def mulQ (x a : Int) (f : Int) : Int := satQ (roundShift (x * a) f)

/-- A quotient whose denominator may be negative, rounded as R183. -/
def divQ (n d : Int) : Int := if d < 0 then roundDiv (-n) (-d) else roundDiv n d

/-- The law of a channel and its parameters (Tables 5.6 and 5.12). -/
structure LawP where
  law : Nat
  order : Nat
  integral : Bool
  k : Nat
  p : List Int
  bw : Int
  cw : Int
deriving DecidableEq, Repr

def LawP.P (l : LawP) (i : Nat) : Int := l.p.getD i 0

/-- The integrator gain and limit of the law, if it has an integrator: KI in Q15.16, I_MAX in Q7.24. -/
def LawP.integ (l : LawP) : Option (Int × Int) :=
  if l.law = 1 then some (l.P 1, l.P 4)
  else if l.law = 2 ∧ l.integral then some (l.P 3, l.P 4)
  else if l.law = 3 ∧ l.integral then some (l.P 5, l.P 6)
  else none

/-- The law's memories: I, D or Lv, v_prev, e_prev, in Q15.32. -/
structure LawMem where
  integ : Int
  dl : Int
  v : Int
  e : Int
deriving DecidableEq, Repr

/-- R186: the integrator. -/
def integrate (prev ki imax e clip : Int) (k : Nat) : Int :=
  if clip * (ki * e) > 0 then prev
  else clamp (-(q32 imax)) (q32 imax) (satQ (prev + roundDiv (ki * 2 ^ k * e) (2 ^ 16 * 10000)))

/-- What a law forms beside I: u = (pre + I) + post, with the new memories. -/
structure LawOut where
  pre : Int
  post : Int
  mem : LawMem
deriving DecidableEq, Repr

/-- R185: PID2, from r and y in Q7.24. -/
def pid2 (l : LawP) (r y : Int) (m : LawMem) (fresh : Bool) : LawOut :=
  let p := mulQ (satQ (roundShift (r * l.bw) 7 - q32 y)) (l.P 0) 16
  let v := satQ (roundShift (r * l.cw) 7 - q32 y)
  let vp := if fresh then v else m.v
  let dp := if fresh then 0 else m.dl
  let d := satQ (roundDiv ((l.P 3 * dp + l.P 2 * satQ (v - vp)) * 10000) (l.P 3 * 10000 + 2 ^ l.k * 2 ^ 24))
  ⟨p, d, { m with dl := d, v := v }⟩

/-- R187: LEADLAG. -/
def leadLag (l : LawP) (r y : Int) (m : LawMem) (fresh : Bool) : LawOut :=
  let e := satQ (q32 (r - y))
  let ep := if fresh then e else m.e
  let t := 2 ^ l.k * 2 ^ 24
  let den := 2 * l.P 2 * 10000 + t
  let a1 := satQ (roundDiv ((2 * l.P 2 * 10000 - t) * 2 ^ 32) den)
  let b0 := satQ (roundDiv (l.P 0 * (2 * l.P 1 * 10000 + t) * 2 ^ 16) den)
  let b1 := satQ (roundDiv (l.P 0 * (t - 2 * l.P 1 * 10000) * 2 ^ 16) den)
  let lv := satQ (satQ (mulQ a1 (if fresh then 0 else m.dl) 32 + mulQ b0 e 32) + mulQ b1 ep 32)
  ⟨lv, 0, { m with dl := lv, e := e }⟩

/-- R188: SFB of order `m`, states y and AUX1 to AUX3. -/
def sfb (l : LawP) (r y : Int) (aux : List Int) (m : LawMem) : LawOut :=
  let xs := (y :: aux).take l.order
  let ks := [l.P 0, l.P 1, l.P 2, l.P 3]
  let sum := (xs.zip ks).foldl (fun acc xk => satQ (acc + mulQ (q32 xk.1) xk.2 16)) 0
  ⟨satQ (mulQ (q32 r) (l.P 4) 16 - sum), 0, m⟩

/-- The law of a channel without its integrator (R185 to R189). -/
def lawEval (l : LawP) (r y : Int) (aux : List Int) (m : LawMem) (fresh : Bool) : LawOut :=
  if l.law = 1 then pid2 l r y m fresh
  else if l.law = 2 then leadLag l r y m fresh
  else if l.law = 3 then sfb l r y aux m
  else ⟨q32 r, 0, m⟩

/-- R192: the valve linearisation, from uo in Q7.24 to w in Q15.32. -/
def vlinTable (tab : Nat → Int) (minV : Int) (sh : Nat) (uo : Int) : Int :=
  let t := (uo - minV) * 2 ^ sh
  if t < 0 then q32 (tab 0)
  else if t ≥ 64 * 2 ^ 24 then q32 (tab 64)
  else
    let i := (t / 2 ^ 24).toNat
    satQ (q32 (tab i) + roundShift (t % 2 ^ 24 * (tab (i + 1) - tab i)) 16)

/-- R229: the friction table at position `p` (Q7.24) and velocity `v` (Q15.32). -/
def frictionTable (tab : Nat → Int) (minV : Int) (sh : Nat) (wrap : Bool) (vdb p v : Int) : Int :=
  let t := (p - minV) * 2 ^ sh
  let t := if wrap then t % (512 * 2 ^ 24) else clamp 0 (511 * 2 ^ 24) t
  let i := (t / 2 ^ 24).toNat
  let j := if wrap then (i + 1) % 512 else min (i + 1) 511
  let at_ (b : Nat) : Int := satQ (q32 (tab (b + i)) + roundShift (t % 2 ^ 24 * (tab (b + j) - tab (b + i))) 16)
  let fp := at_ 0
  let fn := at_ 512
  let d := q32 vdb
  if v > d then fp else if v < -d then fn
  else if d = 0 then fn
  else satQ (fn + mulQ (satQ (roundDiv ((v + d) * 2 ^ 32) (2 * d))) (fp - fn) 32)

/-- R230: the cogging table at angle `theta` (Q7.24 revolutions). -/
def coggingTable (tab : Nat → Int) (pairs : Nat) (ofs gain theta : Int) : Int :=
  let t := (theta * pairs + ofs) % 2 ^ 24 * 512
  let i := (t / 2 ^ 24).toNat
  mulQ (satQ (q32 (tab i) + roundShift (t % 2 ^ 24 * (tab ((i + 1) % 512) - tab i)) 16)) gain 30

end Sys2Proof.Machine
end

