-- ==== Sys2Proof/Machine/Timetable.lean ====
section
/-! DEFINITION. Costs, budgets, the timetable and the shed ladder of a Helm group (R78, R193, R194, R237, R527). -/

namespace Sys2Proof.Machine

/-- Table 5.2: release and deadline in CLK_H cycles. -/
def ttWindow (cls phase lat : Nat) : Nat × Nat :=
  if cls = 0 then (4 * phase + 40, 4 * (phase + [400, 800, 1600, 3200].getD lat 0) - 40)
  else if cls = 1 then (40, 4 * phase - 40)
  else if cls = 2 then (4 * phase + 40, 23560)
  else if cls = 3 then (40, 23560)
  else (40, 39920)

/-- Table 5.7: the cost of a law with its options. -/
def lawCost (law order opts naux : Nat) : Nat :=
  [300, 1200, 1000, 800 + 500 * order].getD law 0 + 300 * b2n (bit opts 6) + 150 * b2n (bit opts 0) +
    150 * b2n (bit opts 1) + 100 * b2n (bit opts 2) + 400 * b2n (bit opts 3) + 900 * b2n (bit opts 4) +
    900 * b2n (bit opts 5) + 100 * naux

/-- R78: Σ cost × rate over a group, in 1/128 slice-cycles per tick. -/
def ttLoad (l : List TtChan) : Nat := (l.map fun c => c.cost * 2 ^ (7 - c.k)).sum

/-- The order of jobs in R194: deadline, then release, then channel number. -/
def ttBefore (a b : TtChan) : Bool :=
  decide (a.dl < b.dl) || (a.dl == b.dl && (decide (a.rel < b.rel) || (a.rel == b.rel && decide (a.ch ≤ b.ch))))

/-- The cell with slices left that is free first, the lowest on a tie. -/
def freeCell (a free : List Nat) : Option Nat :=
  (List.range 4).foldl (fun best x =>
    if a.getD x 0 = 0 then best
    else match best with
      | none => some x
      | some b => if free.getD x 0 < free.getD b 0 then some x else some b) none

/-- Rounded-up quotient. -/
def ceilDiv (n d : Nat) : Nat := (n + d - 1) / d

/-- R194: one tick's jobs placed in order; the first that does not fit. -/
def placeJobs (a : List Nat) : List TtChan → List Nat → Option Nat
  | [], _ => none
  | j :: js, free =>
    match freeCell a free with
    | none => some j.ch
    | some x =>
      let fin := max (free.getD x 0) j.rel + ceilDiv j.cost (a.getD x 1)
      if fin > j.dl then some j.ch else placeJobs a js (free.set x fin)

/-- R172, R194: the placement of one tick's jobs: channel, cell and start, up to the first that does not fit. -/
def placements (a : List Nat) : List TtChan → List Nat → List (Nat × Nat × Nat)
  | [], _ => []
  | j :: js, free =>
    match freeCell a free with
    | none => []
    | some x =>
      let start := max (free.getD x 0) j.rel
      let fin := start + ceilDiv j.cost (a.getD x 1)
      if fin > j.dl then [] else (j.ch, x, start) :: placements a js (free.set x fin)

/-- The cell and the start, in CLK_H cycles, that a timetable gives a channel's job in a tick. -/
def Timetable.slot (w : Timetable) (tick c : Nat) : Option (Nat × Nat) :=
  ((placements w.a ((sortBy ttBefore w.chans).filter fun j => tick % 2 ^ j.k == j.toff) [40, 40, 40, 40]).find? fun p =>
    p.1 == c).map (·.2)

/-- R194: the first channel whose job does not fit, over the 128 values of the tick count. -/
def windowFail (a : List Nat) (l : List TtChan) : Option Nat :=
  let l := sortBy ttBefore l
  (List.range 128).findSome? fun t =>
    placeJobs a (l.filter fun c => t % 2 ^ c.k == c.toff) [40, 40, 40, 40]

/-- R237: a shed unit by its innermost member, outermost first (a chain is at most three deep, R213). -/
def shedUnit (l : List TtChan) (inner : TtChan) : List TtChan :=
  let up (c : TtChan) : Option TtChan := c.outer.bind fun o => l.find? fun x => x.ch == o
  match up inner with
  | none => [inner]
  | some m => match up m with
    | none => [m, inner]
    | some o => [o, m, inner]

/-- A channel that is no other channel's outer. -/
def innermost (l : List TtChan) (c : TtChan) : Bool := !(l.any fun x => x.outer == some c.ch)

/-- R237, R527: the unit to shed next. -/
def nextUnit (l : List TtChan) : Option (List TtChan) :=
  let ok := (l.filter (innermost l)).filter fun c =>
    (shedUnit l c).all fun m => decide (m.k < m.floor) && decide (0 < m.prio)
  let better (a b : TtChan) : Bool := decide (a.prio > b.prio) || (a.prio == b.prio && decide (a.ch > b.ch))
  (ok.foldl (fun best c => match best with
    | none => some c
    | some b => if better c b then some c else some b) none).map (shedUnit l)

/-- Jobs in the busiest tick. -/
def busiest (l : List TtChan) : Nat :=
  ((List.range 128).map fun t => (l.filter fun c => t % 2 ^ c.k == c.toff).length).foldl max 0

/-- The unit with every K raised, its outermost at the TOFF given (R214, R237). -/
def shedWith (toff : Nat) : List TtChan → List TtChan
  | [] => []
  | c :: cs => { c with k := c.k + 1, toff := toff } :: shedWith ((toff + 1) % 2 ^ ((cs.headD c).k + 1)) cs

/-- The channel list with a unit replaced. -/
def putUnit (l u : List TtChan) : List TtChan :=
  l.map fun c => (u.find? fun x => x.ch == c.ch).getD c

/-- One shed step of R237. -/
def shedStep (l u : List TtChan) : List TtChan :=
  match u with
  | [] => l
  | c :: _ =>
    let jobs (t : Nat) : Nat := busiest (putUnit l [{ c with k := c.k + 1, toff := t }])
    let hi := c.toff + 2 ^ c.k
    putUnit l (shedWith (if jobs hi < jobs c.toff then hi else c.toff) u)

/-- The channel with the largest cost / 2^K in force, the highest number on a tie (R527). -/
def heaviest (l : List TtChan) : Option Nat :=
  (l.foldl (fun best c => match best with
    | none => some c
    | some b =>
      let x := c.cost * 2 ^ (7 - c.k)
      let y := b.cost * 2 ^ (7 - b.k)
      if x > y ∨ (x = y ∧ c.ch > b.ch) then some c else some b) none).map (·.ch)

/-- What the shed ladder has come to (R237): the channels left, those removed, the steps taken, and channel, K and TOFF of
every member of every unit shed, in the order of the steps. -/
structure Ladder where
  chans : List TtChan
  removed : List Nat := []
  steps : Nat := 0
  shed : List (Nat × Nat × Nat) := []
deriving DecidableEq, Repr

/-- One shed step of R237 with its trace. -/
def Ladder.step (l : Ladder) (u : List TtChan) : Ladder :=
  let l' := shedStep l.chans u
  { l with
    chans := l', steps := l.steps + 1
    shed := l.shed ++ u.map fun m => match l'.find? fun c => c.ch == m.ch with
      | some c => (c.ch, c.k, c.toff)
      | none => (m.ch, m.k, m.toff) }

/-- A channel leaves the timetable (R237). -/
def Ladder.remove (l : Ladder) (c : Nat) : Ladder :=
  { l with chans := l.chans.filter fun x => x.ch != c, removed := l.removed ++ [c] }

/-- R237: the shed ladder. The fuel covers every raise of a K and every removal of a group's 16 channels. -/
def shedLadder (a : List Nat) : (fuel : Nat) → Ladder → Ladder
  | 0, l => l
  | fuel + 1, l =>
    let fail := windowFail a l.chans
    if ttLoad l.chans ≤ 128 * 36000 * a.sum ∧ fail = none then l
    else
      match nextUnit l.chans with
      | some u => shedLadder a fuel (l.step u)
      | none =>
        match (match fail with
          | some c => some c
          | none => heaviest l.chans) with
        | some c => shedLadder a fuel (l.remove c)
        | none => l

end Sys2Proof.Machine
end

