-- ==== Sys2Proof/Machine/Helm.lean ====
section
/-! DEFINITION. Helm: sources, sinks, hand-over, computations and overruns of a channel (Helm: Channels, Laws and
Timing; Helm: Cascades, Hand-over, Compensation and Direct Drives). -/

namespace Sys2Proof.Machine

/-! ### A channel's record and state -/

/-- Fields of the CHAN and HCTL bodies of channel `c` (Tables 5.12 and 6.7). -/
def State.chanB (s : State) (c off n : Nat) : Nat := s.cfg 0x0300 c off n
def State.chanI (s : State) (c off n : Nat) : Int := s.cfgI 0x0300 c off n
def State.hctl (s : State) (c off n : Nat) : Nat := s.cfg 0x0302 c off n

/-- R171: a channel without a CHAN record is OFF. -/
def State.chanOn (s : State) (c : Nat) : Bool := s.has 0x0300 c

/-- OPTS bits of Table 5.12. -/
def State.opt (s : State) (c i : Nat) : Bool := bit (s.chanB c 0x07 1) i

def State.chan (s : State) (c : Nat) : Chan := s.hlm.chans.getD c {}

def State.modChan (s : State) (c : Nat) (f : Chan → Chan) : State :=
  { s with hlm.chans := s.hlm.chans.modify c f }

/-- HLM_CHST.STATE (Table 5.1). -/
def State.chState (s : State) (c : Nat) : Nat := s.get (R.HLM_CHST_STATE c)

/-- The applied value: what the sink holds (HLM_CHRAW). -/
def State.applied (s : State) (c : Nat) : Int := toInt 32 (s.get (R.HLM_CHRAW_VALUE c))

/-- HLM_AM.AM: the channel is in MAN. -/
def State.inMan (s : State) (c : Nat) : Bool := s.flag (R.HLM_AM_AM c)

/-- K in force, and TOFF in force (R174). -/
def State.kNow (s : State) (c : Nat) : Nat := s.get (R.HLM_RATE_K_NOW c)
def State.toffNow (s : State) (c : Nat) : Nat := s.get (R.HLM_RATE_TOFF_NOW c)

/-- R174: the channel's computing ticks, which are also the ticks of its output instants. -/
def State.dueNow (s : State) (c : Nat) : Bool := s.chr.tick % 2 ^ s.kNow c == s.toffNow c

/-- R212: a channel event and a group event. -/
def State.chEvent (s : State) (c reason detail : Nat) : State := s.raise (32 + 2 * (c / 16)) [c, reason, detail]
def State.grpEvent (s : State) (g reason detail : Nat) : State := s.raise (33 + 2 * g) [reason, detail]

/-- R195: the channel's law may run in the present mode. -/
def State.lawAllowed (s : State) (c : Nat) : Bool :=
  s.chanOn c && bit (s.chanB c 0x08 1) s.mode && !(s.mode == mROAD && bit (s.chanB c 0x09 1) 0)

/-- R202: no channel of the group leaves STOPPED while its timetable is stale or has failed. -/
def State.ttBlocked (s : State) (g : Nat) : Bool := s.flag (R.HLM_GSTAT_TT_STALE g) || s.flag (R.HLM_GSTAT_TT_FAIL g)

/-! ### Sources (R177, R179, R182) -/

/-- R247: an analogue input without a usable modulator. -/
def State.noMod (s : State) (n : Nat) : Bool :=
  match s.dio.aiMod.getD n none with
  | some m => s.dio.retired.contains m
  | none => true

/-- R251: the filtered levels of the digital inputs at a time, in CLK_T cycles of the tick count. -/
def State.dioLevel (s : State) (t : Nat) : Nat :=
  (s.dio.deb.filter fun d => decide (d.2.2 ≤ t)).foldl (fun m d => setBit m d.1 d.2.1) (s.get R.DIO_IN_LEVEL)

/-- Table 6.4: a sample of an analogue input is faulty; without a record it is not checked (R252). -/
def State.aiFaulty (s : State) (x : AiSample) : Bool :=
  s.has 0x1101 x.n &&
    (s.noMod x.n || s.flag (R.DIO_AI_STAT_BURDEN x.n) ||
      match s.cfg 0x1101 x.n 0 1 with
      | 0 => decide (x.raw > 5250000)
      | 1 => decide (x.raw > 10500000)
      | 2 => decide (x.raw < 3600000 ∨ x.raw > 21000000)
      | _ => decide (x.diffUv > 44000 ∨ x.diffUv < -44000 ∨ x.cmMv < 1500 ∨ x.cmMv > 3500))

/-- R42: an input, of kind 0 AI, 1 PI or 2 DIO, is fed by a supply that is off: an EXC pair feeds two inputs and SUP8 the
pulse inputs (Table 1.5); which inputs the harness feeds from SUP5A, SUP5B and SUP10 the manual does not say. -/
def State.supplyOff (s : State) (kind n : Nat) : Bool :=
  (kind == 0 && decide (16 ≤ n) && !bit s.sensOn (4 + (n - 16) / 2)) || (kind == 1 && !bit s.sensOn 3) ||
    [0, 1, 2].any fun sup => !bit s.sensOn sup && Config.sensorFed sup kind n

/-- The AUX value of an analogue input in Q7.24 (Table 6.4). -/
def State.aiAux (s : State) (n : Nat) (raw : Int) : Int :=
  let d : Int := if s.cfg 0x1101 n 0 1 ≤ 1 then 1000000 else 1000000000
  satS 32 (roundDiv (raw * 2 ^ 24) d)

/-- R249: a pulse input's count at a phase of this tick: without the edges after it. -/
def State.countAt (s : State) (n ph : Nat) : Nat :=
  let later := ((s.dio.pis.getD n {}).at_.filter fun t => decide (10000 * s.chr.tick + ph < t)).length
  ofInt 32 ((s.get (R.DIO_PI_CNT_VALUE n) : Int) - later)

/-- A direct input: AI, PI or DIO number `n` at phase `ph`, as raw or AUX value, and its validity (R42, R248). -/
def State.directIn (s : State) (ai : List AiSample) (ph kind n : Nat) (aux : Bool) : Int × Bool :=
  let fed := !s.supplyOff kind n
  if kind = 0 then
    let x := (ai.find? fun x => x.n == n).getD ⟨n, toInt 32 (s.get (R.DIO_AI_VAL_VALUE n)), 0, 2500⟩
    (if aux then s.aiAux n x.raw else x.raw, !s.aiFaulty x && fed)
  else if kind = 1 then
    if s.cfg 0x1102 n 3 1 = 0 then (toInt 32 (s.countAt n ph), fed)
    else
      let f : Int := s.get (R.DIO_PI_RATE_VALUE n)
      (if aux then satS 32 (roundDiv (f * 2 ^ 24) 1000000) else f, fed)
  else
    let b : Int := b2n (bit (s.dioLevel (10000 * s.chr.tick + ph)) n)
    (if aux then b * 2 ^ 24 else b, fed)

/-- MRD_MISM of a station (R154). -/
def State.stationFailed (s : State) (st : Nat) : Bool := bit (s.get (R.MRD_MISM_BITS (st / 32))) (st % 32)

/-- A word of a station's C-slot as the input table holds it (R150). -/
def State.ringWord (s : State) (st w : Nat) : Int × Bool :=
  match s.mrd.inTab.find? fun p => p.1 == st with
  | some (_, r) => (toInt 32 (leNat ((r.payload.drop (4 * w)).take 4)), r.valid && !s.stationFailed st)
  | none => (0, false)

/-- The value in force of a ring word, a mailbox word, a channel word or a broadcast word, as a group's copy takes it (R387). -/
def State.wordNow (s : State) (g sel : Nat) : Int × Bool :=
  let kind := bits sel 28 4
  if kind = 3 then s.ringWord (bits sel 8 6) (bits sel 0 8)
  else if kind = 4 then (toInt 32 (s.mbx (bits sel 0 20)).val, (s.mbx (bits sel 0 20)).valid)
  else if kind = 5 then
    (if bit sel 7 then (s.chan (bits sel 0 7)).lY else (s.chan (bits sel 0 7)).lUo, true)
  else if kind = 6 then (toInt 32 (s.get (R.HLM_BCW_VALUE g (bits sel 0 4))), true)
  else (0, true)

/-- R387: a word from the group's copy, in the half in force in this tick. -/
def State.copied (s : State) (g sel : Nat) : Int × Bool :=
  match ((s.hlm.copies.getD g {}).front).find? fun e => e.sel == sel with
  | some e => (e.val, e.ok)
  | none => s.wordNow g sel

/-- The value of a selector for a channel (Table 5.3): IN_SRC reads raw values, every other selector AUX values. -/
def State.source (s : State) (c : Nat) (ai : List AiSample) (sel : Nat) (aux : Bool) : Int × Bool :=
  let kind := bits sel 28 4
  if kind = 1 then s.directIn ai (s.chanB c 0x04 2) (bits sel 8 2) (bits sel 0 5) aux
  else if kind = 2 then (s.dio.imu.getD (bits sel 0 3) 0, !s.dio.imuFault)
  else s.copied (c / 16) sel

/-- The selectors that a computation reads, in order: IN_SRC, AUX1 to AUX3, FR_POS, FR_VEL, CG_ANG (R231). -/
def State.srcList (s : State) (c : Nat) : List Nat :=
  [s.chanB c 0x0C 4, s.chanB c 0x10 4, s.chanB c 0x14 4, s.chanB c 0x18 4,
    if s.opt c 4 then s.cfg 0x0303 c 0 4 else 0, if s.opt c 4 then s.cfg 0x0303 c 4 4 else 0,
    if s.opt c 5 then s.cfg 0x0304 c 0 4 else 0]

/-- R182, Table 10.3: the values a computation reads. -/
def State.readInputs (s : State) (c : Nat) (ai : List AiSample) : List (Int × Bool) :=
  (s.srcList c).zipIdx.map fun (sel, i) =>
    let v := s.source c ai sel (i != 0)
    (v.1, v.2 && !s.hlm.badIn.contains (c, i))

/-- R196: in LIMP the limp setpoint replaces every source but an outer channel that runs on. -/
def State.limpSp (s : State) (c : Nat) : Bool :=
  s.mode == mLIMP && !(s.chanB c 0x0B 1 == 1 && bit (s.chanB (bits (s.chanB c 0x20 4) 0 7) 0x08 1) 6)

/-- R196: the setpoint and its validity. -/
def State.setpoint (s : State) (c : Nat) : Int × Bool :=
  let src := s.chanB c 0x0B 1
  let ref := s.chanB c 0x20 4
  if s.limpSp c then
    (s.cfgI 0x0C02 0 (8 * c + 4 * s.get R.ALM_MODE_LIMP_SET) 4, true)
  else if src = 0 then (toInt 32 (s.get (R.HLM_SP_VALUE c)), true)
  else if src = 1 then ((s.chan (bits ref 0 7)).lRaw, true)
  else if src = 2 then s.copied (c / 16) (0x40000000 + bits ref 0 20)
  else if src = 3 then (s.chanI c 0x7C 4, true)
  else s.copied (c / 16) (0x60000000 + bits ref 0 4)

/-! ### Scalings -/

/-- R184: the input scaling to Q7.24. -/
def State.scaleIn (s : State) (c : Nat) (raw : Int) : Int :=
  satS 32 (roundShift ((raw - s.chanI c 0x24 4) * s.chanI c 0x28 4) (6 + s.chanI c 0x2C 1))

/-- The limits of a sink (R180, R240). -/
def satSink (dst : Nat) (x : Int) : Int := if bits dst 28 4 = 1 then clamp 0 3000000 x else satS 32 x

/-- R184, R192: VLIN and the output scaling, from uo in Q7.24 to the sink value. -/
def State.scaleOut (s : State) (c : Nat) (uo : Int) : Int :=
  let w := if s.opt c 3 then
      vlinTable (fun i => s.cfgI 0x0301 c (8 + 4 * i) 4) (s.cfgI 0x0301 c 0 4) (s.cfg 0x0301 c 4 1) uo
    else q32 uo
  satSink (s.chanB c 0x1C 4) (roundShift (w * s.chanI c 0x6C 4) (62 - s.chanI c 0x74 1) + s.chanI c 0x70 4)

/-- R190: uo_prev from the value the sink holds. -/
def State.unscaleOut (s : State) (c : Nat) (raw : Int) : Int :=
  let gain := s.chanI c 0x6C 4
  let lo := s.chanI c 0x60 4
  let hi := s.chanI c 0x64 4
  if gain = 0 ∨ bits (s.chanB c 0x1C 4) 28 4 = 0 then clamp lo hi 0
  else
    let sh := s.chanI c 0x74 1
    let n := (raw - s.chanI c 0x70 4) * 2 ^ 54 * 2 ^ (-sh).toNat
    clamp lo hi (satS 32 (divQ n (gain * 2 ^ sh.toNat)))

/-- The law and its parameters. -/
def State.lawP (s : State) (c : Nat) : LawP where
  law := s.chanB c 0x01 1
  order := bits (s.chanB c 0x0A 1) 1 2 + 1
  integral := s.opt c 6
  k := s.kNow c
  p := (List.range 7).map fun i =>
    let unsignedWord := (s.chanB c 0x01 1 == 1 && i == 3) || (s.chanB c 0x01 1 == 2 && (i == 1 || i == 2))
    if unsignedWord then (s.chanB c (0x40 + 4 * i) 4 : Int) else s.chanI c (0x40 + 4 * i) 4
  bw := s.chanB c 0x2E 2
  cw := s.chanB c 0x30 2

/-- STRUCT.HELMSMAN. -/
def State.helmsman (s : State) (c : Nat) : Bool := bit (s.chanB c 0x0A 1) 0

/-! ### Sinks (R176, R180) -/

/-- The current output is off (Table 6.3, R34). -/
def State.pcOff (s : State) (n : Nat) : Bool :=
  s.flag (R.DIO_PC_STAT_OC n) || s.flag (R.DIO_PC_STAT_FAULTY n) || s.flag (R.DIO_PC_STAT_SUPPLY_LOST n) || s.pwr.uvLost

/-- The channel's sink is switched off (R234, R251). -/
def State.sinkOff (s : State) (c : Nat) : Bool :=
  let dst := s.chanB c 0x1C 4
  if bits dst 28 4 = 1 then s.pcOff (bits dst 0 4)
  else if bits dst 28 4 = 2 then bit (s.get R.DIO_OFLT_OC) (bits dst 0 4)
  else false

def State.modPc (s : State) (n : Nat) (f : Pc → Pc) : State := { s with dio.pcs := s.dio.pcs.modify n f }

/-- DIOCFG.DIR: the contact is an output (R251). -/
def State.dioOut (s : State) (n : Nat) : Bool := s.has 0x1103 n && s.cfg 0x1103 n 0 1 == 1

/-- A value goes into the channel's sink; a switched-off sink stays at 0, and a contact that is an input drives nothing
(R251). HLM_CHRAW holds the value of a ring word (R178). -/
def State.sinkWrite (s : State) (c : Nat) (v : Int) : State :=
  let dst := s.chanB c 0x1C 4
  let v := if s.sinkOff c then 0 else v
  let s := s.put (R.HLM_CHRAW_VALUE c) (ofInt 32 v)
  if bits dst 28 4 = 1 then s.modPc (bits dst 0 4) fun p => { p with val := v }
  else if bits dst 28 4 = 2 then
    s.put R.DIO_OUT_STATE (setBit (s.get R.DIO_OUT_STATE) (bits dst 0 4) (v != 0 && s.dioOut (bits dst 0 4)))
  else s

/-! ### Hand-over (R218 to R228) -/

/-- The manual value as a sink value (Table 6.1). -/
def State.manRaw (s : State) (c : Nat) : Int :=
  let m := if s.hctl c 0x0E 1 = 1 then toInt 32 (s.get (R.HLM_MAN_VALUE c)) else (s.chan c).man
  s.scaleOut c (clamp (s.chanI c 0x60 4) (s.chanI c 0x64 4) m)

/-- SAFE_RAW as a sink value. -/
def State.safeRaw (s : State) (c : Nat) : Int := satSink (s.chanB c 0x1C 4) (s.chanI c 0x78 4)

/-- R218: the target value of a hand-over at this instant; none while a law that leads it has given no output for it. -/
def State.hoTarget (s : State) (c : Nat) : Option Int :=
  let x := s.chan c
  match x.svc with
  | some v => some v
  | none => if x.target ≠ 2 then some (s.safeRaw c) else if s.inMan c then some (s.manRaw c) else x.result

/-- HLM_HOVD: target less applied value; 0 before the target is known. -/
def State.hovd (s : State) (c : Nat) : Nat :=
  match (s.hoTarget c).or (s.chan c).rawLaw with
  | some t => ofInt 32 (satS 32 (t - s.applied c))
  | none => 0

/-- R219: a hand-over begins, toward a state of Table 5.1. -/
def State.startHo (s : State) (c cause target : Nat) : State :=
  let s := s.modChan c fun x => { x with target := target, hoTold := false, paused := false }
  (s.puts [(R.HLM_CHST_STATE c, 6), (R.HLM_HOV_ACTIVE c, 1), (R.HLM_HOV_CAUSE c, cause), (R.HLM_HOV_TICKS c, 0),
    (R.HLM_HOVD_VALUE c, s.hovd c)]).chEvent c 0x12 cause

/-- R190, R224: the law starts, in MAN where the channel has a manual value. -/
def State.startLaw (s : State) (c cause : Nat) : State :=
  let man := b2n (s.hctl c 0x0E 1 != 0)
  let s := (s.put (R.HLM_AM_AM c) man).put (R.HLM_AM_REQ c) man
  (s.modChan c fun x => { x with fresh := true, rawLaw := none, why := 0, result := none }).startHo c cause 2

/-- R219: the law stops, toward STOPPED or SAFE. -/
def State.stopLaw (s : State) (c target why : Nat) : State :=
  (s.modChan c fun x => { x with
    why := why, result := none, back := target == 4, missed := if target = 4 then x.missed else 0 }).startHo c 1 target

/-- The channel enters RUN: reason 0x02 when it comes from HOLD or SAFE (R212), with the computations missed. -/
def State.enterRun (s : State) (c : Nat) : State :=
  let x := s.chan c
  let s := (s.put (R.HLM_CHST_STATE c) 2).modChan c fun x => { x with back := false, missed := 0 }
  if x.back then s.chEvent c 0x02 x.missed else s

/-- The channel enters HOLD (R182, R232). -/
def State.enterHold (s : State) (c : Nat) : State :=
  (s.put (R.HLM_CHST_STATE c) 3).modChan c fun x => { x with back := true }

/-- R234: the sink is off: the channel is in SAFE at once, the sink at zero; a channel in RESET enters SAFE at its end (R207),
and one that overruns put into SAFE stays there for them (R233). -/
def State.sinkFault (s : State) (c detail : Nat) : State :=
  let stays := decide (s.chState c ≤ 1 ∧ s.mode < mSTANDBY) || s.chState c == 5
  let s := (s.modChan c fun x => { x with why := if x.why = 2 then 2 else 3, result := none, target := 4, back := true }).puts
    [(R.HLM_CHST_STATE c, if stays then s.chState c else 4), (R.HLM_HOV_ACTIVE c, 0), (R.HLM_HOVD_VALUE c, 0)]
  (s.sinkWrite c 0).chEvent c 0x17 detail

/-- Tables 6.3 and 6.4: why a sink is off, as the detail of reason 0x17. -/
def State.offDetail (s : State) (c : Nat) : Nat :=
  let dst := s.chanB c 0x1C 4
  if bits dst 28 4 ≠ 1 then 4
  else if s.pwr.uvLost then 2
  else if s.flag (R.DIO_PC_STAT_FAULTY (bits dst 0 4)) then 3
  else 0

/-- R237, R527: the law may run, and the channel is not removed from the timetable. -/
def State.lawRuns (s : State) (c : Nat) : Bool := s.lawAllowed c && !(s.chan c).removed

/-- R234: the sink is restored: a hand-over with cause 6 toward the law, or to SAFE_RAW where the law may not run: to STOPPED,
or to SAFE for a channel that the ladder removed or overruns keep there (R233). -/
def State.sinkRestored (s : State) (c : Nat) : State :=
  if !s.sinkOff c && s.chState c == 4 && ((s.chan c).why == 3 || (s.chan c).why == 2) then
    if (s.chan c).why = 2 then s.startHo c 6 4
    else if (s.chan c).removed then (s.modChan c fun x => { x with why := 4 }).startHo c 6 4
    else if s.lawRuns c then s.startLaw c 6
    else (s.modChan c fun x => { x with why := 0, back := false, missed := 0 }).startHo c 6 1
  else s

/-- The channels that drive a sink. -/
def State.driversOf (s : State) (dst : Nat) : List Nat :=
  (List.range 128).filter fun c => s.chanOn c && s.chanB c 0x1C 4 == dst

/-- The step of R218 in sink units. -/
def hoStep (rate k : Nat) : Int := max 1 (roundDiv (rate * 2 ^ k) 10000)

/-- R218: one step of a hand-over toward the target value. -/
def State.hoMove (s : State) (c : Nat) (t : Int) (rate : Nat) : State :=
  let a := s.applied c
  let step := hoStep rate (s.kNow c)
  let dio := bits (s.chanB c 0x1C 4) 28 4 == 2
  let d := if t ≥ a then t - a else a - t
  if dio || decide (d ≤ max (s.hctl c 0x08 4 : Int) step) then
    let s := (s.puts [(R.HLM_HOV_ACTIVE c, 0), (R.HLM_HOVD_VALUE c, 0)]).sinkWrite c t
    if (s.chan c).target = 2 then s.enterRun c else s.put (R.HLM_CHST_STATE c) (s.chan c).target
  else
    let a := if t > a then a + step else a - step
    (s.put (R.HLM_HOVD_VALUE c) (ofInt 32 (satS 32 (t - a)))).sinkWrite c a

/-- Table 5.1: the channel computes: in RUN, HOLD, SAFE and HANDOVER. -/
def State.computes (s : State) (c : Nat) : Bool := [2, 3, 4, 6].contains (s.chState c)

/-- R385: a channel with a mailbox sink hands its value over with EXP = min(255, 2^(K+1)), while it computes. -/
def State.mailboxSink (s : State) (c : Nat) : State :=
  let dst := s.chanB c 0x1C 4
  if bits dst 28 4 = 4 ∧ s.computes c ∧ !(s.chan c).removed then
    s.mbxWrite (bits dst 0 20) (s.get (R.HLM_CHRAW_VALUE c)) true (min 255 (2 ^ (s.kNow c + 1)))
  else s

/-- What the output instant does to the sink (R176, R178, R218, R221). -/
def State.outputStep (s : State) (c : Nat) : State :=
  let x := s.chan c
  let st := s.chState c
  if s.sinkOff c then s.sinkWrite c 0
  else if st = 5 then s.sinkWrite c (s.safeRaw c)
  else if st = 6 then
    let safe := x.svc.isNone && x.target != 2 && s.get (R.HLM_HOV_CAUSE c) == 1
    if x.paused then s
    else match s.hoTarget c with
      | some v => s.hoMove c v (s.hctl c (if safe then 0x04 else 0x00) 4)
      | none => s
  else
    match x.svc with
    | some v => s.sinkWrite c v
    | none =>
      if st = 2 then
        if s.inMan c then s.sinkWrite c (s.manRaw c)
        else match x.result with
          | some v => s.sinkWrite c v
          | none => s
      else if st = 3 then s
      else s.sinkWrite c (s.safeRaw c)

/-- R61, Table 2.3: the modes in which channels drive the outputs. -/
def State.outputsOn (s : State) : Bool := s.inMode [mSTANDBY, mROAD, mFIELD, mLIMP, mSERVICE]

/-- OUTPUT_APPLY (R61, R176): the output instant of a channel, in the ticks of its K and TOFF. -/
def execOutputApply (ch : Fin 128) (s : State) : Out :=
  if s.outputsOn && s.chanOn ch && s.dueNow ch then
    .next (((s.outputStep ch).modChan ch fun x => { x with result := none, paused := false }).mailboxSink ch)
  else .next s

/-! ### The computation -/

/-- Everything a computation forms before the limiters (R184). -/
structure Eval where
  r : Int
  y : Int
  out : LawOut
  /-- KFF × r and the friction and cogging terms. -/
  ff : Int
  comp : Int
  integ : Int
deriving DecidableEq, Repr

/-- u in Q7.24 with an integrator value (R184). -/
def Eval.u (e : Eval) (i : Int) : Int := q24 (satQ (satQ (satQ (satQ (e.out.pre + i) + e.out.post) + e.ff) + e.comp))

/-- R229: the velocity of the friction table, Q15.32. -/
def State.frVel (s : State) (c : Nat) (vals : List (Int × Bool)) : Int :=
  if s.cfg 0x0303 c 4 4 ≠ 0 then q32 (vals.getD 5 (0, true)).1
  else match (s.chan c).pPrev with
    | some p => if (s.chan c).fresh then 0
      else satQ (roundDiv (q32 ((vals.getD 4 (0, true)).1 - p) * 10000) (2 ^ s.kNow c))
    | none => 0

/-- friction(c) + cogging(c) of R184. -/
def State.compTerms (s : State) (c : Nat) (vals : List (Int × Bool)) : Int :=
  let fr := if s.opt c 4 then
      frictionTable (fun i => s.cfgI 0x0303 c (0x20 + 4 * i) 4) (s.cfgI 0x0303 c 8 4) (s.cfg 0x0303 c 0x0C 1)
        (bit (s.cfg 0x0303 c 0x0D 1) 0) (s.cfgI 0x0303 c 0x10 4) (vals.getD 4 (0, true)).1 (s.frVel c vals)
    else 0
  let cg := if s.opt c 5 then
      coggingTable (fun i => s.cfgI 0x0304 c (0x20 + 4 * i) 4) (s.cfg 0x0304 c 4 1) (s.cfgI 0x0304 c 8 4)
        (s.cfgI 0x0304 c 0x0C 4) (vals.getD 6 (0, true)).1
    else 0
  satQ (fr + cg)

/-- The setpoint r of R184, in Q7.24, from the latched setpoint. -/
def State.setR (s : State) (c : Nat) (sp : Int) : Int :=
  let r := clamp (s.chanI c 0x34 4) (s.chanI c 0x38 4) sp
  if s.opt c 0 && !(s.chan c).fresh then
    let d := roundDiv ((s.chanB c 0x3C 4 : Int) * 2 ^ s.kNow c * 2 ^ 16) 10000
    let p := q32 (s.chan c).rPrev
    q24 (clamp (satQ (p - d)) (satQ (p + d)) (q32 r))
  else r

/-- One evaluation of the law from its inputs (R184 to R189). -/
def State.evalU (s : State) (c : Nat) (vals : List (Int × Bool)) (sp clip : Int) : Eval :=
  let x := s.chan c
  let l := s.lawP c
  let r := s.setR c sp
  let y := s.scaleIn c (vals.getD 0 (0, true)).1
  let aux := ((vals.drop 1).take 3).map (·.1)
  let out := lawEval l r y aux ⟨x.integ, x.dl, x.vPrev, x.ePrev⟩ x.fresh
  let integ := match l.integ with
    | some (ki, imax) => integrate (if x.fresh then 0 else x.integ) ki imax (satQ (q32 (r - y))) clip l.k
    | none => 0
  { r := r, y := y, out := out
    ff := if s.opt c 2 then mulQ (q32 r) (s.chanI c 0x5C 4) 16 else 0
    comp := s.compTerms c vals
    integ := integ }

/-- R190, R220, R216: clip_prev of a computation: 0 at a start; in a hand-over to the law the side of raw_out; else the
clip value, with CASC_AW the inner's where the own one is 0. -/
def State.clipPrev (s : State) (c : Nat) : Int :=
  let x := s.chan c
  let clip := s.get (R.HLM_CHST_CLIP c)
  let dst := s.chanB c 0x1C 4
  if x.fresh then 0
  else if s.chState c = 6 ∧ x.target = 2 ∧ !s.inMan c then
    match x.rawLaw with
    | some v => if v > s.applied c then 1 else if v < s.applied c then -1 else 0
    | none => 0
  else if clip = 1 then 1
  else if clip = 2 then -1
  else if bits dst 28 4 = 5 ∧ bit (s.hctl c 0x19 1) 1 then (s.chan (bits dst 0 7)).lClip
  else 0

/-- The integrator limit in Q15.32, and a value held within it. -/
def State.clampI (s : State) (c : Nat) (i : Int) : Int :=
  match (s.lawP c).integ with
  | some (_, imax) => clamp (-(q32 imax)) (q32 imax) i
  | none => 0

/-- R215: the setpoint of an inner channel on its ramp, and the channel after it; in LIMP a limp setpoint knows no ramp. -/
def State.rampSp (s : State) (c : Nat) (sp : Int) : Int × Chan :=
  let x := s.chan c
  if s.chanB c 0x0B 1 = 1 ∧ bit (s.hctl c 0x19 1) 0 ∧ !s.limpSp c then
    let o := bits (s.chanB c 0x20 4) 0 7
    let m := s.kNow o - s.kNow c
    match x.spUsed with
    | none => (sp, { x with rampOld := sp, rampNew := sp, rampJ := 0, spUsed := some sp, update := false })
    | some old =>
      let x := if x.update then { x with rampOld := old, rampNew := sp, rampJ := 0, update := false } else x
      let j := min (x.rampJ + 1) (2 ^ m)
      let v := x.rampOld + roundDiv (j * (x.rampNew - x.rampOld)) (2 ^ m)
      (v, { x with rampJ := j, spUsed := some v })
  else (sp, { x with spUsed := some sp, update := false })

/-- R215: a computation that uses no setpoint counts among those that follow an outer update. -/
def State.rampSkip (s : State) (c : Nat) : State :=
  match (s.chan c).spUsed with
  | none => s
  | some v =>
    if s.chanB c 0x0B 1 = 1 ∧ !s.limpSp c then
      let (_, x) := s.rampSp c (s.setpoint c).1
      s.modChan c fun _ => { x with spUsed := some v }
    else s

/-- R182: the latched setpoint, or the last valid one. -/
def State.takeSp (s : State) (c : Nat) : Int × State :=
  let (sp, ok) := s.setpoint c
  let last := if ok then sp else (s.chan c).spLast
  let s := if !ok && !s.flag (R.HLM_CHST_SP_INVALID c) then s.chEvent c 0x04 (s.chanB c 0x0B 1) else s
  let s := (s.put (R.HLM_CHST_SP_INVALID c) (b2n !ok)).modChan c fun x => { x with spLast := last }
  let (v, x) := s.rampSp c last
  (v, s.modChan c fun _ => x)

/-- The clip value of R184. -/
def clipOf (u lo hi : Int) : Nat := if u > hi then 1 else if u < lo then 2 else 0

/-- The manual value m of R222, clamped. -/
def State.manVal (s : State) (c : Nat) : Int :=
  let m := if s.hctl c 0x0E 1 = 1 then toInt 32 (s.get (R.HLM_MAN_VALUE c)) else (s.chan c).man
  clamp (s.chanI c 0x60 4) (s.chanI c 0x64 4) m

/-- R184: the limiters, the output and the values kept, with the integrator chosen. -/
def State.finish (s : State) (c : Nat) (vals : List (Int × Bool)) (e : Eval) (i : Int) (track : Bool) : State :=
  let x := s.chan c
  let lo := s.chanI c 0x60 4
  let hi := s.chanI c 0x64 4
  let u := e.u i
  let uoPrev := if x.fresh then s.unscaleOut c (s.applied c) else x.uoPrev
  let uo := clamp lo hi u
  let uo := if s.opt c 1 then
      let d := roundDiv ((s.chanB c 0x68 4 : Int) * 2 ^ s.kNow c * 2 ^ 16) 10000
      q24 (clamp (satQ (q32 uoPrev - d)) (satQ (q32 uoPrev + d)) (q32 uo))
    else uo
  let raw := s.scaleOut c uo
  let m := s.manVal c
  let s := s.modChan c fun x => { x with
    rPrev := e.r, uoPrev := if track then m else uo, integ := i
    dl := e.out.mem.dl, vPrev := e.out.mem.v, ePrev := e.out.mem.e
    pPrev := some (vals.getD 4 (0, true)).1, fresh := false, old := []
    rawLaw := some raw, result := some raw
    snR := e.r, snU := u, snAux := ((vals.drop 1).take 3).map (·.1) }
  s.puts [(R.HLM_CHST_CLIP c, if track then 0 else clipOf u lo hi), (R.HLM_CHY_VALUE c, ofInt 32 e.y),
    (R.HLM_CHU_VALUE c, ofInt 32 uo)]

/-- The law of a channel in RUN or on its way to it, from valid inputs: R200, R217 and R223 choose the integrator. -/
def State.runLaw (s : State) (c : Nat) (vals : List (Int × Bool)) : State :=
  let (sp, s) := s.takeSp c
  let clip := s.clipPrev c
  let e := s.evalU c vals sp clip
  let u0 := q32 (e.u 0)
  let dst := s.chanB c 0x1C 4
  let inner := s.chan (bits dst 0 7)
  if s.helmsman c && s.inMan c then
    let star := satQ (q32 (s.manVal c) - u0)
    let i := s.clampI c star
    (s.put (R.HLM_AM_DISAGREE c) (b2n (star != i))).finish c vals e i true
  else if bits dst 28 4 = 5 ∧ bit (s.hctl c 0x19 1) 2 ∧ !inner.lRun then
    s.finish c vals e (s.clampI c (satQ (q32 inner.lY - u0))) false
  else if (s.chan c).old ≠ [] ∧ bit (s.chanB c 0x09 1) 1 then
    let o := { s with regs := (s.chan c).old.foldl (fun l kv => cellStore kv.1 kv.2 l) s.regs }
    let eo := State.evalU o c vals sp clip
    let i := s.clampI c (satQ (e.integ + (q32 (eo.u eo.integ) - q32 (e.u e.integ))))
    s.finish c vals e i false
  else s.finish c vals e e.integ false

/-- The first input that is invalid, by its place in `srcList`. -/
def firstInvalid (vals : List (Int × Bool)) : Option Nat := vals.findIdx? fun v => !v.2

/-- R248: the direct inputs among selectors and what was read of them that are faulty or invalid, as details of reason 0x18. -/
def badDetails (l : List (Nat × Int × Bool)) : List Nat :=
  (l.filter fun p => bits p.1 28 4 == 1 && !p.2.2).map fun p => bits p.1 8 2 * 256 + bits p.1 0 5

def State.badDirect (s : State) (c : Nat) (vals : List (Int × Bool)) : List Nat := badDetails ((s.srcList c).zip vals)

/-- R222, R226, R248: the selectors of MAN_SRC and MAN_FORCE that a computation reads. -/
def State.manSels (s : State) (c : Nat) : List Nat :=
  (if s.hctl c 0x0E 1 = 2 then [s.hctl c 0x10 4] else []) ++ (if s.hctl c 0x0E 1 = 0 then [] else [s.hctl c 0x14 4])

/-- R248: reason 0x18 for every direct input that has become faulty or invalid, those of MAN_SRC and MAN_FORCE among them. -/
def State.tellDirect (s : State) (c : Nat) (vals : List (Int × Bool)) : State :=
  let bad := (s.badDirect c vals ++ (s.chan c).manBad).dedup
  let s' := (bad.filter fun d => !(s.chan c).faulty.contains d).foldl (fun s d => s.chEvent c 0x18 d) s
  s'.modChan c fun x => { x with faulty := bad }

/-- R182: a computation with an invalid input. DESIGN CHOICE (log entry `invalid on the way to STOPPED`): a hand-over toward
STOPPED goes on to STOPPED (R195) however many such computations it meets. -/
def State.compInvalid (s : State) (c i : Nat) : State :=
  let st := s.chState c
  let x := s.chan c
  let s := ((s.bump (R.HLM_CHST_INVCNT c)).put (R.HLM_CHST_IN_INVALID c) 1).rampSkip c
  let s := s.modChan c fun x => { x with missed := x.missed + 1, result := none }
  let s := if st = 2 then
      let (detail, s) := if i ≤ 3 then (i, s) else s.free 32
      (s.enterHold c).chEvent c 0x00 detail
    else s
  if (st = 2 ∨ st = 3 ∨ (st = 6 ∧ x.target = 2)) ∧ s.chanB c 0x2D 1 ≤ s.get (R.HLM_CHST_INVCNT c) then
    (s.chEvent c 0x01 (s.chanB c 0x2D 1)).stopLaw c 4 1
  else s

/-- A channel resumes from HOLD or from a SAFE that invalid inputs caused. -/
def State.resume (s : State) (c : Nat) : State :=
  let x := s.chan c
  let st := s.chState c
  if st = 3 then s.enterRun c
  else if x.why = 1 ∧ (st = 4 ∨ (st = 6 ∧ x.target = 4)) then s.startLaw c 0
  else s

/-- R177: tick and phase of the sample behind y. -/
def State.stampSample (s : State) (c : Nat) : State :=
  let kind := bits (s.chanB c 0x0C 4) 28 4
  let t := if kind = 3 then s.chr.tick - 1 else s.chr.tick
  let p := if kind = 1 then s.chanB c 0x04 2 else 0
  s.modChan c fun x => { x with snTick := t % 2 ^ 32, snPhase := p }

/-- R182: a computation whose inputs are valid; one that evaluates no law counts for the ramp of R215. DESIGN CHOICE (log entry
`Y without a law`): its y goes into HLM_CHY, and the other values of the snapshot block stay those of the last evaluation. -/
def State.compValid (s : State) (c : Nat) (vals : List (Int × Bool)) : State :=
  let s := ((s.puts [(R.HLM_CHST_INVCNT c, 0), (R.HLM_CHST_IN_INVALID c, 0)]).resume c).stampSample c
  if s.chState c = 2 ∨ (s.chState c = 6 ∧ (s.chan c).target = 2) then s.runLaw c vals
  else (s.put (R.HLM_CHY_VALUE c) (ofInt 32 (s.scaleIn c (vals.getD 0 (0, true)).1))).rampSkip c

/-- R524: the standstill count follows the computations of STILL_CHAN, each by the y of its own primary input. -/
def State.stillStep (s : State) (c : Nat) (inp : Int × Bool) : State :=
  if s.has 0x0C01 0 && s.cfg 0x0C01 0 0 2 == c then
    let y := s.scaleIn c inp.1
    let valid := inp.2
    let slow := decide ((if y < 0 then -y else y) * 36 * 256 < s.cfg 0x0C01 0 2 2 * 10 * 2 ^ 24)
    { s with alm.stillOk := valid && slow, alm.stillCount := if valid && slow then s.alm.stillCount else 0 }
  else s

/-- The outer update of R215 for the inner channel of a cascade. -/
def State.outerUpdate (s : State) (c : Nat) : State :=
  let dst := s.chanB c 0x1C 4
  if bits dst 28 4 = 5 then s.modChan (bits dst 0 7) fun x => { x with updNext := true } else s

/-- R182 to R184: a computation that ends in time. -/
def State.compEnd (s : State) (c : Nat) (vals : List (Int × Bool)) : State :=
  let s := s.puts [(R.HLM_CHCNT_VALUE c, s.get (R.HLM_CHCNT_VALUE c) + 1), (R.HLM_OVR_CONSEC c, 0)]
  let s := s.tellDirect c vals
  let s := match firstInvalid vals with
    | some i => s.compInvalid c i
    | none => s.compValid c vals
  (s.stillStep c (vals.getD 0 (0, true))).outerUpdate c

/-- R172, R194: the cell and the start that the group's timetable gives the channel in this tick. -/
def State.slot (s : State) (c : Nat) : Option (Nat × Nat) :=
  (s.hlm.tts.getD (c / 16) {}).slot s.chr.tick c

/-- R218: the hand-over's target is SAFE_RAW, the manual value or a driven value: the output stage alone makes its steps. -/
def State.hoAlone (s : State) (c : Nat) : Bool := (s.chan c).target != 2 || (s.chan c).svc.isSome || s.inMan c

/-- R218, R232: an overrun pauses a running hand-over, but not one to SAFE for overruns, nor one that the output stage makes
alone while the channel's cell has no slice. -/
def State.pauses (s : State) (c : Nat) : Bool :=
  (s.chan c).why != 2 && !(s.hoAlone c && (s.slot c).any fun p => (s.cell (4 * (c / 16) + p.1)).a == 0)

/-- R232, R233: the computation is aborted at the end of its window; at the third in a row the channel enters SAFE, and a channel
whose sink is off is in SAFE already. -/
def State.abort (s : State) (c : Nat) : State :=
  let s := { s with hlm.arith := s.hlm.arith.filter (· != c), hlm.badIn := s.hlm.badIn.filter fun b => b.1 != c }
  let s := (s.bump (R.HLM_OVR_CONSEC c)).bump (R.HLM_OVR_TOTAL c)
  let n := s.get (R.HLM_OVR_CONSEC c)
  let s := (s.chEvent c 0x10 n).modChan c fun x =>
    { x with run := none, result := none, missed := x.missed + 1, paused := s.pauses c }
  let s := (if s.chState c = 2 then s.enterHold c else s).rampSkip c
  if 3 ≤ n ∧ (s.chan c).why ≠ 2 ∧ (s.chan c).why ≠ 4 then
    let s := s.chEvent c 0x11 0
    if s.sinkOff c then s.modChan c fun x => { x with why := 2 } else s.stopLaw c 4 2
  else s

/-- R226: MAN_FORCE at a computation. -/
def State.manForce (s : State) (c : Nat) (ai : List AiSample) : State :=
  let sel := s.hctl c 0x14 4
  if bits sel 28 4 = 0 ∨ s.hctl c 0x0E 1 = 0 then s
  else
    let v := s.source c ai sel true
    if v.1 ≠ 0 ∨ v.2 = false then
      let s := (s.put (R.HLM_AM_FORCED c) 1).put (R.HLM_AM_REQ c) 1
      if s.inMan c then s
      else
        let s := (s.put (R.HLM_AM_AM c) 1).chEvent c 0x15 0
        if s.chState c = 2 ∨ s.chState c = 3 ∨ (s.chState c = 6 ∧ (s.chan c).target = 2) then s.startHo c 3 2 else s
    else s.put (R.HLM_AM_FORCED c) 0

/-- R222: MAN_SRC at a computation. -/
def State.manSrc (s : State) (c : Nat) (ai : List AiSample) : State :=
  if s.hctl c 0x0E 1 = 2 then
    let v := s.source c ai (s.hctl c 0x10 4) true
    let s := s.put (R.HLM_AM_MAN_INV c) (b2n !v.2)
    if v.2 then s.modChan c fun x => { x with man := v.1 } else s
  else s

/-- R172, R431: the cell has a healthy active slice, and runs no computation of its group. -/
def State.cellFree (s : State) (g x : Nat) : Bool :=
  decide (0 < (s.cell (4 * g + x)).a) &&
    !(List.range 16).any fun i => (s.chan (16 * g + i)).run.isSome && (s.chan (16 * g + i)).cell == x

/-- The channel has a computation to make in this tick: its timetable has a job for it. -/
def State.jobDue (s : State) (c : Nat) : Bool :=
  s.chanOn c && s.dueNow c && s.computes c && (s.slot c).isSome && !s.flag (R.HLM_GSTAT_RESETTING (c / 16))

/-- COMPUTATION_START (R172, R177, R232): the sequencer starts the channel's computation on its cell: the channel's inputs
are read; `ai` gives the values of the analogue inputs at phase S. On a cell that is at work or without a slice nothing
starts. -/
def execComputationStart (ch : Fin 128) (ai : List AiSample) (s : State) : Out :=
  match s.slot ch with
  | none => .next s
  | some (x, _) =>
    if s.jobDue ch && (s.chan ch).ranAt != some s.chr.tick && s.cellFree (ch / 16) x then
      let s := (s.manForce ch ai).manSrc ch ai
      .next (s.modChan ch fun y => { y with
        run := some (s.readInputs ch ai), cell := x, ranAt := some s.chr.tick
        manBad := badDetails ((s.manSels ch).map fun k => (k, s.source ch ai k true)) })
    else .next s

/-- COMPUTATION_END (R184): the result is held for the output instant; an arithmetic error of the cell makes the
computation an overrun (R232). -/
def execComputationEnd (ch : Fin 128) (s : State) : Out :=
  match (s.chan ch).run with
  | none => .next s
  | some vals =>
    if s.hlm.arith.contains ch.val then .next s
    else
      let vals := vals.zipIdx.map fun (v, i) => (v.1, v.2 && !s.hlm.badIn.contains (ch.val, i))
      let s := { s with hlm.badIn := s.hlm.badIn.filter fun b => b.1 != ch.val }
      .next ((State.modChan s ch fun x => { x with run := none }).compEnd ch vals)

/-- OVERRUN (R232): the window has ended with the computation still running, in error, or not started. -/
def execOverrun (ch : Fin 128) (s : State) : Out :=
  if (s.chan ch).run.isSome || (s.jobDue ch && (s.chan ch).ranAt != some s.chr.tick) then
    .next ((s.modChan ch fun x => { x with ranAt := some s.chr.tick }).abort ch)
  else .next s

/-- HLM_OVR_READ (Table 6.9): TOTAL is returned and cleared. -/
def execHlmOvrRead (ch : Fin 128) (s : State) : Out :=
  let v := s.get (R.HLM_OVR_TOTAL ch) * 2 ^ 16 + s.get (R.HLM_OVR_CONSEC ch)
  .next (({ s with rdata := v } : State).put (R.HLM_OVR_TOTAL ch) 0)

end Sys2Proof.Machine
end

