-- ==== Sys2Proof/Machine/HelmCheck.lean ====
section
/-! DEFINITION. The checks of the Helm records (R210, R213, R214, R252, R254) and the groups' timetables from the
records in force. -/

namespace Sys2Proof.Machine

/-- The bytes of a record body from `off` are all 0. -/
def State.zeros (s : State) (t i off n : Nat) : Bool := s.cfg t i off n == 0

/-- Tables 5.3 and 5.4: the bits of a selector outside its kind's index bits are 0, and the index is in range. -/
def selectorOk (sink : Bool) (x : Nat) : Bool :=
  let k := bits x 28 4
  let i := x % 2 ^ 28
  if k = 0 then i == 0
  else if sink then
    if k = 1 ∨ k = 2 then decide (i < 16)
    else if k = 3 then decide (i < 2 ^ 14)
    else if k = 4 then decide (i ≤ 65535)
    else if k = 5 then decide (i < 128)
    else false
  else if k = 1 then
    decide (i < 1024) && bits i 5 3 == 0 && decide (bits i 0 5 < [24, 16, 16, 0].getD (bits i 8 2) 0)
  else if k = 2 then decide (i < 6)
  else if k = 3 then decide (i < 2 ^ 14)
  else if k = 4 then decide (i ≤ 65535)
  else if k = 5 then decide (i < 256)
  else if k = 6 then decide (i < 16)
  else false

/-- The selectors of a channel that read sources. -/
def State.readSels (s : State) (c : Nat) : List Nat :=
  (s.srcList c ++ [s.hctl c 0x10 4, s.hctl c 0x14 4]).filter (· != 0)

/-- Table 5.6: the parameters that a law uses. -/
def paramsUsed (law order : Nat) (integral : Bool) : List Nat :=
  if law = 1 then [0, 1, 2, 3, 4]
  else if law = 2 then [0, 1, 2] ++ (if integral then [3, 4] else [])
  else if law = 3 then (List.range order) ++ [4] ++ (if integral then [5, 6] else [])
  else []

/-- A CHAN body in its documented ranges (Table 5.12, R175, R191, R195). -/
def State.chanRange (s : State) (c : Nat) : Bool :=
  let b := s.chanB c
  let cls := b 0 1
  let law := b 1 1
  let k := b 2 1
  let phase := b 4 2
  let lat := b 6 1
  let l := s.lawP c
  let win := ttWindow cls phase lat
  decide (cls ≤ 4 ∧ law ≤ 3 ∧ k ≤ 7 ∧ b 3 1 < 2 ^ k ∧ phase ≤ 9999 ∧ lat ≤ 3) &&
    (decide (cls ≤ 2) || phase == 0) && (cls == 0 || lat == 0) && decide (b 7 1 < 128) &&
    b 8 1 % 8 == 0 && decide (b 9 1 < 4) && decide (b 0x0A 1 < 8) && decide (b 0x0B 1 ≤ 4) &&
    decide (win.1 < win.2 ∧ win.2 ≤ if cls ≤ 1 then 39880 else 39920) &&
    ([0x0C, 0x10, 0x14, 0x18].all fun o => selectorOk false (b o 4)) && selectorOk true (b 0x1C 4) &&
    (match b 0x0B 1 with
      | 1 => decide (b 0x20 4 < 128)
      | 2 => decide (b 0x20 4 ≤ 65535)
      | 4 => decide (b 0x20 4 < 16)
      | _ => b 0x20 4 == 0) &&
    decide (-16 ≤ s.chanI c 0x2C 1 ∧ s.chanI c 0x2C 1 ≤ 47 ∧ 1 ≤ b 0x2D 1) &&
    (law == 1 || (b 0x2E 2 == 0 && b 0x30 2 == 0)) && b 0x32 2 == 0 &&
    decide (s.chanI c 0x34 4 ≤ s.chanI c 0x38 4 ∧ s.chanI c 0x60 4 ≤ s.chanI c 0x64 4) &&
    decide (-32 ≤ s.chanI c 0x74 1 ∧ s.chanI c 0x74 1 ≤ 31) && b 0x75 3 == 0 &&
    ((List.range 7).all fun i => (paramsUsed law l.order l.integral).contains i || b (0x40 + 4 * i) 4 == 0) &&
    (match l.integ with
      | some (_, imax) => decide (0 ≤ imax)
      | none => true) &&
    (!(decide (cls = 0 ∨ cls = 2) && (s.srcList c).any fun x => bits x 28 4 == 2) || decide (2000 ≤ phase))

/-- HCTL, VLIN, FRIC and COGG bodies in their documented ranges (Tables 5.13 and 6.7, R192, R222, R229). K_FLOOR is a check of
code 0x31 (R237). -/
def State.hctlRange (s : State) (c : Nat) : Bool :=
  let h := s.hctl c
  let kind (x : Nat) : Bool := selectorOk false x && [1, 4, 6].contains (bits x 28 4)
  decide (1 ≤ h 0 4 ∧ 1 ≤ h 4 4 ∧ 1 ≤ h 0x0C 2 ∧ h 0x0E 1 ≤ 2) &&
    (if h 0x0E 1 = 2 then kind (h 0x10 4) else h 0x10 4 == 0) && (h 0x14 4 == 0 || kind (h 0x14 4)) &&
    decide (h 0x19 1 < 8) && h 0x1A 6 == 0

def State.vlinRange (s : State) (c : Nat) : Bool :=
  let sh := s.cfg 0x0301 c 4 1
  decide (sh ≤ 18) && s.zeros 0x0301 c 5 3 &&
    decide (s.cfgI 0x0301 c 0 4 * 2 ^ sh + 64 * 2 ^ 24 ≤ 128 * 2 ^ 24 * 2 ^ sh)

def State.fricRange (s : State) (c : Nat) : Bool :=
  let sh := s.cfg 0x0303 c 0x0C 1
  selectorOk false (s.cfg 0x0303 c 0 4) && selectorOk false (s.cfg 0x0303 c 4 4) && decide (sh ≤ 18) &&
    decide (s.cfg 0x0303 c 0x0D 1 < 2) && s.zeros 0x0303 c 0x0E 2 && s.zeros 0x0303 c 0x14 12 &&
    decide (0 ≤ s.cfgI 0x0303 c 0x10 4) &&
    (bit (s.cfg 0x0303 c 0x0D 1) 0 ||
      decide (s.cfgI 0x0303 c 8 4 * 2 ^ sh + 511 * 2 ^ 24 ≤ 128 * 2 ^ 24 * 2 ^ sh))

def State.coggRange (s : State) (c : Nat) : Bool :=
  selectorOk false (s.cfg 0x0304 c 0 4) && decide (1 ≤ s.cfg 0x0304 c 4 1 ∧ s.cfg 0x0304 c 4 1 ≤ 64) &&
    s.zeros 0x0304 c 5 3 && decide (0 ≤ s.cfgI 0x0304 c 8 4 ∧ s.cfgI 0x0304 c 8 4 < 2 ^ 24) &&
    s.zeros 0x0304 c 0x10 16

/-- Code 0x23 of R210 for a channel's records. -/
def State.chan23 (s : State) (c : Nat) : Bool :=
  s.chanRange c && (!s.has 0x0302 c || s.hctlRange c) && (!s.has 0x0301 c || s.vlinRange c) &&
    (!s.has 0x0303 c || s.fricRange c) && (!s.has 0x0304 c || s.coggRange c)

/-! ### Code 0x31 -/

/-- Table 5.5: the kinds that a class may use. -/
def kindsOf (cls : Nat) : List Nat × List Nat × List Nat :=
  if cls = 0 then ([1, 2], [1, 2, 4, 5, 6], [1, 2])
  else if cls = 1 then ([3], [3, 4, 5, 6], [1, 2])
  else if cls = 2 then ([1, 2], [1, 2, 4, 5, 6], [3])
  else if cls = 3 then ([3], [3, 4, 5, 6], [3])
  else ([4, 5, 6], [4, 5, 6], [0, 4, 5])

/-- A source that exists: a direct input with a record, a ring word within its station's C_LEN, a channel that is not
OFF (R210, R252). -/
def State.srcExists (s : State) (x : Nat) : Bool :=
  let k := bits x 28 4
  if k = 1 then s.has (0x1101 + bits x 8 2) (bits x 0 5)
  else if k = 3 then
    s.has 0x0201 (bits x 8 6) && decide (4 * bits x 0 8 + 4 ≤ s.cfg 0x0201 (bits x 8 6) 0x0C 2)
  else if k = 5 then s.chanOn (bits x 0 7)
  else true

/-- A sink that exists: an output with a record, a ring word within D_LEN, a channel that is not OFF. -/
def State.dstExists (s : State) (x : Nat) : Bool :=
  let k := bits x 28 4
  if k = 1 then s.has 0x1100 (bits x 0 4)
  else if k = 2 then s.has 0x1103 (bits x 0 4)
  else if k = 3 then
    s.has 0x0201 (bits x 8 6) && decide (4 * bits x 0 8 + 4 ≤ s.cfg 0x0201 (bits x 8 6) 0x0E 2)
  else if k = 5 then s.chanOn (bits x 0 7)
  else true

/-- The outer channel of a cascade link (R213). -/
def State.outerOf (s : State) (c : Nat) : Option Nat :=
  if s.chanOn c && s.chanB c 0x0B 1 == 1 then some (bits (s.chanB c 0x20 4) 0 7) else none

/-- R213: the chain above a channel ends within three channels. -/
def State.chainOk (s : State) (c : Nat) : Bool :=
  match s.outerOf c with
  | none => true
  | some o => match s.outerOf o with
    | none => true
    | some p => (s.outerOf p).isNone

/-- R213, R214: the cascade links of a channel. -/
def State.cascadeOk (s : State) (c : Nat) : Bool :=
  let dst := s.chanB c 0x1C 4
  (match s.outerOf c with
    | none => true
    | some o =>
      s.chanOn o && s.chanB o 0x1C 4 == 0x50000000 + c && o / 16 == c / 16 &&
        decide (s.chanB c 2 1 < s.chanB o 2 1 ∧ s.chanB o 2 1 ≤ s.chanB c 2 1 + 7) &&
        s.chanB c 3 1 == (s.chanB o 3 1 + 1) % 2 ^ s.chanB c 2 1 &&
        s.hctl o 0x18 1 + s.chanB c 2 1 == s.hctl c 0x18 1 + s.chanB o 2 1) &&
    (bits dst 28 4 != 5 || s.outerOf (bits dst 0 7) == some c) && s.chainOk c

/-- R210, R213, R214, R217, R223, R227, R254: code 0x31 for a channel. DESIGN CHOICE (log entry `setpoints of limp channels`): what
SP_SRC names is no word and no channel that a channel with the limp flag reads, since R196 replaces it in LIMP. -/
def State.chan31 (s : State) (c : Nat) : Bool :=
  let b := s.chanB c
  let l := s.lawP c
  let kinds := kindsOf (b 0 1)
  let kind (x : Nat) : Nat := bits x 28 4
  let aux := (s.srcList c).drop 1 |>.filter (· != 0)
  let inK := kind (b 0x0C 4)
  let limp := bit (b 8 1) 6
  let sels := s.readSels c
  (if inK = 0 then l.law == 0 else kinds.1.contains inK) && (aux.all fun x => kinds.2.1.contains (kind x)) &&
    ((aux ++ [s.hctl c 0x10 4, s.hctl c 0x14 4]).all fun x =>
      kind x != 1 || bits x 8 2 != 1 || s.cfg 0x1102 (bits x 0 5) 3 1 == 1) &&
    kinds.2.2.contains (kind (b 0x1C 4)) && (sels.all fun x => s.srcExists x) && s.dstExists (b 0x1C 4) &&
    (b 0x1C 4 == 0 || (s.driversOf (b 0x1C 4)).length == 1) &&
    !(l.law == 0 && (s.opt c 2 || s.opt c 6)) && !(l.law == 1 && s.opt c 6) &&
    (!bit (b 9 1) 1 || l.integ.isSome) && (!s.helmsman c || l.integ.isSome) &&
    (!bit (s.hctl c 0x19 1) 2 || l.integ.isSome) &&
    s.opt c 3 == s.has 0x0301 c && s.opt c 4 == s.has 0x0303 c && s.opt c 5 == s.has 0x0304 c && s.has 0x0302 c &&
    decide (b 2 1 ≤ s.hctl c 0x18 1 ∧ s.hctl c 0x18 1 ≤ 7) && s.cascadeOk c &&
    (!limp ||
      ((sels.all fun x => kind x != 4 && (kind x != 5 || bit (s.chanB (bits x 0 7) 8 1) 6)) &&
        (s.hctl c 0x0E 1 == 0 || (s.hctl c 0x0E 1 == 2 && [1, 6].contains (kind (s.hctl c 0x10 4))))))

/-- The channels with a CHAN record. -/
def State.channels (s : State) : List Nat := (List.range 128).filter s.chanOn

/-- R197, R210, R252, R254: code 0x31 for the whole of Helm: at most 8 helmsmen, and no record without its channel. -/
def State.helm31 (s : State) : Bool :=
  decide ((s.channels.filter s.helmsman).length ≤ 8) && (s.channels.all s.chan31) &&
    ((List.range 128).all fun c => s.chanOn c || !([0x0301, 0x0302, 0x0303, 0x0304].any fun t => s.has t c))

/-! ### Timetables from the records -/

/-- A channel as the timetable sees it, with the K and TOFF given. -/
def State.ttChan (s : State) (c k toff : Nat) : TtChan :=
  let b := s.chanB c
  let w := ttWindow (b 0 1) (b 4 2) (b 6 1)
  let naux := ([0x10, 0x14, 0x18].filter fun o => b o 4 != 0).length
  ⟨c, lawCost (b 1 1) (s.lawP c).order (b 7 1) naux, k, toff, w.1, w.2, s.hctl c 0x0F 1, s.hctl c 0x18 1,
    s.outerOf c⟩

/-- The channels of a group. -/
def State.groupChans (s : State) (g : Nat) : List Nat :=
  ((List.range 16).map (16 * g + ·)).filter s.chanOn

/-- The group with the K and TOFF of its records. -/
def State.ttRecord (s : State) (g : Nat) : List TtChan :=
  (s.groupChans g).map fun c => s.ttChan c (s.chanB c 2 1) (s.chanB c 3 1)

/-- The group as a rebuild places it: the K and TOFF of its records, those in force for a channel that has been shed, and
no channel that has been removed (R202, R239, R527). -/
def State.ttRebuild (s : State) (g : Nat) : List TtChan :=
  ((s.groupChans g).filter fun c => !(s.chan c).removed).map fun c =>
    if (s.chan c).shed then s.ttChan c (s.kNow c) (s.toffNow c) else s.ttChan c (s.chanB c 2 1) (s.chanB c 3 1)

/-- The group with the K and TOFF in force, without the channels removed. -/
def State.ttForce (s : State) (g : Nat) : List TtChan :=
  ((s.groupChans g).filter fun c => !(s.chan c).removed).map fun c => s.ttChan c (s.kNow c) (s.toffNow c)

/-- The healthy active slices of a group's cells. -/
def State.groupA (s : State) (g : Nat) : List Nat := (List.range 4).map fun x => (s.cell (4 * g + x)).a

/-- R202: the checks of a rebuild for a group: 0, or the code of the first that fails. -/
def State.rebuildCode (s : State) (g : Nat) : Nat :=
  let touches (c : Nat) : Bool :=
    c / 16 == g || (s.readSels c).any (fun x => bits x 28 4 == 5 && bits x 0 7 / 16 == g) ||
      (bits (s.chanB c 0x1C 4) 28 4 == 5 && bits (s.chanB c 0x1C 4) 0 7 / 16 == g)
  let cs := s.channels.filter touches
  if !(cs.all s.chan23) then 0x23
  else if !(cs.all s.chan31) || decide (8 < (s.channels.filter s.helmsman).length) then 0x31
  else if (windowFail (s.groupA g) (s.ttRebuild g)).isSome then 0x50
  else 0

end Sys2Proof.Machine
end

