-- ==== Sys2Proof/Machine/HelmGroup.lean ====
section
/-! DEFINITION. Helm's groups and edges: modes, resets, broadcasts, requests for AUTO and MAN, rebuilds, fallbacks,
snapshots and the takeover. -/

namespace Sys2Proof.Machine

/-- An operation on every channel of a list in turn. -/
def State.eachChan (s : State) (l : List Nat) (f : State → Nat → State) : State := l.foldl f s

/-! ### The tick edge -/

/-- R61, R195, R202, R219, R498: a channel takes up the mode in force; a service drive ends with SERVICE. A channel in SAFE
for overruns, its sink or the ladder stays there (R233, R234, R237). -/
def State.modeChan (s : State) (c : Nat) : State :=
  let driven := s.mode != mSERVICE && (s.chan c).svc.isSome
  let s := if driven then s.modChan c fun x => { x with svc := none } else s
  let st := s.chState c
  let x := s.chan c
  let stopping := st == 6 && x.target == 1
  let held := s.mode == mSERVICE && x.svc.isSome
  let may := s.lawRuns c && !s.ttBlocked (c / 16) && !s.sinkOff c
  let stays := decide (2 ≤ x.why) && (st == 4 || (st == 6 && x.target == 4))
  if driven && !s.sinkOff c && st != 5 then
    if may then s.startLaw c 0 else if x.removed then s.stopLaw c 4 4 else s.stopLaw c 1 0
  else if stays || held then s
  else if may && (st == 1 || stopping) then s.startLaw c 0
  else if !s.lawAllowed c && (decide (2 ≤ st ∧ st ≤ 4) || (st == 6 && !stopping)) then s.stopLaw c 1 0
  else s

/-- R526: at the entry to STANDBY or SERVICE from PROVE every sink holds 0; a channel whose law does not start moves
to SAFE_RAW. -/
def State.firstMode (s : State) (c : Nat) : State :=
  let s := (s.put (R.HLM_CHST_STATE c) 1).sinkWrite c 0
  if s.sinkOff c then (s.sinkFault c (s.offDetail c)).put (R.HLM_CHST_STATE c) 4
  else if s.lawRuns c && !s.ttBlocked (c / 16) then s.startLaw c 0
  else if (s.chan c).removed then s.stopLaw c 4 4
  else s.stopLaw c 1 0

/-- R177, R216, R217: what the other channels read in the coming tick is latched. -/
def State.latchChan (s : State) (c : Nat) : State :=
  let clip := s.get (R.HLM_CHST_CLIP c)
  s.modChan c fun x => { x with
    lUo := toInt 32 (s.get (R.HLM_CHU_VALUE c)), lY := toInt 32 (s.get (R.HLM_CHY_VALUE c)), lRaw := s.applied c
    lClip := if clip = 1 then 1 else if clip = 2 then -1 else 0, lRun := s.chState c == 2
    update := x.update || x.updNext, updNext := false }

/-- R387: the words outside its own sensors that a group's channels name as a source, a setpoint, a manual or a forcing source. -/
def State.copySels (s : State) (g : Nat) : List Nat :=
  (((s.groupChans g).flatMap fun c =>
    let ref := s.chanB c 0x20 4
    let src := s.chanB c 0x0B 1
    s.srcList c ++ [s.hctl c 0x10 4, s.hctl c 0x14 4,
      if src = 2 then 0x40000000 + bits ref 0 20 else if src = 4 then 0x60000000 + bits ref 0 4 else 0]).filter fun x =>
        decide (3 ≤ bits x 28 4)).dedup

/-- R387: LOAD and each timetable rebuild set up the list of a group's copy, in the pending half. -/
def State.listCopies (s : State) (g : Nat) : State :=
  { s with hlm.copies := s.hlm.copies.modify g fun x => { x with back := (s.copySels g).map fun sel => { sel := sel } } }

/-- R177, R387: at a tick edge the pending halves hold the words in force in the coming tick, and the halves swap. -/
def State.swapCopies (s : State) : State :=
  { s with hlm.copies := s.hlm.copies.zipIdx.map fun (x, g) =>
      let l := x.back.map fun e => (⟨e.sel, (s.wordNow g e.sel).1, (s.wordNow g e.sel).2⟩ : CopyWord)
      ⟨l, l⟩ }

/-- R218: HLM_HOV.TICKS counts; reason 0x13 once at HO_TIME. -/
def State.hovTick (s : State) (c : Nat) : State :=
  if s.chState c ≠ 6 then s
  else
    let s := s.bump (R.HLM_HOV_TICKS c)
    if s.hctl c 0x0C 2 ≤ s.get (R.HLM_HOV_TICKS c) ∧ !(s.chan c).hoTold then
      (s.modChan c fun x => { x with hoTold := true }).chEvent c 0x13 (s.get (R.HLM_HOVD_VALUE c))
    else s

/-- R218: the hand-overs that ran in the tick that ends count it. -/
def State.hovEdge (s : State) : State := s.eachChan s.channels State.hovTick

/-- R203 step 5: what the coming tick's computations read of the channels is latched. -/
def State.latchEdge (s : State) : State := (s.eachChan s.channels State.latchChan).swapCopies

/-! ### Resets (R207, R208) -/

/-- R207: a channel enters RESET; its setpoint input is kept. -/
def State.resetChan (s : State) (c : Nat) : State :=
  let x := s.chan c
  let s := { s with
    hlm.arith := s.hlm.arith.filter (· != c), hlm.badIn := s.hlm.badIn.filter fun b => b.1 != c }
  let s := s.modChan c fun _ =>
    { man := x.man, spLast := x.spLast, removed := x.removed, why := if x.removed then 4 else 0, shed := x.shed
      svc := x.svc, lUo := x.lUo, lY := x.lY, lRaw := x.lRaw, lClip := x.lClip }
  (s.puts [(R.HLM_CHST_STATE c, 5), (R.HLM_CHST_CLIP c, 0), (R.HLM_CHST_INVCNT c, 0), (R.HLM_HOV_ACTIVE c, 0),
    (R.HLM_HOVD_VALUE c, 0), (R.HLM_OVR_CONSEC c, 0)]).sinkWrite c (s.safeRaw c)

/-- R207: the reset ends: STOPPED, or the law starts; SAFE for a sink that is off (R234) and for a channel removed from the
timetable (R237); a service drive goes on (R502). -/
def State.afterReset (s : State) (c : Nat) : State :=
  let s := s.put (R.HLM_CHST_STATE c) 1
  if s.sinkOff c then (s.modChan c fun x => { x with why := 3, target := 4, back := true }).put (R.HLM_CHST_STATE c) 4
  else if (s.chan c).svc.isSome then s.startHo c 3 1
  else if (s.chan c).removed then s.put (R.HLM_CHST_STATE c) 4
  else if s.lawAllowed c && !s.ttBlocked (c / 16) then s.startLaw c 0
  else s

/-- The request bit of a channel in HLM_GRST clears. -/
def State.clearReq (s : State) (c : Nat) : State :=
  { s.put (R.HLM_GRST_CH (c / 16)) (setBit (s.get (R.HLM_GRST_CH (c / 16))) (c % 16) false) with
    hlm.rstReq := s.hlm.rstReq.filter fun r => r.1 != c }

/-- R207: a request for a channel reset made before this tick's edge acts; in a group reset it has no effect of its own. -/
def State.chanReset (s : State) (c : Nat) : State :=
  if s.hlm.rstReq.any fun r => r.1 == c && decide (r.2 < s.chr.tick) then
    let s := s.clearReq c
    if s.flag (R.HLM_GSTAT_RESETTING (c / 16)) || !s.chanOn c then s
    else
      let s := s.resetChan c
      State.chEvent { s with hlm.rstEnd := (s.hlm.rstEnd.filter fun r => r.1 != c) ++ [(c, s.chr.tick + 1)] } c 0x03
        (s.chr.tick % 2 ^ 32)
  else s

/-- CHANNEL_RESET (R207), where the tick edge has not made it act. -/
def execChannelReset (ch : Fin 128) (s : State) : Out := .next (s.chanReset ch)

/-- R207: a channel's RESET ends at the edge due. -/
def State.chanResetEnd (s : State) (c : Nat) : State :=
  if s.hlm.rstEnd.any fun r => r.1 == c && decide (r.2 ≤ s.chr.tick) then
    State.afterReset { s with hlm.rstEnd := s.hlm.rstEnd.filter fun r => r.1 != c } c
  else s

/-- CHANNEL_RESET_END (R207), where the tick edge has not made it act. -/
def execChannelResetEnd (ch : Fin 128) (s : State) : Out := .next (s.chanResetEnd ch)

/-- R120, R208: the crossings of a group: those with a side in CLK_H whose instance the group owns. -/
def State.resetGroupXings (s : State) (g : Nat) : State :=
  ((s.chr.xings.filter fun x => (bits x.id 12 4 == 1 || bits x.id 8 4 == 1) && Config.xingGroup x.id == g).map
    (·.id)).foldl State.resetXing s

/-- R208, R382: a group reset requested before this tick's edge, or for a march run, acts. -/
def State.groupReset (s : State) (g : Nat) : State :=
  if (s.hlm.grpReq.any fun r => r.1 == g && decide (r.2 < s.chr.tick)) || s.hlm.grpRst.contains g then
    let inG (c : Nat) : Bool := c / 16 == g
    let due := (s.hlm.rstReq.filter fun r => inG r.1 && decide (r.2 < s.chr.tick)).map (·.1)
    let s := due.foldl State.clearReq s
    let s := { s with
      hlm.grpReq := s.hlm.grpReq.filter fun r => r.1 != g
      hlm.grpRst := s.hlm.grpRst.filter (· != g)
      hlm.rstEnd := s.hlm.rstEnd.filter fun r => !inG r.1
      hlm.grpEnd := (s.hlm.grpEnd.filter fun r => r.1 != g) ++ [(g, s.chr.tick + 2)] }
    let s := ((State.put s (R.HLM_GRST_GROUP g) 0).put (R.HLM_GSTAT_RESETTING g) 1).resetGroupXings g
    (s.eachChan (s.groupChans g) State.resetChan).grpEvent g 0x00 (s.chr.tick % 2 ^ 32)
  else s

/-- GROUP_RESET (R208), where the tick edge has not made it act. -/
def execGroupReset (g : Fin 8) (s : State) : Out := .next (s.groupReset g)

/-- R208: a group's reset ends at the edge due. -/
def State.groupResetEnd (s : State) (g : Nat) : State :=
  if s.hlm.grpEnd.any fun r => r.1 == g && decide (r.2 ≤ s.chr.tick) then
    let s := State.put { s with hlm.grpEnd := s.hlm.grpEnd.filter fun r => r.1 != g } (R.HLM_GSTAT_RESETTING g) 0
    s.eachChan (s.groupChans g) State.afterReset
  else s

/-- GROUP_RESET_END (R208), where the tick edge has not made it act. -/
def execGroupResetEnd (g : Fin 8) (s : State) : Out := .next (s.groupResetEnd g)

/-- R203 step 4: the resets that are due act, and those that have run their time end. DESIGN CHOICE (log entry `channel reset at
the last edge of a group reset`): a channel reset due at the very edge that ends the second reload tick is covered. -/
def State.resetEdge (s : State) : State :=
  let s := (List.range 8).foldl State.groupReset s
  let s := ((s.hlm.rstReq.map (·.1)).eraseDups).foldl State.chanReset s
  let s := (List.range 8).foldl State.groupResetEnd s
  ((s.hlm.rstEnd.map (·.1)).eraseDups).foldl State.chanResetEnd s

/-! ### Broadcasts (R205) -/

/-- The tick in which a GO of HLM_BC_CTL reaches the last of its groups, one CLK_T cycle each. -/
def State.bcTick (s : State) (gmask : Nat) : Nat :=
  if s.chr.phase + ((List.range 8).filter fun g => bit gmask g).length < 10000 then s.chr.tick else s.chr.tick + 1

/-- A GO of HLM_BC_CTL. -/
def State.broadcast (s : State) (value word gmask : Nat) : State :=
  let gs := (List.range 8).filter fun g => bit gmask g
  { s with hlm.bcPend := s.hlm.bcPend ++ gs.map fun g => (g, word, value, s.bcTick gmask) }

/-- BROADCAST: HLM_BC_VAL and HLM_BC_CTL with GO = 1. -/
def execBroadcast (value : BitVec 32) (word : Fin 16) (gmask : BitVec 8) (s : State) : Out :=
  .next ((s.puts [(R.HLM_BC_VAL_VALUE, value.toNat), (R.HLM_BC_CTL_GMASK, gmask.toNat),
    (R.HLM_BC_CTL_WORD, word)]).broadcast value.toNat word gmask.toNat)

/-- R205: at the edge every word delivered before it is in force. -/
def State.broadcastEdge (s : State) : State :=
  let due := s.hlm.bcPend.filter fun b => decide (b.2.2.2 < s.chr.tick)
  let s := { s with hlm.bcPend := s.hlm.bcPend.filter fun b => decide (s.chr.tick ≤ b.2.2.2) }
  due.foldl (fun s b => s.put (R.HLM_BCW_VALUE b.1 b.2.1) b.2.2.1) s

/-- BROADCAST_ACT (R205), where the tick edge has not made it act. -/
def execBroadcastAct (s : State) : Out := .next s.broadcastEdge

/-! ### AUTO and MAN (R224 to R227) -/

/-- R225: why a request for AUTO is refused. -/
def State.autoRefusal (s : State) (c : Nat) : Option Nat :=
  if s.helmsman c && s.flag (R.HLM_AM_DISAGREE c) then some 0
  else if s.flag (R.HLM_CHST_IN_INVALID c) then some 1
  else if !s.lawAllowed c then some 2
  else if s.flag (R.HLM_AM_FORCED c) then some 3
  else if s.ttBlocked (c / 16) then some 4
  else none

/-- The channel's law leads its output, or will. -/
def State.toLaw (s : State) (c : Nat) : Bool :=
  s.chState c == 2 || s.chState c == 3 || (s.chState c == 6 && (s.chan c).target == 2)

/-- R225: a request for AUTO written before the edge acts, or is refused. -/
def State.autoRequest (s : State) (c : Nat) : State :=
  if s.hlm.amReq.contains (c, 0) then
    let s := { s with hlm.amReq := s.hlm.amReq.filter fun r => r.1 != c }
    match State.autoRefusal s c with
    | some r =>
      (State.puts s [(R.HLM_AM_REFUSED c, 1), (R.HLM_AM_REASON c, r), (R.HLM_AM_REQ c, 1)]).chEvent c 0x14 r
    | none =>
      if !State.inMan s c then s
      else
        let s := State.put s (R.HLM_AM_AM c) 0
        if s.helmsman c then s.put (R.HLM_HOV_CAUSE c) 4
        else
          let s := s.modChan c fun x => { x with fresh := true, result := none }
          if s.toLaw c then s.startHo c 2 2 else s
  else s

/-- R225: a request for MAN acts: never refused, a hand-over with cause 3. -/
def State.manRequest (s : State) (c : Nat) : State :=
  if s.hlm.amReq.contains (c, 1) then
    let s := { s with hlm.amReq := s.hlm.amReq.filter fun r => r.1 != c }
    if State.inMan s c then s
    else
      let s := State.put s (R.HLM_AM_AM c) 1
      if s.toLaw c then s.startHo c 3 2 else s
  else s

/-- AUTO_REQUEST, MAN_REQUEST (R225), where the tick edge has not made the request act. -/
def execAutoRequest (ch : Fin 128) (s : State) : Out := .next (s.autoRequest ch)
def execManRequest (ch : Fin 128) (s : State) : Out := .next (s.manRequest ch)

/-- R101, R203 step 2: the requests of the tick that ends act. -/
def State.amEdge (s : State) : State :=
  s.hlm.amReq.foldl (fun t r => if r.2 = 0 then t.autoRequest r.1 else t.manRequest r.1) s

/-! ### Timetables (R202, R233, R235, R236) -/

/-- R233: a channel that overruns or the ladder put into SAFE starts again at a change of its group's timetable. -/
def State.timetableChanged (s : State) (c : Nat) : State :=
  let x := s.chan c
  if x.why = 2 ∧ (s.chState c = 4 ∨ s.chState c = 6) then
    if s.lawRuns c then s.startLaw c 0 else s.stopLaw c 1 0
  else s

/-- The K and TOFF of a channel's record come into force, but for a channel that has been shed (R239). -/
def State.takeRate (s : State) (c : Nat) : State :=
  if (s.chan c).shed then s
  else s.puts [(R.HLM_RATE_K_NOW c, s.chanB c 2 1), (R.HLM_RATE_TOFF_NOW c, s.chanB c 3 1)]

/-- R194: a group's timetable comes into force. -/
def State.setTt (s : State) (g : Nat) (w : Timetable) : State := { s with hlm.tts := s.hlm.tts.set g w }

/-- R202, R233: at the first edge after a rebuild its channels may start again. -/
def State.timetableEdge (s : State) : State :=
  let gs := s.hlm.ttNew
  gs.foldl (fun t g => t.eachChan (t.groupChans g) State.timetableChanged) { s with hlm.ttNew := [] }

/-- TIMETABLE_REBUILD (R202): after HALT writes the group is checked again and its timetable rebuilt; its channels leave
STOPPED at the next edge. DESIGN CHOICE (log entry `failed rebuild`): a failed rebuild clears TT_STALE too; TT_FAIL stands. -/
def execTimetableRebuild (g : Fin 8) (s : State) : Out :=
  if !s.flag (R.HLM_GSTAT_TT_STALE g) then .next s
  else
    let code := s.rebuildCode g
    if code = 0 then
      let s := (s.puts [(R.HLM_GSTAT_TT_STALE g, 0), (R.HLM_GSTAT_TT_FAIL g, 0), (R.HLM_FB_READY g, 0)]).eachChan
        (s.groupChans g) State.takeRate
      let s := (s.setTt g ⟨s.groupA g, s.ttRebuild g⟩).listCopies g
      .next (State.grpEvent { s with hlm.ttNew := s.hlm.ttNew ++ [g.val] } g 0x01 0)
    else
      .next ((s.puts [(R.HLM_GSTAT_TT_STALE g, 0), (R.HLM_GSTAT_TT_FAIL g, 1), (R.HLM_GSTAT_TT_CODE g, code)]).grpEvent g
        0x02 code)

/-- R235, R237: the fallback timetable of a cell for the slices given. -/
def State.fallbackOf (s : State) (g x : Nat) (a : List Nat) : Fallback :=
  let l := shedLadder a 150 { chans := s.ttForce g }
  { cell := 4 * g + x, shed := l.shed, removed := l.removed, steps := l.steps, tt := ⟨a, l.chans⟩ }

/-- FALLBACK_COMPUTE (R235): the Pilot computes the fallbacks of the cells that have no spare. -/
def execFallbackCompute (g : Fin 8) (s : State) : Out :=
  if !s.alm.pilotUp || s.alm.mgmtFailed || s.mode == mLIMP then .next s
  else
    let a := s.groupA g
    let cells := (List.range 4).filter fun x => bit (s.get (R.HLM_FB_NOSPARE g)) x
    let fbs := cells.map fun x =>
      s.fallbackOf g x (if s.hlm.fbDue.contains (4 * g.val + x) then a else a.set x (a.getD x 0 - 1))
    let ready := (cells.map (2 ^ ·)).sum
    let s := { s with hlm.fbs := (s.hlm.fbs.filter fun f => f.cell / 4 != g.val) ++ fbs }
    .next ((State.put s (R.HLM_FB_READY g) ready).grpEvent g 0x13 ready)

/-- A shed step raises a channel's K: its new K and TOFF, reason 0x16 (R237). -/
def State.shedChan (s : State) (e : Nat × Nat × Nat) : State :=
  ((s.modChan e.1 fun x => { x with shed := true }).puts
    [(R.HLM_RATE_K_NOW e.1, e.2.1), (R.HLM_RATE_TOFF_NOW e.1, e.2.2)]).chEvent e.1 0x16 e.2.1

/-- A channel is removed by the ladder: it enters SAFE, reason 0x11. -/
def State.removeChan (s : State) (c : Nat) : State :=
  ((s.modChan c fun x => { x with removed := true, run := none }).chEvent c 0x11 1).stopLaw c 4 4

/-- R237: a ladder's outcome comes into force. -/
def State.applyLadder (s : State) (g : Nat) (f : Fallback) : State :=
  let s := f.shed.foldl State.shedChan s
  let s := (f.removed.foldl State.removeChan s).setTt g f.tt
  let s := s.grpEvent g 0x11 f.steps
  let s := if f.removed = [] then s else s.grpEvent g 0x12 f.removed.length
  (s.puts [(R.HLM_GSTAT_DEGRADED g, 1), (R.ALM_MODE_DEGRADED, 1)]).put (R.HLM_FB_STEPS g) (min 255 (s.get (R.HLM_FB_STEPS g) + f.steps))

/-- FALLBACK_APPLY (R236): at the edge the cell's fallback comes into force; without one reason 0x14 is raised once and
the cell waits for it. -/
def execFallbackApply (cell : Fin 32) (s : State) : Out :=
  if !s.hlm.fbDue.contains cell.val then .next s
  else
    let g := cell.val / 4
    match if bit (s.get (R.HLM_FB_READY g)) (cell % 4) then s.hlm.fbs.find? fun f => f.cell == cell.val else none with
    | some f =>
      let s := { s with
        hlm.fbDue := s.hlm.fbDue.filter (· != cell.val), hlm.fbTold := s.hlm.fbTold.filter (· != cell.val) }
      let s := (State.put s (R.HLM_FB_READY g) 0).grpEvent g 0x10 (cell % 4)
      .next ((s.applyLadder g f).eachChan (s.groupChans g) State.timetableChanged)
    | none =>
      if s.hlm.fbTold.contains cell.val then .next s
      else .next (State.grpEvent { s with hlm.fbTold := s.hlm.fbTold ++ [cell.val] } g 0x14 (cell % 4))

/-! ### Snapshots (Table 5.11) -/

/-- The 64-byte block of a channel at the edge. -/
def State.snapBlock (s : State) (c : Nat) : List Nat :=
  if !s.chanOn c then c :: List.replicate 63 0
  else
    let x := s.chan c
    let st := s.chState c + 16 * s.get (R.HLM_CHST_CLIP c) + 64 * s.get (R.HLM_CHST_IN_INVALID c) +
      128 * s.get (R.HLM_CHST_SP_INVALID c)
    let i32 (v : Int) : List Nat := leBytes 4 (ofInt 32 v)
    [c, st, s.kNow c, s.get (R.HLM_CHST_INVCNT c)] ++ leBytes 4 s.chr.tick ++ i32 x.snR ++
      leBytes 4 (s.get (R.HLM_CHY_VALUE c)) ++ i32 x.snU ++ leBytes 4 (s.get (R.HLM_CHU_VALUE c)) ++
      leBytes 4 (s.get (R.HLM_CHRAW_VALUE c)) ++ i32 (q24 x.integ) ++
      (if s.chanB c 1 1 = 1 ∨ s.chanB c 1 1 = 2 then i32 (q24 x.dl) else [0, 0, 0, 0]) ++
      (x.snAux.flatMap i32) ++ leBytes 4 x.snTick ++ leBytes 2 x.snPhase ++ [0, 0] ++
      leBytes 4 (s.get (R.HLM_CHCNT_VALUE c)) ++ [0, 0, 0, 0]

/-- R206: every group latches its blocks into the slot's buffer. -/
def State.helmSnap (s : State) (slot : Nat) : State :=
  { s with hlm.snaps := (s.hlm.snaps.filter fun p => p.1 != slot) ++ [(slot, (List.range 128).map s.snapBlock)] }

/-! ### Takeover by S1 (R228) -/

/-- R228: a channel that drives a ring word hands over, with cause 5, from the last value S0 delivered. -/
def State.takeoverChan (s : State) (last : List (Nat × List Nat)) (c : Nat) : State :=
  let dst := s.chanB c 0x1C 4
  if bits dst 28 4 ≠ 3 ∨ !s.chanOn c then s
  else
    let s := match last.find? fun p => p.1 == bits dst 8 6 with
      | some (_, bs) => s.sinkWrite c (toInt 32 (leNat ((bs.drop (4 * bits dst 0 8)).take 4)))
      | none => s
    if s.toLaw c then s.startHo c 5 2
    else if s.chState c = 4 then s.startHo c 5 4
    else if s.chState c = 1 then s.startHo c 5 1
    else if s.chState c = 6 then s.startHo c 5 (s.chan c).target
    else s

end Sys2Proof.Machine
end

