-- ==== Sys2Proof/Machine/Dio.lean ====
section
/-! DEFINITION. The direct I/O: current outputs, analogue, pulse and digital inputs and outputs (Helm: Cascades, Hand-over,
Compensation and Direct Drives, Direct drives), and the loss of UV. -/

namespace Sys2Proof.Machine

/-! ### Current outputs (R240 to R244) -/

/-- A field of a PCCFG body (Table 6.5). -/
def State.pccfg (s : State) (n off w : Nat) : Nat := s.cfg 0x1100 n off w

/-- R240, Table 6.5: a value corrected through the table of a band. -/
def State.correct (s : State) (n band : Nat) (v : Int) : Int :=
  let cur (k : Nat) : Int := s.pccfg n (0x24 + 40 * band + 4 * k) 4
  let i := min 7 (v / 375000).toNat
  clamp 0 3000000 (cur i + roundDiv ((v - 375000 * i) * (cur (i + 1) - cur i)) 375000)

/-- R242: the triangular dither of peak `amp`, `t` cycles into a period of `per` cycles: from 0 up to the peak, down to its
negative, and back (DEDUCED, log entry `dither`). -/
def dither (amp per t : Int) : Int :=
  let q := 4 * t
  if per = 0 then 0
  else if q ≤ per then roundDiv (q * amp) per
  else if q ≤ 3 * per then roundDiv ((2 * per - q) * amp) per
  else roundDiv ((q - 4 * per) * amp) per

/-- R241: the PWM period and offset in force: those of the last start, else the record's. -/
def State.pwmNow (s : State) (n : Nat) : Nat × Nat :=
  let p := s.dio.pcs.getD n {}
  if p.period = 0 then (s.pccfg n 0 2, s.pccfg n 2 2) else (p.period, p.ofs)

/-- PWM_PERIOD_START (R241 to R243): at a cycle where (tick count × 10,000 + phase) mod PWM_PERIOD = PWM_OFS the regulator
takes the latest value; settings that waited for the end of a PWM or a dither period act. -/
def execPwmPeriodStart (x : PwmStart) (s : State) : Out :=
  let s := s.atPhase x.phase
  let n := x.n
  if !s.has 0x1100 n || (10000 * s.chr.tick + x.phase) % (s.pwmNow n).1 != (s.pwmNow n).2 then .next s
  else
    let p := s.dio.pcs.getD n {}
    let gone := p.dithT + p.period
    let ended := p.dithPer == 0 || decide (p.dithPer ≤ gone)
    let band := if ended then p.bandDue else s.get (R.DIO_PC_STAT_BAND n)
    let s := s.put (R.DIO_PC_STAT_BAND n) band
    let per := if ended then s.pccfg n 4 4 else p.dithPer
    let amp := if ended then s.pccfg n (0x20 + 40 * band) 4 else p.dithAmp
    let gone := if ended then 0 else gone
    let v := if s.pcOff n then 0 else s.correct n band p.val
    .next (s.modPc n fun p => { p with
      taken := v
      ref := if s.pcOff n then 0 else max 0 (v + dither amp per gone)
      period := s.pccfg n 0 2
      ofs := s.pccfg n 2 2
      dithPer := per
      dithAmp := amp
      dithT := gone })

/-- R243: the band at a temperature in Q11.4, with 2 K hysteresis. -/
def State.bandAt (s : State) (n : Nat) (t : Int) : Nat :=
  let now := s.get (R.DIO_PC_STAT_BAND n)
  ((List.range 7).filter fun i =>
    let tb := s.cfgI 0x1100 n (0x10 + 2 * i) 2
    decide (t ≥ tb) || (decide (i < now) && decide (t > tb - 32))).length

/-- R243: the coil temperature from its resistance, Q11.4. -/
def State.coilTemp (s : State) (n r : Nat) : Int :=
  let ref : Int := s.pccfg n 8 4
  if ref = 0 then s.cfgI 0x1100 n 0x0C 2
  else satS 16 (s.cfgI 0x1100 n 0x0C 2 + roundDiv (16 * ((r : Int) - ref) * 100000) (ref * 393))

/-- R243: the band is formed from TCOIL, or from TCP before the first estimate; it acts at the end of the dither period. -/
def State.bandStep (s : State) (n : Nat) : State :=
  let t := if (s.dio.pcs.getD n {}).est then toInt 16 (s.get (R.DIO_PC_T_TCOIL n)) else toInt 16 (s.get R.PWR_TEMP_TCP)
  s.modPc n fun p => { p with bandDue := s.bandAt n t }

/-- R253: a commit of R_REF, T_REF or the thresholds acts on the coil temperatures formed from estimates and on the bands. -/
def State.coilRefs (s : State) : State :=
  ((List.range 16).filter fun n => s.has 0x1100 n).foldl (fun s n =>
    (if (s.dio.pcs.getD n {}).est then
      s.put (R.DIO_PC_T_TCOIL n) (ofInt 16 (s.coilTemp n (s.get (R.DIO_PC_R_VALUE n))))
    else s).bandStep n) s

/-- The sink fault of Table 6.3 for the channels that drive an output. -/
def State.pcEvent (s : State) (n detail : Nat) : State :=
  (s.driversOf (0x10000000 + n)).foldl (fun s c => s.chEvent c 0x17 detail) s

/-- COIL_ESTIMATE (R243, Table 6.3): the mean coil voltage (mV) and current (µA) over 10 ms; `openLoad` when no current
flowed at full duty. -/
def execCoilEstimate (n : Fin 16) (mv ua : Nat) (openLoad : Bool) (s : State) : Out :=
  if !s.has 0x1100 n then .next s
  else
    let est := decide (50000 ≤ ua)
    let s := if est then
        let r := (roundDiv ((mv : Int) * 1000000) ua).toNat
        (s.modPc n fun p => { p with est := true }).puts
          [(R.DIO_PC_R_VALUE n, min r (2 ^ 32 - 1)), (R.DIO_PC_T_TCOIL n, ofInt 16 (s.coilTemp n r))]
      else s
    let s := s.bandStep n
    let open_ := openLoad || ((s.dio.pcs.getD n {}).est && decide (200000 < s.get (R.DIO_PC_R_VALUE n)))
    let was := s.flag (R.DIO_PC_STAT_OPEN n)
    let s := s.put (R.DIO_PC_STAT_OPEN n) (b2n open_)
    .next (if open_ && !was then s.pcEvent n 1 else s)

/-- A current output switches off: its channels enter SAFE (R234). -/
def State.pcFault (s : State) (n detail : Nat) : State :=
  let cs := s.driversOf (0x10000000 + n)
  let s := s.modPc n fun p => { p with val := 0, taken := 0, ref := 0 }
  cs.foldl (fun s c => s.sinkFault c detail) s

/-- A current output is on again: its channels return from zero (R234, cause 6). -/
def State.pcRestore (s : State) (n : Nat) : State :=
  (s.driversOf (0x10000000 + n)).foldl State.sinkRestored s

/-- PC_OVERCURRENT (R244). -/
def execPcOvercurrent (n : Fin 16) (s : State) : Out := .next ((s.put (R.DIO_PC_STAT_OC n) 1).pcFault n 0)

/-- W1C of DIO_PCn_STAT.OC. -/
def State.pcOcClear (s : State) (n : Nat) : State :=
  if s.flag (R.DIO_PC_STAT_OC n) then (s.put (R.DIO_PC_STAT_OC n) 0).pcRestore n else s

/-- PC_OC_CLEAR (R244). -/
def execPcOcClear (n : Fin 16) (s : State) : Out := .next (s.pcOcClear n)

/-- The level of UV, which PWR_SUPPLY shows in RESET too (R56). -/
def State.uvLevel (s : State) (mv : Nat) : State := { s with pwr.uv := mv }.put R.PWR_SUPPLY_UV_MV mv

/-- UV_LOSS (R34): every current output goes to zero. -/
def execUvLoss (mv : Nat) (s : State) : Out :=
  if s.pwr.uvLost || decide (8000 ≤ mv) then .next s
  else
    let s := (State.put { s.uvLevel mv with pwr.uvLost := true } R.PWR_STATUS_UV_LOSS 1).raise 122 []
    .next ((List.range 16).foldl (fun s n => (s.put (R.DIO_PC_STAT_SUPPLY_LOST n) 1).pcFault n 2) s)

/-- UV_RESTORE (R34): the outputs resume from zero. -/
def execUvRestore (mv : Nat) (s : State) : Out :=
  if !s.pwr.uvLost || decide (mv < 9000) then .next s
  else
    let s := { s.uvLevel mv with pwr.uvLost := false }
    .next ((List.range 16).foldl (fun s n => (s.put (R.DIO_PC_STAT_SUPPLY_LOST n) 0).pcRestore n) s)

/-! ### Analogue inputs (R245 to R248) -/

/-- AI_BURDEN_DISCONNECT (R246, Table 1.13). -/
def execAiBurdenDisconnect (n : Fin 24) (s : State) : Out :=
  if s.has 0x1101 n && s.cfg 0x1101 n 0 1 == 2 then
    .next (s.puts [(R.DIO_AI_STAT_BURDEN n, 1), (R.DIO_AI_STAT_FAULTY n, 1)])
  else .next s

/-- AI_BURDEN_CLEAR (R246). -/
def State.aiBurdenClear (s : State) (n : Nat) : State := s.put (R.DIO_AI_STAT_BURDEN n) 0

def execAiBurdenClear (n : Fin 24) (s : State) : Out := .next (s.aiBurdenClear n)

/-- AI_CALIBRATION_DONE (R247): a modulator is calibrated, or retired. -/
def execAiCalibrationDone (m : Fin 26) (ok : Bool) (s : State) : Out :=
  if s.dio.calib.contains m.val then
    let s := { s with dio.calib := s.dio.calib.filter (· != m.val) }
    .next (if ok then { s with dio.ready := s.dio.ready ++ [m.val] } else { s with dio.retired := s.dio.retired ++ [m.val] })
  else .next s

/-- AI_MODULATOR_TAKEOVER (R247): the modulator calibrated longest takes over an input; with CAL_EN = 0 the input keeps
its own. -/
def execAiModulatorTakeover (n : Fin 24) (delta : Int) (s : State) : Out :=
  match s.dio.ready with
  | [] => .next s
  | m :: rest =>
    if s.has 0x1101 n && !bit (s.cfg 0x1101 n 2 1) 0 then .next s
    else
      let old := (s.dio.aiMod.getD n none).toList
      let s := { s with dio.ready := rest, dio.calib := s.dio.calib ++ old, dio.aiMod := s.dio.aiMod.set n (some m) }
      .next (State.put s (R.DIO_AI_STAT_CAL_DELTA n) (ofInt 24 delta))

/-! ### Pulse inputs (R249, R250) -/

def State.modPi (s : State) (n : Nat) (f : Pulse → Pulse) : State := { s with dio.pis := s.dio.pis.modify n f }

/-- R116: the count with what the destination had not counted, at a time in CLK_T cycles of the tick count. -/
def State.pulseCount (s : State) (n at_ : Nat) : State :=
  let k := (s.dio.pis.getD n {}).behind + 1
  (s.put (R.DIO_PI_CNT_VALUE n) (s.get (R.DIO_PI_CNT_VALUE n) + k)).modPi n fun p =>
    { p with behind := 0, at_ := p.at_ ++ List.replicate k at_ }

/-- PULSE_EDGE (R65, R95, R116, R118, R249): an active edge, counted and stamped once CTL is out of reset; the stamp that its
point lost is a free value. A change of the count's Gray code by more than one step raises EV013 and keeps the last good count;
the edges it hides come into the count with the next one. -/
def execPulseEdge (n : Fin 16) (e : PulseIn) (s : State) : Out :=
  if s.inMode [mRESET, mLOAD] then .next s
  else
    let s := s.tookStamp (ptPi n) e.stamp
    let s := if e.gray then (s.modPi n fun p => { p with behind := p.behind + 1 }).raise 13 [0xC000 + n.val]
      else s.pulseCount n (s.cyclesAt e.stamp)
    let (t, s) := s.stampOr e.stamp
    .next (s.modPi n fun p => { p with
      n := p.n + 1, first := if p.n = 0 then t else p.first, last := t, lastEdge := some t, idle := 0 })

/-- PULSE_TIMEOUT (R250): TIMEOUT ticks without an edge. -/
def execPulseTimeout (n : Fin 16) (s : State) : Out :=
  let p := s.dio.pis.getD n {}
  if s.has 0x1102 n && s.cfg 0x1102 n 3 1 == 1 && decide (s.cfg 0x1102 n 6 2 ≤ p.idle) then
    .next (s.put (R.DIO_PI_RATE_VALUE n) 0)
  else .next s

/-- R250: the frequency in mHz over the completed ticks of the window, at the edge at MT64 `mt`. -/
def rateOf (win : List (Nat × Nat × Nat)) (lastEdge : Option Nat) (prev mt : Nat) : Nat :=
  let used := win.filter fun h => h.1 != 0
  let cnt := (used.map (·.1)).sum
  match used.head?, used.getLast? with
  | some new, some old =>
    if 2 ≤ cnt then (roundDiv (((cnt : Int) - 1) * 800000000000) ((new.2.2 : Int) - old.2.1)).toNat
    else min prev (roundDiv 800000000000 ((mt : Int) - new.2.2)).toNat
  | _, _ => match lastEdge with
    | some e => min prev (roundDiv 800000000000 ((mt : Int) - e)).toNat
    | none => 0

/-- A pulse input at the tick edge; after TIMEOUT ticks without an edge its frequency is 0 (R250). -/
def State.pulseTick (s : State) (n : Nat) : State :=
  let p := s.dio.pis.getD n {}
  let hist := ((p.n, p.first, p.last) :: p.hist).take 128
  let idle := if p.n = 0 then p.idle + 1 else 0
  let s := s.modPi n fun p => { p with n := 0, first := 0, last := 0, hist := hist, idle := idle, at_ := [] }
  if s.has 0x1102 n && s.cfg 0x1102 n 3 1 == 1 then
    let f := if s.cfg 0x1102 n 6 2 ≤ idle then 0
      else rateOf (hist.take (s.cfg 0x1102 n 4 1)) p.lastEdge (s.get (R.DIO_PI_RATE_VALUE n)) s.chr.base
    s.put (R.DIO_PI_RATE_VALUE n) (min f (2 ^ 32 - 1))
  else s

/-! ### Digital inputs and outputs (R251) -/

/-- DIO_EDGE (R251): an edge at an input is stamped; the level that it leads to stays for `heldUs` µs, and is taken over
FILTER µs after the edge when it stays that long. -/
def execDioEdge (n : Fin 16) (high : Bool) (stamp : Option Nat) (heldUs : Nat) (s : State) : Out :=
  let s := s.tookStamp (ptDio n) stamp
  if s.dioOut n then .next s
  else
    let at_ := s.cyclesAt stamp
    let (stamp, s) := s.stampOr stamp
    let s := { s with dio.edge := (s.dio.edge.filter fun e => e.1 != n.val) ++ [(n.val, stamp)] }
    let flt := if State.has s 0x1103 n then State.cfg s 0x1103 n 1 1 else 0
    .next (if flt ≤ heldUs then { s with dio.deb := s.dio.deb ++ [(n.val, high, at_ + 100 * flt)] } else s)

/-- DIO_OVERCURRENT (R251, R41). -/
def execDioOvercurrent (n : Fin 16) (s : State) : Out :=
  let s := (s.orBits R.DIO_OFLT_OC (2 ^ n.val)).clrBits R.DIO_OUT_STATE (2 ^ n.val)
  .next ((s.driversOf (0x20000000 + n)).foldl (fun s c => s.sinkFault c 4) s)

/-- W1C of DIO_OFLT: the outputs return through R234. -/
def State.dioOfltClear (s : State) (m : Nat) : State :=
  let back := (List.range 16).filter fun n => bit m n && bit (s.get R.DIO_OFLT_OC) n
  back.foldl (fun s n => (s.driversOf (0x20000000 + n)).foldl State.sinkRestored s) (s.clrBits R.DIO_OFLT_OC m)

def execDioOfltClear (mask : BitVec 16) (s : State) : Out := .next (s.dioOfltClear mask.toNat)

/-! ### The tick edge -/

/-- What the direct I/O samples at the tick edge (R177, R388, Table 6.11). -/
def State.dioEdge (s : State) (i : TickIn) : State :=
  let now := 10000 * s.chr.tick
  let s := { s.put R.DIO_IN_LEVEL (s.dioLevel now) with dio.deb := s.dio.deb.filter fun d => decide (now < d.2.2) }
  let s := { s with dio.imu := (List.range 6).map fun k => i.imu.getD k 0, dio.imuFault := i.imuFault }
  let s := (i.ai.filter fun x => x.n < 24).foldl (fun s x =>
    s.puts [(R.DIO_AI_VAL_VALUE x.n, ofInt 32 x.raw), (R.DIO_AI_STAT_FAULTY x.n, b2n (s.aiFaulty x))])
    (s : State)
  let s := (List.range 16).foldl (fun s n =>
    s.puts [(R.DIO_PC_I_VALUE n, i.pcUa.getD n 0), (R.DIO_PC_STAT_DUTY_MAX n, b2n (bit i.pcFull n))]) s
  (List.range 16).foldl State.pulseTick s

end Sys2Proof.Machine
end

