-- ==== Sys2Proof/Machine/Fixed.lean ====
section
/-! DEFINITION. The trigonometry, square roots and WGS 84 conversions that the Plotter's rules use (R285, R293, R305, R316),
in fixed point with 60 fractional bits: the manual names the functions and leaves their working precision open (log entry
`working precision`). -/

namespace Sys2Proof.Machine

/-- One, and π, with 60 fractional bits. -/
def fxOne : Int := 2 ^ 60
def fxPi : Int := 3622009729038561421

def fxMul (a b : Int) : Int := a * b / fxOne

/-- The greatest number whose square does not exceed `n`, found bit by bit. -/
def isqrt (n : Nat) : Nat :=
  (List.range (n.log2 / 2 + 1)).reverse.foldl (fun r i => if (r + 2 ^ i) * (r + 2 ^ i) ≤ n then r + 2 ^ i else r) 0

/-- The square root of a fixed-point number that is not negative. -/
def fxSqrt (x : Int) : Int := isqrt (x.toNat * 2 ^ 60)

/-- 1 − x²/(k(k+1)) + x⁴/(k(k+1)(k+2)(k+3)) − …: the series of the cosine for k = 1, of sin x / x for k = 2. -/
def trigSeries (x2 : Int) : (terms k : Nat) → Int
  | 0, _ => fxOne
  | n + 1, k => fxOne - fxMul x2 (trigSeries x2 n (k + 2)) / (k * (k + 1) : Nat)

/-- An angle in radians brought into −π to π. -/
def fxWrap (x : Int) : Int := (x + fxPi) % (2 * fxPi) - fxPi

def fxCos (x : Int) : Int := trigSeries (fxMul (fxWrap x) (fxWrap x)) 20 1
def fxSin (x : Int) : Int := fxMul (fxWrap x) (trigSeries (fxMul (fxWrap x) (fxWrap x)) 20 2)

/-- 1/k − t²/(k+2) + t⁴/(k+4) − … -/
def atanSeries (t2 : Int) : (terms k : Nat) → Int
  | 0, k => fxOne / k
  | n + 1, k => fxOne / k - fxMul t2 (atanSeries t2 n (k + 2))

/-- The tangent of half the angle whose tangent is `t`. -/
def halfTan (t : Int) : Int := t * fxOne / (fxOne + fxSqrt (fxOne + fxMul t t))

/-- The arc tangent of `t`, 0 to 1: by the quarter angle. -/
def fxAtan (t : Int) : Int :=
  let u := halfTan (halfTan t)
  4 * fxMul u (atanSeries (fxMul u u) 24 1)

/-- The angle of the vector (x, y), −π to π; 0 of no vector. -/
def fxAtan2 (y x : Int) : Int :=
  let ax : Int := x.natAbs
  let ay : Int := y.natAbs
  if ax = 0 ∧ ay = 0 then 0
  else
    let a := if ay ≤ ax then fxAtan (ay * fxOne / ax) else fxPi / 2 - fxAtan (ax * fxOne / ay)
    let a := if x < 0 then fxPi - a else a
    if y < 0 then -a else a

/-- Radians of an angle in µrad, and µrad of an angle in radians. -/
def ofMicro (u : Int) : Int := u * fxOne / 1000000
def toMicro (x : Int) : Int := roundDiv (x * 1000000) fxOne

/-- Cosine and sine of an angle in µrad, Q1.30. -/
def cosMicro (u : Int) : Int := roundShift (fxCos (ofMicro u)) 30
def sinMicro (u : Int) : Int := roundShift (fxSin (ofMicro u)) 30

/-- The bearing of a direction east and north, µrad clockwise from true north, 0 to 6,283,184. -/
def bearing (de dn : Int) : Int := toMicro (fxAtan2 de dn) % 6283185

/-! ### WGS 84 (R282, R305) -/

/-- The semi-major axis in 2⁻²⁰ mm, and the square of the eccentricity. -/
def wgsA : Int := 6378137000 * 2 ^ 20
def wgsE2 : Int := 7718094650643696

/-- Radians of 10⁻⁹ degree, and back. -/
def ofNano (d : Int) : Int := d * fxPi / 180000000000
def toNano (x : Int) : Int := roundDiv (x * 180000000000) fxPi

/-- The radius of curvature in the prime vertical at a latitude, 2⁻²⁰ mm. -/
def wgsN (lat : Int) : Int := wgsA * fxOne / fxSqrt (fxOne - fxMul wgsE2 (fxMul (fxSin lat) (fxSin lat)))

/-- The Earth-centred position, 2⁻²⁰ mm, of a latitude and longitude in 10⁻⁹ degree and a height in mm. -/
def wgsEcef (p : List Int) : List Int :=
  let lat := ofNano (p.getD 0 0)
  let lon := ofNano (p.getD 1 0)
  let h := p.getD 2 0 * 2 ^ 20
  let n := wgsN lat
  [fxMul (n + h) (fxMul (fxCos lat) (fxCos lon)), fxMul (n + h) (fxMul (fxCos lat) (fxSin lon)),
    fxMul (n - fxMul wgsE2 n + h) (fxSin lat)]

/-- A point (latitude and longitude in 10⁻⁹ degree, height in mm) in East, North, Up, mm, of the tangent plane at an origin. -/
def toEnu (o p : List Int) : List Int :=
  let a := wgsEcef o
  let b := wgsEcef p
  let d (k : Nat) : Int := b.getD k 0 - a.getD k 0
  let sf := fxSin (ofNano (o.getD 0 0))
  let cf := fxCos (ofNano (o.getD 0 0))
  let sl := fxSin (ofNano (o.getD 1 0))
  let cl := fxCos (ofNano (o.getD 1 0))
  let r := fxMul cl (d 0) + fxMul sl (d 1)
  [roundShift (fxMul cl (d 1) - fxMul sl (d 0)) 20, roundShift (fxMul cf (d 2) - fxMul sf r) 20,
    roundShift (fxMul cf r + fxMul sf (d 2)) 20]

/-- The latitude at a distance from the axis and a height over the equator's plane, 2⁻²⁰ mm, by repeated substitution. -/
def wgsLat (r z : Int) : (turns : Nat) → Int
  | 0 => fxAtan2 z (r - fxMul wgsE2 r)
  | n + 1 =>
    let f := wgsLat r z n
    fxAtan2 (z + fxMul wgsE2 (fxMul (wgsN f) (fxSin f))) r

/-- A point of the tangent plane, mm, in latitude and longitude in 10⁻⁹ degree and height in mm. -/
def toWgs (o p : List Int) : List Int :=
  let a := wgsEcef o
  let sf := fxSin (ofNano (o.getD 0 0))
  let cf := fxCos (ofNano (o.getD 0 0))
  let sl := fxSin (ofNano (o.getD 1 0))
  let cl := fxCos (ofNano (o.getD 1 0))
  let g (k : Nat) : Int := p.getD k 0 * 2 ^ 20
  let q := fxMul cf (g 2) - fxMul sf (g 1)
  let x := a.getD 0 0 + fxMul cl q - fxMul sl (g 0)
  let y := a.getD 1 0 + fxMul sl q + fxMul cl (g 0)
  let z := a.getD 2 0 + fxMul cf (g 1) + fxMul sf (g 2)
  let r : Int := isqrt (x * x + y * y).toNat
  let f := wgsLat r z 8
  let s := fxSin f
  let h := fxMul r (fxCos f) + fxMul z s - fxMul wgsA (fxSqrt (fxOne - fxMul wgsE2 (fxMul s s)))
  [toNano f, toNano (fxAtan2 y x), roundShift h 20]

end Sys2Proof.Machine
end

