-- ==== Sys2Proof/Machine/Frames.lean ====
section
/-! DEFINITION. Ring traffic to the byte (R131 to R137): the CRC-32 of IEEE 802.3, and the images of headers, slots,
announcements, mail and probe frames that it covers. -/

namespace Sys2Proof

open Sys2Proof.Machine

/-- One bit of the reflected CRC of R131. -/
def Machine.crcBit (c : Nat) : Nat := if c % 2 = 1 then (c / 2) ^^^ 0xEDB88320 else c / 2

/-- One byte of it. -/
def Machine.crcByte (c b : Nat) : Nat :=
  crcBit (crcBit (crcBit (crcBit (crcBit (crcBit (crcBit (crcBit (c ^^^ (b % 256)))))))))

/-- R131: CRC-32 of a sequence of bytes. -/
def Machine.crc32 (l : List Nat) : Nat := l.foldl crcByte 0xFFFFFFFF ^^^ 0xFFFFFFFF

/-- The number in `n` bytes at an offset, little-endian (R9), plain and signed. -/
def Machine.natAt (l : List Nat) (off n : Nat) : Nat := leNat ((l.drop off).take n)
def Machine.intAt (l : List Nat) (off n : Nat) : Int := toInt (8 * n) (natAt l off n)

/-- A list brought to `n` bytes, with zeros. -/
def Machine.padTo (n : Nat) (l : List Nat) : List Nat := l.take n ++ List.replicate (n - l.length) 0

/-- Table 4.4: the slot header and payload. -/
def RingSlot.bytes (x : RingSlot) : List Nat :=
  [x.addr + 64 * x.kind, x.status] ++ leBytes 2 x.payload.length ++ x.payload

def RingSlot.crcOk (x : RingSlot) : Bool := x.crc == crc32 x.bytes

/-- The slot with the CRC of its content. -/
def RingSlot.seal (x : RingSlot) : RingSlot := { x with crc := crc32 x.bytes }

/-- Table 4.3. -/
def RingAnn.bytes (x : RingAnn) : List Nat := [x.type, x.seq] ++ leBytes 6 x.tick ++ leBytes 8 x.arg

/-- Table 4.6: the mail header and payload. -/
def RingMail.bytes (x : RingMail) : List Nat :=
  [x.addr + 192, (if x.bcast then 1 else 0) + if x.filled then 2 else 0] ++ leBytes 2 x.len ++ [x.op, x.seq] ++
    leBytes 2 x.status ++ x.payload

def RingMail.crcOk (x : RingMail) : Bool := x.crc == crc32 x.bytes
def RingMail.seal (x : RingMail) : RingMail := { x with crc := crc32 x.bytes }

/-- Table 4.2, FLAGS. -/
def RingFrame.flags (x : RingFrame) : Nat :=
  x.dir + (if x.wrap then 2 else 0) + 4 * x.origin + 8 * x.tai + 16 * x.mode

/-- Table 4.2: the bytes that HCRC covers. -/
def RingFrame.header (x : RingFrame) : List Nat :=
  [x.ftype, x.flags] ++ leBytes 2 x.len ++ leBytes 2 x.mapver ++ leBytes 2 (x.tick / 2 ^ 32) ++ leBytes 4 x.tick ++
    leBytes 8 x.mtLaunch ++ leBytes 4 x.acc ++ [x.hops, x.nslot, 0, 0]

def RingFrame.hcrcOk (x : RingFrame) : Bool := x.hcrc == crc32 x.header

/-- The frame with the HCRC of its header. -/
def RingFrame.seal (x : RingFrame) : RingFrame := { x with hcrc := crc32 x.header }

/-- R133: the announcement block of a D-pass arrived whole. -/
def RingFrame.annOk (x : RingFrame) : Bool := x.annCrc == crc32 (x.ann.flatMap RingAnn.bytes)

/-- The ring frame as the bytes on the link (R131): the parts follow each other without gaps. -/
def RingFrame.bytes (x : RingFrame) : List Nat :=
  x.header ++ leBytes 4 x.hcrc ++
    (if x.ftype = 2 then x.ann.flatMap RingAnn.bytes ++ leBytes 4 x.annCrc else []) ++
    x.slots.flatMap (fun y => y.bytes ++ leBytes 4 y.crc) ++ x.mail.bytes ++ leBytes 4 x.mail.crc

/-- Table 4.7. -/
def ProbeFrame.bytes (x : ProbeFrame) : List Nat := [x.ftype, x.seq, 0, 0] ++ leBytes 4 x.turn ++ [0, 0, 0, 0]

def ProbeFrame.crcOk (x : ProbeFrame) : Bool := x.crc == crc32 x.bytes
def ProbeFrame.seal (x : ProbeFrame) : ProbeFrame := { x with crc := crc32 x.bytes }

/-- Table 4.15. -/
def IdentReply.bytes (x : IdentReply) : List Nat :=
  leBytes 4 x.vendor ++ leBytes 4 x.product ++ leBytes 2 x.hwRev ++ leBytes 2 x.bootRev ++ leBytes 2 x.fwdCw ++
    leBytes 2 x.fwdCcw ++ leBytes 2 x.ready ++ leBytes 2 x.cLen ++ leBytes 2 x.dLen ++
    [x.flags, x.nchan, x.hopsCw, x.hopsCcw] ++ leBytes 2 x.capacity ++ [0, 0, 0, 0] ++ padTo 32 x.digest

end Sys2Proof
end

