-- ==== Sys2Proof/Machine/Vehicle.lean ====
section
/-! DEFINITION. The scale of time and the rings that the Plotter's stages share, and the vehicle-state filter (Plotter: Stamping,
Alignment and the Vehicle State, R267, R280, R282 to R286). -/

namespace Sys2Proof.Machine

/-! ### Records, sources and the scale of time -/

/-- Fields of the SOURCE, PRODUCT and VSTATE bodies (Table 7.9). -/
def State.srcB (s : State) (i off n : Nat) : Nat := s.cfg 0x0400 i off n
def State.prodB (s : State) (p off n : Nat) : Nat := s.cfg 0x0401 p off n
def State.vsB (s : State) (off n : Nat) : Nat := s.cfg 0x0402 0 off n

def State.src (s : State) (i : Nat) : Src := s.plt.srcs.getD i {}
def State.modSrc (s : State) (i : Nat) (f : Src → Src) : State := { s with plt.srcs := s.plt.srcs.modify i f }

/-- Sources and products the Almanac declares. -/
def State.sources (s : State) : List Nat := (List.range 64).filter fun i => s.has 0x0400 i
def State.products (s : State) : List Nat := (List.range 16).filter fun p => s.has 0x0401 p

/-- Kinds 0x06 to 0x09 are free (Table 7.1). -/
def State.isFree (s : State) (i : Nat) : Bool := decide (6 ≤ s.srcB i 0 1)

/-- MT64, on the present scale, of the edge that begins tick `n`. -/
def State.tickMt (s : State) (n : Nat) : Int := (s.chr.base : Int) - 80000 * ((s.chr.tick : Int) - n)

/-- The first tick whose edge lies at or after a time. -/
def State.tickAt (s : State) (tv : Int) : Nat := ((s.chr.tick : Int) - ((s.chr.base : Int) - tv) / 80000).toNat

/-- R267: the steps that an output of tick `n` lies before: what its TVALID leaves out. -/
def State.stepsAfter (s : State) (n : Nat) : Int := ((s.plt.steps.filter fun e => decide (n < e.1)).map (·.2)).sum

/-- Fresh free values of the widths given. -/
def State.frees (s : State) : List Nat → List Nat × State
  | [] => ([], s)
  | w :: ws =>
    let (v, s) := s.free w
    let (vs, s) := s.frees ws
    (v :: vs, s)

/-! ### Rings in DRAM (R280) -/

/-- A record stored in a ring, rising by key. -/
def ringPut (k : Nat) (bs : List Nat) : List (Nat × List Nat) → List (Nat × List Nat)
  | [] => [(k, bs)]
  | (a, x) :: l => if k < a then (k, bs) :: (a, x) :: l else if k = a then (k, bs) :: l else (a, x) :: ringPut k bs l

/-- A record written into slot `i` of ring `r`. -/
def State.ringWrite (s : State) (r i : Nat) (bs : List Nat) : State :=
  { s with rings := ringPut (r * 2 ^ 32 + i) bs s.rings }

/-! ### The filter (R282, R283) -/

/-- An angle difference along the shorter arc, µrad. -/
def arc (d : Int) : Int := (d + 3141592) % 6283185 - 3141592

/-- The vehicle-state product. -/
def State.vsProd (s : State) : Option Nat := s.products.find? fun p => s.prodB p 0 1 == 0

/-- IMU_SRC, GNSS_SRC, GNSS2_SRC, SPEED_SRC where declared. -/
def State.vsSrcs (s : State) : List Nat := ([0x0C, 0x0D, 0x0E, 0x0F].map fun o => s.vsB o 1).filter (· < 64)

def State.modVs (s : State) (f : Vs → Vs) : State := { s with plt.vs := f s.plt.vs }

/-- The VSTATE origin: LAT0, LON0 in 10⁻⁷ degree, H0 in mm. -/
def State.origin (s : State) : List Int := [s.cfgI 0x0402 0 0 4, s.cfgI 0x0402 0 4 4, s.cfgI 0x0402 0 8 4]

/-- The origin as the conversions take it, in 10⁻⁹ degree. -/
def State.originNano (s : State) : List Int :=
  [100 * s.cfgI 0x0402 0 0 4, 100 * s.cfgI 0x0402 0 4 4, s.cfgI 0x0402 0 8 4]

/-- A vector of the plane turned by an angle in radians. -/
def turn (a x y : Int) : Int × Int :=
  (roundDiv (fxCos a * x - fxSin a * y) fxOne, roundDiv (fxSin a * x + fxCos a * y) fxOne)

/-- A vector of a frame turned by roll, then pitch, then yaw (ISO 8855), in radians. -/
def turnOut (roll pitch yaw : Int) (v : List Int) : List Int :=
  let a := turn roll (v.getD 1 0) (v.getD 2 0)
  let b := turn pitch a.2 (v.getD 0 0)
  let c := turn yaw b.2 a.1
  [c.1, c.2, b.1]

/-- The turn undone. -/
def turnBack (roll pitch yaw : Int) (v : List Int) : List Int :=
  let c := turn (-yaw) (v.getD 0 0) (v.getD 1 0)
  let b := turn (-pitch) (v.getD 2 0) c.1
  let a := turn (-roll) c.2 b.1
  [b.2, a.1, a.2]

/-- ROLL, PITCH and the yaw (counter-clockwise from East) of a filter, in radians. -/
def filterAtt (f : List Int) : Int × Int × Int :=
  let r (k : Nat) : Int := f.getD k 0 * fxOne / (1000000 * 2 ^ 32)
  (r 6, r 7, fxPi / 2 - r 8)

/-- A vector of the body in East, North, Up under a filter's attitude, and back. -/
def filterOut (f v : List Int) : List Int :=
  let a := filterAtt f
  turnOut a.1 a.2.1 a.2.2 v

def filterBack (f v : List Int) : List Int :=
  let a := filterAtt f
  turnBack a.1 a.2.1 a.2.2 v

/-- R282: a vector of the IMU with the mounting angles removed. -/
def State.unmount (s : State) (v : List Int) : List Int :=
  let m (k : Nat) : Int := ofMicro (100 * s.cfgI 0x0402 0 (0x16 + 2 * k) 2)
  turnOut (m 0) (m 1) (m 2) v

/-- R282: an IMU sample in the body, the biases of a filter removed: acceleration and rates, Q7.24. -/
def State.bodyImu (s : State) (f v : List Int) : List Int :=
  let b (k : Nat) : Int := roundShift (f.getD k 0) 32
  let a := s.unmount (v.take 3)
  let w := s.unmount ((v.drop 3).take 3)
  [a.getD 0 0 - b 12, a.getD 1 0 - b 13, a.getD 2 0 - b 14, w.getD 0 0 - b 9, w.getD 1 0 - b 10, w.getD 2 0 - b 11]

/-- The standard deviations of a position east, north and up, mm (Table 7.5): those that came with the fix, else by its
quality. -/
def fixSig (v : List Int) : List Rat :=
  let d : Rat := [2500, 2500, 500, 200, 20].getD (v.getD 3 0).toNat 2500
  [13, 12, 14].map fun k => if 0 ≤ v.getD k (-1) then ((v.getD k 0 : Int) : Rat) else d

/-- Table 7.5: the measurements of a GNSS fix under a filter: code, values, standard deviations. The fields are 0 latitude, 1
longitude, 2 height, 3 quality, 5 speed in mm/s (−1 none), 6 course, 7 heading (−1 none), 8 one for the binary format, 9 to 11 its
velocity north, east, up, 12 to 15 SN, SE, SU, SHDG (−1 none). -/
def State.fixMeas (s : State) (f v : List Int) : List (Nat × List Rat × List Rat) :=
  let g (k : Nat) : Int := v.getD k (-1)
  let q := v.getD 3 0
  let p := toEnu s.originNano (v.take 3)
  let lever := filterOut f ([0, 1, 2].map fun k => 1024 * s.cfgI 0x0402 0 (0x10 + 2 * k) 2)
  let pos : List (Nat × List Rat × List Rat) :=
    if 1 ≤ q then [(1, [0, 1, 2].map (fun k => (p.getD k 0 : Rat) - (lever.getD k 0 : Rat) / 1024), fixSig v)] else []
  let course := ofMicro (g 6)
  let vel : List (Nat × List Rat × List Rat) :=
    if g 8 = 1 then if 1 ≤ q then [(2, [(g 10 : Rat), (g 9 : Rat), (g 11 : Rat)], [100, 100, 100])] else []
    else if 500 ≤ g 5 then
      [(2, [(g 5 * fxSin course : Rat) / fxOne, (g 5 * fxCos course : Rat) / fxOne], [100, 100])]
    else []
  let hdg : List (Nat × List Rat × List Rat) :=
    if 0 ≤ g 7 then [(3, [(g 7 : Rat)], [if 0 ≤ g 15 then 10 * (g 15 : Rat) else 5000])] else []
  pos ++ vel ++ hdg

/-- Table 7.5: the measurements of an event under a filter. -/
def State.vsMeas (s : State) (f : List Int) (e : VsEv) : List (Nat × List Rat × List Rat) :=
  match e.kind with
  | 1 => s.fixMeas f e.vals
  | 2 =>
    let v : Rat := (e.vals.getD 0 0 * s.vsB 0x1C 4 : Rat) / 65536000
    [(4, [v], [|v| / 50 + 20])]
  | 3 => [(6, [0, 0, 0], [5, 5, 5])]
  | 4 =>
    let g : Rat := (s.cfgI 0x0402 0 0x28 4 : Rat) * 1000 / 2 ^ 24
    [(5, [0, 0], [g, g])]
  | _ => []

/-- R283: one update through the gate: the filter after it, and what became of each measurement. -/
def State.vsUpdate (s : State) (o : List Int × List (Nat × Bool)) (m : Nat × List Rat × List Rat) :
    List Int × List (Nat × Bool) :=
  let ok := decide (Config.ekfNis m.1 m.2.1 m.2.2 o.1 ≤ (s.vsB 0x2C 2 : Rat) / 256)
  (if ok then Config.ekfUpdate m.1 m.2.1 m.2.2 o.1 else o.1, o.2 ++ [(m.1, ok)])

/-- R282, R283: an event acts on a filter. -/
def State.vsApply (s : State) (f : List Int) (e : VsEv) : List Int × List (Nat × Bool) :=
  if e.kind = 0 then
    (Config.ekfPropagate (s.cfgI 0x0402 0 0x20 4) (s.cfgI 0x0402 0 0x24 4) (s.bodyImu f e.vals) f, [])
  else (s.vsMeas f e).foldl s.vsUpdate (f, [])

/-- The filter at a time over the events chosen: propagated from the stored state, each measurement at its own validity time. -/
def State.filterOver (s : State) (use : VsEv → Bool) (tv : Int) : List Int :=
  (s.plt.vs.ev.filter fun e => use e && decide (e.tv ≤ tv)).foldl (fun f e => (s.vsApply f e).1) s.plt.vs.base

/-- The live filter at a time. -/
def State.filterAt (s : State) (tv : Int) : List Int := s.filterOver (·.fused) tv

/-- An event joins the history after those of its validity time and before. -/
def State.vsAdd (s : State) (e : VsEv) : State :=
  s.modVs fun v => { v with ev := insertBy (fun a b => decide (a.tv < b.tv)) e v.ev }

/-! ### States (R284) -/

/-- Table 7.6: a change of state. INIT begins without a filter; a replay that has finished stays to be reported. -/
def State.vsSet (s : State) (n : Nat) : State :=
  if s.plt.vs.st = n then s
  else
    let p := s.plt.vs.st
    let s := s.modVs fun v =>
      let sts := ((s.chr.tick, n) :: v.sts).take 256
      if n = 0 then { sts := sts, replayed := v.replayed, bestFix := v.bestFix } else { v with st := n, sts := sts }
    (s.put R.PLT_STATUS_VS_STATE n).raise 53 [n, p]

/-- The state of the vehicle state at the edge that begins a tick. -/
def State.vsStAt (s : State) (n : Nat) : Nat := ((s.plt.vs.sts.find? fun e => decide (e.1 ≤ n)).map (·.2)).getD 0

/-- Table 7.6: INIT ends: the filter starts from the levelled attitude, the position and the heading. -/
def State.vsAlign (s : State) : State :=
  let v := s.plt.vs
  if v.st = 0 ∧ 1000 ≤ v.level ∧ v.posOk ∧ v.hdgOk then
    let mean (k : Nat) : Int := roundDiv ((v.acc.map fun a => a.getD k 0).sum) (max 1 v.acc.length : Nat)
    let lever := [0, 1, 2].map fun k => s.cfgI 0x0402 0 (0x10 + 2 * k) 2
    (s.modVs fun v => { v with base := Config.ekfInit [mean 0, mean 1, mean 2] v.pos lever v.hdg, ev := [] }).vsSet 1
  else s

/-- R283, R284: what became of a fix's measurements: rejections are counted, an accepted position serves. -/
def State.vsTaken (s : State) (v : List Int) (res : List (Nat × Bool)) : State :=
  let s := (res.filter fun r => !r.2).foldl (fun s _ => s.bump R.PLT_VS_CNT_GATED) s
  if res.any fun r => r.1 == 1 && r.2 then
    let s := s.modVs fun x => { x with noPos := 0, bestFix := max x.bestFix (v.getD 3 0).toNat }
    if s.plt.vs.st = 2 ∨ s.plt.vs.st = 3 then s.vsSet 1 else s
  else s

/-- R283: an event enters the live filter at its own validity time. -/
def State.vsFuse (s : State) (e : VsEv) : State :=
  (s.vsAdd { e with fused := true }).vsTaken e.vals (s.vsApply (s.filterAt e.tv) e).2

/-- Table 7.6: a fix in INIT gives a position and a heading; with no filter there is no gate. -/
def State.vsInitFix (s : State) (v : List Int) : State :=
  let q := v.getD 3 0
  let s := if 1 ≤ q then
      s.modVs fun x => { x with
        posOk := true, pos := toEnu s.originNano (v.take 3), noPos := 0, bestFix := max x.bestFix q.toNat }
    else s
  if 0 ≤ v.getD 7 (-1) then s.modVs fun x => { x with hdgOk := true, hdg := v.getD 7 0 } else s

/-- Tables 7.5 and 7.6: a fix of a used GNSS sample; a late one waits for its replay (R275). -/
def State.vsFix (s : State) (x : Sample) (late : Bool) : State :=
  let v := x.vals
  let s :=
    if s.plt.vs.st = 0 then s.vsInitFix v
    else
      let e : VsEv := { tv := x.tv, tick := x.tick, phase := x.phase, kind := 1, vals := v, fused := !late }
      if late then s.vsAdd e else s.vsFuse e
  let speed := v.getD 5 (-1)
  let fast := decide (0 ≤ speed) && decide ((s.vsB 0x34 2 : Int) * 1000 ≤ speed * 256)
  (s.modVs fun x =>
    let n := if fast then x.course + 1 else 0
    if decide (20 ≤ n) && x.st == 0 && !x.hdgOk then { x with course := n, hdgOk := true, hdg := v.getD 6 0 }
    else { x with course := n }).vsAlign

/-- R275: a replay has run: the late fixes ingested by its making enter the live filter, in order of validity. -/
def State.vsReplay (s : State) (made : Nat) : State :=
  let late (e : VsEv) : Bool := !e.fused && decide (e.tick ≤ made)
  let l := s.plt.vs.ev.filter late
  let s := s.modVs fun v => { v with ev := v.ev.filter fun e => !late e, replayed := true }
  (l.foldl (fun s e => s.vsFuse e) s).bump R.PLT_VS_CNT_REPLAYS

/-- Events older than D + W ticks pass into the stored filter (R275). -/
def State.vsTrim (s : State) (p : Nat) : State :=
  let old (e : VsEv) : Bool := decide (e.tv < s.tickMt s.chr.tick - 80000 * (s.prodB p 3 1 + s.prodB p 4 2 : Nat))
  let gone := (s.plt.vs.ev.filter old).filter (·.fused)
  s.modVs fun v => { v with
    base := gone.foldl (fun f e => (s.vsApply f e).1) v.base, ev := v.ev.filter fun e => !old e }

/-- The IMU of a tick (R282): its sample, or the one before, is propagated; in INIT it is levelled. -/
def State.vsImu (s : State) (imu : Option (List Int)) (tv : Int) : State :=
  let s := match imu with
    | some v => s.modVs fun x => { x with
        imuMiss := 0, imu := v, level := if x.st = 0 then x.level + 1 else x.level
        acc := if x.st = 0 then (s.unmount (v.take 3) :: x.acc).take 1000 else x.acc }
    | none => s.modVs fun x => { x with imuMiss := x.imuMiss + 1 }
  let s := if 10 ≤ s.plt.vs.imuMiss then s.vsSet 0 else s
  if s.plt.vs.st = 0 then s
  else s.vsAdd { tv := tv, tick := s.chr.tick, kind := 0, vals := s.plt.vs.imu }

/-- The measurements of a tick (Table 7.5): IMU, ground speed, standstill, and the limits of Table 7.6. `prev` is the MT64 of the
edge before, at which the IMU was triggered. -/
def State.vsTick (s : State) (imu : Option (List Int)) (rate : Option Int) (prev : Nat) : State :=
  match s.vsProd with
  | none => s
  | some p =>
    let s := s.vsImu imu prev
    let s := s.modVs fun v => { v with still := if rate = some 0 then v.still + 1 else 0, noPos := v.noPos + 1 }
    let ev (k : Nat) (l : List Int) : VsEv := { tv := s.chr.base, tick := s.chr.tick, kind := k, vals := l }
    let s := match rate with
      | some r => if s.plt.vs.st ≠ 0 then s.vsFuse (ev 2 [r]) else s
      | none => s
    let w := (imu.getD []).drop 3
    let slow := imu.isSome && decide ((w.map fun x => x * x).sum * 10000 < 2 ^ 48)
    let s := if slow && decide (50 ≤ s.plt.vs.still ∧ s.plt.vs.st ≠ 0) then s.vsFuse (ev 3 []) else s
    let s := if s.plt.vs.st = 1 ∧ 10 * s.vsB 0x2E 2 ≤ s.plt.vs.noPos then s.vsSet 2 else s
    let sig := Config.ekfSig (s.filterAt s.chr.base)
    let s := if s.plt.vs.st = 2 ∧ s.vsB 0x30 4 < max (sig.getD 0 0) (sig.getD 1 0) then s.vsSet 3 else s
    s.vsAlign.vsTrim p

/-! ### Guidance and the record (R285, R286) -/

/-- The guidance registers: EN and the points A and B. -/
def State.guideRegs (s : State) : List Nat :=
  [s.get R.PLT_GUIDE_CTL_EN, s.get R.PLT_GUIDE_AE_VALUE, s.get R.PLT_GUIDE_AN_VALUE, s.get R.PLT_GUIDE_BE_VALUE,
    s.get R.PLT_GUIDE_BN_VALUE]

/-- R286: a guidance line is in force. -/
def guided (g : List Nat) : Bool :=
  g.getD 0 0 == 1 && (g.getD 1 0, g.getD 2 0) != (g.getD 3 0, g.getD 4 0)

/-- The distance num / √d2, rounded to nearest. -/
def perSqrt (num : Int) (d2 : Nat) : Int :=
  let q : Int := ((isqrt (4 * num.natAbs ^ 2 / d2) + 1) / 2 : Nat)
  if num < 0 then -q else q

/-- XTE and HDG_ERR of R285: positive right of A to B. -/
def guidance (r : List Nat) (e n hdg : Int) : Int × Int :=
  let i (k : Nat) : Int := toInt 32 (r.getD k 0)
  let de := i 3 - i 1
  let dn := i 4 - i 2
  let num := (e - i 1) * dn - (n - i 2) * de
  (satS 32 (perSqrt num (de * de + dn * dn).natAbs), arc (hdg - bearing de dn))

/-- Table 7.7: the VALID bits of a state. -/
def vsValid (st : Nat) : Nat := if st = 0 then 0x08 else if st = 3 then 0x1C else 0x1F

/-- Table 7.7 from a filter: the words E to AZ and SPEED, and SLIP: the velocity of the body, its rates without the biases, its
acceleration without gravity. -/
def State.vsWords (s : State) (f imu : List Int) : List Int :=
  let w (k : Nat) : Int := roundShift (f.getD k 0) 32
  let b := s.bodyImu f imu
  let up := filterBack f [0, 0, (Config.gravity s.origin).toNat]
  let a (k : Nat) : Int := b.getD k 0 - up.getD k 0
  let v := filterBack f ((f.drop 3).take 3)
  [w 0, w 1, w 2, w 3, w 4, w 5, w 6, w 7, w 8 % 6283185, b.getD 3 0, b.getD 4 0, b.getD 5 0, a 0, a 1, a 2,
    roundShift (v.getD 0 0) 32, toMicro (fxAtan2 (v.getD 1 0) (v.getD 0 0))]

end Sys2Proof.Machine
end

