-- ==== Sys2Proof/Machine/Plotter.lean ====
section
/-! DEFINITION. The Plotter's sources, clock models, GNSS input, products and vehicle state (Plotter: Stamping, Alignment
and the Vehicle State). -/

namespace Sys2Proof.Machine

/-! ### Interpolation (R272) -/

/-- The sample of the greatest, or of the least, validity time; the later ingested on a tie. -/
def latest (l : List Sample) : Option Sample :=
  l.foldl (fun o x => match o with
    | some y => if x.tv < y.tv then o else some x
    | none => some x) none

def earliest (l : List Sample) : Option Sample :=
  l.foldl (fun o x => match o with
    | some y => if y.tv < x.tv then o else some x
    | none => some x) none

/-- x_a moved toward x_b by num / den, in an angle's arithmetic or plainly, rounded and saturated. -/
def along (ang : Bool) (xa d num den : Int) : Int :=
  let d := if ang then arc d else d
  let x := if den = 0 then xa else xa + roundDiv (num * d) den
  if ang then x % 6283185 else satS 32 x

/-- R272: a field at a time: its value, whether it is extrapolated, and the latest sample taken into account. -/
def interp (h : List Sample) (tv gap ext : Int) (lin ang : Bool) (i : Nat) : Option (Int × Bool × Int) :=
  let v (x : Sample) : Int := x.vals.getD i 0
  let h := h.filter fun x => decide (i < x.vals.length) && !x.bad.contains i
  let a := latest (h.filter fun x => decide (x.tv ≤ tv))
  let b := earliest (h.filter fun x => decide (tv ≤ x.tv))
  let late (a : Sample) : Option (Int × Bool × Int) :=
    if tv - a.tv ≤ ext then
      match latest (h.filter fun x => decide (x.tv < a.tv)) with
      | some p =>
        if lin && decide (a.tv - p.tv ≤ gap) then
          some (along ang (v a) (v a - v p) (tv - a.tv) (a.tv - p.tv), true, a.tv)
        else some (along ang (v a) 0 0 1, true, a.tv)
      | none => some (along ang (v a) 0 0 1, true, a.tv)
    else none
  match a, b with
  | some a, some b =>
    if b.tv - a.tv ≤ gap then some (along ang (v a) (v b - v a) (tv - a.tv) (b.tv - a.tv), false, b.tv) else late a
  | some a, none => late a
  | none, _ => none

/-- A source's field at a time over a part of its history, with the source's parameters. -/
def State.fieldAt (s : State) (i f : Nat) (h : List Sample) (tv : Int) : Option (Int × Bool × Int) :=
  interp h tv (s.srcB i 0x18 4) (s.srcB i 0x1C 4) (bit (s.srcB i 1 1) 1) (bit (s.srcB i 0x2D 1) f) f

/-! ### Jobs (R277) -/

/-- The tick at whose edge the window of an output closes (R274). -/
def State.windowEnd (s : State) (p n : Nat) : Nat := n + s.prodB p 3 1 + s.prodB p 4 2

/-- R277: the deadline of a job: its release for a primary, the close of its window for a revision or replay; the work of a load's
close has none. -/
def State.deadline (s : State) (j : PJob) : Nat :=
  match j.kind with
  | 0 => j.out + s.prodB j.prod 3 1
  | 3 => j.out + s.cfg 0x0410 0 2 1
  | 4 => j.out + s.cfg 0x0420 0 2 1
  | 5 => 2 ^ 64
  | _ => s.windowEnd j.prod j.out

/-- R277: a job goes before another: by deadline, product, validity. -/
def State.jobFirst (s : State) (a b : PJob) : Bool :=
  let x := s.deadline a
  let y := s.deadline b
  decide (x < y) || (x == y && (decide (a.prod < b.prod) || (a.prod == b.prod && decide (a.out < b.out))))

/-- A free engine takes a job (R277). -/
def State.engineTake (s : State) : State :=
  if 8 ≤ (s.plt.jobs.filter (·.taken)).length then s
  else
    match (s.plt.jobs.filter fun j => !j.taken).foldl (fun o j => match o with
      | some k => if s.jobFirst j k then some j else some k
      | none => some j) (none : Option PJob) with
    | some j => { s with plt.jobs := s.plt.jobs.map fun k => if k.tag = j.tag then { k with taken := true } else k }
    | none => s

/-- The eight engines take jobs; PLT_JOBS and PLT_STATUS follow the fabric; EV055 as the restriction begins and ceases. -/
def State.jobsChanged (s : State) : State :=
  let s := (List.range 8).foldl (fun s _ => s.engineTake) s
  let n := s.plt.jobs.length
  let was := s.flag R.PLT_STATUS_RESTRICT
  let s := s.puts [(R.PLT_JOBS_INFLIGHT, n), (R.PLT_JOBS_HWM, max n (s.get R.PLT_JOBS_HWM)),
    (R.PLT_STATUS_RESTRICT, b2n (decide (448 ≤ n))),
    (R.PLT_STATUS_IDLE, b2n (s.flag R.PLT_CTL_STOP && n == 0 && s.plt.rob.isEmpty))]
  if decide (448 ≤ n) = was then s else s.raise 55 [if was then 1 else 0, n]

/-- The lowest free tag. -/
def freeTag (js : List PJob) : Nat := ((List.range 512).find? fun t => !js.any fun j => j.tag == t).getD 0

/-- A job enters the fabric under a free tag. -/
def State.admitJob (s : State) (j : PJob) : State :=
  ({ s with plt.jobs := s.plt.jobs ++ [{ j with tag := freeTag s.plt.jobs }] } : State).jobsChanged

/-- Primaries: the jobs of outputs, track updates and yield steps (R277, R325). -/
def PJob.primary (j : PJob) : Bool := j.kind == 0 || j.kind == 3 || j.kind == 4

/-- R277, R289: jobs that wait enter unless STOP stops admission: a primary while a tag is free, the others while fewer than 448
jobs are in the fabric. -/
def State.admitWaiting (s : State) : State :=
  let step (s : State) (j : PJob) : State :=
    let n := s.plt.jobs.length
    if !s.flag R.PLT_CTL_STOP && decide (n < if j.primary then 512 else 448) then s.admitJob j
    else { s with plt.waiting := s.plt.waiting ++ [j] }
  s.plt.waiting.foldl step { s with plt.waiting := [] }

/-- A job comes to the fabric, and waits where it cannot enter. -/
def State.offerJob (s : State) (j : PJob) : State := State.admitWaiting { s with plt.waiting := s.plt.waiting ++ [j] }

/-- R294, R307, R325: the jobs of the track update and the yield step whose cut-offs have passed are admitted. -/
def State.stageCuts (s : State) : State :=
  if !s.plt.up || s.flag R.PLT_CTL_STOP then s
  else
    -- The latest validity tick that is past its cut-off.
    let due (t : Nat) (cutOff : Nat) : Option Nat :=
      let d := s.cfg t 0 2 1
      let n := if cutOff ≤ s.chr.phase then s.chr.tick + 1 - d else s.chr.tick - d
      if s.has t 0 && decide (d ≤ s.chr.tick) && n % 2 ^ s.cfg t 0 0 1 == s.cfg t 0 1 1 then some n else none
    let s := match due 0x0410 (s.cfg 0x0410 0 6 2) with
      | some n =>
        if s.plt.trk.cut == some n || s.plt.trk.last == some n then s
        else State.offerJob { s with plt.trk.cut := some n } { tag := 0, prod := 16, out := n, kind := 3, made := s.chr.tick }
      | none => s
    match due 0x0420 (s.cfg 0x0420 0 4 2) with
    | some n =>
      if s.plt.yld.cut == some n || s.plt.yld.last == some n then s
      else State.offerJob { s with plt.yld.cut := some n } { tag := 0, prod := 17, out := n, kind := 4, made := s.chr.tick }
    | none => s

/-- A job of a stage leaves the fabric as its update or step is released. -/
def State.stageDone (s : State) (kind n : Nat) : State :=
  let mine (j : PJob) : Bool := j.kind == kind && j.out == n
  if (s.plt.jobs ++ s.plt.waiting).any mine then
    (State.admitWaiting { s with
      plt.jobs := s.plt.jobs.filter fun j => !mine j, plt.waiting := s.plt.waiting.filter fun j => !mine j }).jobsChanged
  else s

/-- R277: what could not be admitted before its window closed is dropped; the work of a load's close never is (R320). -/
def State.dropWaiting (s : State) : State :=
  let old (j : PJob) : Bool := decide (j.kind ≤ 2) && decide (s.windowEnd j.prod j.out ≤ s.chr.tick)
  let gone := s.plt.waiting.filter fun j => old j && j.kind == 1
  -- A revision whose primary was missed and discarded is never released (R274, R276).
  let orphan (j : PJob) : Bool := old j && j.kind == 1 &&
    !(s.plt.outs.any fun o => o.prod == j.prod && o.out == j.out) &&
    !((s.plt.jobs ++ s.plt.rob).any fun k => k.prod == j.prod && k.out == j.out && k.kind == 0)
  gone.foldl (fun s j => (s.bump R.PLT_CNT_REVDROP_VALUE).raise 52 [j.prod, 0])
    { s with
      plt.waiting := s.plt.waiting.filter fun j => !old j
      plt.rob := s.plt.rob.filter fun j => !orphan j }

/-- A job is made in this tick, once for an output and a kind. -/
def State.makeJob (s : State) (p n kind : Nat) : State :=
  let same (j : PJob) : Bool := j.prod == p && j.out == n && j.kind == kind && j.made == s.chr.tick
  if (s.plt.jobs ++ s.plt.waiting ++ s.plt.rob).any same then s
  else s.offerJob { tag := 0, prod := p, out := n, kind := kind, made := s.chr.tick }

/-! ### Products and late samples (R271, R274 to R276) -/

/-- The sources a product uses. -/
def State.prodSrcs (s : State) (p : Nat) : List Nat :=
  if s.prodB p 0 1 = 0 then s.vsSrcs
  else (List.range (s.prodB p 9 1)).map fun j => s.prodB p (0x11 + 2 * j) 1 % 64

/-- The owning output of a validity time (R274). -/
def State.owner (s : State) (p : Nat) (tv : Int) : Nat :=
  let m := s.tickAt tv
  m + (s.prodB p 2 1 + 2 ^ s.prodB p 1 1 - m % 2 ^ s.prodB p 1 1) % 2 ^ s.prodB p 1 1

/-- Tick and phase at or before an output's cut-off. -/
def State.beforeCut (s : State) (p n tick phase : Nat) : Bool :=
  let c := n + s.prodB p 3 1 - 1
  decide (tick < c) || (tick == c && decide (phase ≤ s.prodB p 6 2))

/-- The latest released REV of an output. -/
def State.lastOut (s : State) (p n : Nat) : Option POut := s.plt.outs.find? fun o => o.prod == p && o.out == n

/-- Revisions of an output that are on their way, and the late record of a missed one, which takes REV = 1 (R276); a revision that
this tick has made takes further samples. -/
def State.revsComing (s : State) (p n : Nat) : Nat :=
  ((s.plt.jobs ++ s.plt.waiting ++ s.plt.rob).filter fun j =>
    j.prod == p && j.out == n && ((j.kind == 1 && j.made != s.chr.tick) || (j.kind == 0 && j.missed))).length

/-- R274, R276: what a product does with a sample ingested now: `true` when it drops it. -/
def State.lateFor (s : State) (i p : Nat) (x : Sample) : State × Bool :=
  if !(s.prodSrcs p).contains i then (s, false)
  else
    let n := s.owner p x.tv
    let drop (s : State) : State := (s.bump R.PLT_CNT_DROP_VALUE).raise 50 [p, i]
    if s.beforeCut p n x.tick x.phase then (s, false)
    else if s.windowEnd p n ≤ s.chr.tick then (drop s, true)
    else if 255 ≤ ((s.lastOut p n).map (·.rev)).getD 0 + s.revsComing p n then
      (((drop s).bump R.PLT_CNT_REVDROP_VALUE).raise 52 [p, 1], true)
    else
      let s := (s.bump R.PLT_CNT_LATE_VALUE).makeJob p n 1
      (if s.prodB p 0 1 = 0 then s.makeJob p n 2 else s, false)

/-! ### What reaches the track stage (R292, R306) -/

/-- One more measurement discarded. -/
def State.trkOos (s : State) : State :=
  { s.bump R.PLT_TRK_CNT_OOS with plt.trk.oos := s.plt.trk.oos + 1 }

/-- R292: a measurement waits for the next update; its kind must be one of the source's. -/
def State.trkPut (s : State) (m : Meas) : State :=
  if bit (s.cfg 0x0411 m.src 1 1) m.kind && decide (1 ≤ m.kind ∧ m.kind ≤ 4) then
    { s with plt.trk.meas := s.plt.trk.meas ++ [{ m with sig := max m.sig (s.cfg 0x0411 m.src 0x14 4) }] }
  else s.trkOos

/-- A used sample of a track source of MODE 1 (R292, Table 8.10): fields picked by FMAP; the source has delivered a
sample. -/
def State.trkSample (s : State) (i : Nat) (tv : Int) (vals : List Int) : State :=
  if !s.has 0x0410 0 then s
  else
    let s := if s.srcB i 0 1 = 9 then
        { s with plt.trk.fleet := s.plt.trk.fleet ++ [(i, tv, s.chr.tick, s.chr.phase, vals)] }
      else s
    if !State.has s 0x0411 i || State.cfg s 0x0411 i 0 1 != 1 then s
    else
      let s := { s with plt.trk.heard := s.plt.trk.heard ++ [(i, s.chr.tick, s.chr.phase)] }
      let f (k : Nat) : Option Int :=
        let j := bits (State.cfg s 0x0411 i 0x10 4) (4 * k) 4
        if j = 15 then none else vals[j]?
      match f 0, f 1, f 3 with
      | some x, some y, some k => State.trkPut s
          { src := i, kind := k.toNat, tv := tv, tick := s.chr.tick, phase := s.chr.phase, x := x, y := y
            sig := ((f 2).getD 0).toNat, hdg := f 4, len := (f 5).map Int.toNat, wid := (f 6).map Int.toNat
            birth := true }
      | _, _, _ => s

/-- A used sample, with its invalid fields, joins its source's history, product by product (R274), and the filter (R283). -/
def State.ingestUsed (s : State) (i : Nat) (tv : Int) (vals : List Int) (bad : List Nat := []) : State :=
  let x : Sample := { tv := tv, tick := s.chr.tick, phase := s.chr.phase, vals := vals, bad := bad }
  let (s, dropped) := s.products.foldl (fun (s, d) p =>
    let (s, b) := s.lateFor i p x
    (s, if b then d ++ [p] else d)) (s, [])
  let s := (s.modSrc i fun c => { c with hist := c.hist ++ [{ x with dropped := dropped }] }).trkSample i tv vals
  match s.vsProd with
  | some p =>
    if (i == s.vsB 0x0D 1 || i == s.vsB 0x0E 1) && s.srcB i 0 1 == 8 && !dropped.contains p then
      s.vsFix x (!s.beforeCut p (s.owner p tv) x.tick x.phase)
    else s
  | none => s

/-! ### Clock models (R261 to R266) -/

/-- Five times the nominal scale q, MT units per count (R261). -/
def State.q5 (s : State) (i : Nat) : Int := [4, 4000, 4000000, 5 * (s.srcB i 8 4 : Int), 5].getD (s.srcB i 4 1) 5

/-- R266: the model is pinned. -/
def State.pinned (s : State) (i : Nat) : Bool :=
  bit (s.srcB i 1 1) 0 && s.flag R.CHR_DISC_TAI_VALID && (s.srcB i 0 1 != 9 || (s.src i).peerTai)

/-- t_hat of R262 in 2⁻¹⁶ MT units. -/
def State.tHat (s : State) (i : Nat) (tau : Int) : Int :=
  let c := s.src i
  if s.pinned i then roundDiv (s.q5 i * tau * 65536) 5
  else c.theta + roundDiv (s.q5 i * (tau - c.tau0) * 65536 * (1000000 * 2 ^ 23 + c.rho)) (5 * 1000000 * 2 ^ 23)

/-- The validity time of a sample (R262). -/
def State.tvOf (s : State) (i : Nat) (tau : Int) : Int := roundShift (s.tHat i tau) 16 - s.cfgI 0x0400 i 0x10 4

def State.srcState (s : State) (i : Nat) : Nat := s.get (R.PLT_SRC_STAT_STATE i)

/-- An acquisition begins again; PLT_SRCn_RATE follows ρ. -/
def State.reseed (s : State) (i : Nat) : State :=
  (s.modSrc i fun c => { c with first := true, win := 0, best := none, good := 0, windows := 0, rho := 0 }).put
    (R.PLT_SRC_RATE_VALUE i) 0

/-- R264: UNLOCKED with its reason. -/
def State.unlock (s : State) (i why : Nat) : State :=
  ((s.reseed i).puts [(R.PLT_SRC_STAT_STATE i, 3), (R.PLT_SRC_STAT_REASON i, why)]).raise 48 [i, why]

/-- R265: a sample is held; the 65th pushes the oldest out. -/
def State.hold (s : State) (i : Nat) (h : HeldSample) : State :=
  let l := (s.src i).held ++ [h]
  let s := if 64 < l.length then s.bump (R.PLT_SRC_CNT_QUAR i) else s
  let l := if 64 < l.length then l.drop 1 else l
  (s.modSrc i fun c => { c with held := l }).put (R.PLT_SRC_STAT_HELD i) l.length

/-- R292: the detections of a frame reach the track stage, and its source counts as heard (R299). -/
def State.takeDets (s : State) (i : Nat) (l : List Meas) : State :=
  l.foldl (fun s m => s.trkPut { m with tick := s.chr.tick, phase := s.chr.phase })
    { s with plt.trk.heard := s.plt.trk.heard ++ [(i, s.chr.tick, s.chr.phase)] }

/-- A frame or sample of a LOCKED source is ingested; a frame's time stays for what Lookout makes of it. -/
def State.ingestFrame (s : State) (i : Nat) (tau : Int) (vals : List Int) : State :=
  let tv := s.tvOf i tau
  let s := if s.srcB i 0 1 = 6 then
      s.modSrc i fun c => { c with frames := (((tau % 65536).toNat, tv) :: c.frames).take 64 }
    else s
  s.ingestUsed i tv vals

/-- R265: a held sample is ingested, with what Lookout has made of its frame. -/
def State.ingestHeld (s : State) (i : Nat) (h : HeldSample) : State :=
  let tv := s.tvOf i h.tau
  h.jobs.foldl (fun s j =>
    let s := match j.fields with
      | some (v, bad) => s.ingestUsed i tv v bad
      | none => s
    match j.dets with
    | some l => s.takeDets i (l.map fun m => { m with tv := tv })
    | none => s) (s.ingestFrame i h.tau h.vals)

/-- R264, R265: LOCKED; the held samples are ingested, oldest first. -/
def State.lock (s : State) (i : Nat) : State :=
  let held := (s.src i).held
  let s := (s.put (R.PLT_SRC_STAT_STATE i) 2).raise 49 [i, (s.src i).windows]
  let s := (s.modSrc i fun c => { c with held := [] }).put (R.PLT_SRC_STAT_HELD i) 0
  held.foldl (fun s h => s.ingestHeld i h) s

/-- R263, Table 7.2: a window closes. -/
def State.closeWindow (s : State) (i : Nat) : State :=
  let c := s.src i
  match c.best with
  | none => s
  | some (z, tau, a) =>
    let seed := c.first && !s.pinned i
    let r := if seed then 0 else z
    let al := c.params.getD 1 0
    let be := c.params.getD 2 0
    let theta := if seed then (a - s.srcB i 0x0C 4) * 65536 else s.tHat i tau + roundDiv ((al : Int) * r) 65536
    let rho := if seed then 0
      else if tau ≤ c.tauW then c.rho
      else c.rho + roundDiv ((be : Int) * r * 5 * 1000000 * 2 ^ 23) (2 ^ 32 * s.q5 i * (tau - c.tauW))
    let pin := s.pinned i
    let s := s.modSrc i fun c => { c with
      theta := if pin then 0 else theta, rho := if pin then 0 else rho, tau0 := if pin then 0 else tau
      tauW := tau, first := false, win := 0, best := none, windows := c.windows + 1
      good := if (r.natAbs : Int) ≤ (c.params.getD 4 0 : Int) * 65536 then c.good + 1 else 0 }
    let s := s.puts [(R.PLT_SRC_RES_VALUE i, ofInt 32 (satS 32 (roundShift r 16))),
      (R.PLT_SRC_RATE_VALUE i, ofInt 32 (satS 32 (s.src i).rho))]
    if s.srcState i = 2 then
      if (s.srcB i 8 4 : Int) * 65536 < r.natAbs then s.unlock i 0
      else if (200 * 2 ^ 23 : Int) < (s.src i).rho.natAbs then s.unlock i 1
      else s
    else if c.params.getD 3 1 ≤ (s.src i).good then s.lock i
    else s

/-- EV054 and DISC (R260). -/
def State.discard (s : State) (i why : Nat) : State := (s.bump (R.PLT_SRC_CNT_DISC i)).raise 54 [i, why]

/-- R261: the source time is discontinuous: a LOCKED source unlocks; an acquisition begins again. -/
def State.discontinuous (s : State) (i : Nat) : State := if s.srcState i = 2 then s.unlock i 3 else s.reseed i

/-- R260 to R265: a sample of a free source is parsed: source time, arrival stamp (none: missing), field values. -/
def State.ingestFree (s : State) (i raw : Nat) (stamp : Option Nat) (vals : List Int) : State :=
  if !s.plt.up || !s.has 0x0400 i then s
  else match stamp with
  | none => s.discard i 0
  | some a =>
    let w := s.srcB i 5 1
    let raw := raw % 2 ^ w
    let c := s.src i
    if c.raw = some raw then s.discard i 1
    else
      let d := (raw + 2 ^ w - c.raw.getD raw) % 2 ^ w
      let jump := c.raw.isSome && decide (2 ^ (w - 1) ≤ d)
      let tau : Int := if c.raw.isNone || jump then raw else c.tau + d
      let s := if jump then s.discontinuous i else s
      let s := s.modSrc i fun c => { c with raw := some raw, tau := tau, idle := 0 }
      let s := if s.srcState i = 0 then s.put (R.PLT_SRC_STAT_STATE i) 1 else s
      let s := if s.srcState i = 2 then s.ingestFrame i tau vals else s.hold i { tau := tau, a := a, vals := vals }
      -- The window opens with the parameters in force (R263).
      let s := if (s.src i).win = 0 then
          s.modSrc i fun c => { c with
            params := [s.srcB i 6 1, s.srcB i 0x20 2, s.srcB i 0x22 2, s.srcB i 7 1, s.srcB i 0x14 4] }
        else s
      let z := ((a : Int) - s.srcB i 0x0C 4) * 65536 - s.tHat i tau
      let s := s.modSrc i fun c => { c with
        win := c.win + 1
        best := match c.best with
          | some b => if z < b.1 then some (z, tau, (a : Int)) else some b
          | none => some (z, tau, (a : Int)) }
      if (s.src i).params.getD 0 1 ≤ (s.src i).win then s.closeWindow i else s

/-- R266: TAI_VALID has changed. -/
def State.taiChanged (s : State) : State :=
  (s.sources.filter fun i => s.isFree i && bit (s.srcB i 1 1) 0).foldl (fun s i =>
    if s.srcState i = 2 then s.unlock i 4 else if s.srcState i = 1 then s.reseed i else s) s

/-- SOURCE_TIMEOUT (R264 reason 2). -/
def execSourceTimeout (src : Fin 64) (s : State) : Out :=
  if State.isFree s src && State.srcState s src == 2 && decide (State.srcB s src 0x24 2 ≤ (State.src s src).idle) then
    .next (s.unlock src 2)
  else .next s

/-- PLT_SRC_CNT_READ (R289). -/
def execPltSrcCntRead (src : Fin 64) (s : State) : Out :=
  let v := s.get (R.PLT_SRC_CNT_QUAR src) * 2 ^ 16 + s.get (R.PLT_SRC_CNT_DISC src)
  .next (({ s with rdata := v } : State).puts [(R.PLT_SRC_CNT_QUAR src, 0), (R.PLT_SRC_CNT_DISC src, 0)])

/-! ### GNSS input (R268 to R270) -/

/-- The source that reads a GNSS input in a format. -/
def State.gnssSrc (s : State) (input fmt : Nat) : Option Nat :=
  if !s.plt.up then none
  else s.sources.find? fun i => s.srcB i 0 1 == 8 && s.srcB i 2 2 == input && s.srcB i 0x28 1 % 16 == fmt

/-- NMEA's fix quality as the binary FIX field codes it. -/
def fixCode (q : Int) : Int := if q = 4 then 4 else if q = 5 then 3 else if q = 1 ∨ q = 2 then q else 0

/-- R270: an accepted fix on a whole second names its TAI second; one whose τ is a duplicate is not accepted (R260). -/
def State.nameSecond (s : State) (i input tai : Nat) (stamp : Option Nat) : State :=
  match stamp with
  | some a =>
    if tai % 1000000000 = 0 ∧ (s.src i).raw ≠ some (tai % 2 ^ s.srcB i 5 1) then { s with plt.tods := s.plt.tods ++ [(input, tai / 1000000000, a)] } else s
  | none => s

/-- The fix of an input ends: ingested when a GGA and an RMC have come and a date is known, else discarded. TAI_UTC is read as
signed (DESIGN CHOICE, log entry `TAI_UTC signed`). -/
def State.endFix (s : State) (input : Nat) : State :=
  match s.plt.fixes.getD input none, s.gnssSrc input 0 with
  | some f, some i =>
    let s := { s with plt.fixes := s.plt.fixes.set input none }
    match f.gga, f.rmc, f.days with
    | some g, some r, some d =>
      let tai := (((d : Int) * 86400000 + f.tod) * 1000000 + toInt 8 (s.get R.CHR_DISC_TAI_UTC) * 1000000000).toNat
      let ok := r.getD 0 0 = 1
      let vals : List Int := [g.getD 0 0, g.getD 1 0, g.getD 2 0, fixCode (g.getD 3 0), g.getD 4 0,
        if ok then r.getD 1 0 else -1, if ok then r.getD 2 0 else -1,
        match f.hdt with
        | some h => h
        | none => -1, 0, 0, 0, 0] ++
        (match f.gst with
          | some l => [(l.getD 0 0 : Int), l.getD 1 0, l.getD 2 0]
          | none => [-1, -1, -1]) ++ [-1]
      (State.nameSecond s i input tai f.stamp).ingestFree i tai f.stamp vals
    | _, _, _ => State.discard s i 3
  | _, _ => s

/-- The UTC time field of a sentence; HDT has none. -/
def nmeaTod : Nmea → Option Nat
  | .gga t .. | .rmc t .. | .gst t .. | .zda t .. => some t
  | .hdt _ | .other => none

/-- A sentence joins the fix being collected. -/
def Fix.take (f : Fix) : Nmea → Fix
  | .gga _ lat lon hgt q n => { f with gga := some [lat, lon, hgt, q, n] }
  | .rmc _ ok v c d => { f with rmc := some [b2n ok, v, c], days := some d }
  | .gst _ a b c => { f with gst := some [a, b, c] }
  | .hdt h => { f with hdt := some h }
  | .zda _ d => { f with days := some (f.days.getD d) }
  | .other => f

/-- A fix is complete but for the idle line (R268). -/
def Fix.full (f : Fix) : Bool := f.gga.isSome && f.rmc.isSome

/-- NMEA_SENTENCE (R268): checked, then collected; a sentence of another time ends the fix before it. -/
def execNmeaSentence (input : Fin 2) (stamp : Option Nat) (csOk : Bool) (len : Nat) (x : Nmea) (s : State) : Out :=
  let s := s.tookStamp (ptGnss input) stamp
  match s.gnssSrc input 0 with
  | none => .next s
  | some i =>
    if !csOk then .next (s.discard i 2)
    else if 82 < len then .next (s.discard i 4)
    else if x = .other then .next s
    else
      let differs := match s.plt.fixes.getD input none, nmeaTod x with
        | some f, some t => f.tod != t
        | _, _ => false
      let s := if differs then s.endFix input else s
      match s.plt.fixes.getD input none, nmeaTod x with
      | some f, _ => .next { s with plt.fixes := s.plt.fixes.set input (some (f.take x)) }
      | none, some t => .next { s with plt.fixes := s.plt.fixes.set input (some (Fix.take ⟨t, stamp, none, none, none, none, none⟩ x)) }
      | none, none => .next s

/-- GNSS_FIX_COMPLETE (R268): the line has been idle for 200 µs. -/
def execGnssFixComplete (input : Fin 2) (phase : Fin 10000) (s : State) : Out :=
  match s.plt.fixes.getD input none with
  | some f => .next (if f.full then (s.atPhase phase).endFix input else s)
  | none => .next s

/-- GNSS_FIX_TIMEOUT (R268): 50 ms without completion. -/
def execGnssFixTimeout (input : Fin 2) (s : State) : Out :=
  match s.plt.fixes.getD input none, s.gnssSrc input 0 with
  | some _, some i => .next (State.discard { s with plt.fixes := s.plt.fixes.set input none } i 3)
  | _, _ => .next s

/-- R269, Table 7.3: the fields of a fix that a frame's bytes give. -/
def gnssVals (b : List Nat) : List Int :=
  let fix := natAt b 0x38 1
  let vn := intAt b 0x20 4
  let ve := intAt b 0x24 4
  let sig (off : Nat) : Int := natAt b off 2
  [intAt b 0x0C 8, intAt b 0x14 8, intAt b 0x1C 4, fix, natAt b 0x39 1,
    if 1 ≤ fix then (isqrt (vn * vn + ve * ve).toNat : Nat) else -1, if 1 ≤ fix then bearing ve vn else -1,
    if natAt b 0x2C 4 = 2 ^ 32 - 1 then -1 else natAt b 0x2C 4, 1, vn, ve, intAt b 0x28 4,
    sig 0x30, sig 0x32, sig 0x34, sig 0x36]

/-- GNSS_BINARY_FRAME (R269, Table 7.3): bytes without SYNC are no frame; a bad CRC, TYPE or LEN discards it. -/
def execGnssBinaryFrame (input : Fin 2) (phase : Fin 10000) (stamp : Option Nat) (bytes : List Nat) (s : State) : Out :=
  let s := s.tookStamp (ptGnss input) stamp
  match s.gnssSrc input 1 with
  | none => .next s
  | some i =>
    if natAt bytes 0 2 ≠ 0x4753 then .next s
    else if natAt bytes 0x40 4 ≠ crc32 (bytes.take 0x40) then .next (s.discard i 2)
    else if natAt bytes 2 1 ≠ 1 ∨ natAt bytes 3 1 ≠ 60 then .next (s.discard i 4)
    else
      let tai := natAt bytes 4 8
      .next (((s.atPhase phase).nameSecond i input tai stamp).ingestFree i tai stamp (gnssVals bytes))

/-! ### Records (R272, R273, R279, R285) -/

/-- MT64 of an output's cut-off: phase CUT, in cycles of 10 ns, of tick n + D − 1. -/
def State.cutMt (s : State) (p n : Nat) : Int := s.tickMt (n + s.prodB p 3 1 - 1) + 8 * s.prodB p 6 2

/-- R271, R274: what was ingested at a tick and phase with a validity time serves an output: by the cut-off, or, in a revision made
at `made`, by then, where it could have arrived in time. -/
def State.serves (s : State) (p n : Nat) (rev : Bool) (made : Nat) (tv : Int) (tick phase : Nat) : Bool :=
  s.beforeCut p n tick phase || (rev && decide (tv ≤ s.cutMt p n) && decide (tick ≤ made))

/-- The samples an output takes (R271, R274). -/
def State.elig (s : State) (p n i : Nat) (rev : Bool) (made : Nat) : List Sample :=
  (s.src i).hist.filter fun x => !x.dropped.contains p && s.serves p n rev made x.tv x.tick x.phase

/-- R273: contributors and age from each source's latest sample. -/
def State.contrib (s : State) (tv : Int) (l : List (Nat × Int)) : Nat × Nat :=
  let ok := l.filter fun e => decide (tv - 80000 * (s.srcB e.1 0x26 2 : Int) ≤ e.2)
  let mask := ok.foldl (fun m e => setBit m e.1 true) 0
  (mask, min (2 ^ 32 - 1) (ok.foldl (fun a e => max a (tv - e.2).toNat) 0))

/-- An ALIGN record (R272, R279). -/
def State.alignRec (s : State) (p n : Nat) (rev : Bool) (made : Nat) : PRec :=
  let tv := s.tickMt n
  let fs := (List.range (s.prodB p 9 1)).map fun j =>
    let i := s.prodB p (0x11 + 2 * j) 1 % 64
    (i, s.fieldAt i (s.prodB p (0x10 + 2 * j) 1) (s.elig p n i rev made) tv)
  let used := fs.filterMap fun f => f.2.map fun v => (f.1, v.2.2)
  let last := used.map fun e => (e.1, (used.filter (·.1 == e.1)).foldl (fun a x => max a x.2) e.2)
  let (mask, age) := s.contrib tv last
  let m (g : Int × Bool × Int → Bool) : Nat := (fs.zipIdx.map fun (f, j) => if f.2.any g then 2 ^ j else 0).sum
  let words := (fs.map fun f => ofInt 32 ((f.2.map (·.1)).getD 0)) ++ List.replicate (16 - fs.length) 0
  { contrib := mask, age := age, extrap := m (·.2.1) != 0
    body := leBytes 2 (m fun _ => true) ++ leBytes 2 (m (·.2.1)) ++ words.flatMap (leBytes 4) ++ List.replicate 28 0 }

/-- R273: the samples that a vehicle-state record takes into account: those valid by the output's time, and not a late fix that
still waits for its replay (R275). -/
def State.vsTakes (s : State) (p n i : Nat) (rev : Bool) (made : Nat) : List Sample :=
  let waits (x : Sample) : Bool :=
    s.plt.vs.ev.any fun e => e.kind == 1 && !e.fused && e.tv == x.tv && e.tick == x.tick && e.phase == x.phase
  (s.elig p n i rev made).filter fun x => decide (x.tv ≤ s.tickMt n) && (rev || !waits x)

/-- R274, Table 7.6: STATE of a revision: a late fix whose position the filter accepts would have kept, or brought back, ALIGNED
for DR_MAX ms. The other changes of state are not re-run (log: `STATE of a revision`). -/
def State.revState (s : State) (p n made old : Nat) : Nat :=
  let use (e : VsEv) : Bool := s.serves p n true made e.tv e.tick e.phase
  let helps (e : VsEv) : Bool :=
    e.kind == 1 && use e && !s.beforeCut p n e.tick e.phase && decide (e.tv ≤ s.tickMt n) &&
      decide (s.tickMt n - e.tv < 800000 * (s.vsB 0x2E 2 : Int)) &&
      (s.vsApply (s.filterOver (fun x => use x && x != e) e.tv) e).2.any fun r => r.1 == 1 && r.2
  if (old = 2 ∨ old = 3) ∧ s.plt.vs.ev.any helps then 1 else old

/-- A vehicle-state record (R282 to R286) of an output from the filter at its validity time: a revision takes the events that would
have served and the guidance of its output. What the manual leaves open of it is free: the words of INIT but the rates, those
without an IMU sample, and which of the codes 0 to 4 GNSS_FIX of a revision reads (log: `open words of the vehicle state`). -/
def State.vsRec (s : State) (p n : Nat) (rev : Bool) (made : Nat) : PRec × State :=
  let tv := s.tickMt n
  let last := s.vsSrcs.filterMap fun i => (latest (s.vsTakes p n i rev made)).map fun x => (i, x.tv)
  let (mask, age) := s.contrib tv last
  let old := s.lastOut p n
  let st := if rev then s.revState p n made ((old.map (·.st)).getD s.plt.vs.st) else s.plt.vs.st
  -- The lateral and vertical body velocity is measured at every output (Table 7.5).
  let s := if rev || st == 0 then s else s.vsFuse { tv := tv, tick := s.chr.tick, phase := s.chr.phase, kind := 4 }
  let use (e : VsEv) : Bool := if rev then s.serves p n true made e.tv e.tick e.phase else e.fused
  let f := s.filterOver use tv
  let imu := (latest (s.vsTakes p n (s.vsB 0x0C 1) rev made)).map (·.vals)
  let ws := s.vsWords f (imu.getD [])
  let (fr, s) := s.frees (List.replicate 17 32)
  let x (k : Nat) : Nat :=
    let known := decide (k ∈ [9, 10, 11]) || st != 0
    if known && (imu.isSome || decide (k < 9) || decide (14 < k)) then ofInt 32 (satS 32 (ws.getD k 0))
    else if k = 8 then fr.getD 8 0 % 6283185 else fr.getD k 0
  let hdg := x 8
  let sig := Config.ekfSig f
  let sg (k : Nat) : Nat := min 65535 (sig.getD k 0)
  let speed := toInt 32 (x 15)
  let wz := toInt 32 (x 11)
  let curv : Int := if speed.natAbs < 100 then 0
    else if speed < 0 then -roundDiv (wz * 1000) (-speed) else roundDiv (wz * 1000) speed
  let guide := if rev then (old.map (·.guide)).getD s.guideRegs else s.guideRegs
  let valid := vsValid st + if guided guide && bit (vsValid st) 0 && bit (vsValid st) 2 then 32 else 0
  let g := if bit valid 5 then guidance guide (toInt 32 (x 0)) (toInt 32 (x 1)) hdg else (0, 0)
  let (fx, s) := if rev then s.free 8 else (s.plt.vs.bestFix, s.modVs fun v => { v with bestFix := 0 })
  let words := [x 0, x 1, x 2, x 3, x 4, x 5, x 6, x 7, hdg, x 9, x 10, x 11, x 12, x 13, x 14, x 15,
    ofInt 32 (satS 32 curv), x 16, ofInt 32 g.1, ofInt 32 g.2, sg 0 + 65536 * sg 1, sg 2 + 65536 * sg 3]
  ({ contrib := mask, age := age, guide := guide
     body := words.flatMap (leBytes 4) ++ [st, fx % 5] ++ leBytes 2 valid ++ [0, 0, 0, 0] }, s)

/-- The record of an output. -/
def State.prodRec (s : State) (p n : Nat) (rev : Bool) (made : Nat) : PRec × State :=
  if s.prodB p 0 1 = 0 then s.vsRec p n rev made else (s.alignRec p n rev made, s)

/-! ### Cut-off, completion, release (R271, R276, R277, R280, R281) -/

/-- PRODUCT_CUTOFF (R271): at phase CUT the job of the output is admitted; with every tag taken it waits for one (R277). -/
def execProductCutoff (p : Fin 16) (s : State) : Out :=
  let d := s.prodB p 3 1
  let n := s.chr.tick + 1 - d
  let due := s.plt.up && s.has 0x0401 p && !s.flag R.PLT_CTL_STOP && decide (d ≤ s.chr.tick + 1) &&
    n % 2 ^ s.prodB p 1 1 == s.prodB p 2 1 && s.plt.cuts.getD p none != some s.chr.tick
  if !due then .next s
  else
    let s := s.atPhase (s.prodB p 6 2)
    let s := { s with plt.cuts := s.plt.cuts.set p (some s.chr.tick) }
    let (r, s) := State.prodRec s p n false s.chr.tick
    .next (s.offerJob { tag := 0, prod := p, out := n, kind := 0, made := s.chr.tick, data := r }).stageCuts

/-- A job that has run leaves the fabric: a primary or revision for the reorder buffer, a replay into the live filter (R275). -/
def State.jobRun (s : State) (j : PJob) : State :=
  match j.kind with
  | 2 => s.vsReplay j.made
  | 3 => { s with plt.trk.fin := some j.out }
  | 4 => { s with plt.yld.fin := some j.out }
  | 5 => s
  | _ =>
    if j.missed && decide (s.windowEnd j.prod j.out ≤ s.chr.tick) then s
    else { s with plt.rob := s.plt.rob ++ [{ j with done := some s.chr.tick }] }

/-- A job that an engine has taken under a tag. -/
def State.takenJob (s : State) (tag : Nat) : Option PJob := s.plt.jobs.find? fun j => j.tag == tag && j.taken

/-- The fabric without a tag. -/
def State.leaveFabric (s : State) (tag : Nat) : State :=
  { s with plt.jobs := s.plt.jobs.filter fun k => k.tag != tag }

/-- OUTPUT_MISSED (R276): at 99.00 µs a primary due at the next edge has not finished, or waits for a tag. -/
def execOutputMissed (p : Fin 16) (s : State) : Out :=
  let n := s.chr.tick + 1 - s.prodB p 3 1
  let hit (j : PJob) : Bool := j.prod == p.val && j.out == n && j.kind == 0 && !j.missed
  if (s.plt.jobs ++ s.plt.waiting ++ s.plt.failed).any hit then
    let s := s.atPhase 9900
    let s := { s with plt.failed := s.plt.failed.filter fun j => !hit j }
    let miss (j : PJob) : PJob := if hit j then { j with missed := true } else j
    let s := { s with plt.jobs := s.plt.jobs.map miss, plt.waiting := s.plt.waiting.map miss }
    .next ((State.bump s R.PLT_CNT_MISSED_VALUE).raise 51 [p, n % 2 ^ 32])
  else .next s

/-- The valid bit of a record's word for an export (R281). -/
def State.wordValid (s : State) (p off : Nat) (body : List Nat) : Bool :=
  let byte (k : Nat) : Nat := body.getD (k - 0x20) 0
  if s.prodB p 0 1 = 0 then
    let v := byte 0x7A
    if off < 0x2C then bit v 0 else if off < 0x38 then bit v 1 else if off < 0x44 then bit v 2
    else if off < 0x5C then bit v 3 else if off < 0x68 then bit v 4 else if off < 0x70 then bit v 5
    else if off < 0x78 then bit v 0 else true
  else if 0x24 ≤ off ∧ off < 0x64 then bit (byte 0x20 + 256 * byte 0x21) ((off - 0x24) / 4)
  else true

/-- R281: one export of a released record acts at the edge. -/
def State.export1 (s : State) (p : Nat) (body : List Nat) (e : Nat) : State :=
  let b := s.cfg 0x0403 e
  if !s.has 0x0403 e || b 0 1 != p then s
  else
    let off := b 2 2
    let raw := leNat ((body.drop (off - 0x20)).take 4)
    let v := if b 1 1 = 0 then raw
      else ofInt 32 (satS 32 (roundShift (toInt 32 raw * s.cfgI 0x0403 e 8 4) (30 + s.cfgI 0x0403 e 0x0C 1)))
    s.setMbx (b 4 4 % 2 ^ 20) ⟨v, s.wordValid p off body, some (s.chr.tick + b 0x0D 1)⟩

/-- The words of a vehicle-state record that the track and yield stages read. -/
def poseOf (tv : Int) (rev : Nat) (body : List Nat) : Pose :=
  let w (off : Nat) : Int := toInt 32 (leNat ((body.drop (off - 0x20)).take 4))
  let h (off : Nat) : Int := leNat ((body.drop (off - 0x20)).take 2)
  ⟨tv, rev, body.getD 0x58 0,
    [w 0x20, w 0x24, w 0x2C, w 0x30, w 0x38, w 0x3C, w 0x40, w 0x4C, w 0x58, w 0x5C, h 0x70, h 0x72, w 0x28]⟩

/-- R279, R280, R281: a record is released now: header, queue, exports. -/
def State.releaseRec (s : State) (j : PJob) : State :=
  let p := j.prod
  let prev := s.lastOut p j.out
  let rev := if j.missed then 1 else if j.kind = 1 then ((prev.map (·.rev)).getD 0 + 1) else 0
  let isVs := s.prodB p 0 1 == 0
  let flags := b2n (isVs && s.plt.vs.replayed) + 2 * b2n j.missed + 4 * b2n (s.plt.steps.any fun e => decide (j.out < e.1)) +
    8 * b2n j.data.extrap
  let seq := s.plt.seqs.getD p 0
  let hdr := leBytes 8 (ofInt 64 (s.tickMt j.out - s.stepsAfter j.out)) ++ leBytes 4 j.out ++ leBytes 4 j.data.age ++
    leBytes 8 j.data.contrib ++ [p, rev % 256] ++ leBytes 2 flags ++ leBytes 2 seq ++ [0, 0]
  let widx := s.get (R.PLT_P_WIDX_VALUE p)
  let s := s.ringWrite p (widx % 2 ^ s.prodB p 8 1) (hdr ++ j.data.body)
  let s := s.puts [(R.PLT_P_WIDX_VALUE p, widx + 1), (R.PLT_P_LAST_SEQ p, seq), (R.PLT_P_LAST_REV p, rev)]
  let pose := poseOf (s.tickMt j.out) rev j.data.body
  let s := { s with
    plt.seqs := s.plt.seqs.set p ((seq + 1) % 65536)
    plt.outs := ⟨p, j.out, rev, j.data.body.getD 0x58 0, j.data.guide⟩ :: s.plt.outs.filter fun o => !(o.prod == p && o.out == j.out)
    plt.poses := if isVs then
        (pose :: s.plt.poses.filter fun q => q.tv != pose.tv).take (2 ^ s.prodB p 8 1) else s.plt.poses
    plt.vs := if isVs then { s.plt.vs with replayed := false } else s.plt.vs }
  if j.kind = 1 then s else (List.range 64).foldl (fun s e => State.export1 s p j.data.body e) s

/-- The job of a product may be released at this edge: primaries at n + D, late jobs and revisions after completion, a revision
after its primary and after the revisions of the product that go before it, an earlier output's or an earlier one of its own
(R271, R274, R276, R277); a revision that waits for a missed primary holds none of them back. -/
def State.releasable (s : State) (p : Nat) (j : PJob) : Bool :=
  j.prod == p && (match j.done with
    | some t => decide (t < s.chr.tick)
    | none => false) &&
    (if j.kind = 1 then
      let unfinished (k : PJob) : Bool := match k.done with
        | some t => decide (s.chr.tick ≤ t)
        | none => true
      (s.lastOut p j.out).isSome &&
        !((s.plt.jobs ++ s.plt.waiting ++ s.plt.rob).any fun k => k.prod == p && k.kind == 1 && unfinished k &&
          ((decide (k.out < j.out) && (s.lastOut p k.out).isSome) || (k.out == j.out && decide (k.made < j.made))))
     else decide (j.out + s.prodB p 3 1 ≤ s.chr.tick))

/-- Jobs in validity order, primaries before revisions of the same output. -/
def jobBefore (a b : PJob) : Bool :=
  decide (a.out < b.out) || (a.out == b.out && (decide (a.kind < b.kind) || (a.kind == b.kind && decide (a.made ≤ b.made))))

/-- PRODUCT_RELEASE (R271, R277): at the edge the product's records are released: primaries in validity order, then
revisions in validity order. -/
def execProductRelease (p : Fin 16) (s : State) : Out :=
  if !s.plt.up then .next s
  else
    let s := s.atPhase 0
    let run (s : State) (l : List PJob) : State :=
      l.foldl (fun s j =>
        let s := { s with plt.rob := s.plt.rob.filter fun k => !(k == j) }
        if j.kind = 1 then
          let (r, s) := State.prodRec s p j.out true j.made
          s.releaseRec { j with data := r }
        else State.releaseRec s j) s
    let prim := sortBy jobBefore (s.plt.rob.filter fun j => j.kind == 0 && s.releasable p j)
    let s := run s prim
    let revs := sortBy jobBefore (s.plt.rob.filter fun j => j.kind == 1 && s.releasable p j)
    .next (run s revs).jobsChanged

/-! ### The edge, the step of MT64, start and reset -/

/-- The triggered sample of a source at the edge (Table 7.1, R259): `imu` and `prev` are the IMU sample and MT64 of the
edge before. -/
def State.triggered (s : State) (i : Nat) (imu : Option (List Int)) (prev : Nat) : Option (Int × List Int) :=
  let port := s.srcB i 2 2
  match s.srcB i 0 1 with
  | 1 => imu.map fun v => ((prev : Int), v)
  | 2 =>
    if s.flag (R.DIO_AI_STAT_FAULTY port) || s.supplyOff 0 port then none
    else
      let delay := [3840, 7680, 15360, 30720].getD (s.cfg 0x1101 port 1 1) 0
      some ((s.chr.base : Int) - delay, [toInt 32 (s.get (R.DIO_AI_VAL_VALUE port))])
  | 3 =>
    if s.supplyOff 1 port then none
    else some ((s.chr.base : Int), [toInt 32 (s.get (R.DIO_PI_CNT_VALUE port)), toInt 32 (s.get (R.DIO_PI_RATE_VALUE port))])
  | 4 =>
    match s.mrd.inTab.find? fun e => e.1 == port with
    | some (_, r) =>
      if r.valid && !s.stationFailed port then
        some ((prev : Int), (List.range (r.payload.length / 4)).map fun w =>
          toInt 32 (leNat ((r.payload.drop (4 * w)).take 4)))
      else none
    | none => none
  | _ => none

/-- The Plotter at the tick edge. -/
def State.pltEdge (s : State) (imu : Option (List Int)) (prev : Nat) : State :=
  if !s.plt.up then s
  else
    let s := s.stageCuts
    let s := { s with
      plt.srcs := s.plt.srcs.map fun c => { c with idle := c.idle + 1 }
      plt.trk.tracks := s.plt.trk.tracks.map fun t => { t with quiet := t.quiet + 1 } }
    let s := (State.sources s).foldl (fun s i =>
      match s.triggered i imu prev with
      | some (tv, v) => s.ingestUsed i tv v
      | none => s) s
    let speed := s.vsB 0x0F 1
    let rate := if speed < 64 then ((s.triggered speed imu prev).bind fun x => x.2[1]?) else none
    (s.vsTick imu rate prev).dropWaiting.admitWaiting

/-- R267: MT64 steps by `d` at the edge just begun. -/
def State.pltStep (s : State) (d : Int) : State :=
  let sample (x : Sample) : Sample := { x with tv := x.tv + d }
  let src (i : Nat) (c : Src) : Src := { c with
    hist := c.hist.map sample
    frames := c.frames.map fun f => (f.1, f.2 + d)
    held := c.held.map fun h => { h with a := h.a + d, jobs := h.jobs.map fun j => { j with
      dets := j.dets.map fun l => l.map fun m => { m with tv := m.tv + d } } }
    best := c.best.map fun b => (if s.pinned i then b.1 + d * 65536 else b.1, b.2.1, b.2.2 + d)
    theta := if s.pinned i then c.theta else c.theta + d * 65536 }
  let y := s.plt.yld
  let cell (c : CellRec) : CellRec := { c with tStart := c.tStart + d }
  { s with
    plt.srcs := s.plt.srcs.zipIdx.map fun (c, i) => src i c
    plt.fixes := s.plt.fixes.map fun f => f.map fun f => { f with stamp := f.stamp.map fun a => ((a : Int) + d).toNat }
    plt.tods := s.plt.tods.map fun t => (t.1, t.2.1, ((t.2.2 : Int) + d).toNat)
    plt.steps := s.plt.steps ++ [(s.chr.tick, d)]
    plt.poses := s.plt.poses.map fun q => { q with tv := q.tv + d }
    plt.vs := { s.plt.vs with ev := s.plt.vs.ev.map fun e => { e with tv := e.tv + d } }
    plt.trk := { s.plt.trk with
      tracks := s.plt.trk.tracks.map fun t => { t with tLast := t.tLast + d, tEst := t.tEst + d }
      meas := s.plt.trk.meas.map fun m => { m with tv := m.tv + d }
      fleet := s.plt.trk.fleet.map fun f => (f.1, f.2.1 + d, f.2.2) }
    plt.yld := { y with
      t0 := y.t0 + d
      loads := y.loads.map fun l => (l.1, l.2 + d)
      steps := y.steps.map fun x => { x with tv := x.tv + d }
      segs := y.segs.map fun c => c.map fun c => { c with tStart := c.tStart + d, tEnd := c.tEnd + d }
      calOp := y.calOp.map fun c => (c.1, c.2 + d)
      load := y.load.map fun l => { l with
        tOpen := l.tOpen + d, cells := l.cells.map cell }
      closing := y.closing.map fun c => { c with cells := c.cells.map cell }
      tiles := y.tiles.map fun t => t.map fun t => { t with tFirst := t.tFirst + d, tLast := t.tLast + d } } }

/-- The key lies in the register window of a block. -/
def inBlock (id k : Nat) : Bool := decide (8 * blockBase id ≤ k) && decide (k < 8 * blockBase (id + 1))

/-- A block's registers take their reset values. -/
def State.clearBlock (s : State) (id : Nat) : State := { s with regs := s.regs.filter fun e => !inBlock id e.1 }

/-- Table 2.3, R291: the Plotter is held in reset: its state and its rings are lost; CAL is kept. -/
def State.pltReset (s : State) : State :=
  let cal := s.get R.PLT_YLD_CAL_VALUE
  (({ s with plt := {}, rings := s.rings.filter fun e => decide (0x14 * 2 ^ 32 ≤ e.1) } : State).clearBlock 0x04).put
    R.PLT_YLD_CAL_VALUE cal

/-- A store of `size` bytes has its place in DRAM, which the manual does not fix but below 4 GiB (R516). -/
def State.place (s : State) (lo : Fld) (size : Nat) : State :=
  let (a, s) := s.free 32
  s.put lo (a % (2 ^ 32 - size + 1))

/-- Table 2.3: the Plotter leaves reset: triggered sources count as LOCKED (R259), the queues have their places. -/
def State.pltStart (s : State) : State :=
  if s.plt.up then s
  else
    let s := { s with plt := { up := true } }
    let s := (State.sources s).foldl (fun s i => if s.isFree i then s else s.put (R.PLT_SRC_STAT_STATE i) 2) s
    let s := (State.products s).foldl (fun s p => s.place (R.PLT_P_QBASE_LO_VALUE p) (128 * 2 ^ s.prodB p 8 1)) s
    let s := s.place R.PLT_TRK_BUF_LO_VALUE 0x8080
    let s := s.place R.PLT_CELLQ_BASE_LO_VALUE (64 * 2 ^ s.cfg 0x0420 0 0x3A 1)
    let s := s.place R.PLT_LOADQ_BASE_LO_VALUE 4096
    s.place R.PLT_TILEDIR_LO_VALUE (16 * s.cfg 0x0420 0 0x0A 2)

/-! ### Registers (R289) -/

/-- PLOTTER_STOP (R289): a write of PLT_CTL.STOP acts in SERVICE only. -/
def State.pltStop (s : State) (on : Bool) : State :=
  if s.mode = mSERVICE ∧ s.plt.up then ((s.put R.PLT_CTL_STOP (b2n on)).admitWaiting).jobsChanged else s

def execPlotterStop (s : State) : Out := .next (s.pltStop true)

/-- PLT_JOBS_READ (R289). -/
def execPltJobsRead (s : State) : Out :=
  let s := s.stageCuts
  let n := s.get R.PLT_JOBS_INFLIGHT
  .next (({ s with rdata := s.get R.PLT_JOBS_HWM * 2 ^ 16 + n } : State).put R.PLT_JOBS_HWM n)

def execPltCntMissedRead (s : State) : Out := .next (s.readClear R.PLT_CNT_MISSED_VALUE)
def execPltCntLateRead (s : State) : Out := .next (s.readClear R.PLT_CNT_LATE_VALUE)
def execPltCntDropRead (s : State) : Out := .next (s.readClear R.PLT_CNT_DROP_VALUE)
def execPltCntRevdropRead (s : State) : Out := .next (s.readClear R.PLT_CNT_REVDROP_VALUE)

/-- PLT_VS_CNT_READ (R289). -/
def execPltVsCntRead (s : State) : Out :=
  .next (({ s with rdata := s.get R.PLT_VS_CNT_GATED * 2 ^ 16 + s.get R.PLT_VS_CNT_REPLAYS } : State).puts
    [(R.PLT_VS_CNT_GATED, 0), (R.PLT_VS_CNT_REPLAYS, 0)])

end Sys2Proof.Machine
end

