-- ==== Sys2Proof/Machine/Tracks.lean ====
section
/-! DEFINITION. The track stage and the fleet messages that feed it (Plotter: Tracks, Yield Mapping and Live
Calibration, Tracks; Host Service Interface and Fleet Link, R508). -/

namespace Sys2Proof.Machine

/-! ### Poses (R293) -/

/-- The pose at a time from the released vehicle-state records: interpolated between the two that bracket it, or carried
on by at most 50 ms with the velocity and WZ. -/
def State.poseAt (s : State) (tv : Int) : Option (List Int) :=
  let as := s.plt.poses.filter fun q => decide (q.tv ≤ tv)
  let bs := s.plt.poses.filter fun q => decide (tv ≤ q.tv)
  let pick (f : Pose → Pose → Bool) (l : List Pose) : Option Pose :=
    l.foldl (fun o x => match o with
      | some y => if f x y then some x else o
      | none => some x) none
  let a := pick (fun x y => decide (y.tv < x.tv)) as
  let b := pick (fun x y => decide (x.tv < y.tv)) bs
  match a, b with
  | some a, some b =>
    some ((List.range 13).map fun k =>
      along (k == 6) (a.w.getD k 0) (b.w.getD k 0 - a.w.getD k 0) (tv - a.tv) (b.tv - a.tv))
  | some a, none =>
    let dt := tv - a.tv
    if dt ≤ 40000000 then
      let g (k : Nat) : Int := a.w.getD k 0
      let move (p v : Int) : Int := p + roundDiv (v * dt) 800000000
      -- WZ is Q7.24 rad/s, positive to the left; HEADING runs clockwise.
      let turn := roundDiv (g 7 * dt * 1000000) (800000000 * 2 ^ 24)
      some ([move (g 0) (g 2), move (g 1) (g 3), g 2, g 3, g 4, g 5, (g 6 - turn) % 6283185] ++ a.w.drop 7)
    else none
  | none, _ => none

/-- A point of the body frame (x forward, y left) in East and North under a pose. -/
def bodyToEnu (pose : List Int) (x y : Int) : Int × Int :=
  let c := cosMicro (pose.getD 6 0)
  let n := sinMicro (pose.getD 6 0)
  (pose.getD 0 0 + roundShift (x * n - y * c) 30, pose.getD 1 0 + roundShift (x * c + y * n) 30)

/-- A signed 16-bit field of TRKSRC. -/
def State.mount (s : State) (i off : Nat) : Int := s.cfgI 0x0411 i off 2

/-- R293: a measurement in the world: E, N, σ, heading; none when it must be discarded. -/
def State.toWorld (s : State) (m : Meas) : Option Meas :=
  if m.world then some m
  else if s.plt.vs.st ≠ 1 ∧ s.plt.vs.st ≠ 2 then none
  else (s.poseAt m.tv).map fun q =>
    let yaw := 100 * s.mount m.src 0x0A
    let c := cosMicro yaw
    let n := sinMicro yaw
    let xb := s.mount m.src 4 + roundShift (m.x * c - m.y * n) 30
    let yb := s.mount m.src 6 + roundShift (m.x * n + m.y * c) 30
    let (e, no) := bodyToEnu q xb yb
    { m with
      x := e, y := no, sig := Config.combineSig m.sig (q.getD 10 0).toNat (q.getD 11 0).toNat
      hdg := m.hdg.map fun h => (q.getD 6 0 + h - yaw) % 6283185 }

/-! ### The table (R298, R302, R303) -/

def State.modTrk (s : State) (f : Trk → Trk) : State := { s with plt.trk := f s.plt.trk }

/-- A live track holds its place until DELETED has been listed. -/
def Track.live (t : Track) : Bool := t.state == 1 || t.state == 2

/-- R301: Q_ACC of a kind, UQ8.8. -/
def State.qAcc (s : State) (kind : Nat) : Int := s.cfg 0x0410 0 (0x10 + 2 * (kind - 1)) 2

/-- A track's filter at a time (R301): the velocity carries the position; white acceleration of deviation Q_ACC, constant over the
interval, widens the covariance; an EDGE or SWATH walks at random with Q_ACC on its position; a MACHINE track moves with its
velocity. The interval is in units of 1.25 ns. -/
def State.predict (s : State) (t : Track) (tv : Int) : List Int :=
  let dt := tv - t.tEst
  let g (k : Nat) : Int := t.est.getD k 0
  let per (x : Int) : Int := roundDiv (x * dt) 800000000
  if t.kind = 5 then [g 0 + per (g 2), g 1 + per (g 3)] ++ t.est.drop 2
  else
    -- Q_ACC × dt in mm/s (for a walk in mm), with 16 fractional bits, and its square.
    let a := roundDiv (1000 * 256 * s.qAcc t.kind * dt) 800000000
    let aa := roundShift (a * a) 16
    if t.kind = 3 ∨ t.kind = 4 then [g 0, g 1, 0, 0, g 4 + aa, 0, g 6]
    else
      [g 0 + per (g 2), g 1 + per (g 3), g 2, g 3,
        g 4 + 2 * per (g 5) + per (per (g 6)) + roundDiv (per (per aa)) 4,
        g 5 + per (g 6) + roundDiv (per aa) 2, g 6 + aa]

/-- The root of a covariance with 16 fractional bits, rounded. -/
def rootCov (p : Int) : Nat := (isqrt (4 * p.toNat / 65536) + 1) / 2

/-- What is reported of a filter: E, N, VE, VN, direction, speed, SIG_E, SIG_N, SIG_V. -/
def trackReport (kind : Nat) (est : List Int) : List Int :=
  let g (k : Nat) : Int := est.getD k 0
  let w (k : Nat) : Int := roundShift (g k) 16
  if kind = 5 then [g 0, g 1, g 2, g 3, 0, 0, g 4, g 5, g 6]
  else
    [w 0, w 1, w 2, w 3, bearing (g 2) (g 3), isqrt ((g 2 * g 2 + g 3 * g 3).toNat / 2 ^ 32), rootCov (g 4), rootCov (g 4),
      rootCov (g 6)]

/-- R298: the filter at a birth, of every kind: the measurement's position, no velocity, a velocity deviation of 5 m/s. That of an
EDGE or SWATH stays, since its velocity is held at 0 (R301) and no measurement bears on it. -/
def trackBirth (e n : Int) (sig : Nat) : List Int :=
  [65536 * e, 65536 * n, 0, 0, 65536 * sig * sig, 0, 65536 * 25000000]

/-- R301: a filter updated by a measured position of a deviation. -/
def trackUpdate (est : List Int) (e n : Int) (sig : Nat) : List Int :=
  let g (k : Nat) : Int := est.getD k 0
  let sum := g 4 + 65536 * sig * sig
  let k (p x : Int) : Int := if sum = 0 then 0 else roundDiv (p * x) sum
  let ie := 65536 * e - g 0
  let iN := 65536 * n - g 1
  [g 0 + k (g 4) ie, g 1 + k (g 4) iN, g 2 + k (g 5) ie, g 3 + k (g 5) iN,
    g 4 - k (g 4) (g 4), g 5 - k (g 5) (g 4), g 6 - k (g 5) (g 5)]

/-- R296: d² of a measured position against a track's predicted one: S is the sum of the position covariances. -/
def trackD2 (kind : Nat) (est : List Int) (e n : Int) (sig : Nat) : Rat :=
  let g (k : Nat) : Rat := est.getD k 0
  let m : Rat := sig * sig
  if kind = 5 then (e - g 0) ^ 2 / (g 4 ^ 2 + m) + (n - g 1) ^ 2 / (g 5 ^ 2 + m)
  else ((e - g 0 / 65536) ^ 2 + (n - g 1 / 65536) ^ 2) / (g 4 / 65536 + m)

/-- PLT_TRK_STAT.USED follows the table. -/
def State.trkUsed (s : State) : State := s.put R.PLT_TRK_STAT_USED (min 256 s.plt.trk.tracks.length)

/-- R302: the next identifier, skipping those that live tracks hold. -/
def nextId (ts : List Track) : (fuel n : Nat) → Nat
  | 0, n => n
  | fuel + 1, n => if ts.any fun t => t.live && t.id == n then nextId ts fuel ((n + 1) % 65536) else n

/-- The 1 bits among the lowest `n` bits. -/
def ones (h n : Nat) : Nat := ((List.range n).filter fun i => bit h i).length

/-- A track is deleted with a reason (Table 8.3). -/
def Track.delete (t : Track) (why : Nat) : Track :=
  { t with state := 3, flags := clearBits t.flags 12 + 4 * (why % 4) }

/-- R303: the TENTATIVE track that a birth into a full table evicts. -/
def evictee (ts : List Track) : Option Track :=
  (ts.filter fun t => t.state == 1 && t.kind != 5).foldl (fun o t => match o with
    | some u =>
      let worse := decide (ones t.hist 16 < ones u.hist 16) ||
        (ones t.hist 16 == ones u.hist 16 &&
          (decide (t.birth < u.birth) || (t.birth == u.birth && decide (t.id < u.id))))
      if worse then some t else o
    | none => some t) none

/-- R302, R303: a track is born, or the birth is refused. An evicted track is DELETED with reason 3 and stays to be listed; the
track born in its place stands beside it. -/
def State.born (s : State) (t : Track) : State × Bool :=
  let ts := s.plt.trk.tracks
  let add (s : State) : State :=
    let n := nextId s.plt.trk.tracks 65536 (s.get R.PLT_TRK_STAT_NEXT_ID)
    ((s.modTrk fun k => { k with tracks := k.tracks ++ [{ t with id := n }] }).put R.PLT_TRK_STAT_NEXT_ID
      ((n + 1) % 65536)).trkUsed
  if ts.length < 256 then (add s, true)
  else match evictee ts with
    | some v => 
      (add (s.modTrk fun k => { k with
        tracks := k.tracks.map fun u => if u.id == v.id && u.live then u.delete 3 else u }), true)
    | none =>
      ((s.bump R.PLT_TRK_CNT_REFUSED).raise 56 [t.kind, (ts.filter fun u => u.state == 2).length], false)

/-! ### Association (R295 to R297) -/

/-- R301: a smoothed angle, and a smoothed extent, with weight 0.2. -/
def smoothAngle (old new : Int) : Int := (old + roundDiv (arc (new - old)) 5) % 6283185
def smoothNat (old new : Nat) : Nat := ((old : Int) + roundDiv ((new : Int) - old) 5).toNat

/-- A measurement updates a track. -/
def State.applyMeas (s : State) (t : Track) (m : Meas) : Track :=
  let still := t.kind == 3 || t.kind == 4
  let first := !bit t.flags 4
  { t with
    est := trackUpdate (s.predict t m.tv) m.x m.y m.sig
    tEst := m.tv, tLast := m.tv, misses := 0, hist := setBit t.hist 0 true, conf := m.conf
    flags := (t.flags ||| (if m.world then 2 else 0)) ||| (if m.len.isSome || m.wid.isSome then 16 else 0)
    hdg := match m.hdg with
      | some h => if still then smoothAngle t.hdg h else t.hdg
      | none => t.hdg
    len := match m.len with
      | some l => if still && !first then smoothNat t.len l else l
      | none => t.len
    wid := match m.wid with
      | some w => if still && !first then smoothNat t.wid w else w
      | none => t.wid
    srcs := match t.srcs with
      | u :: us => setBit u m.src true :: us
      | [] => [2 ^ m.src] }

/-- The track a measurement takes (R296): least d², ties to the lower ID. -/
def State.bestTrack (s : State) (m : Meas) (skip : List Nat) : Option (Track × Rat) :=
  let fits (t : Track) : Bool :=
    t.live && !skip.contains t.id && (t.kind == m.kind || (t.kind == 5 && (m.kind == 1 || m.kind == 2))) &&
      !bit (t.srcs.headD 0) m.src
  (s.plt.trk.tracks.filter fits).foldl (fun o t =>
    let d := trackD2 t.kind (s.predict t m.tv) m.x m.y m.sig
    if (s.cfg 0x0410 0 0x0A 2 : Rat) / 256 < d then o
    else match o with
      | some (u, du) => if d < du ∨ (d = du ∧ t.id < u.id) then some (t, d) else o
      | none => some (t, d)) none

/-- R297, R298: an unassociated measurement starts a birth; `false` when it is discarded, or the birth refused. -/
def State.birth (s : State) (m : Meas) (n : Nat) : State × Bool :=
  if !m.birth || (!m.world && s.cfg 0x0411 m.src 2 1 != 1) then (s, false)
  else
    s.born
      { id := 0, kind := m.kind, birth := n, tLast := m.tv, tEst := m.tv, est := trackBirth m.x m.y m.sig
        hdg := m.hdg.getD 0, len := m.len.getD 0, wid := m.wid.getD 0, conf := m.conf
        flags := (if m.world then 2 else 0) + (if m.len.isSome || m.wid.isSome then 16 else 0), srcs := [2 ^ m.src] }

/-- R295 step 2: one measurement is associated. A track that has seen a later measurement is left out, and the
measurement counts as out of sequence. `true` when the measurement is used (Table 8.2, MEAS). -/
def State.associate (s : State) (m : Meas) (n : Nat) : (fuel : Nat) → (skip : List Nat) → State × Bool
  | 0, _ => (s, false)
  | fuel + 1, skip =>
    match s.bestTrack m skip with
    | none => s.birth m n
    | some (t, _) =>
      let upd (s : State) (t' : Track) : State :=
        s.modTrk fun k => { k with tracks := k.tracks.map fun u => if u.id == t.id && u.live then t' else u }
      if t.kind = 5 then
        (upd s { t with flags := t.flags ||| 1, srcs := [setBit (t.srcs.headD 0) m.src true] ++ t.srcs.drop 1 }, true)
      else if m.tv < t.tLast then s.trkOos.associate m n fuel (t.id :: skip)
      else (upd s (s.applyMeas t m), true)

/-! ### Fleet entries (R306) -/

/-- A 16-bit half of a word. -/
def half16 (w : Int) (hi : Bool) : Nat := ofInt 32 w / (if hi then 65536 else 1) % 65536

/-- The tangent-plane position of an entry with GEO, whose degrees come in units of 10⁻⁷ (Table 8.3). -/
def State.entryEnu (s : State) (w : List Int) : List Int :=
  toEnu s.originNano [100 * w.getD 6 0, 100 * w.getD 7 0, w.getD 8 0]

/-- An entry's EXTENT_VALID. -/
def hasExtent (w : List Int) : Bool := bit (half16 (w.getD 1 0) false) 4

/-- R306: the SELF entry of a peer sets its MACHINE track, or creates it, or is refused. -/
def State.setMachine (s : State) (i : Nat) (tv : Int) (tick : Nat) (w : List Int) (n : Nat) : State :=
  let g (k : Nat) : Int := w.getD k 0
  let p := s.entryEnu w
  let est : List Int := [p.getD 0 0, p.getD 1 0, toInt 16 (half16 (g 9) false), toInt 16 (half16 (g 9) true),
    half16 (g 12) false, half16 (g 12) true, half16 (g 13) false]
  let fill (t : Track) : Track := { t with
    est := est, tEst := tv, tLast := tv, u := p.getD 2 0, hdg := g 10, len := half16 (g 11) false
    wid := half16 (g 11) true, flags := clearBits t.flags 16 ||| (if hasExtent w then 16 else 0), remote := half16 (g 0) false, state := 2 }
  let mine (t : Track) : Bool := t.kind == 5 && t.peer == i && t.live
  if s.plt.trk.tracks.any mine then
    s.modTrk fun k => { k with tracks := k.tracks.map fun t => if mine t then fill t else t }
  else if (s.plt.trk.tracks.filter fun t => t.kind == 5 && t.live).length < s.cfg 0x0412 0 4 1 then
    let (s, ok) := s.born (fill { id := 0, kind := 5, peer := i, birth := n, hist := 0, srcs := [0], quiet := s.chr.tick - tick })
    if ok then s.raise 57 [i, 0] else s
  else s.raise 57 [i, 2]

/-- R306: every entry of a used fleet message. -/
def State.takeFleet (s : State) (n : Nat) (f : Nat × Int × Nat × Nat × List Int) : State :=
  let (i, tv, tick, phase, ws) := f
  (List.range (ws.length / 16)).foldl (fun s j =>
    let w := (ws.drop (16 * j)).take 16
    let g (k : Nat) : Int := w.getD k 0
    let kind := bits (ofInt 32 (g 0)) 16 8
    if bit (half16 (g 1) false) 6 then s.setMachine i tv tick w n
    else if bit (s.cfg 0x0412 0 3 1) kind && decide (1 ≤ kind ∧ kind ≤ 4) then
      let p := s.entryEnu w
      let ext (n : Nat) : Option Nat := if hasExtent w then some n else none
      { s with plt.trk.meas := s.plt.trk.meas ++ [
        { src := i, kind := kind, tv := tv, tick := tick, phase := phase, x := p.getD 0 0, y := p.getD 1 0
          sig := max (half16 (g 12) false) (half16 (g 12) true), hdg := some (g 10)
          len := ext (half16 (g 11) false), wid := ext (half16 (g 11) true), conf := half16 (g 13) true
          birth := bit (s.cfg 0x0412 0 5 1) 0, world := true }] }
    else s) s

/-! ### The end of an update (R298 to R300, R304) -/

/-- R299: a source covers a position under a pose. -/
def State.covers (s : State) (i : Nat) (pose : List Int) (e n : Int) : Bool :=
  let h := pose.getD 6 0
  let de := e - pose.getD 0 0
  let dn := n - pose.getD 1 0
  let x := roundShift (de * sinMicro h + dn * cosMicro h) 30 - s.mount i 4
  let y := roundShift (dn * sinMicro h - de * cosMicro h) 30 - s.mount i 6
  let r : Int := 100 * s.cfg 0x0411 i 0x0E 2
  -- The bearing runs clockwise, MOUNT_YAW to the left.
  let off := arc (bearing (-y) x + 100 * s.mount i 0x0A)
  decide (x * x + y * y ≤ r * r) && decide ((off.natAbs : Int) ≤ 500 * s.cfg 0x0411 i 0x0C 2)

/-- R298 to R300: a local track at the end of an update; the free value is the reason of an unconfirmed track, which no
rule names. -/
def State.ageTrack (s : State) (heard : List Nat) (pose : Option (List Int)) (tvn : Int) (t : Track) : Track × State :=
  if t.kind = 5 || !t.live then (t, s)
  else
    let o := trackReport t.kind (s.predict t tvn)
    let hit := bit t.hist 0
    let seen := heard.any fun i => bit (s.cfg 0x0411 i 1 1) t.kind &&
      (match pose with
        | some q => s.covers i q (o.getD 0 0) (o.getD 1 0)
        | none => false)
    let fast := (t.kind == 1 || t.kind == 2) && decide (500 < o.getD 5 0)
    let t := { t with
      misses := if hit then 0 else if seen then min 255 (t.misses + 1) else t.misses
      hdg := if fast then o.getD 4 0 else t.hdg }
    let confN := s.cfg 0x0410 0 4 1
    let t := if t.state = 1 && decide (s.cfg 0x0410 0 3 1 ≤ ones t.hist confN) then { t with state := 2 } else t
    if s.cfg 0x0410 0 5 1 ≤ t.misses then (t.delete 0, s)
    else if (s.cfg 0x0410 0 0x0C 4 : Int) < max (o.getD 6 0) (o.getD 7 0) then (t.delete 1, s)
    else if t.state = 1 && decide (confN ≤ t.lived) then
      let (why, s) := s.free 2
      (t.delete why, s)
    else (t, s)

/-- A track entry (Table 8.3) at the update's validity. -/
def State.trackBytes (s : State) (t : Track) (tvn : Int) : List Nat :=
  let o := trackReport t.kind (s.predict t tvn)
  let g (k : Nat) : Int := o.getD k 0
  let mask := if t.kind = 5 then 0 else (t.srcs.take (s.cfg 0x0410 0 4 1)).foldl (· ||| ·) 0
  leBytes 2 t.id ++ [t.kind, t.state] ++ leBytes 2 t.flags ++ leBytes 2 t.hist ++ [min 255 t.misses, t.peer] ++
    leBytes 2 t.remote ++ leBytes 4 t.birth ++ leBytes 8 (ofInt 64 t.tLast) ++
    leBytes 4 (ofInt 32 (satS 32 (g 0))) ++ leBytes 4 (ofInt 32 (satS 32 (g 1))) ++ leBytes 4 (ofInt 32 t.u) ++
    leBytes 2 (ofInt 16 (satS 16 (g 2))) ++ leBytes 2 (ofInt 16 (satS 16 (g 3))) ++ leBytes 4 (t.hdg % 6283185).toNat ++
    leBytes 2 t.len ++ leBytes 2 t.wid ++ ((List.range 3).flatMap fun k => leBytes 2 (min 65535 (g (6 + k)).toNat)) ++
    leBytes 2 t.conf ++ leBytes 8 mask

/-- R304: the track list is written into the buffer not released last, and released. Tracks born by evictions, the last in the
table, wait for the next list where 256 entries are used, and so does one of them that is deleted before it. -/
def State.writeTracks (s : State) (n used : Nat) : State :=
  let tvn := s.tickMt n
  let vs := s.vsStAt n
  let ts := sortBy (fun a b => decide (a.id ≤ b.id)) (s.plt.trk.tracks.take 256)
  let cur := 1 - s.get R.PLT_TRK_BUF_HI_CUR
  let flags := b2n (vs != 1 && vs != 2) + 2 * b2n (s.plt.steps.any fun e => decide (n < e.1))
  let hdr := leBytes 8 (ofInt 64 (tvn - s.stepsAfter n)) ++ leBytes 4 n ++ leBytes 2 s.plt.trk.seq ++
    leBytes 2 ts.length ++ leBytes 2 (ts.filter fun t => t.state == 2).length ++ leBytes 2 flags ++
    leBytes 2 (s.get R.PLT_TRK_STAT_NEXT_ID) ++ [0, 0] ++ leBytes 4 used ++ leBytes 4 s.plt.trk.oos ++
    List.replicate 32 0
  let body := (ts.map fun t => s.trackBytes t tvn).flatten ++ List.replicate (64 * (256 - ts.length)) 0
  let s := (s.ringWrite (0x12 + cur) 0 (hdr ++ body)).put R.PLT_TRK_BUF_HI_CUR cur
  (s.modTrk fun k => { k with
    tracks := (k.tracks.take 256).filter Track.live ++ k.tracks.drop 256, seq := (k.seq + 1) % 65535, oos := 0, last := some n, listed := some n }).trkUsed

/-- TRACK_UPDATE (R294, R295): at the release edge of an update its list is written; an update that has not finished by
its deadline is missed, and its measurements go into the next. -/
def execTrackUpdate (done : Bool) (s : State) : Out :=
  let d := s.cfg 0x0410 0 2 1
  let n := s.chr.tick - d
  let due := s.plt.up && s.has 0x0410 0 && !s.flag R.PLT_CTL_STOP && decide (d ≤ s.chr.tick) &&
    n % 2 ^ s.cfg 0x0410 0 0 1 == s.cfg 0x0410 0 1 1 && s.plt.trk.last != some n
  if !due then .next s
  else if !done && s.plt.trk.fin != some n then
    let (x, s) := s.free 32
    .next ((State.bump { s with plt.trk.last := some n } R.PLT_CNT_MISSED_VALUE).raise 51 [x, n % 2 ^ 32])
  else
    let s := s.stageDone 3 n
    let tvn := s.tickMt n
    let cut := s.cfg 0x0410 0 6 2
    let inTime (tick phase : Nat) : Bool :=
      decide (tick < n + d - 1) || (tick == n + d - 1 && decide (phase ≤ cut))
    let fl := s.plt.trk.fleet.partition fun f => inTime f.2.2.1 f.2.2.2.1
    let s := s.modTrk fun k => { k with fleet := fl.2 }
    let s := fl.1.foldl (fun s f => s.takeFleet n f) s
    let ms := s.plt.trk.meas.partition fun m => inTime m.tick m.phase
    let ord (a b : Meas) : Bool := decide (a.tv < b.tv) || (a.tv == b.tv && decide (a.src ≤ b.src))
    let sorted := sortBy ord ms.1
    let take := sorted.take (s.cfg 0x0410 0 8 2)
    let heard := ((s.plt.trk.heard.filter fun h => inTime h.2.1 h.2.2).map (·.1)).eraseDups
    let s := s.modTrk fun k => { k with
      meas := sorted.drop (s.cfg 0x0410 0 8 2) ++ ms.2
      heard := k.heard.filter fun h => !inTime h.2.1 h.2.2
      tracks := k.tracks.map fun t => { t with
        hist := 2 * t.hist % 65536, srcs := (0 :: t.srcs).take 16, lived := t.lived + 1 } }
    let (s, used) := take.foldl (fun (s, u) m => match State.toWorld s m with
      | some w => let (s, ok) := State.associate s w n 600 []; (s, if ok then u + 1 else u)
      | none => (State.trkOos s, u)) (s, 0)
    let pose := s.poseAt tvn
    let s := s.plt.trk.tracks.foldl (fun s t =>
      let (t', s) := s.ageTrack heard pose tvn t
      s.modTrk fun k => { k with tracks := k.tracks ++ [t'] }) (s.modTrk fun k => { k with tracks := [] })
    .next (s.writeTracks n used)

/-! ### The fleet (R305, R306, R508) -/

/-- A fleet entry from a track (R305): the layout of Table 8.3 with GEO. -/
def State.shareBytes (s : State) (t : Track) (tvn : Int) : List Nat :=
  let o := trackReport t.kind (s.predict t tvn)
  let p := (toWgs s.originNano [o.getD 0 0, o.getD 1 0, t.u]).zipWith (fun x d => roundDiv x d) [100, 100, 1]
  let b := s.trackBytes { t with flags := t.flags ||| 32, tLast := tvn } tvn
  b.take 0x18 ++ ((List.range 3).flatMap fun k => leBytes 4 (ofInt 32 (p.getD k 0))) ++ b.drop 0x24

/-- The module's own entry: KIND = MACHINE, SELF, GEO, from the latest vehicle-state record. -/
def State.selfTrack (s : State) : Track :=
  let w := ((s.plt.poses.head?).map (·.w)).getD []
  let g (k : Nat) : Int := w.getD k 0
  { id := 0, kind := 5, state := 2, flags := 0x40, hist := 0, hdg := g 6, u := g 12
    est := [g 0, g 1, g 2, g 3, g 10, g 11, 0], tEst := ((s.plt.poses.head?).map (·.tv)).getD 0 }

/-- FLEET_SHARE (R305): the message the module sends every SHARE_T ticks. -/
def execFleetShare (s : State) : Out :=
  let period := s.cfg 0x0412 0 0 2
  let due := match s.plt.trk.sharedAt with
    | some t => decide (t + period ≤ s.chr.tick)
    | none => true
  if !s.plt.up || !s.has 0x0412 0 || period == 0 || !due then .next s
  else
    let tvn := s.tickMt (s.plt.trk.listed.getD s.chr.tick)
    let me := s.selfTrack
    let own := s.predict me tvn
    let dist (t : Track) : Int :=
      let o := trackReport t.kind (s.predict t tvn)
      (o.getD 0 0 - own.getD 0 0) ^ 2 + (o.getD 1 0 - own.getD 1 0) ^ 2
    let ts := sortBy (fun a b => decide (dist a ≤ dist b)) (s.plt.trk.tracks.filter fun t =>
      t.state == 2 && t.kind != 5 && bit (s.cfg 0x0412 0 2 1) t.kind)
    .next (s.modTrk fun k => { k with
      shared := ((me :: ts).take 64).map fun t => s.shareBytes t tvn, sharedAt := some s.chr.tick })

/-- R508: the kind 0x09 sources of the peer at an address. -/
def State.peerSrcs (s : State) (addr : Nat) : List Nat :=
  s.sources.filter fun i =>
    s.srcB i 0 1 == 9 && s.has 0x0F01 (s.srcB i 2 2) && s.ipField 0x0F01 (s.srcB i 2 2) 0 == addr

/-- The peer records that name an address. -/
def State.peerKnown (s : State) (addr : Nat) : Bool :=
  (List.range 32).any fun p => s.has 0x0F01 p && s.ipField 0x0F01 p 0 == addr

/-- R306: a peer has sent a SELF entry: the silence of its MACHINE track ends as it arrives. -/
def State.heardSelf (s : State) (i : Nat) : State :=
  s.modTrk fun k => { k with tracks := k.tracks.map fun t => if t.kind == 5 && t.peer == i then { t with quiet := 0 } else t }

/-- FLEET_MESSAGE (R306, R508): a message of a known peer is a sample of its source; a second copy is discarded. -/
def execFleetMessage (f : FleetMsg) (s : State) : Out :=
  let s := match f.stamp with
    | some x => s.takeStamp (ptEth (if (s.stampQ (ptEth 0 0)).stamps.head? = some x then 0 else 1) 0)
    | none => s
  let a := f.addr.toNat
  if !s.peerKnown a then .next (s.bump R.HSI_CNT1_FLEET_DROP)
  else if s.hsi.fleetSeq.contains (a, f.seq) then .next (s.bump R.HSI_CNT1_FLEET_DUP)
  else
    let s := { s with hsi.fleetSeq := (s.hsi.fleetSeq.filter fun e => e.1 != a) ++ [(a, f.seq)] }
    let words := f.entries.flatMap fun e => (List.range 16).map fun k => toInt 32 (leNat ((e.drop (4 * k)).take 4))
    let tau := leNat (((f.entries.headD []).drop 0x10).take 8)
    let self := f.entries.any fun e => bit (natAt e 4 2) 6
    .next ((State.peerSrcs s a).foldl (fun s i =>
      ((if self then s.heardSelf i else s).modSrc i fun c => { c with peerTai := f.tai }).ingestFree i tau f.stamp words) s)

/-- FLEET_FRAGMENT_TIMEOUT (R508): an incomplete message is counted. -/
def execFleetFragmentTimeout (_addr : BitVec 32) (s : State) : Out := .next (s.bump R.HSI_CNT1_FLEET_DROP)

/-- MACHINE_TRACK_TIMEOUT (R306). -/
def execMachineTrackTimeout (src : Fin 64) (s : State) : Out :=
  let due (t : Track) : Bool :=
    t.kind == 5 && t.peer == src.val && t.live && decide (s.cfg 0x0412 0 6 2 ≤ t.quiet)
  if s.plt.trk.tracks.any due then
    .next ((s.modTrk fun k => { k with tracks := k.tracks.map fun t => if due t then t.delete 2 else t }).raise 57
      [src, 1])
  else .next s

/-- PLT_TRK_CNT_READ (R327). -/
def execPltTrkCntRead (s : State) : Out :=
  .next (({ s with rdata := s.get R.PLT_TRK_CNT_REFUSED * 2 ^ 16 + s.get R.PLT_TRK_CNT_OOS } : State).puts
    [(R.PLT_TRK_CNT_REFUSED, 0), (R.PLT_TRK_CNT_OOS, 0)])

end Sys2Proof.Machine
end

