-- ==== Sys2Proof/Machine/Yield.lean ====
section
/-! DEFINITION. The yield stage: mass flow, cells, tiles, tank loads and the live calibration (Plotter: Tracks, Yield
Mapping and Live Calibration). Masses are exact rationals in kg until a register or a record takes them. -/

namespace Sys2Proof.Machine

def State.modYld (s : State) (f : Yld → Yld) : State := { s with plt.yld := f s.plt.yld }

/-- Fields of the YIELD and TANK bodies (Table 8.10). -/
def State.yB (s : State) (off n : Nat) : Nat := s.cfg 0x0420 0 off n
def State.tB (s : State) (off n : Nat) : Nat := s.cfg 0x0421 0 off n

/-- A rational rounded to the nearest integer, ties away from zero. -/
def roundQ (q : Rat) : Int := roundDiv q.num q.den

/-- A quantity in a field of `w` bits, saturating. -/
def fitQ (w : Nat) (q : Rat) : Nat := min (2 ^ w - 1) (roundQ q).toNat

/-- A signed Q15.16 field. -/
def q16 (i : Int) : Rat := (i : Rat) / 65536

/-- A rational held within bounds. -/
def clampQ (lo hi q : Rat) : Rat := max lo (min hi q)

/-- The yield step is tick `n`'s; samples ingested by its cut-off (R307). -/
def State.yieldHist (s : State) (n i : Nat) : List Sample :=
  let d := s.yB 2 1
  (s.src i).hist.filter fun x =>
    decide (x.tick < n + d - 1) || (x.tick == n + d - 1 && decide (x.phase ≤ s.yB 4 2))

/-- A selected field (IP_SRC and its like) at a time; none when it is invalid or not declared. -/
def State.yieldField (s : State) (n sel : Nat) (tv : Int) : Option Int :=
  if sel = 0xFFFF then none
  else
    let i := bits sel 8 6
    (s.fieldAt i (bits sel 0 8) (s.yieldHist n i) tv).map (·.1)

/-- MT units of a number of milliseconds. -/
def msMt (ms : Nat) : Int := 800000 * (ms : Int)

/-! ### Mass flow (R309 to R311) -/

/-- The impact-plate flow, kg/s. -/
def State.flowIp (s : State) (n : Nat) (tv : Int) : Option Rat :=
  let g (off : Nat) : Rat := q16 (s.cfgI 0x0420 0 off 4)
  let elev : Option Rat := if s.yB 0x16 2 = 0xFFFF then some 1
    else match s.yieldField n (s.yB 0x16 2) tv with
      | some f => if f = 0 then none else some ((s.yB 0x28 4 : Rat) / f)
      | none => none
  match s.yieldField n (s.yB 0x14 2) tv, elev with
  | some f, some e => some (g 0x24 * (g 0x1C * f - g 0x20) * e)
  | _, _ => none

/-- The two flows joined (R309). -/
def State.flowRaw (s : State) (ip cam : Option Rat) : Option Rat :=
  let a : Rat := (s.yB 0x2E 2 : Rat) ^ 2
  let b : Rat := (s.yB 0x30 2 : Rat) ^ 2
  match ip, cam with
  | some x, some y => some (max 0 ((b * x + a * y) / (a + b)))
  | some x, none => some (max 0 x)
  | none, some y => some (max 0 y)
  | none, none => none

/-- A validity that changes raises its event (EV062, EV063). -/
def State.yldInv (s : State) (i code param : Nat) (bad : Bool) : State :=
  if s.plt.yld.inv.contains i = bad then s
  else
    (s.modYld fun y => { y with inv := if bad then y.inv ++ [i] else y.inv.filter (· != i) }).raise code
      [param, if bad then 0 else 1]

/-! ### Tiles (R313 to R315) -/

/-- The map position of a point: tile column and row, and the map cell. -/
def State.gridAt (s : State) (e n : Int) : Int × Int × Nat :=
  let g : Int := 10 * max 1 (s.yB 8 2)
  let x := e / g
  let y := n / g
  (x / 256, y / 256, ((y % 256) * 256 + x % 256).toNat)

/-- PLT_TILES follows the store. -/
def State.tilesCount (s : State) : State :=
  let ts := s.plt.yld.tiles.filterMap id
  s.puts [(R.PLT_TILES_USED, ts.length), (R.PLT_TILES_DIRTY, (ts.filter (·.dirty)).length)]

/-- The slot of a tile: its own, a free one, or that of the clean tile with the oldest T_LAST (R314). -/
def State.tileSlot (s : State) (te tn : Int) : Option Nat :=
  let ts := s.plt.yld.tiles
  match ts.findIdx? fun t => t.any fun t => t.te == te && t.tn == tn with
  | some i => some i
  | none =>
    if ts.length < s.yB 0x0A 2 then some ts.length
    else
      (ts.zipIdx.foldl (fun o (t, i) => match t, o with
        | some t, some (j, l) => if !t.dirty && decide (t.tLast < l) then some (i, t.tLast) else some (j, l)
        | some t, none => if t.dirty then none else some (i, t.tLast)
        | none, o => o) (none : Option (Nat × Int))).map (·.1)

/-- A map cell takes mass: `dw`, `dd`, `da` are the changes of WET, DRY (g) and AREA (cm²). -/
def MapCell.add (m : MapCell) (dw dd : Int) (da moist flags : Nat) (new corrected : Bool) : MapCell :=
  let w := (m.wet : Int) + dw
  let n := if new then m.cells + 1 else m.cells
  let c := if corrected then m.corr + 1 else m.corr
  { m with
    wet := min (2 ^ 32 - 1) w.toNat
    dry := min (2 ^ 32 - 1) ((m.dry : Int) + dd).toNat
    area := min (2 ^ 32 - 1) (m.area + da)
    moist := if w ≤ 0 then m.moist else (roundDiv (m.moist * m.wet + moist * dw) w).toNat
    cells := n, corr := c
    flags := (clearBits m.flags 1 ||| (if n = c then 1 else 0)) ||| (if bit flags 0 then 4 else 0) |||
      (if bit flags 1 || bit flags 2 then 8 else 0) }

/-- R315: a change reaches the map cell of a centroid; with no slot the deposit is dropped. -/
def State.deposit (s : State) (c : CellRec) (dw dd : Int) (da : Nat) (new corrected : Bool) : State :=
  let (te, tn, idx) := s.gridAt c.e c.n
  match s.tileSlot te tn with
  | none => (s.bump R.PLT_YLD_CNT_TDROP).raise 61 [ofInt 32 te, ofInt 32 tn]
  | some i =>
    let here : Tile := match (s.plt.yld.tiles.getD i none) with
      | some t => if t.te = te ∧ t.tn = tn then t else { te := te, tn := tn, tFirst := c.tStart }
      | none => { te := te, tn := tn, tFirst := c.tStart }
    let old := (here.map.find? fun m => m.idx == idx).getD { idx := idx }
    let m := old.add dw dd da c.moist c.flags new corrected
    let t := { here with
      rev := here.rev + 1, cells := if new then here.cells + 1 else here.cells, dirty := true
      tLast := if new then c.tStart else here.tLast
      map := m :: here.map.filter fun x => x.idx != idx }
    let ts := s.plt.yld.tiles
    (s.modYld fun y => { y with tiles := if i < ts.length then ts.set i (some t) else ts ++ [some t] }).tilesCount

/-! ### Cells (R308, R312, R320) -/

/-- The cell queue takes a record (R280, Table 8.4). -/
def State.queueCell (s : State) (c : CellRec) : State :=
  let w := s.get R.PLT_CELLQ_WIDX_VALUE
  let bs := leBytes 8 (ofInt 64 c.tStart) ++ leBytes 4 c.dur ++ leBytes 4 c.no ++ leBytes 2 c.load ++ [c.seg, c.flags] ++
    leBytes 4 (ofInt 32 c.e) ++ leBytes 4 (ofInt 32 c.n) ++ leBytes 2 c.len ++ leBytes 2 c.wid ++ leBytes 4 c.area ++
    leBytes 4 c.wet ++ leBytes 4 c.dry ++ leBytes 2 c.moist ++ leBytes 2 c.speed ++ leBytes 4 c.cal ++ leBytes 4 c.f ++
    leBytes 2 c.rev ++ leBytes 2 s.plt.yld.cellSeq ++ [0, 0, 0, 0]
  ((s.ringWrite 0x10 (w % 2 ^ s.yB 0x3A 1) bs).put R.PLT_CELLQ_WIDX_VALUE (w + 1)).modYld fun y =>
    { y with cellSeq := (y.cellSeq + 1) % 65536 }

/-- R320: WET and DRY multiplied by F / CAL. -/
def CellRec.correct (c : CellRec) (f : Rat) : CellRec :=
  let k : Rat := if c.cal = 0 then 1 else f * 2 ^ 24 / c.cal
  { c with
    wet := fitQ 32 (c.wet * k), dry := fitQ 32 (c.dry * k), f := fitQ 32 (f * 2 ^ 24), flags := c.flags ||| 32 }

/-- The record of a closed cell. -/
def State.cellRec (s : State) (c : YCell) : CellRec :=
  let m : Rat := if c.wet = 0 then s.plt.yld.moist else c.moist / c.wet
  let d : Rat := if c.dist = 0 then 1 else c.dist
  let width := c.wid
  { tStart := c.tStart, dur := (roundDiv (c.tEnd - c.tStart) 800000).toNat, no := c.no, load := c.load, seg := c.seg
    flags := c.flags, e := roundQ ((if c.dist = 0 then (c.posE : Rat) else c.sumE / d) / 1000)
    n := roundQ ((if c.dist = 0 then (c.posN : Rat) else c.sumN / d) / 1000)
    len := fitQ 16 ((c.dist : Rat) / 10000), wid := fitQ 16 (width / 10)
    area := fitQ 32 ((c.dist : Rat) * width / 100000)
    wet := fitQ 32 (c.wet * 1000)
    dry := fitQ 32 (c.wet * 1000 * (10000 - m) / (10000 - s.yB 0x36 2))
    moist := fitQ 16 m, speed := fitQ 16 ((c.speed : Rat) / max 1 c.steps)
    cal := fitQ 32 ((if c.wet = 0 then s.plt.yld.cal else c.calW / c.wet) * 2 ^ 24), f := 2 ^ 24, rev := 0 }

/-- The map cells that deposited cells fell into. -/
def State.spotsOf (s : State) (l : List CellRec) : List (Int × Int × Nat) :=
  ((l.filter (·.dep)).map fun c => s.gridAt c.e c.n).eraseDups

/-- Tables 8.5 and 8.6, R314: map cells of a load that closed uncorrected; a tile that changes takes the next REV and is dirty. -/
def State.markUncorrected (s : State) (spots : List (Int × Int × Nat)) : State :=
  let hit (t : Tile) (m : MapCell) : Bool := spots.contains (t.te, t.tn, m.idx) && !bit m.flags 1
  let mark (t : Tile) : Tile :=
    if t.map.any (hit t) then
      { t with rev := t.rev + 1, dirty := true, map := t.map.map fun m => if hit t m then { m with flags := m.flags ||| 2 } else m }
    else t
  (s.modYld fun y => { y with tiles := y.tiles.map fun t => t.map mark }).tilesCount

/-- R319: the load that was open at a time. -/
def State.loadAt (s : State) (t : Int) : Nat :=
  match s.plt.yld.loads.find? fun l => decide (l.2 ≤ t) with
  | some l => l.1
  | none => ((s.plt.yld.loads.getLast?).map (·.1)).getD s.plt.yld.loadNo

/-- R312: a closed cell is queued, and deposited unless it has no position; the open load keeps it for a correction. -/
def State.releaseCell (s : State) (c : YCell) : State :=
  let r := s.cellRec c
  let was := (s.plt.yld.closed.find? fun e => e.1 == r.load).map (·.2)
  let (r, fixed) := match was with
    | some (some f) => (r.correct f, true)
    | _ => (r, false)
  let r := { r with dep := !bit r.flags 3 && s.mode == mFIELD }
  let s := s.queueCell r
  let s := if r.dep then s.deposit r r.wet r.dry r.area true fixed else s
  let s := if r.dep && was == some none then s.markUncorrected (s.spotsOf [r]) else s
  match s.plt.yld.load with
  | some l =>
    if fixed || r.load != s.plt.yld.loadNo then s
    else
      let full := decide (65536 ≤ l.cells.length)
      s.modYld fun y => { y with load := some { l with
        cells := if full then l.cells else l.cells ++ [r], overflow := l.overflow || full
        spots := if full then (l.spots ++ s.spotsOf [r]).eraseDups else l.spots
        count := l.count + 1, area := l.area + r.area, moist := l.moist + r.moist * r.wet, wet := l.wet + r.wet } }
  | none => s

/-- What a step gives every segment: cut time, pose at the cut, mass per active segment with the CAL that formed it, moisture,
flags. -/
structure StepIn where
  tc : Int
  pose : Option (List Int)
  vsOk : Bool
  mass : Rat
  cal : Rat
  moist : Rat
  flags : Nat
  dt : Nat

/-- R312: the flags of a cell after one more step: NO_POS, set as it opens, stays unless a step has a vehicle state that is ALIGNED or
DEAD_RECKONING. -/
def StepIn.cellFlags (i : StepIn) (flags : Nat) : Nat :=
  let m := flags ||| i.flags
  if i.vsOk && i.pose.isSome then clearBits m 8 else m

/-- The width of a segment, mm: HDR_W / NSEG. -/
def State.segWidth (s : State) : Rat := (s.yB 0x0C 4 : Rat) / max 1 (s.yB 3 1)

/-- The centre of a segment on the ground in µm (R307): segment 0 at the left end. -/
def State.segPos (s : State) (k : Nat) (pose : List Int) : Int × Int :=
  let w : Int := 1000 * s.yB 0x0C 4
  let n : Int := max 1 (s.yB 3 1)
  let um := [1000 * pose.getD 0 0, 1000 * pose.getD 1 0] ++ pose.drop 2
  bodyToEnu um (1000 * s.cfgI 0x0420 0 0x10 4) (roundDiv (w * (n - 1 - 2 * k)) (2 * n))

/-- A cell opens (R308): with the step's mass, unless a cell that closes at the step has taken it. -/
def State.openCell (s : State) (k : Nat) (i : StepIn) (first : Bool) : State :=
  match i.pose with
  | none => s
  | some q =>
    if q.getD 9 0 < 100 then s
    else
      let (e, n) := s.segPos k q
      let c : YCell := { seg := k, tStart := i.tc, tEnd := i.tc, load := s.loadAt i.tc, no := s.plt.yld.cellNo
                         hdg0 := q.getD 6 0, posE := e, posN := n, wid := s.segWidth, flags := 8 }
      let c := if first then { c with
          wet := i.mass, moist := i.mass * i.moist, calW := i.mass * i.cal, speed := q.getD 9 0, steps := 1
          flags := i.cellFlags c.flags } else c
      s.modYld fun y => { y with segs := y.segs.set k (some c), cellNo := (y.cellNo + 1) % 2 ^ 32 }

/-- One step of a segment (R308): its cell grows, closes, opens. -/
def State.stepSeg (s : State) (k : Nat) (active : Bool) (i : StepIn) : State :=
  match s.plt.yld.segs.getD k none with
  | none => if active then s.openCell k i true else s
  | some c =>
    let q := i.pose.getD []
    let (e, n) := match i.pose with
      | some q => s.segPos k q
      | none => (c.posE, c.posN)
    let d := isqrt ((e - c.posE) ^ 2 + (n - c.posN) ^ 2).toNat
    -- Without a pose neither the speed nor the heading is known.
    let slow := if i.pose.isNone then c.slow else if q.getD 9 0 < 100 then c.slow + i.dt else 0
    let mass : Rat := if active then i.mass else 0
    let c := { c with
      tEnd := i.tc, dist := c.dist + d, posE := e, posN := n
      sumE := c.sumE + (e : Rat) * d, sumN := c.sumN + (n : Rat) * d
      wet := c.wet + mass, moist := c.moist + mass * i.moist, calW := c.calW + mass * i.cal
      speed := c.speed + q.getD 9 0, steps := if i.pose.isSome then c.steps + 1 else c.steps, slow := slow
      flags := i.cellFlags c.flags }
    let long := decide (10000 * s.yB 6 2 ≤ c.dist)
    let turned := i.pose.isSome && decide (500000 < (arc (q.getD 6 0 - c.hdg0)).natAbs)
    if long || !active || turned || decide (50000 ≤ slow) then
      let c := { c with flags := c.flags ||| (if long then 0 else 1) }
      let s := (s.modYld fun y => { y with segs := y.segs.set k none }).releaseCell c
      if active then s.openCell k i false else s
    else s.modYld fun y => { y with segs := y.segs.set k (some c) }

/-! ### Calibration windows (R317, R318) -/

/-- The steps with validity in a closed interval. -/
def State.stepsIn (s : State) (a b : Int) : List YStep :=
  s.plt.yld.steps.filter fun x => decide (a ≤ x.tv ∧ x.tv ≤ b)

/-- The step of the greatest validity. -/
def latestStep (l : List YStep) : Option YStep :=
  l.foldl (fun o x => match o with
    | some y => if x.tv < y.tv then o else some x
    | none => some x) none

/-- The mean of a list; 0 of none. -/
def meanQ (l : List Rat) : Rat := if l = [] then 0 else l.sum / l.length

/-- M̄ of R316 at a time. -/
def State.meanM (s : State) (t : Int) : Rat :=
  let h := msMt (s.tB 0x24 2) / 2
  meanQ ((s.stepsIn (t - h) (t + h)).map fun x => x.m.getD 0)

/-- I of R317. -/
def State.sumRaw (s : State) (t0 t1 : Int) : Rat :=
  let d := msMt (s.tB 0x22 2)
  ((s.stepsIn (t0 - d) (t1 - d)).map (·.raw)).sum

/-- R318, Table 8.7: the reason of the first condition that fails; `ended` when the window has run its whole course, `closed` when
the load closed first. While it is open, AZ and M are judged by the steps so far (PLT_YLD_STAT.WIN_OK), I only at its end. Outside FIELD, where the steps integrate no mass, the reason is that of R307, 8, and not the want of
mass. -/
def State.windowReason (s : State) (t0 t1 : Int) (ended closed : Bool) : Option Nat :=
  let h := msMt (s.tB 0x24 2) / 2
  let inWin := s.stepsIn t0 t1
  let wide := s.stepsIn (t0 - h) (t1 + h)
  let back := s.stepsIn (t0 - msMt (1000 * s.tB 0x26 2)) (t1 + h)
  let d := msMt (s.tB 0x22 2)
  let az : Rat := (s.tB 0x2A 2 : Rat) / 256
  if back.any (·.unloading) then some 0
  else if inWin.any fun x => !x.tilt then some 1
  else if !closed && decide (az ^ 2 < meanQ (inWin.map fun x => x.az ^ 2)) then some 2
  else if (wide.any fun x => x.m.isNone) || (!closed && (decide (s.meanM t0 < s.tB 0x2C 2) ||
      decide ((s.tB 0x2E 2 : Rat) < s.meanM t1))) then some 3
  else if inWin.any fun x => !x.vsOk then some 4
  else if (s.stepsIn (t0 - d) (t1 - d)).any (·.flowInv) then some 5
  else if ended && inWin.all (·.field) && decide (s.sumRaw t0 t1 < s.tB 0x30 2) then some 6
  else if closed then some 7
  else if inWin.any fun x => !x.field then some 8
  else none

/-- A rejected window (R317). -/
def State.rejectWindow (s : State) (why : Nat) : State :=
  (s.bump R.PLT_YLD_CNT_WREJ).raise 58 [why, s.plt.yld.loadNo]

/-- CAL in UQ8.24, in force and in its register. -/
def State.setCal (s : State) (c : Rat) : State :=
  let v := fitQ 32 (c * 2 ^ 24)
  (s.modYld fun y => { y with cal := (v : Rat) / 2 ^ 24 }).put R.PLT_YLD_CAL_VALUE v

/-- The length of a window, MT units. -/
def State.winLen (s : State) : Int := msMt (1000 * s.tB 0x20 2)

/-- R317: a window that has run its course is accepted or rejected. -/
def State.endWindow (s : State) (tv : Int) : State :=
  match s.plt.yld.load with
  | none => s
  | some l =>
    let t0 := s.plt.yld.t0
    let t1 := t0 + s.winLen
    if tv < t1 + msMt (s.tB 0x24 2) / 2 then s
    else
      let s := s.modYld fun y => { y with t0 := t1 }
      match s.windowReason t0 t1 true false with
      | some why => s.rejectWindow why
      | none =>
        let i := s.sumRaw t0 t1
        let dm := s.meanM t1 - s.meanM t0
        let cal := s.plt.yld.cal
        let g : Rat := (s.tB 0x32 2 : Rat) / 65536
        let step : Rat := (s.tB 0x34 2 : Rat) / 65536 * cal
        let want := g * (dm / i - cal)
        let move := clampQ (-step) step want
        let lo : Rat := (s.tB 0x38 2 : Rat) / 4096
        let hi : Rat := (s.tB 0x3A 2 : Rat) / 4096
        let s := (s.modYld fun y => { y with load := some { l with
          sumI := l.sumI + i, sumM := l.sumM + dm, windows := l.windows + 1 } }).setCal (clampQ lo hi (cal + move))
        let now := s.get R.PLT_YLD_CAL_VALUE
        let s := if move = want then s else s.raise 59 [0, now]
        if clampQ lo hi (cal + move) = cal + move then s else s.raise 59 [1, now]

/-! ### Loads (R319 to R321) -/

/-- The windows in progress are rejected at a close (R318 condition 7). -/
def State.rejectOpen (s : State) (tv : Int) : (fuel : Nat) → State
  | 0 => s
  | fuel + 1 =>
    let t0 := s.plt.yld.t0
    if tv ≤ t0 then s
    else
      let s := s.rejectWindow ((s.windowReason t0 (min tv (t0 + s.winLen)) false true).getD 7)
      (s.modYld fun y => { y with t0 := t0 + max 1 s.winLen }).rejectOpen tv fuel

/-- R320: one cell of a corrected load. -/
def State.correctCell (s : State) (f : Rat) (c : CellRec) : State :=
  let d := { c.correct f with rev := 1 }
  let s := s.queueCell d
  if !c.dep then s
  else s.deposit d ((d.wet : Int) - c.wet) ((d.dry : Int) - c.dry) 0 false true

/-- R319 to R321: the open load closes at `tv`: its report is written, its close work goes to the fabric. -/
def State.closeLoad (s : State) (tv : Int) (byCmd : Bool) : State :=
  match s.plt.yld.load with
  | none => s
  | some l0 =>
    let s := s.rejectOpen tv 4
    let l := s.plt.yld.load.getD l0
    let f : Rat := if l.sumI = 0 then 1 else l.sumM / l.sumI
    let frac : Rat := if l.raw = 0 then 0 else l.sumI / l.raw
    let enough := decide ((s.tB 0x36 2 : Rat) / 65536 ≤ frac) && decide (3 ≤ l.windows)
    let ok := enough && !l.overflow
    let flags := b2n ok + 2 * b2n (!enough) + 4 * b2n l.overflow + 8 * b2n byCmd + 16 * b2n (decide (l.steps < 2 * l.inv))
    let (fx, s) := if l.sumI = 0 then s.free 32 else (fitQ 32 (f * 2 ^ 24), s)
    let no := s.plt.yld.loadNo
    let bs := leBytes 8 (ofInt 64 l.tOpen) ++ leBytes 8 (ofInt 64 tv) ++ leBytes 2 no ++ leBytes 2 flags ++
      leBytes 4 l.count ++ leBytes 4 (fitQ 32 (l.raw * 1000)) ++ leBytes 4 (fitQ 32 (l.mapped * 1000)) ++
      leBytes 4 (fitQ 32 (l.sumI * 1000)) ++ leBytes 4 (fitQ 32 (l.sumM * 1000)) ++ leBytes 4 fx ++
      leBytes 2 (fitQ 16 (frac * 65536)) ++ leBytes 2 (min 65535 l.windows) ++
      leBytes 4 (s.get R.PLT_YLD_CAL_VALUE) ++ leBytes 4 (min (2 ^ 32 - 1) l.area) ++
      leBytes 2 (fitQ 16 (if l.wet = 0 then 0 else l.moist / l.wet)) ++ [0, 0, 0, 0] ++ leBytes 2 s.plt.yld.loadSeq
    let w := s.get R.PLT_LOADQ_WIDX_VALUE
    let s := ((s.ringWrite 0x11 (w % 64) bs).put R.PLT_LOADQ_WIDX_VALUE (w + 1)).raise 60 [no, flags]
    let s := s.modYld fun y => { y with
      load := none, loadSeq := (y.loadSeq + 1) % 65536, closed := (no, if ok then some f else none) :: y.closed }
    let s := s.modYld fun y => { y with closing := y.closing ++ [⟨no, if ok then some f else none, l.cells, l.spots⟩] }
    (s.put R.PLT_YLD_STAT_LOAD_OPEN 0).offerJob { tag := 0, prod := 17, out := no, kind := 5, made := s.chr.tick }

/-- R320: the work of a load's close has run: the cells already released are corrected, or their map cells marked. -/
def State.closeWork (s : State) (no : Nat) : State :=
  match s.plt.yld.closing.find? fun c => c.no == no with
  | none => s
  | some c =>
    let s := s.modYld fun y => { y with closing := y.closing.filter fun c => c.no != no }
    match c.f with
    | some f => c.cells.foldl (fun s x => s.correctCell f x) s
    | none => s.markUncorrected (s.spotsOf c.cells ++ c.spots)

/-- PLOTTER_JOB_COMPLETE (R277): a job that an engine has taken leaves the fabric. -/
def execPlotterJobComplete (tag : Nat) (s : State) : Out :=
  let s := s.stageCuts
  match s.takenJob tag with
  | none => .next s
  | some j =>
    let s := ({ s with plt.quiet := 0, plt.stalled := false } : State).leaveFabric tag |>.jobRun j
    .next ((if j.kind = 5 then s.closeWork j.out else s).admitWaiting.jobsChanged)

/-- R319: a load opens; `next` when the number counts up. -/
def State.openLoad (s : State) (tv : Int) (next : Bool) : State :=
  let no := if next then (s.plt.yld.loadNo + 1) % 65536 else s.plt.yld.loadNo
  (s.modYld fun y => { y with load := some { tOpen := tv }, loadNo := no, loads := (no, tv) :: y.loads, t0 := tv }).puts
    [(R.PLT_YLD_STAT_LOAD, no), (R.PLT_YLD_STAT_LOAD_OPEN, 1)]

/-- R319, R322: the yield stage starts with the Plotter: CAL (that of before a Plotter reset, R291, else CAL0), ρ_b, and the first
load. -/
def State.yldStart (s : State) : State :=
  if !s.has 0x0420 0 then s
  else
    let kept := s.get R.PLT_YLD_CAL_VALUE
    let cal : Rat := clampQ ((s.tB 0x38 2 : Rat) / 4096) ((s.tB 0x3A 2 : Rat) / 4096)
      (((if kept = 0 then s.tB 0x3C 4 else kept : Nat) : Rat) / 2 ^ 24)
    ((s.modYld fun y => { y with rho := s.yB 0x2C 2 }).setCal cal).openLoad s.chr.base false

/-! ### The tank (R316) -/

/-- The load cells' sum, and the indices of the invalid ones. -/
def State.loadCells (s : State) (n : Nat) (tv : Int) : Rat × List Nat :=
  (List.range 4).foldl (fun (a, bad) k =>
    let sel := s.tB (2 * k) 2
    if sel = 0xFFFF then (a, bad)
    else match s.yieldField n sel tv with
      | some x => (a + q16 (s.cfgI 0x0421 0 (8 + 4 * k) 4) * x, bad)
      | none => (a, bad ++ [k])) (0, [])

/-- cos(ROLL) × cos(PITCH). -/
def tiltCos (pose : List Int) : Rat :=
  (fxCos (ofMicro (pose.getD 4 0)) : Rat) * fxCos (ofMicro (pose.getD 5 0)) / 2 ^ 120

/-- |ROLL| and |PITCH| within TILT_MAX. -/
def State.level (s : State) (pose : List Int) : Bool :=
  let m : Int := 1000 * s.tB 0x28 2
  decide ((pose.getD 4 0).natAbs ≤ m.toNat) && decide ((pose.getD 5 0).natAbs ≤ m.toNat)

/-- The vehicle state gives a position at the edge that begins a tick. -/
def State.vsOk (s : State) (n : Nat) : Bool := s.vsStAt n == 1 || s.vsStAt n == 2

/-- R312: unloading at a cut time: the unload state of the latest step by then. -/
def State.unloadedAt (s : State) (tc : Int) : Bool :=
  ((latestStep (s.plt.yld.steps.filter fun x => decide (x.tv ≤ tc))).map (·.unloading)).getD s.plt.yld.unloading

/-! ### The step (R307) -/

/-- YIELD_STEP (R307 to R317): at the release edge of a step; a step that has not finished is missed. -/
def execYieldStep (done : Bool) (s : State) : Out :=
  let d := s.yB 2 1
  let n := s.chr.tick - d
  let due := s.plt.up && s.has 0x0420 0 && !s.flag R.PLT_CTL_STOP && decide (d ≤ s.chr.tick) &&
    n % 2 ^ s.yB 0 1 == s.yB 1 1 && s.plt.yld.last != some n
  if !due then .next s
  else
    let s := s.modYld fun y => { y with last := some n }
    if !done && s.plt.yld.fin != some n then
      let (x, s) := s.free 32
      .next ((s.bump R.PLT_CNT_MISSED_VALUE).raise 51 [x, n % 2 ^ 32])
    else
      let s := s.stageDone 4 n
      let tv := s.tickMt n
      let tc := tv - msMt (s.yB 0x32 2)
      let dt : Rat := (2 ^ s.yB 0 1 : Nat) / 10000
      -- Flows (R309, R310).
      let ip := s.flowIp n tv
      let qv := s.yieldField n (s.yB 0x18 2) tv
      let cam := qv.map fun v => s.plt.yld.rho * v / 1000000
      let field := s.mode == mFIELD
      let raw := s.flowRaw ip cam
      let rawKg : Rat := if field then raw.getD 0 * dt else 0
      let cal := s.plt.yld.cal
      let mass := cal * rawKg
      let s := match ip, qv with
        | some x, some v =>
          if 1 ≤ x ∧ 0 < v then
            s.modYld fun y => { y with rho := y.rho + (x * 1000000 / v - y.rho) * dt / max 1 (s.yB 0x38 2) }
          else s
        | _, _ => s
      -- Moisture (R311).
      let ml := s.yieldField n (s.yB 0x1A 2) (tv + msMt (s.yB 0x34 2) - msMt (s.yB 0x32 2))
      let s := match ml with
        | some m => s.modYld fun y => { y with moist := m }
        | none => s
      let m := s.plt.yld.moist
      -- The tank (R316).
      let pose := s.poseAt tv
      let att := match pose with
        | some _ => bit (vsValid (s.vsStAt n)) 2
        | none => false
      let (sum, bad) := s.loadCells n tv
      let cos : Rat := if att then tiltCos (pose.getD []) else 1
      let tank : Option Rat := if att && bad.isEmpty && cos != 0 then
          some ((sum - (s.cfgI 0x0421 0 0x18 4 : Rat) / 1000) / cos) else none
      let word := s.mbx (s.tB 0x1C 4 % 2 ^ 20)
      let unl := !word.valid || word.val != 0
      -- Validity events.
      let s := s.yldInv 0 62 0 ip.isNone
      let s := if s.yB 0x18 2 = 0xFFFF then s else s.yldInv 1 62 1 qv.isNone
      let s := if s.yB 0x1A 2 = 0xFFFF then s else s.yldInv 2 62 2 ml.isNone
      let s := if s.yB 0x16 2 = 0xFFFF then s
        else s.yldInv 3 62 3 ((s.yieldField n (s.yB 0x16 2) tv).all (· == 0))
      let s := (List.range 4).foldl (fun s k => s.yldInv (8 + k) 63 k (bad.contains k)) s
      let s := s.yldInv 12 63 4 (!att)
      let s := match tank with
        | some x => s.put R.PLT_TANK_M_VALUE (ofInt 32 (satS 32 (roundQ (x * 1000))))
        | none => s
      let s := s.puts [(R.PLT_YLD_STAT_INV, b2n ip.isNone + 2 * b2n (s.plt.yld.inv.contains 1) +
          4 * b2n (s.plt.yld.inv.contains 2) + 8 * b2n tank.isNone), (R.PLT_YLD_STAT_UNLOADING, b2n unl)]
      -- The load (R319).
      let s := match s.plt.yld.load with
        | some l => s.modYld fun y => { y with load := some { l with
            raw := l.raw + rawKg, mapped := l.mapped + mass, steps := l.steps + 1
            inv := l.inv + b2n tank.isNone } }
        | none => s
      let p := pose.getD []
      let step : YStep := { tv := tv, m := tank, sum := sum, cos := cos, raw := rawKg, flowInv := raw.isNone
                            unloading := unl, tilt := s.level p, az := (p.getD 8 0 : Rat) / 2 ^ 24, vsOk := s.vsOk n
                            field := field }
      let s := s.modYld fun y => { y with
        steps := (y.steps.filter fun x => decide (tv - 320000000000 ≤ x.tv)) ++ [step] }
      let started := unl && !s.plt.yld.unloading
      let s := s.modYld fun y => { y with unloading := unl }
      let s := if started then (s.closeLoad tv false).openLoad tv true else s
      let s := if s.plt.yld.changed && s.plt.yld.load.isSome then
          ((s.rejectWindow 7).modYld fun y => { y with changed := false, t0 := tv })
        else (s.modYld fun y => { y with changed := false }).endWindow tv
      let s := s.put R.PLT_YLD_STAT_WIN_OK
        (b2n (s.plt.yld.load.isSome && (s.windowReason s.plt.yld.t0 tv false false).isNone))
      -- Segments (R307, R308).
      let segW := s.yB 0x3C 4
      let w := s.mbx (segW % 2 ^ 20)
      let all := bit segW 31 || !w.valid
      let nseg := s.yB 3 1
      let act (k : Nat) : Bool := all || bit w.val k
      let count := ((List.range nseg).filter act).length
      let flags := (if bit segW 31 || w.valid then 0 else 16) + (if raw.isNone then 2 else 0) +
        (if ml.isNone then 4 else 0) + (if s.unloadedAt tc then 64 else 0)
      let i : StepIn := { tc := tc, pose := s.poseAt tc, vsOk := s.vsOk n, mass := mass / max 1 count, cal := cal, moist := m
                          flags := flags, dt := 2 ^ s.yB 0 1 }
      .next ((List.range nseg).foldl (fun s k => s.stepSeg k (act k) i) s)

/-! ### Tank commands (R319, R323) -/

/-- TANK_CLOSE (R319). -/
def State.tankClose (s : State) : State :=
  let s := s.put R.PLT_TANK_CTL_OP 0
  if !s.inMode [mSTANDBY, mROAD, mFIELD, mSERVICE] then s.put R.PLT_TANK_CTL_RESULT 2
  else if s.plt.yld.load.isNone then s.put R.PLT_TANK_CTL_RESULT 4
  else (s.closeLoad s.chr.base true).put R.PLT_TANK_CTL_RESULT 1

/-- TANK_ZERO and TANK_SPAN (R323): accepted in SERVICE at rest and level with M valid. -/
def State.tankCal (s : State) (op : Nat) : State :=
  let s := s.put R.PLT_TANK_CTL_OP op
  let p := ((s.plt.poses.head?).map (·.w)).getD []
  if s.mode ≠ mSERVICE then s.put R.PLT_TANK_CTL_RESULT 2
  else if (s.plt.yld.steps.getLast?.bind (·.m)).isNone then s.put R.PLT_TANK_CTL_RESULT 4
  else if p.getD 9 0 ≠ 0 ∨ !s.level p then s.put R.PLT_TANK_CTL_RESULT 3
  else (s.modYld fun y => { y with calOp := some (op, s.chr.base) }).put R.PLT_TANK_CTL_RESULT 0

def execTankClose (s : State) : Out := .next s.tankClose
def execTankZero (s : State) : Out := .next (s.tankCal 1)
def execTankSpan (s : State) : Out := .next (s.tankCal 2)

/-- R323: the result over the T_AVG that has passed: TARE or the four gains, in the TANK record. -/
def State.tankCalEnd (s : State) : State × Bool :=
  match s.plt.yld.calOp with
  | none => (s, false)
  | some (op, t) =>
    if (s.chr.base : Int) < t + msMt (s.tB 0x24 2) then (s, false)
    else
      let xs := s.stepsIn t (t + msMt (s.tB 0x24 2))
      let s := s.modYld fun y => { y with calOp := none }
      if xs = [] || xs.any fun x => x.m.isNone then (s.put R.PLT_TANK_CTL_RESULT 4, false)
      else
        let a := meanQ (xs.map fun x => x.sum / x.cos)
        let b := meanQ (xs.map fun x => 1 / x.cos)
        let s :=
          if op = 1 then
            if b = 0 then s else s.cfgPut 0x0421 0 0x18 (leBytes 4 (ofInt 32 (satS 32 (roundQ (a / b * 1000)))))
          else if a = 0 then s
          else
            let f := ((s.get R.PLT_TANK_REF_VALUE : Rat) / 1000 + (s.cfgI 0x0421 0 0x18 4 : Rat) / 1000 * b) / a
            (List.range 4).foldl (fun s k =>
              s.cfgPut 0x0421 0 (8 + 4 * k) (leBytes 4 (ofInt 32 (satS 32 (roundQ (f * s.cfgI 0x0421 0 (8 + 4 * k) 4)))))) s
        (s.put R.PLT_TANK_CTL_RESULT 1, true)

/-- PLT_YLD_CNT_READ (R327). -/
def execPltYldCntRead (s : State) : Out :=
  .next (({ s with rdata := s.get R.PLT_YLD_CNT_TDROP * 2 ^ 16 + s.get R.PLT_YLD_CNT_WREJ } : State).puts
    [(R.PLT_YLD_CNT_TDROP, 0), (R.PLT_YLD_CNT_WREJ, 0)])

end Sys2Proof.Machine
end

