-- ==== Sys2Proof/Machine/Image.lean ====
section
/-! DEFINITION. The pixel arithmetic of a Sextant pipeline (Table 9.4, R342 to R348, R350 to R352, R356): a frame is a list
of lines of 16-bit values. Each stage is computed exactly and rounded once, to nearest with ties away from zero, and
saturated (R342). -/

namespace Sys2Proof.Machine

/-- A plane of pixels. -/
abbrev Plane := List (List Nat)

/-- A rational as a pixel (R342). -/
def pixel (q : Rat) : Nat := min 65535 (roundQ q).toNat

/-- An index mirrored into 0 to n - 1. -/
def mirror (n : Nat) (i : Int) : Nat :=
  let i := if i < 0 then -i else i
  (if (n : Int) ≤ i then 2 * (n : Int) - 2 - i else i).toNat

/-- The pixel at line `y`, column `x`, mirrored at the edges (R344). -/
def Plane.at (p : Plane) (y x : Int) : Nat :=
  let l := p.getD (mirror p.length y) []
  l.getD (mirror l.length x) 0

/-- A plane of a size from a function of line and column. -/
def plane (h w : Nat) (f : Nat → Nat → Nat) : Plane := (List.range h).map fun y => (List.range w).map fun x => f y x

/-- The parameters of a frame: a little-endian field of the SXTPORT body it uses. -/
def parN (b : List Nat) (off n : Nat) : Nat := leNat ((b.drop off).take n)
def parI (b : List Nat) (off n : Nat) : Int := toInt (8 * n) (parN b off n)

/-- R343: black level by CFA position. -/
def blackLevel (b : List Nat) (p : Plane) : Plane :=
  plane p.length ((p.headD []).length) fun y x => p.at y x - parN b (0x18 + 2 * (2 * (y % 2) + x % 2)) 2

/-- The nine same-colour offsets of R344. -/
def sameColour : List (Int × Int) := [-2, 0, 2].flatMap fun a => [-2, 0, 2].map fun b => ((a : Int), (b : Int))

/-- R344: spatial noise reduction; `dead` lists the mapped defects (line, column). -/
def spatialNr (b : List Nat) (dead : List (Nat × Nat)) (p : Plane) : Plane :=
  let str := parN b 0x20 1
  let sigma : Rat := max 1 (parN b 0x22 2)
  if str = 0 then p
  else
    let h := p.length
    let w := (p.headD []).length
    plane h w fun y x =>
      let c : Rat := p.at y x
      let terms := sameColour.map fun (dy, dx) =>
        let yy := mirror h ((y : Int) + dy)
        let xx := mirror w ((x : Int) + dx)
        let v : Rat := p.at yy xx
        let wt : Rat := if dy = 0 ∧ dx = 0 then 256
          else if dead.contains (yy, xx) then 0 else max 0 (256 - 256 * |v - c| / sigma)
        (wt, wt * v)
      let m := (terms.map (·.2)).sum / (terms.map (·.1)).sum
      pixel (c + str * (m - c) / 256)

/-- R345: temporal noise reduction of one line against its reference. -/
def temporalLine (b : List Nat) (ref : Option (List Nat)) (l : List Nat) : List Nat :=
  match ref with
  | none => l
  | some r =>
    l.zipIdx.map fun (x, i) =>
      let v := r.getD i 0
      let d := ((x : Int) - v).natAbs
      if parN b 0x24 2 < d then x else pixel ((x : Rat) + parN b 0x21 1 * ((v : Rat) - x) / 256)

/-- R345: the sixteen lines of block `k` of a frame, and the port's references after them; lines beyond the valid count
stay zero (R332) and leave theirs invalid. -/
def temporalNr (b : List Nat) (valid : Nat) (ref : List (Option (List Nat))) (k : Nat) (p : Plane) :
    Plane × List (Option (List Nat)) :=
  let ls := (p.drop (16 * k)).take 16
  if parN b 0x21 1 = 0 then (ls, [])
  else
    let out := ls.zipIdx.map fun (l, j) =>
      if 16 * k + j < valid then temporalLine b (ref.getD (16 * k + j) none) l else l
    (out, (List.range p.length).map fun i =>
      if i / 16 = k then (if i < valid then out[i - 16 * k]? else none) else ref.getD i none)

/-- The median of the four nearest same-colour pixels: the mean of the middle two. -/
def median4 (a b c d : Nat) : Nat :=
  let l := sortBy (fun x y => decide (x ≤ y)) [a, b, c, d]
  pixel (((l.getD 1 0 : Rat) + l.getD 2 0) / 2)

/-- R346: defective-pixel correction. -/
def dpc (b : List Nat) (dead : List (Nat × Nat)) (p : Plane) : Plane :=
  let th := parN b 0x26 2
  plane p.length ((p.headD []).length) fun y x =>
    let c := p.at y x
    let ns := (sameColour.filter fun o => o != (0, 0)).map fun (dy, dx) => p.at ((y : Int) + dy) ((x : Int) + dx)
    let off := th != 65535 && ((ns.all fun n => decide (n + th < c)) || (ns.all fun n => decide (c + th < n)))
    if dead.contains (y, x) || off then
      median4 (p.at ((y : Int) - 2) x) (p.at ((y : Int) + 2) x) (p.at y ((x : Int) - 2)) (p.at y ((x : Int) + 2))
    else c

/-- R342: the colour (0 R, 1 G, 2 B) at CFA position `p`, for RGGB, GRBG, GBRG and BGGR. -/
def cfaColour (cfa p : Nat) : Nat := ([[0, 1, 1, 2], [1, 0, 2, 1], [1, 2, 0, 1], [2, 1, 1, 0]].getD cfa []).getD p 0

/-- R347: the planes R, G and B: a pixel keeps its own colour, and the two missing ones are interpolated along the direction of
smaller gradient. -/
def demosaic (cfa : Nat) (p : Plane) : List Plane :=
  (List.range 3).map fun want => plane p.length ((p.headD []).length) fun y x =>
    if cfaColour cfa (2 * (y % 2) + x % 2) = want then p.at y x
    else
      let v := Config.gradient true cfa p y x
      let h := Config.gradient false cfa p y x
      (Config.along (if v = h then Config.tieVertical else decide (v < h)) cfa p want y x).toNat

/-- The three planes combined pixel by pixel. -/
def zip3 (ps : List Plane) (f : List Nat → Nat) : Plane :=
  let r := ps.getD 0 []
  plane r.length ((r.headD []).length) fun y x => f (ps.map fun p => p.at y x)

/-- R347: white balance, UQ4.12 gains. -/
def whiteBalance (b : List Nat) (ps : List Plane) : List Plane :=
  ps.zipIdx.map fun (p, i) => p.map fun l => l.map fun v => pixel ((v : Rat) * parN b (0x28 + 2 * i) 2 / 4096)

/-- R347: the colour matrix, Q3.12. -/
def colourMatrix (b : List Nat) (ps : List Plane) : List Plane :=
  (List.range 3).map fun i => zip3 ps fun v =>
    pixel (((List.range 3).map fun j => (parI b (0x30 + 2 * (3 * i + j)) 2 : Rat) * v.getD j 0).sum / 4096)

/-- R348: a tone curve. -/
def tone (t : List Nat) (c x : Nat) : Nat :=
  let e (i : Nat) : Rat := parN t (2048 * c + 2 * i) 2
  let i := x / 64
  pixel (e i + (x % 64 : Nat) * (e (min (i + 1) 1023) - e i) / 64)

/-- A frame through the stages (Table 9.4): the planes after stages 4, 6 and 7. -/
structure Developed where
  raw : List Plane
  lin : List Plane
  out : List Plane
deriving DecidableEq, Repr

/-- R343 to R345: block `k` of a frame of `h` lines of `w` pixels through stages 1 to 2b, of which the first lines are
valid, and the references after it. -/
def reduceNoise (b : List Nat) (dead : List (Nat × Nat)) (ref : List (Option (List Nat))) (h w k : Nat) (lines : Plane) :
    Plane × List (Option (List Nat)) :=
  let full := lines ++ List.replicate (h - lines.length) (List.replicate w 0)
  temporalNr b lines.length ref k (spatialNr b dead (blackLevel b full))

/-- R342, R346 to R348: the lines of a frame after stage 2b through stages 3 to 7. -/
def develop (b t : List Nat) (dead : List (Nat × Nat)) (x : Plane) : Developed :=
  let flags := parN b 0 1
  let x := dpc b dead x
  let mono := bit flags 1
  let raw := if mono then [x, x, x] else demosaic (bits flags 2 2) x
  let lin := if mono then raw else colourMatrix b (whiteBalance b raw)
  let out := lin.zipIdx.map fun (p, i) => p.map fun l => l.map (tone t i)
  ⟨raw, lin, out⟩

/-- BT.709 luma of R, G, B. -/
def luma (v : List Nat) : Rat := (2126 * (v.getD 0 0 : Rat) + 7152 * v.getD 1 0 + 722 * v.getD 2 0) / 10000

/-- R352: a region reduced by averaging blocks of 2^ds. -/
def reduce (p : Plane) (x0 y0 w h ds : Nat) : Plane :=
  let k := 2 ^ ds
  plane (h / k) (w / k) fun y x =>
    pixel (((List.range k).flatMap fun j => (List.range k).map fun i =>
      (p.at (y0 + y * k + j : Nat) (x0 + x * k + i : Nat) : Rat)).sum / (k * k : Nat))

/-- R352: a plane in tiles of 32 × 32, `n` bytes per pixel. -/
def tiled (p : Plane) (n : Nat) : List Nat :=
  let w := (p.headD []).length
  (List.range (p.length / 32)).flatMap fun ty => (List.range (w / 32)).flatMap fun tx =>
    (List.range 32).flatMap fun y => (List.range 32).flatMap fun x =>
      leBytes n (p.at (32 * ty + y : Nat) (32 * tx + x : Nat))

/-- The top 8 bits, rounded (Table 9.5). -/
def top8 (v : Nat) : Nat := min 255 ((v + 128) / 256)

/-- R352, Table 9.5: the machine-vision data of a format. -/
def visionData (d : Developed) (mono : Bool) (fmt x0 y0 w h ds : Nat) : List Nat :=
  let r (ps : List Plane) : List Plane := ps.map fun p => reduce p x0 y0 w h ds
  if fmt = 1 then (r d.out).flatMap fun p => tiled (p.map fun l => l.map top8) 1
  else if fmt = 2 then (r d.lin).flatMap fun p => tiled p 2
  else if fmt = 3 then
    tiled (zip3 (r d.out) fun v => if mono then top8 (v.getD 0 0) else min 255 (roundQ (luma v * 255 / 65535)).toNat) 1
  else if fmt = 4 then tiled (zip3 (r d.lin) fun v => if mono then v.getD 0 0 else pixel (luma v)) 2
  else []

/-- R350: a scaled size, by a factor from 1 down to 1/8 and never up. -/
def scaled (full want : Nat) : Nat := min full (max (ceilDiv full 8) want)

/-- R350: Y', Cb and Cr of BT.709 of R'G'B', from 0 to 1 and from -1/2 to 1/2. -/
def luma01 (v : List Nat) : Rat := luma v / 65535
def chromaB (v : List Nat) : Rat := ((v.getD 2 0 : Rat) / 65535 - luma01 v) * 10000 / 18556
def chromaR (v : List Nat) : Rat := ((v.getD 0 0 : Rat) / 65535 - luma01 v) * 10000 / 15748

/-- The values of the planes at a line and column. -/
def planesAt (ps : List Plane) (y x : Nat) : List Nat := ps.map fun p => Plane.at p y x

/-- R350, R351: Y'CbCr of BT.709 in limited range, 8 bits, 4:2:2, packed Y0 U Y1 V. -/
def displayData (d : Developed) (w h : Nat) : List Nat :=
  let ps := Config.scale d.out w h
  let q (x : Rat) : Nat := min 255 (roundQ x).toNat
  (List.range h).flatMap fun y => (List.range (w / 2)).flatMap fun x =>
    let a := planesAt ps y (2 * x)
    let b := planesAt ps y (2 * x + 1)
    [q (16 + 219 * luma01 a), q (128 + 224 * (chromaB a + chromaB b) / 2), q (16 + 219 * luma01 b),
      q (128 + 224 * (chromaR a + chromaR b) / 2)]

/-- R350, R353: the samples of a picture to code: Y'CbCr of BT.709 in limited range, 10 bits, 4:2:0, the planes Y', Cb and Cr
one after another, chroma averaged over 2 × 2 pixels. -/
def codingData (d : Developed) (w h : Nat) : List Nat :=
  let ps := Config.scale d.out w h
  let q (x : Rat) : Nat := min 1023 (roundQ x).toNat
  let chroma (c : List Nat → Rat) : List Nat := (List.range (h / 2)).flatMap fun y => (List.range (w / 2)).map fun x =>
    q (512 + 896 * (([(0, 0), (0, 1), (1, 0), (1, 1)].map fun o => c (planesAt ps (2 * y + o.1) (2 * x + o.2))).sum / 4))
  ((List.range h).flatMap fun y => (List.range w).map fun x => q (64 + 876 * luma01 (planesAt ps y x))) ++
    chroma chromaB ++ chroma chromaR

/-- R356: the statistics of a frame: histograms and zones, over the valid lines. -/
def statsData (d : Developed) (mono : Bool) (valid w h : Nat) : List Nat :=
  let ps := d.raw.zipIdx.map fun (p, i) => if mono && i != 0 then [] else p.take valid
  let hist := ps.flatMap fun p => (List.range 256).flatMap fun b =>
    leBytes 4 ((p.map fun l => (l.filter fun v => v / 256 == b).length).sum)
  let zone (z : Nat) : List Nat :=
    let y0 := z / 16 * (h / 16)
    let x0 := z % 16 * (w / 16)
    d.raw.zipIdx.flatMap fun (p, i) =>
      let ls := ((p.take valid).drop y0).take (h / 16)
      let vs := ls.flatMap fun l => (l.drop x0).take (w / 16)
      leBytes 2 (if ls = [] then 0xFFFF else if mono && i != 0 then 0
        else pixel ((vs.sum : Rat) / max 1 vs.length))
  hist ++ (List.range 256).flatMap zone

end Sys2Proof.Machine
end

