-- ==== Sys2Proof/Machine/Sextant.lean ====
section
/-! DEFINITION. The camera ports, pipelines, rings and encoder of Sextant (Sextant Image Pipelines and Lookout). -/

namespace Sys2Proof.Machine

/-- Fields of the SXTPORT, SXTPIPE and CODEC bodies (Table 9.11). -/
def State.sxB (s : State) (n off w : Nat) : Nat := s.cfg 0x0500 n off w
def State.pipeB (s : State) (k off w : Nat) : Nat := s.cfg 0x0501 k off w
def State.codecB (s : State) (i off w : Nat) : Nat := s.cfg 0x0504 i off w

def State.sxPort (s : State) (n : Nat) : SxPort := s.sxt.ports.getD n {}
def State.modSx (s : State) (n : Nat) (f : SxPort → SxPort) : State := { s with sxt.ports := s.sxt.ports.modify n f }

/-- The ports a pipeline serves (R338). -/
def State.pipePorts (s : State) (k : Nat) : List Nat :=
  if !s.has 0x0501 k then []
  else match s.pipeB k 0 1 with
    | 1 => [2 * k]
    | 2 => [2 * k + 1]
    | 3 => [2 * k, 2 * k + 1]
    | _ => []

/-- The port is served by its pipeline and has its record. -/
def State.served (s : State) (n : Nat) : Bool := s.has 0x0500 n && (s.pipePorts (n / 2)).contains n

/-- SXT_PORTn_STAT.STATE (R330): 0 OFF while the port has no power. -/
def State.portState (s : State) (n : Nat) : Nat :=
  if s.sxt.up && bit s.camOn n then max 1 (s.get (R.SXT_PORT_STAT_STATE n)) else 0

/-- The Plotter source of a camera port. -/
def State.camSource (s : State) (n : Nat) : Option Nat :=
  s.sources.find? fun i => (s.srcB i 0 1 == 5 || s.srcB i 0 1 == 6) && s.srcB i 2 2 == n

/-- SXT_PIPEk_STAT follows the pipeline and the ports it serves: IDLE, BUSY, CUR. -/
def State.pipeStat (s : State) (k : Nat) : State :=
  let p := s.sxt.pipes.getD k {}
  let idle := (s.pipePorts k).all fun n => (s.sxPort n).frames.isEmpty
  s.puts [(R.SXT_PIPE_STAT_IDLE k, b2n idle), (R.SXT_PIPE_STAT_BUSY k, b2n p.run.isSome),
    (R.SXT_PIPE_STAT_CUR k, p.run.getD 0 % 2)]

/-! ### Closing a frame (R332) -/

/-- The frame in reception: the last one, while it is not closed. -/
def SxPort.openFrame (p : SxPort) : Option SxFrame :=
  match p.frames.getLast? with
  | some f => if f.closed.isNone then some f else none
  | none => none

/-- The frame in reception changed. -/
def SxPort.modOpen (p : SxPort) (f : SxFrame → SxFrame) : SxPort :=
  { p with frames := p.frames.modify (p.frames.length - 1) f }

/-- Flags other than LONG and CLEAN keep a frame from being clean (R337). -/
def SxFrame.isClean (f : SxFrame) : Bool := clearBits f.flags 2 == 0

/-- R335, R336, R337: a clean frame is a sample of its port's Plotter source. -/
def State.frameSample (s : State) (n : Nat) (f : SxFrame) : State :=
  match s.camSource n with
  | none => s
  | some i =>
    if s.srcB i 0 1 = 6 then s.ingestFree i f.no f.fs []
    else match f.trig with
      | some (edge, _) =>
        if s.plt.up then s.ingestUsed i ((edge : Int) - s.cfgI 0x0400 i 0x10 4) [] else s
      | none => s

/-- Table 9.2: the frame in reception closes with further flags, at a stamp; `quiet` when the link's loss is the event. A
port that its pipeline does not serve keeps no frame to process (R338). -/
def State.closeFrame (s : State) (n : Nat) (extra : Nat) (stamp : Option Nat) (quiet : Bool) : State :=
  match (s.sxPort n).openFrame with
  | none => s
  | some f =>
    let (at_, s) := s.stampOr stamp
    let f := { f with
      flags := f.flags ||| extra ||| (if extra = 0 && decide (0 < f.surplus) then 2 else 0)
      closed := some (at_, s.chr.tick) }
    let f := { f with flags := f.flags + (if f.isClean then 128 else 0) }
    let s := s.modSx n fun p => if s.served n then p.modOpen fun _ => f else { p with frames := [] }
    let s := s.puts [(R.SXT_PORT_LAST_VLINES n, f.lines.length), (R.SXT_PORT_LAST_FLAGS n, f.flags)]
    let s := if bit f.flags 0 then
        let s := s.bump (R.SXT_PORT_CNT_SHORT n)
        if quiet then s else s.raise 65 [n, f.lines.length]
      else s
    let s := if bit f.flags 1 then (s.bump (R.SXT_PORT_CNT_LONG n)).raise 66 [n, f.surplus] else s
    let s := if bit f.flags 2 then (s.bump (R.SXT_PORT_CNT_TRUNC n)).raise 67 [n, f.lines.length] else s
    let s := if f.errs = 0 then s else s.raise 68 [n, f.errs]
    let s := if bit f.flags 7 then s.frameSample n f else s
    s.pipeStat (n / 2)

/-! ### The link (R329, R330) -/

/-- R341, R345: a camera of a configured pipeline becomes absent. -/
def State.camAbsent (s : State) (n : Nat) : State :=
  let s := s.modSx n fun p => { p with
    ref := [], lastFs := none, frames := p.frames.map fun f => { f with stale := true } }
  let s := if s.has 0x0500 n && s.sxB n 0x21 1 != 0 then s.raise 72 [n, 1] else s
  if s.served n && !(s.sxPort n).lost then (s.modSx n fun p => { p with lost := true }).raise 73 [n, 0] else s

/-- R120, R330: a port follows its supply: OFF without power, which takes its link, TRAINING on power. -/
def State.camSync (s : State) : State :=
  if !s.sxt.up then s
  else (List.range 8).foldl (fun s n =>
    let st := s.get (R.SXT_PORT_STAT_STATE n)
    if !bit s.camOn n && st != 0 then
      let s := s.closeFrame n 1 (some s.now) true
      let s := s.puts [(R.SXT_PORT_STAT_STATE n, 0), (R.SXT_PORT_STAT_GEAR n, 0)]
      if st = 2 then ((s.raise 64 [n, 0]).camAbsent n).resetDomain 7 (some n) else s
    else if bit s.camOn n && st == 0 then s.put (R.SXT_PORT_STAT_STATE n) 1
    else s) s

/-- CAMERA_LINK_LOSS (R120, R330). -/
def execCameraLinkLoss (port : Fin 8) (s : State) : Out :=
  if State.portState s port ≠ 2 then .next s
  else
    let s := State.closeFrame s port 1 (some s.now) true
    .next ((((s.put (R.SXT_PORT_STAT_STATE port) 3).raise 64 [port, 0]).camAbsent port).resetDomain 7 (some port))

/-- CAMERA_TRAINED (R330): TRAINING ends in UP at the gear of the record. -/
def execCameraTrained (port : Fin 8) (s : State) : Out :=
  if State.portState s port ≠ 1 then .next s
  else
    let s := (s.puts [(R.SXT_PORT_STAT_STATE port, 2), (R.SXT_PORT_STAT_GEAR port, State.sxB s port 3 1)]).raise 64 [port, 1]
    .next (if (s.sxPort port).lost then (s.modSx port fun p => { p with lost := false }).raise 73 [port, 1] else s)

/-- CAMERA_RETRAIN (R330): a DOWN port that is enabled trains again. -/
def execCameraRetrain (port : Fin 8) (s : State) : Out :=
  .next (if State.portState s port = 3 then s.put (R.SXT_PORT_STAT_STATE port) 1 else s)

/-! ### Triggers (R335) -/

/-- CAMERA_TRIGGER (R335): the trigger edge of a triggered port. -/
def execCameraTrigger (port : Fin 8) (s : State) : Out :=
  let ft := State.sxB s port 8 2
  if s.sxt.up && State.has s 0x0500 port && bit (State.sxB s port 0 1) 0 && State.portState s port == 2 &&
      s.chr.tick % max 1 ft == State.sxB s port 0x0A 2 then
    let s := s.atPhase (State.sxB s port 0x0C 2)
    .next (s.modSx port fun p => { p with trigs := p.trigs ++ [(s.now, s.chr.tick)], edge := s.now })
  else .next s

/-- TRIGGER_MISSED (R335): the window of the oldest trigger has passed without a Frame Start. -/
def execTriggerMissed (port : Fin 8) (s : State) : Out :=
  match (State.sxPort s port).trigs with
  | [] => .next s
  | (edge, t) :: rest =>
    if s.now ≤ edge + 800 * State.sxB s port 0x10 2 then .next s
    else .next (((State.modSx s port fun p => { p with trigs := rest }).bump (R.SXT_PORT_CNT_MISSED port)).raise 69
      [port, t % 2 ^ 32])

/-! ### Reception (R331 to R337, R340) -/

/-- The trigger whose window a Frame Start stamp falls in. -/
def State.trigFor (s : State) (n fs : Nat) : Option (Nat × Nat) :=
  (s.sxPort n).trigs.find? fun t =>
    decide (t.1 + 800 * s.sxB n 0x0E 2 ≤ fs) && decide (fs ≤ t.1 + 800 * s.sxB n 0x10 2)

/-- FRAME_START (R329, R332 to R337): a packet of another virtual channel or with a header beyond correction is discarded and
counted; an open frame closes SHORT at the new Frame Start; a paused pipeline discards the new one. -/
def execFrameStart (port : Fin 8) (k : FrameStartPkt) (stamp : Option Nat) (s : State) : Out :=
  let s := s.tookStamp (ptCam port) stamp
  if State.portState s port ≠ 2 ∨ !State.has s 0x0500 port then .next s
  else if !k.hdrOk ∨ k.vc ≠ State.sxB s port 2 1 then .next (s.bump (R.SXT_PORT_PERR_HDR port))
  else
    let s := State.closeFrame s port 1 stamp false
    let paused := s.flag (R.SXT_PIPE_CTL_PAUSE (port / 2))
    let trigd := bit (s.sxB port 0 1) 0
    let trig := if trigd then stamp.bind (s.trigFor port) else none
    let s := State.modSx s port fun p => { p with
      skip := paused
      trigs := match trig with
        | some t => p.trigs.filter (· != t)
        | none => p.trigs }
    if paused then .next (s.bump (R.SXT_PORT_PERR_HDR port))
    else
      let offSync := trigd && stamp.isSome && trig.isNone
      let late : Int := (stamp.getD 0 : Int) - (s.sxPort port).edge
      let s := if offSync then s.raise 70 [port, ofInt 32 (satS 32 (roundDiv late 800))] else s
      let f : SxFrame := { fs := stamp, no := k.no.toNat, trig := trig, prevFs := (s.sxPort port).lastFs
                           idx := (s.sxPort port).total
                           flags := (if offSync then 8 else 0) + (if stamp.isNone then 16 else 0) }
      .next ((s.modSx port fun p => { p with
        frames := p.frames ++ [f], lastFs := stamp, total := p.total + 1 }).pipeStat (port / 2))

/-- Lines in a port's input buffer (R340): written and not freed; a block keeps four lines of context. -/
def SxPort.fill (p : SxPort) : Nat := (p.frames.map fun f => f.lines.length - (16 * f.blocks - 4)).sum

/-- R333: a line cut or padded to a width. -/
def fitLine (w : Nat) (l : List Nat) : List Nat :=
  if w ≤ l.length then l.take w
  else (List.range (w - l.length)).foldl (fun l _ => l ++ [l.getD (l.length - 2) 0]) l

/-- R331: a long packet's payload as pixels of 16 bits, left-justified. CSI-2 packs the pixels of a data type in groups: the
upper eight bits of each, then their lower bits, the first pixel's lowest (log entry `CSI-2 packing`, PRESUMED). -/
def unpackRaw (dt : Nat) (bs : List Nat) : List Nat :=
  let (d, m) := [(8, 1), (10, 4), (12, 2), (14, 4), (16, 1)].getD (dt - 0x2A) (8, 1)
  let g := m * d / 8
  (List.range (bs.length / g * m)).map fun i =>
    let grp := (bs.drop (i / m * g)).take g
    grp.getD (i % m) 0 * 256 + bits (leNat (grp.drop m)) ((d - 8) * (i % m)) (d - 8) * 2 ^ (16 - d)

/-- LINE_PACKET (R331 to R333, R340). -/
def execLinePacket (port : Fin 8) (k : LinePkt) (s : State) : Out :=
  if State.portState s port ≠ 2 ∨ !State.has s 0x0500 port then .next s
  else if !k.hdrOk then
    .next ((s.bump (R.SXT_PORT_PERR_HDR port)).modSx port fun p =>
      if p.openFrame.isSome then p.modOpen fun f => { f with errs := f.errs + 1 } else p)
  else if k.vc ≠ State.sxB s port 2 1 then .next (s.bump (R.SXT_PORT_PERR_HDR port))
  else if k.dt = 0x12 then .next s
  else if k.dt ≠ State.sxB s port 1 1 then .next (s.bump (R.SXT_PORT_PERR_HDR port))
  else match (State.sxPort s port).openFrame with
    | none => .next s
    | some f =>
      let h := State.sxB s port 6 2
      let w := State.sxB s port 4 2
      if !k.fifoFull && decide (h ≤ f.lines.length) then
        .next (s.modSx port fun p => p.modOpen fun f => { f with surplus := f.surplus + 1 })
      else if k.fifoFull || decide (State.sxB s port 0x14 2 ≤ (State.sxPort s port).fill) then
        .next ((State.closeFrame s port 4 (some s.now) false).modSx port fun p => { p with skip := true })
      else
        let px := unpackRaw k.dt k.data
        let badLen := px.length != w
        let px := fitLine w px
        let px := if k.crcOk then px
          else if 2 ≤ f.lines.length then f.lines.getD (f.lines.length - 2) [] else List.replicate w 0
        let bad := badLen || !k.crcOk
        let s := if bad then s.bump (R.SXT_PORT_PERR_LINE port) else s
        let s := s.modSx port fun p => { (p.modOpen fun f => { f with
            lines := f.lines ++ [px], errs := f.errs + b2n bad
            flags := f.flags ||| (if k.crcOk then 0 else 32) ||| (if badLen then 64 else 0) }) with
          widx := p.widx.modify 0 (· + 1) }
        .next (s.put (R.SXT_PORT_HWM_VALUE port) (max (s.get (R.SXT_PORT_HWM_VALUE port)) (s.sxPort port).fill))

/-- FRAME_END (R329, R332): SHORT before HEIGHT lines; one without a frame, of another virtual channel or with a header beyond
correction is discarded and counted. -/
def execFrameEnd (port : Fin 8) (k : FrameEndPkt) (s : State) : Out :=
  let s := s.tookStamp (ptCam port) k.stamp
  if State.portState s port ≠ 2 ∨ !State.has s 0x0500 port then .next s
  else if !k.hdrOk ∨ k.vc ≠ State.sxB s port 2 1 then .next (s.bump (R.SXT_PORT_PERR_HDR port))
  else match (State.sxPort s port).openFrame with
    | none =>
      if (State.sxPort s port).skip then .next (s.modSx port fun p => { p with skip := false })
      else .next (s.bump (R.SXT_PORT_PERR_HDR port))
    | some f => .next (s.closeFrame port (b2n (decide (f.lines.length < State.sxB s port 6 2))) k.stamp false)

/-- FRAME_TIMEOUT (R332). -/
def execFrameTimeout (port : Fin 8) (s : State) : Out := .next (s.closeFrame port 1 (some s.now) false)

/-! ### Rings (R355) -/

/-- A frame descriptor (Table 9.6). -/
def SxFrame.descriptor (f : SxFrame) (port kind w h size fmt seq : Nat) : List Nat :=
  leBytes 8 (f.fs.getD 0) ++ leBytes 8 ((f.closed.map (·.1)).getD 0) ++ leBytes 8 ((f.trig.map (·.1)).getD 0) ++
    leBytes 4 ((f.closed.map (·.2)).getD 0) ++ leBytes 2 f.no ++ [port, kind] ++ leBytes 2 f.flags ++
    leBytes 2 f.lines.length ++ leBytes 2 w ++ leBytes 2 h ++ leBytes 4 size ++ leBytes 2 f.setver ++ leBytes 2 fmt ++
    List.replicate 14 0 ++ leBytes 2 seq

/-- A slot of a port's ring (1 display, 2 machine vision, 3 statistics) of `n` slots: the one after the last released, then
WIDX counts up, wrapping at 2^32 (R355). -/
def State.frameSlot (s : State) (port ring n w h fmt : Nat) (f : SxFrame) (data : List Nat) : State :=
  let i := (s.sxPort port).widx.getD ring 0
  let at_ := (s.sxPort port).slot.getD ring 0 % max 1 n
  let kind := if ring = 3 then 2 else ring - 1
  (s.ringWrite (0x40 + 4 * port + ring) at_
    (f.descriptor port kind w h data.length fmt (i % 65536) ++ data)).modSx port fun p =>
      { p with widx := p.widx.set ring ((i + 1) % 2 ^ 32), slot := p.slot.set ring ((at_ + 1) % max 1 n) }

/-- The slot of a port's ring of `n` slots that holds the frame of index `i`, counted back from the slot to fill next. -/
def State.camSlot (s : State) (port ring n i : Nat) : Nat :=
  let p := s.sxPort port
  let n := max 1 n
  (p.slot.getD ring 0 + n - (p.widx.getD ring 0 + 2 ^ 32 - i) % 2 ^ 32 % n) % n

/-- The mapped defects of a port (line, column), from its DPCMAP. -/
def State.defects (s : State) (n : Nat) : List (Nat × Nat) :=
  (List.range (s.cfg 0x0503 n 0 4)).map fun i => (s.cfg 0x0503 n (6 + 4 * i) 2, s.cfg 0x0503 n (4 + 4 * i) 2)

/-- The bytes of a record body in force. -/
def State.bodyBytes (s : State) (t i n : Nat) : List Nat := (List.range n).map fun o => s.cfg t i o 1

/-! ### Jobs for Lookout (R337, R360) -/

/-- R360: the bindings of a port take every DIV-th clean frame; a newer frame replaces the one that waits. -/
def State.bindFrames (s : State) (n : Nat) (f : SxFrame) (mv roi : List Nat) : State :=
  let count := (s.sxPort n).clean
  let s := s.modSx n fun p => { p with clean := p.clean + 1 }
  (List.finRange 16).foldl (fun s (b : Fin 16) =>
    if !s.lkt.up || !s.has 0x0601 b || s.cfg 0x0601 b 1 1 != n || count % max 1 (s.cfg 0x0601 b 2 1) != 0 then s
    else if s.flag R.LKT_CTL_PAUSE then s.bump R.LKT_CNT_SKIP
    else
      let old := s.lkt.waiting.find? fun j => j.bind == b
      let s := match old with
        | some j => (s.bump R.LKT_CNT_SKIP).raise 74 [b, j.no]
        | none => s
      let j : LktJob := { bind := b, order := s.lkt.order, port := n, fs := f.fs.getD 0, no := f.no, trig := f.trig
                          long := bit f.flags 1, prevFs := f.prevFs, mv := mv, roi := roi }
      let w := (s.lkt.waiting.filter fun j => j.bind != b) ++ [j]
      ({ s with lkt.waiting := w } : State).puts [(R.LKT_STAT_WAITING, w.length), (R.LKT_STAT_IDLE, 0)])
    { s with lkt.order := s.lkt.order + 1 }

/-! ### Blocks (R338, R341, R349) -/

/-- The frame a port's next block belongs to: the oldest; its next block is ready when line 16b + 19 has been written or
the frame has closed. -/
def State.blockReady (s : State) (n : Nat) : Bool :=
  match (s.sxPort n).frames.head? with
  | some f => f.closed.isSome || decide (16 * f.blocks + 20 ≤ f.lines.length)
  | none => false

/-- R341: the port a free pipeline chooses. -/
def State.chooseBlock (s : State) (k : Nat) : Option Nat :=
  let ports := s.pipePorts k
  let ready := ports.filter s.blockReady
  match ready with
  | [] => none
  | [n] => some n
  | n :: _ =>
    let lead := 2 * k + s.pipeB k 1 1 % 2
    let fresh := ports.all fun n => ((s.sxPort n).frames.head?.map (·.blocks)).getD 0 == 0
    match (s.sxt.pipes.getD k {}).last with
    | some l => if fresh then some lead else if l = 2 * k then some (2 * k + 1) else some (2 * k)
    | none => if ready.contains lead then some lead else some n

/-- BLOCK_START (R341, R349): the frame takes its parameter set at its first block. -/
def execBlockStart (pipe : Fin 4) (s : State) : Out :=
  if !s.sxt.up || (s.sxt.pipes.getD pipe {}).run.isSome then .next s
  else match State.chooseBlock s pipe with
    | none => .next s
    | some n =>
      let pars := State.bodyBytes s 0x0500 n 128
      let curve := State.bodyBytes s 0x0502 n 6144
      let body := State.bodyBytes s 0x0501 pipe 32
      let ver := s.get (R.SXT_PIPE_STAT_SETVER pipe)
      let s := s.modSx n fun p => { p with frames := p.frames.modify 0 fun f =>
        if f.blocks = 0 then { f with pars := pars, tone := curve, pipe := body, setver := ver } else f }
      .next (State.pipeStat { s with sxt.pipes := s.sxt.pipes.modify pipe fun p => { p with run := some n } } pipe)

/-- The streams that code a port. -/
def State.streamsOf (s : State) (n : Nat) : List Nat :=
  (List.range 4).filter fun i => s.has 0x0504 i && s.codecB i 0 1 == n

/-- R346 to R356: a frame whose blocks have passed stage 2b is developed and written to its output rings, and goes to the
encoder and to Lookout. -/
def State.finishFrame (s : State) (n : Nat) (f : SxFrame) : State :=
  let k := n / 2
  let w := s.sxB n 4 2
  let h := s.sxB n 6 2
  let mono := bit (parN f.pars 0 1) 1
  let d := develop f.pars f.tone (s.defects n) f.tnr
  let s := s.modSx n fun p => { p with frames := p.frames.drop 1 }
  let s := if bit (s.pipeB k 2 1) (n % 2) then
      let dw := scaled w (s.pipeB k 4 2)
      let dh := scaled h (s.pipeB k 6 2)
      s.frameSlot n 1 (s.pipeB k 3 1 % 16) dw dh 0 f (displayData d dw dh)
    else s
  let fmt := s.pipeB k 8 1
  let ds := s.pipeB k 9 1 % 4
  let mw := parN f.pipe 0x0E 2
  let mh := parN f.pipe 0x10 2
  let mx := parN f.pipe 0x0A 2
  let my := parN f.pipe 0x0C 2
  let mv := visionData d mono fmt mx my mw mh ds
  let s := if fmt = 0 then s
    else s.frameSlot n 2 (s.pipeB k 9 1 / 16) (mw / 2 ^ ds) (mh / 2 ^ ds) fmt f mv
  let s := s.frameSlot n 3 (s.pipeB k 3 1 / 16) 16 16 0 f (statsData d mono f.lines.length w h)
  let s := (s.streamsOf n).foldl (fun s i =>
    if f.idx % max 1 (s.codecB i 1 1) = 0 then
      { s with sxt.encs := s.sxt.encs.modify i fun e =>
        { e with queue := e.queue ++ [{ fs := f.fs.getD 0, no := f.no, flags := f.flags, tick := (f.closed.map (·.2)).getD 0
                                        data := codingData d (scaled w (s.codecB i 2 2)) (scaled h (s.codecB i 4 2)) }] } }
    else s) s
  if bit f.flags 7 then s.bindFrames n f mv [mx, my, ds] else s

/-- R343 to R345: the next block of a port's oldest frame passes stages 1 to 2b with the references valid now. -/
def State.blockDone (s : State) (n : Nat) (f : SxFrame) : SxFrame × State :=
  let (ls, ref) := reduceNoise f.pars (s.defects n) (s.sxPort n).ref (s.sxB n 6 2) (s.sxB n 4 2) f.blocks f.lines
  let f := { f with blocks := f.blocks + 1, tnr := f.tnr ++ ls }
  (f, s.modSx n fun p => { p with ref := if f.stale then [] else ref, frames := p.frames.modify 0 fun _ => f })

/-- BLOCK_COMPLETE (R338, R345): the block is through stage 2b; at its last block a frame is written to the rings. -/
def execBlockComplete (pipe : Fin 4) (phase : Fin 10000) (s : State) : Out :=
  match (s.sxt.pipes.getD pipe {}).run with
  | none => .next s
  | some n =>
    let s := s.atPhase phase
    let s := { s with
      sxt.quiet := 0
      sxt.stalled := false
      sxt.pipes := s.sxt.pipes.modify pipe fun _ => { run := none, last := some n } }
    match (State.sxPort s n).frames.head? with
    | none => .next (State.pipeStat s pipe)
    | some f =>
      let (f, s) := State.blockDone s n f
      if 16 * f.blocks < State.sxB s n 6 2 then .next (s.pipeStat pipe)
      else
        let s := State.finishFrame s n f
        let fe := (f.closed.map (·.1)).getD s.now
        .next ((s.put (R.SXT_PIPE_LAT_VALUE pipe) ((s.now - fe) / 8)).pipeStat pipe)

/-! ### The encoder (R353, R354) -/

/-- Emulation prevention of ITU-T H.265: a byte 3 goes before any of 0 to 3 that follows two zero bytes. -/
def emulationFree (zeros : Nat) : List Nat → List Nat
  | [] => []
  | b :: r =>
    if 2 ≤ zeros ∧ b ≤ 3 then 3 :: b :: emulationFree (if b = 0 then 1 else 0) r
    else b :: emulationFree (if b = 0 then zeros + 1 else 0) r

/-- R353: the UUID of the stamp, sixteen ASCII characters. -/
def stampUuid : List Nat := "SC128-MT64-STAMP".toList.map Char.toNat

/-- R353: the user-data-unregistered SEI message that carries a picture's Frame Start stamp under its UUID, as an Annex B NAL
unit (log entry `SEI syntax`, PRESUMED of ITU-T H.265). -/
def seiStamp (fs : Nat) : List Nat :=
  [0, 0, 0, 1] ++ emulationFree 0 ([0x4E, 1, 5, 24] ++ stampUuid ++ leBytes 8 fs ++ [0x80])

/-- ENCODE_ACCESS_UNIT (R353, R354): the next picture of a stream is coded: its access unit is the SEI message of its stamp and
the NAL units `au` that the encoder makes of it; an IDR every GOP pictures and where one is forced. -/
def execEncodeAccessUnit (stream : Fin 4) (au : List Nat) (s : State) : Out :=
  let e := s.sxt.encs.getD stream {}
  match e.queue with
  | [] => .next s
  | x :: rest =>
    let au := seiStamp x.fs ++ au
    let forced := s.flag (R.SXT_ENC_STAT_IDR_PEND stream)
    let idr := forced || e.gop % max 1 (State.codecB s stream 6 2) == 0
    let wr := s.get (R.SXT_ENC_WR_VALUE stream)
    let unread := (wr + 2 ^ 32 - s.get (R.SXT_ENC_RD_VALUE stream)) % 2 ^ 32
    let size := 32 + au.length
    if 2 ^ State.codecB s stream 9 1 < unread + size then
      let s := { s with sxt.encs := s.sxt.encs.modify stream fun e => { e with queue := rest } }
      .next (((State.bump s (R.SXT_ENC_DROP_VALUE stream)).put (R.SXT_ENC_STAT_IDR_PEND stream) 1).raise 71 [stream, 1])
    else
      let desc := leBytes 4 au.length ++ leBytes 8 x.fs ++ leBytes 2 x.no ++ [if idr then 0 else 1] ++ leBytes 2 x.flags ++
        [0] ++ leBytes 4 x.tick ++ List.replicate 8 0 ++ leBytes 2 e.seq
      let s := { s with sxt.encs := s.sxt.encs.modify stream fun e => { e with
        queue := rest, ref := x.data, gop := if idr then 1 else e.gop + 1, seq := (e.seq + 1) % 65536
        buf := e.buf ++ desc ++ au } }
      .next (State.puts s [(R.SXT_ENC_WR_VALUE stream, wr + size), (R.SXT_ENC_STAT_IDR_PEND stream, 0)])

/-- A consumer's write of SXT_ENCs_RD: bytes up to it have been read (R354). -/
def State.encRead (s : State) (i v : Nat) : State :=
  let n := (v + 2 ^ 32 - s.get (R.SXT_ENC_RD_VALUE i)) % 2 ^ 32
  ({ s with sxt.encs := s.sxt.encs.modify i fun e => { e with buf := e.buf.drop n } }).put (R.SXT_ENC_RD_VALUE i) v

/-! ### Registers (R340, R366) -/

/-- PIPELINE_PAUSE (R366). -/
def execPipelinePause (pipe : Fin 4) (s : State) : Out := .next (s.put (R.SXT_PIPE_CTL_PAUSE pipe) 1)

/-- SXT_PORT_CNT_READ. -/
def execSxtPortCntRead (port : Fin 8) (s : State) : Out :=
  let v := s.get (R.SXT_PORT_CNT_TRUNC port) * 2 ^ 24 + s.get (R.SXT_PORT_CNT_LONG port) * 2 ^ 16 +
    s.get (R.SXT_PORT_CNT_SHORT port) * 2 ^ 8 + s.get (R.SXT_PORT_CNT_MISSED port)
  .next (({ s with rdata := v } : State).puts [(R.SXT_PORT_CNT_TRUNC port, 0), (R.SXT_PORT_CNT_LONG port, 0),
    (R.SXT_PORT_CNT_SHORT port, 0), (R.SXT_PORT_CNT_MISSED port, 0)])

/-- SXT_PORT_PERR_READ. -/
def execSxtPortPerrRead (port : Fin 8) (s : State) : Out :=
  .next (({ s with rdata := s.get (R.SXT_PORT_PERR_HDR port) * 2 ^ 16 + s.get (R.SXT_PORT_PERR_LINE port) } : State).puts
    [(R.SXT_PORT_PERR_HDR port, 0), (R.SXT_PORT_PERR_LINE port, 0)])

/-- SXT_PORT_HWM_READ (R340): the present fill takes its place. -/
def execSxtPortHwmRead (port : Fin 8) (s : State) : Out :=
  .next (({ s with rdata := s.get (R.SXT_PORT_HWM_VALUE port) } : State).put (R.SXT_PORT_HWM_VALUE port)
    (State.sxPort s port).fill)

def execSxtEncDropRead (stream : Fin 4) (s : State) : Out := .next (s.readClear (R.SXT_ENC_DROP_VALUE stream))

/-! ### Start and reset (Table 2.3) -/

/-- R392: a place above the DRAM with inline ECC and its check bits, for a store of `size` bytes, from a free value. -/
def above (size v : Nat) : Nat := 0x120000000 + v % (0x2E0000000 - size + 1)

/-- Where a ring of a port lies (R392, Table 9.12). -/
def camBase (port ring : Nat) : Nat := above 0 (Config.camRing port ring).toNat

/-- Sextant is held in reset. -/
def State.sxtReset (s : State) : State := ({ s with sxt := {} } : State).clearBlock 0x05

/-- A stream's start or the end of it (R366): ENC_STAT.ON, and its ring's place in DRAM, which the manual does not fix but above the
part with inline ECC (R392). -/
def State.streamSet (s : State) (i : Nat) : State :=
  if s.has 0x0504 i && s.codecB i 0 1 != 0xFF then
    if s.flag (R.SXT_ENC_STAT_ON i) then s
    else
      let (v, s) := State.free s 40
      let a := above (2 ^ s.codecB i 9 1) v
      s.puts [(R.SXT_ENC_STAT_ON i, 1), (R.SXT_ENC_BASE_LO_VALUE i, a % 2 ^ 32), (R.SXT_ENC_BASE_HI_VALUE i, a / 2 ^ 32)]
  else s.put (R.SXT_ENC_STAT_ON i) 0

/-- Sextant leaves reset: streams run, and temporal references are invalid (R345). -/
def State.sxtStart (s : State) : State :=
  if s.sxt.up then s
  else
    let s := { s with sxt := { up := true } }
    let s := (List.range 4).foldl (fun s k => State.put s (R.SXT_PIPE_STAT_IDLE k) 1) s
    let s := (List.range 4).foldl State.streamSet s
    (((List.range 8).filter fun n => s.has 0x0500 n && s.sxB n 0x21 1 != 0).foldl (fun s n => s.raise 72 [n, 0]) s).camSync

/-- R345: a commit that changes BLACK invalidates the references of a port. -/
def State.blackChanged (s : State) (n : Nat) : State :=
  let s := s.modSx n fun p => { p with
    ref := [], frames := p.frames.map fun f => { f with stale := f.stale || !f.pars.isEmpty } }
  if s.sxB n 0x21 1 = 0 then s else s.raise 72 [n, 2]

end Sys2Proof.Machine
end

