-- ==== Sys2Proof/Machine/Lookout.lean ====
section
/-! DEFINITION. Lookout: its jobs, detections and scalars (Sextant Image Pipelines and Lookout, Lookout). -/

namespace Sys2Proof.Machine

/-- A field of the LKTBIND body (Table 9.11). -/
def State.bindB (s : State) (b off w : Nat) : Nat := s.cfg 0x0601 b off w

/-- LKT_STAT follows the array. -/
def State.lktStat (s : State) : State :=
  s.puts [(R.LKT_STAT_WAITING, s.lkt.waiting.length), (R.LKT_STAT_BUSY, b2n s.lkt.run.isSome),
    (R.LKT_STAT_BIND, (s.lkt.run.map (·.bind.val)).getD 0),
    (R.LKT_STAT_IDLE, b2n (s.lkt.run.isNone && s.lkt.waiting.isEmpty))]

/-- LOOKOUT_JOB_START (R357, R360): in the order in which the frames completed, lower bindings first. -/
def execLookoutJobStart (s : State) : Out :=
  if s.lkt.run.isSome then .next s
  else
    let first := s.lkt.waiting.foldl (fun o j => match o with
      | some k => if j.order < k.order ∨ (j.order = k.order ∧ j.bind < k.bind) then some j else some k
      | none => some j) (none : Option LktJob)
    match first with
    | none => .next s
    | some j =>
      .next (State.lktStat { s with lkt.waiting := s.lkt.waiting.filter (· != j), lkt.run := some j })

/-! ### Detections and scalars (R362 to R364) -/

/-- R362: a point through the port's homography: x and y in mm in the sensor frame, none where w' ≤ 0. -/
def State.ground (s : State) (n : Nat) (u v : Rat) : Option (Rat × Rat) :=
  let h (k : Nat) : Rat := q16 (s.cfgI 0x0500 n (0x44 + 4 * k) 4)
  let row (r : Nat) : Rat := h (3 * r) * u + h (3 * r + 1) * v + h (3 * r + 2)
  if row 2 ≤ 0 then none else some (row 0 / row 2, row 1 / row 2)

/-- The square root of a rational, rounded once to the nearest integer. -/
def roundSqrt (q : Rat) : Nat := (Nat.sqrt (4 * q).floor.toNat + 1) / 2

/-- A detection as Table 9.10 lays it out. -/
structure Det where
  cls : Nat
  kind : Nat
  conf : Nat
  box : List Nat
  x : Int := 0
  y : Int := 0
  sig : Nat := 0
  wid : Option Nat := none
  onGround : Bool := false
deriving DecidableEq, Repr

/-- R352, R362: a corner of the network's input in full-frame pixels: MV_X or MV_Y, and 2^MV_DS pixels for each of its own. -/
def toFrame (org ds v : Nat) : Nat := min 65535 (org + v * 2 ^ ds)

/-- R362: a detection of DETECT for a binding, on the region `roi` (MV_X, MV_Y, MV_DS). -/
def State.mkDet (s : State) (b n : Nat) (roi d : List Nat) : Det :=
  let g (k : Nat) : Nat :=
    let v := d.getD k 0
    if k = 0 then v % 16 else if k = 1 then v % 65536 else toFrame (roi.getD (k % 2) 0) (roi.getD 2 0) v
  let cls := g 0
  let u : Rat := ((g 2 : Rat) + g 4) / 2
  let base : Det := { cls := cls, kind := s.bindB b (8 + cls) 1, conf := g 1, box := [g 2, g 3, g 4, g 5] }
  match s.ground n u (g 5) with
  | none => base
  | some (x, y) =>
    let r2 := x * x + y * y
    let lim : Rat := 100 * s.sxB n 0x6C 2
    let k : Rat := (s.sxB n 0x6A 2 : Rat) / 65536
    if lim * lim < r2 then base
    else
      let sig := s.sxB n 0x68 2 + roundSqrt (k * k * r2)
      let wid := match s.ground n (g 2) (g 5), s.ground n (g 4) (g 5) with
        | some a, some c =>
          let dx := a.1 - c.1
          let dy := a.2 - c.2
          some (min 65535 (roundSqrt ((dx * dx + dy * dy) / 100)))
        | _, _ => none
      { base with x := roundQ x, y := roundQ y, sig := min 65535 sig, wid := wid, onGround := true }

/-- The 32 bytes of a detection entry. -/
def Det.bytes (d : Det) : List Nat :=
  [d.cls, d.kind] ++ leBytes 2 d.conf ++ d.box.flatMap (leBytes 2) ++ leBytes 4 (ofInt 32 d.x) ++
    leBytes 4 (ofInt 32 d.y) ++ leBytes 2 d.sig ++ leBytes 2 (d.wid.getD 0xFFFF) ++
    leBytes 2 (b2n d.onGround + 2 * b2n d.wid.isSome) ++ List.replicate 6 0

/-- R363: the scalars of a job and the mask of those that are valid. -/
def State.jobScalars (s : State) (j : LktJob) (acc : List Int) : List Int × Nat :=
  let per := s.bindB j.bind 0x38 1
  let dt : Option Int := j.prevFs.map fun p => (j.fs : Int) - p
  let one (f : Nat) : Int × Bool :=
    let v : Rat := q16 (s.cfgI 0x0601 j.bind (0x18 + 4 * f) 4) * acc.getD f 0
    if bit per f then
      match dt with
      | some d => if d ≤ 0 then (0, false) else (satS 32 (roundQ (v * 800000000 / d)), true)
      | none => (0, false)
    else (satS 32 (roundQ v), true)
  let vs := (List.range acc.length).map one
  (vs.map (·.1), (vs.zipIdx.map fun (v, i) => if v.2 then 2 ^ i else 0).sum)

/-- The validity time of the job's frame (R259, R262, R265): for a free-running camera that of the frame as it was ingested. -/
def State.jobTv (s : State) (i : Nat) (j : LktJob) : Option Int :=
  if s.srcB i 0 1 = 5 then j.trig.map fun t => (t.1 : Int) - s.cfgI 0x0400 i 0x10 4
  else ((s.src i).frames.find? fun f => f.1 == j.no % 65536).map (·.2)

/-- R265: what Lookout makes of a quarantined frame is held with it. -/
def State.holdJob (s : State) (i : Nat) (j : LktJob) (h : HeldJob) : State :=
  s.modSrc i fun c => { c with held := c.held.map fun x =>
    if x.tau % 65536 = ((j.no % 65536 : Nat) : Int) then { x with jobs := x.jobs ++ [h] } else x }

/-- The bytes of a network image (R358). -/
def State.netImage (s : State) (n : Nat) : List Nat :=
  let b := s.cfg 0x0600 n
  s.bodyBytes 0x0600 n (64 + 16 * b 0x0E 2 + 32 * b 0x18 4 + b 0x1C 4)

/-- The record of a job in the detection ring (R364). -/
def State.writeJob (s : State) (j : LktJob) (dets : List Det) (flags scv cycles : Nat) (sc : List Int) : State :=
  let w := s.get R.LKT_RING_WIDX_VALUE
  let tick := (j.trig.map (·.2)).getD 0
  let bs := leBytes 8 j.fs ++ leBytes 4 tick ++ leBytes 2 j.no ++ [j.port, j.bind, dets.length, flags] ++ leBytes 2 scv ++
    leBytes 4 cycles ++ ((List.range 8).flatMap fun f => leBytes 4 (ofInt 32 (sc.getD f 0))) ++ List.replicate 6 0 ++
    leBytes 2 s.lkt.seq ++ dets.flatMap Det.bytes ++ List.replicate (32 * (64 - dets.length)) 0
  let s := (s.ringWrite 0x14 (w % 256) bs).puts [(R.LKT_RING_WIDX_VALUE, w + 1), (R.LKT_BIND_CYC_VALUE j.bind, cycles),
    (R.LKT_BIND_LAST_FRAME_NO j.bind, j.no), (R.LKT_BIND_LAST_COUNT j.bind, dets.length)]
  { s with lkt.seq := (s.lkt.seq + 1) % 65536, lkt.run := none }

/-- R292, R362: the detections that reach the track stage, where a TRKSRC of MODE 0 names the source. -/
def State.detMeas (s : State) (i : Nat) (dets : List Det) : Option (List Meas) :=
  if !s.has 0x0410 0 || !s.has 0x0411 i || s.cfg 0x0411 i 0 1 != 0 then none
  else some ((dets.filter fun d => d.onGround && decide (1 ≤ d.kind ∧ d.kind ≤ 4)).map fun d =>
    { src := i, kind := d.kind, tv := 0, tick := 0, phase := 0, x := d.x, y := d.y, sig := d.sig, wid := d.wid, conf := d.conf })

/-- R292, R363: the fields and detections of a job reach the Plotter. -/
def State.jobToPlotter (s : State) (i : Nat) (j : LktJob) (h : HeldJob) : State :=
  match s.jobTv i j with
  | none => s.holdJob i j h
  | some tv =>
    let s := match h.fields with
      | some (v, bad) => s.ingestUsed i tv v bad
      | none => s
    match h.dets with
    | some l => s.takeDets i (l.map fun m => { m with tv := tv })
    | none => s

/-- R358: the input tensor of a network from the machine-vision bytes: p − 128, or (p >> 8) − 128 of 16-bit pixels. -/
def netInput (wide : Bool) (mv : List Nat) : List Int :=
  if wide then (List.range (mv.length / 2)).map fun i => (mv.getD (2 * i + 1) 0 : Int) - 128
  else mv.map fun (p : Nat) => (p : Int) - 128

/-! ### The network (R358, R359) -/

/-- What an inference has made so far: its tensors, the boxes of DETECT, and the scalars by index. -/
structure NetRun where
  tens : List (List Int)
  boxes : List (List Nat) := []
  scalars : List Int := List.replicate 8 0
deriving DecidableEq, Repr

/-- The entries of a network image (R358, R359): its tensors, its operators, its weights. -/
def netTensors (b : List Nat) : List (List Nat) :=
  (List.range (parN b 0x0E 2)).map fun i => (b.drop (64 + 16 * i)).take 16
def netOps (b : List Nat) : List (List Nat) :=
  (List.range (parN b 0x18 4)).map fun i => (b.drop (64 + 16 * parN b 0x0E 2 + 32 * i)).take 32
def netWeights (b : List Nat) : List Nat := b.drop (64 + 16 * parN b 0x0E 2 + 32 * parN b 0x18 4)

/-- The elements and the zero point of a tensor entry. -/
def tensorSize (t : List Nat) : Nat := parN t 0 2 * parN t 2 2 * parN t 4 2
def tensorZp (t : List Nat) : Int := parI t 6 1

def clampInt8 (q : Int) : Int := max (-128) (min 127 q)

/-- R359: out = clamp(zp + round(acc · MULT · 2^-(31 + SHIFT)), -128, 127). -/
def requantise (zp acc mult : Int) (shift : Nat) : Int :=
  clampInt8 (zp + roundQ ((acc : Rat) * mult / 2 ^ (31 + shift)))

/-- R359: ACT of an operator on an output: 0 none, 1 ReLU, 2 ReLU6, 3 leaky with slope 1/8, about the zero point
(`network pieces`). -/
def activate (op : List Nat) (zp v : Int) : Int :=
  match parN op 1 1 with
  | 1 => max zp v
  | 2 => min (Config.relu6Top op).toInt (max zp v)
  | 3 => if v < zp then clampInt8 (zp + roundDiv (v - zp) 8) else v
  | _ => v

/-- R359: one operator of a network. -/
def NetRun.op (tensors : List (List Nat)) (weights : List Nat) (r : NetRun) (op : List Nat) : NetRun :=
  let code := parN op 0 1
  let i0 := parN op 2 2
  let i1 := parN op 4 2
  let out := parN op 6 2
  let entry (i : Nat) : List Nat := tensors.getD i []
  let x := r.tens.getD i0 []
  let y := r.tens.getD i1 []
  let w := weights.drop (parN op 8 4)
  let zp := tensorZp (entry out)
  let put (l : List Int) : NetRun := { r with tens := r.tens.set out l }
  if code = 0x0A then put (x.map fun v => toInt 8 (w.getD (Config.lutIndex v).toNat 0))
  else if code = 0x0C then put x
  else if code = 0x0D then { r with boxes := r.boxes ++ Config.detect op [entry i0, entry i1] x y }
  else if code = 0x0E then
    let v := toInt 32 (ofInt 32 (x.map fun v => v - tensorZp (entry i0)).sum)
    { r with scalars := r.scalars.set (Config.scalarIndex op).toNat v }
  else
    put ((List.range (tensorSize (entry out))).map fun k =>
      let acc := if code = 4 ∨ code = 5 then
          let b := if y.length = x.length then y.getD k 0 else y.getD (Config.channel (entry i0) k) 0
          Config.elementAcc op (x.getD k 0) b (tensorZp (entry i0)) (tensorZp (entry i1))
        else Config.opAcc op [entry i0, entry i1, entry out] x y w k
      let (mult, shift) := if bit (parN op 29 1) 0 then
          let c := Config.channelScale op w k
          (c.1.toInt, c.2.toNat)
        else (parI op 24 4, parN op 28 1)
      activate op zp (requantise zp acc.toInt mult shift))

/-- R358, R359: an inference: the input is tensor 0, and the operators run in table order. -/
def runNet (net : List Nat) (input : List Int) : NetRun :=
  let ts := netTensors net
  (netOps net).foldl (NetRun.op ts (netWeights net)) { tens := input :: List.replicate (ts.length - 1) [] }

/-- LOOKOUT_JOB_COMPLETE (R357, R361 to R364): the job's record and scalars are written. An inference takes CYCLES and a wait of at
most 5 %; another count is not its end. -/
def execLookoutJobComplete (cycles : BitVec 32) (s : State) : Out :=
  match s.lkt.run with
  | none => .next s
  | some j =>
    let b := j.bind
    let net := s.bindB b 0 1
    let need := s.cfg 0x0600 net 0x10 4
    if cycles.toNat < need ∨ 21 * need < 20 * cycles.toNat then .next s else
    let s := { s with lkt.quiet := 0, lkt.stalled := false }
    let maxDet := s.cfg 0x0600 net 0x26 2
    let r := runNet (s.netImage net) (netInput (s.cfg 0x0600 net 0x0D 1 == 1) j.mv)
    let found := r.boxes.take maxDet
    let more := decide (maxDet < r.boxes.length)
    let acc := r.scalars
    let dets := ((found.filter fun d => decide (s.bindB b 4 2 ≤ d.getD 1 0)).take (min 64 maxDet)).map (s.mkDet b j.port j.roi)
    let (sc, scv) := s.jobScalars j (acc.take (s.cfg 0x0600 net 0x24 1))
    let all := 2 ^ sc.length - 1
    let s := s.writeJob j dets (2 * b2n more + 4 * b2n j.long) scv cycles.toNat sc
    let s := s.put R.LKT_RUNS_VALUE (s.get R.LKT_RUNS_VALUE + 1)
    let s := if more then s.raise 76 [b, j.no] else s
    let s := if scv = all then s else s.raise 77 [b, all - scv]
    let s := match s.camSource j.port with
      | none => s
      | some i =>
        let fields := if bit (s.bindB b 3 1) 1 then some (sc, (List.range sc.length).filter fun f => !bit scv f) else none
        let ds := if bit (s.bindB b 3 1) 0 then s.detMeas i dets else none
        if s.plt.up then s.jobToPlotter i j { fields := fields, dets := ds } else s
    .next s.lktStat

/-- R360: the running inference ends with a record that has ABORTED and no detections, and EV075. -/
def State.abortJob (s : State) (cycles : Nat) : State :=
  match s.lkt.run with
  | none => s
  | some j =>
    let s := s.writeJob j [] (1 + 4 * b2n j.long) 0 cycles []
    ((s.bump R.LKT_CNT_ABORT).raise 75 [j.bind, cycles]).lktStat

/-- LOOKOUT_JOB_ABORT (R357, R360): at JOB_MAX µs of CLK_F the inference is aborted. -/
def execLookoutJobAbort (cycles : BitVec 32) (s : State) : Out :=
  match s.lkt.run with
  | none => .next s
  | some j => .next (if cycles.toNat < 800 * s.bindB j.bind 6 2 then s else s.abortJob cycles.toNat)

/-- LOOKOUT_PAUSE (R366). -/
def execLookoutPause (s : State) : Out := .next (s.put R.LKT_CTL_PAUSE 1)

/-- LKT_CNT_READ. -/
def execLktCntRead (s : State) : Out :=
  .next (({ s with rdata := s.get R.LKT_CNT_ABORT * 2 ^ 16 + s.get R.LKT_CNT_SKIP } : State).puts
    [(R.LKT_CNT_ABORT, 0), (R.LKT_CNT_SKIP, 0)])

/-- Lookout is held in reset (Table 2.3). -/
def State.lktReset (s : State) : State := ({ s with lkt := {} } : State).clearBlock 0x06

/-- Lookout leaves reset; its ring has its place in DRAM, which the manual does not fix but below 4 GiB (R516). -/
def State.lktStart (s : State) : State :=
  if s.lkt.up then s
  else
    (State.place { s with lkt := { up := true } } R.LKT_RING_LO_VALUE (256 * 2112)).lktStat

end Sys2Proof.Machine
end

