-- ==== Sys2Proof/Machine/Errors.lean ====
section
/-! DEFINITION. Uncorrectable errors as their readers handle them, atomics on the scratchpad, and DRAM errors (Shared Scratchpad
and Memory Fabric). -/

namespace Sys2Proof.Machine

/-! ### Failed work (Table 10.3) -/

/-- A job of the Plotter fails (log entry `failed work`): it leaves the fabric with nothing done; a primary's output is missed
(R276), a load's close corrects no cell. -/
def State.jobFailed (s : State) (tag : Nat) : State :=
  match s.takenJob tag with
  | none => s
  | some j =>
    let s := s.leaveFabric tag
    let s := match j.kind with
      | 0 => { s with plt.failed := s.plt.failed ++ [j] }
      | 5 => (s.modYld fun y => { y with
          closing := y.closing.map fun (c : Closing) => if c.no = j.out then { c with f := none } else c }).closeWork j.out
      | _ => s
    s.admitWaiting.jobsChanged

/-- A block of a pipeline fails (log entry `failed work`): it is not completed and is due again. -/
def State.blockFailed (s : State) (k : Nat) : State :=
  State.pipeStat { s with sxt.pipes := s.sxt.pipes.modify k fun p => { p with run := none } } k

/-- Lookout's inference fails (log entry `failed work`): it ends as R360 has an aborted one end. -/
def State.inferenceFailed (s : State) : State :=
  let (n, s) := s.free 32
  s.abortJob n

/-! ### Scratchpad and DRAM errors -/

/-- Table 10.3: what an uncorrectable error does to its reader, beside the shared handling. -/
def State.readerError (s : State) : SpdReader → State
  | .helmState ch => { s with hlm.arith := s.hlm.arith ++ [ch] }
  | .helmInput ch slot => { s with hlm.badIn := s.hlm.badIn ++ [(ch, slot)] }
  | .dSlot st => { s with mrd.dSpoilt := s.mrd.dSpoilt ++ [st] }
  | .inputTable st =>
    { s with mrd.inNext := s.mrd.inNext.map fun p => if p.1 = st then (p.1, { p.2 with valid := false }) else p }
  | .mailbox w => s.setMbx w {}
  | .plotter tag => s.jobFailed tag
  | .sextant k => s.blockFailed k
  | .lookout => s.inferenceFailed
  | .pilot => { s with spd.ended := s.spd.ended.set 5 true }
  | .debug => { s with spd.ended := s.spd.ended.set 6 true }
  | .scrubber => s

/-- SCRATCHPAD_ERROR (R377, Table 10.3): a corrected word is written back; which word of the row holds an uncorrectable error the
command does not say, and is free. -/
def execScratchpadError (bank : Fin 32) (row : Fin 160) (ue : Bool) (rd : SpdReader) (s : State) : Out :=
  let s := s.spdError bank row ue (readerLevel rd)
  if ue then
    let (w, s) := s.free 8
    .next ((s.spoilWord bank row w).readerError rd)
  else .next s

/-- R376: a job of the Plotter in the fabric, by its tag; which of them issued an atomic the command does not say, and is free. -/
def State.someJob (s : State) : Nat × State :=
  let taken := s.plt.jobs.filter (·.taken)
  let (v, s) := s.free 9
  (((taken[v % max 1 taken.length]?).map (·.tag)).getD 512, s)

/-- An atomic on `n` bytes at offset `a` (R375, R376): it returns the old value; with an uncorrectable read nothing is
written, the error is returned to its master, and the master's work fails as Table 10.3 states. -/
def State.atomic (s : State) (lvl a n : Nat) (ue : Bool) (f : Nat → Nat) : State :=
  if !atomicAllowed lvl a then s
  else if ue then
    let row := s.physRow (spdBank a) (spdRow a)
    let s := (s.spdError (spdBank a) row true lvl).spoilWord (spdBank a) row (bits a 5 8)
    let s := { s with spd.ended := s.spd.ended.set lvl true }
    if lvl = 2 then
      let (tag, s) := s.someJob
      s.readerError (.plotter tag)
    else if lvl = 4 then s.readerError .lookout else s
  else
    let old := s.spdRead a n
    ({ s with rdata := old, spd.ended := s.spd.ended.set lvl false } : State).spdWrite a n (f old % 2 ^ (8 * n))

/-- The byte offset of a half of a word. -/
def halfAddr (word : Nat) (half : Fin 2) : Nat := 8 * word + 4 * half

def execAtomicAdd32 (level : Fin 7) (word : Nat) (half : Fin 2) (v : BitVec 32) (ue : Bool) (s : State) : Out :=
  .next (s.atomic level (halfAddr word half) 4 ue (· + v.toNat))

def execAtomicAdd64 (level : Fin 7) (word : Nat) (v : BitVec 64) (ue : Bool) (s : State) : Out :=
  .next (s.atomic level (8 * word) 8 ue (· + v.toNat))

def execAtomicSwap32 (level : Fin 7) (word : Nat) (half : Fin 2) (v : BitVec 32) (ue : Bool) (s : State) : Out :=
  .next (s.atomic level (halfAddr word half) 4 ue fun _ => v.toNat)

def execAtomicSwap64 (level : Fin 7) (word : Nat) (v : BitVec 64) (ue : Bool) (s : State) : Out :=
  .next (s.atomic level (8 * word) 8 ue fun _ => v.toNat)

/-- R392: an uncorrectable error in a word of the protected region, the lowest 4 GiB: which of its 72 bits are in error is free. -/
def State.dramSpoil (s : State) (addr : Nat) : State :=
  if 0x100000000 ≤ addr then s
  else
    let (x, s) := s.free 72
    { s with spd.dramFlips := (s.spd.dramFlips.filter fun f => f.1 != addr / 8) ++ [(addr / 8, x)] }

/-- DRAM_ECC_ERROR (R392, R441): a corrected or uncorrectable DRAM error; a rate of uncorrectable errors that lasts is one
occurrence. -/
def execDramEccError (ue : Bool) (use : DramUse) (s : State) : Out :=
  let s := (s.bump (if ue then R.FAB_ERR_UE else R.FAB_ERR_CE)).raise 85 [b2n ue, bits use.addr 6 32, bits use.addr 38 2]
  if ue then
    let s := s.readerError use.rd
    let s := s.dramSpoil use.addr
    let s := s.proveError 2
    let before := s.rep.dramUe.filter fun t => decide (s.now < t + oneSecond)
    let max_ := s.get R.REP_CFG_DRAM_UE_MAX
    let lasts := s.rep.dpActive.contains 2 && decide (max_ ≤ before.length)
    let begins := !lasts && decide (max_ ≤ before.length + 1)
    let s := { s with rep.dramUe := before ++ [s.now], rep.dpActive := if lasts || begins then [2] else [] }
    .next (if begins then s.dataPlaneFail 2 else s)
  else .next s

end Sys2Proof.Machine
end

