-- ==== Sys2Proof/Machine/Dram.lean ====
section
/-! DEFINITION. What stands in DRAM at the places that registers report (R280, R304, R312 to R314, R321, R340, R354, R355, R364,
R516): queues, lists, the tile directory and store, camera and coding rings. -/

namespace Sys2Proof.Machine

/-- A signed 32-bit field. -/
def i32 (v : Int) : List Nat := leBytes 4 (ofInt 32 v)

/-- The tile at a column and row. -/
def State.tileAt (s : State) (te tn : Int) : Option Tile := (s.plt.yld.tiles.filterMap id).find? fun t => t.te == te && t.tn == tn

/-- Byte `a` of a tile (Tables 8.5, 8.6). -/
def State.tileByte (s : State) (t : Tile) (a : Nat) : Nat :=
  if a < 64 then
    (leBytes 4 0x454C4954 ++ leBytes 2 1 ++ leBytes 2 (s.cfg 0x0420 0 8 2) ++ i32 t.te ++ i32 t.tn ++
      s.bodyBytes 0x0402 0 8 ++ leBytes 4 t.rev ++ leBytes 4 t.cells ++ leBytes 8 (ofInt 64 t.tFirst) ++
      leBytes 8 (ofInt 64 t.tLast)).getD a 0
  else
    match t.map.find? fun m => m.idx == (a - 64) / 16 with
    | some m =>
      (leBytes 4 m.wet ++ leBytes 4 m.dry ++ leBytes 4 m.area ++ leBytes 2 m.moist ++
        [min 255 m.cells, m.flags]).getD (a % 16) 0
    | none => 0

/-- A slot of a ring. -/
def State.ringSlot (s : State) (r i : Nat) : List Nat :=
  ((s.rings.find? fun e => e.1 == r * 2 ^ 32 + i).map (·.2)).getD []

/-- The rings of slots: base, slot size, slots, and the ring. -/
def State.dramRings (s : State) : List (Nat × Nat × Nat × Nat) :=
  let trk := s.get R.PLT_TRK_BUF_LO_VALUE
  (s.products.map fun p => (s.get (R.PLT_P_QBASE_LO_VALUE p), 128, 2 ^ s.prodB p 8 1, p)) ++
    [(trk, 0x4040, 1, 0x12), (trk + 0x4040, 0x4040, 1, 0x13),
      (s.get R.PLT_CELLQ_BASE_LO_VALUE, 64, 2 ^ s.cfg 0x0420 0 0x3A 1, 0x10), (s.get R.PLT_LOADQ_BASE_LO_VALUE, 64, 64, 0x11),
      (s.get R.LKT_RING_LO_VALUE, 2112, 256, 0x14)] ++
    (List.range 8).flatMap fun n =>
      [(1, s.pipeB (n / 2) 3 1 % 16), (2, s.pipeB (n / 2) 9 1 / 16), (3, s.pipeB (n / 2) 3 1 / 16)].map fun (r, slots) =>
        let ring := 0x40 + 4 * n + r
        (camBase n r, (s.ringSlot ring 0).length, slots, ring)

/-- A byte of a ring of slots. -/
def State.ringByte (s : State) (a : Nat) : Nat × Nat × Nat × Nat → Option Nat
  | (base, size, slots, ring) =>
    if base ≤ a ∧ a < base + size * slots then (s.ringSlot ring ((a - base) / size))[(a - base) % size]? else none

/-- A byte of the tile directory (R314): TE, TN, slot address, flags, REV; of a slot without a tile only USED is stated. -/
def State.tileDirByte (s : State) (a : Nat) : Option Nat :=
  let base := s.get R.PLT_TILEDIR_LO_VALUE
  if s.plt.up ∧ base ≤ a ∧ a < base + 16 * s.cfg 0x0420 0 0x0A 2 then
    let k := (a - base) / 16
    match s.plt.yld.tiles.getD k none with
    | some t =>
      (i32 t.te ++ i32 t.tn ++ leBytes 5 ((Config.tileSlot k).toNat % (2 ^ 32 - 1048640)) ++ [1 + 2 * b2n t.dirty] ++
        leBytes 2 t.rev)[(a - base) % 16]?
    | none => if (a - base) % 16 = 13 then some 0 else none
  else none

/-- A byte of the tile store. -/
def State.tileStoreByte (s : State) (a : Nat) : Option Nat :=
  s.plt.yld.tiles.zipIdx.findSome? fun (t, k) =>
    let base := (Config.tileSlot k).toNat % (2 ^ 32 - 1048640)
    t.bind fun t => if base ≤ a ∧ a < base + 1048640 then some (s.tileByte t (a - base)) else none

/-- A byte of a port's input buffer (R331, R340): the lines that its frames still hold, 16 bits a pixel. -/
def State.inputByte (s : State) (n a : Nat) : Option Nat :=
  let base := camBase n 0
  let w := 2 * s.sxB n 4 2
  let size := s.sxB n 0x14 2
  if base ≤ a ∧ a < base + w * size then
    let ls := ((s.sxPort n).frames.flatMap (·.lines)).reverse
    let end_ := (s.sxPort n).widx.getD 0 0
    let slot := (a - base) / w
    (ls.zipIdx.find? fun (_, j) => (end_ + 2 ^ 32 - 1 - j) % size == slot).bind fun (l, _) =>
      l[(a - base) % w / 2]?.map fun p => if (a - base) % 2 = 0 then p % 256 else p / 256
  else none

/-- A byte of a coding ring (R354): those written and not read. -/
def State.encByte (s : State) (i a : Nat) : Option Nat :=
  let base := s.get (R.SXT_ENC_BASE_LO_VALUE i) + 2 ^ 32 * s.get (R.SXT_ENC_BASE_HI_VALUE i)
  let size := 2 ^ s.codecB i 9 1
  if s.flag (R.SXT_ENC_STAT_ON i) ∧ base ≤ a ∧ a < base + size then
    (s.sxt.encs.getD i {}).buf[(a - base + size - s.get (R.SXT_ENC_RD_VALUE i) % size) % size]?
  else none

/-- What is known of a byte of DRAM. -/
def State.dramByte (s : State) (a : Nat) : Option Nat :=
  (s.dramRings.findSome? (s.ringByte a)).orElse fun _ =>
    (s.tileDirByte a).orElse fun _ =>
      (s.tileStoreByte a).orElse fun _ =>
        ((List.range 8).findSome? fun n => s.inputByte n a).orElse fun _ => (List.range 4).findSome? fun i => s.encByte i a

/-- A word of DRAM as a management read returns it (Table 16.4): the check bits are not accessible; what no rule places at an
address is open. -/
def State.dramRead (s : State) (a : Nat) : Nat :=
  if 0x100000000 ≤ a ∧ a < 0x120000000 then 0
  else leNat ((List.range 4).map fun k => (s.dramByte (a + k)).getD (bits (Config.dramWord a).toNat (8 * k) 8))

/-- R392: the 72 bits stored for a word of the protected region: 64 of data, the SECDED code over them, and the bits in error
turned. -/
def State.dramStored (s : State) (a : Nat) : BitVec 72 :=
  let data := s.dramRead a + 2 ^ 32 * s.dramRead (a + 4)
  BitVec.ofNat 72 (data + 2 ^ 64 * (Config.secded (BitVec.ofNat 64 data)).toNat) ^^^
    BitVec.ofNat 72 ((s.spd.dramFlips.lookup (a / 8)).getD 0)

end Sys2Proof.Machine
end

