-- ==== Sys2Proof/Machine/Can.lean ====
section
/-! DEFINITION. The CAN controllers: receive objects, transmit queues, transmit objects, forwarding and error states (CAN and
ISOBUS Controllers). -/

namespace Sys2Proof.Machine

/-- Fields of the BUSCFG, RXOBJ and TXOBJ bodies (Table 11.5). -/
def State.busB (s : State) (c off n : Nat) : Nat := s.cfg 0x0900 c off n
def State.rxB (s : State) (c o off n : Nat) : Nat := s.cfg 0x0901 (256 * c + o) off n
def State.txB (s : State) (c j off n : Nat) : Nat := s.cfg 0x0902 (32 * c + j) off n

def State.busOf (s : State) (c : Nat) : Bus := s.bus.getD c {}
def State.modBus (s : State) (c : Nat) (f : Bus → Bus) : State := { s with bus := s.bus.modify c f }

/-- R401, Table 11.1: the TERM switch of BUS2 to BUS5 is closed: its record sets TERM and the module is powered (in hold-up
too). A module without the record, unpowered or before LOAD, has it open. -/
def State.termClosed (s : State) (c : Nat) : Bool := s.pwr.powered && s.has 0x0900 c && bit (s.busB c 0 1) 4

/-- Table 11.2, R408, R422: the controller cannot be on the bus: no record, its mode, or no clock. -/
def State.busHeld (s : State) (c : Nat) : Bool :=
  !s.has 0x0900 c || !s.inMode [mSTANDBY, mROAD, mFIELD, mSERVICE, mLIMP] || s.flag (R.BUS_STAT_CLK_LOST c)

/-- BUS_STAT.STOPPED (R407, R408, R422, Table 11.2): the controller is off the bus. -/
def State.busStopped (s : State) (c : Nat) : Bool :=
  s.busHeld c || (s.flag (R.BUS_CTL_STOP c) && !((s.busOf c).queue.any (·.sending)))

/-- A frame whose SOF carries this stamp began before a moment; one with no stamp counts as begun after it (log: `frames on the
bus at an edge`). -/
def begunBefore (stamp at_ : Option Nat) : Bool :=
  match stamp, at_ with
  | some t, some a => decide (t < a)
  | _, _ => false

/-- BUS_STAT.SILENT (Table 11.5): in SERVICE only. -/
def State.busSilent (s : State) (c : Nat) : Bool := bit (s.busB c 0 1) 3 && s.mode == mSERVICE

/-- An event on a bus (EV088 to EV093). -/
def State.busEvent (s : State) (c why detail : Nat) : State := s.raise (88 + c) [why, detail]

/-- BUS_STAT.TXQ follows the queue. -/
def State.busQueue (s : State) (c : Nat) (q : List TxEntry) : State :=
  (s.modBus c fun b => { b with queue := q }).put (R.BUS_STAT_TXQ c) q.length

/-! ### Error states (R419) -/

/-- The counters take new values; the error state follows, and each change is reported. -/
def State.busCount (s : State) (c tec rec : Nat) : State :=
  let st := s.get (R.BUS_STAT_ESTATE c)
  let s := (s.modBus c fun b => { b with tec := tec }).puts
    [(R.BUS_ERRC_TEC c, min 255 tec), (R.BUS_ERRC_REC c, min 255 rec)]
  let nst := if 255 < tec then 2 else if 127 < tec ∨ 127 < rec then 1 else 0
  if 2 ≤ st ∨ nst = st then s
  else
    let s := (s.put (R.BUS_STAT_ESTATE c) nst).busEvent c (if nst = 0 then 1 else if nst = 1 then 0 else 2) 0
    if nst = 2 then s.bump (R.BUS_ERRC_BOFF c) else s

/-- CAN_BUS_ERROR (R419): an error while receiving; `primary` when the receiver sees a dominant bit after its own error
flag. -/
def execCanBusError (c : Fin 6) (lec : Fin 7) (primary : Bool) (s : State) : Out :=
  if s.busStopped c || decide (2 ≤ s.get (R.BUS_STAT_ESTATE c)) then .next s
  else
    let s := s.put (R.BUS_ERRC_LEC c) lec
    .next (State.busCount s c (s.busOf c).tec (s.get (R.BUS_ERRC_REC c) + if primary then 8 else 1))

/-- The controller begins bus integration; one in bus-off stays there until it recovers (R419). -/
def State.integrate (s : State) (c : Nat) : State :=
  if s.get (R.BUS_STAT_ESTATE c) = 2 then s else s.put (R.BUS_STAT_ESTATE c) 3

/-- BUS_INTEGRATION_COMPLETE (R406): the controller takes part again, in the state that its counters give. -/
def execBusIntegrationComplete (c : Fin 6) (s : State) : Out :=
  if s.busStopped c || s.get (R.BUS_STAT_ESTATE c) != 3 then .next s
  else .next (s.put (R.BUS_STAT_ESTATE c) (b2n (decide (127 < (s.busOf c).tec ∨ 127 < s.get (R.BUS_ERRC_REC c)))))

/-- BUS_RECOVER (R419): a write of RECOVER begins recovery from bus-off; AUTO_RECOVER and LIMP begin it at once. -/
def State.busRecover (s : State) (c : Nat) : State :=
  if s.get (R.BUS_STAT_ESTATE c) = 2 then s.put (R.BUS_CTL_RECOVER c) 1 else s

def execBusRecover (c : Fin 6) (s : State) : Out := .next (s.busRecover c)

/-- BUS_OFF_RECOVERED (R419): 128 occurrences of 11 recessive bits, once recovery has begun. -/
def execBusOffRecovered (c : Fin 6) (s : State) : Out :=
  let begun := bit (State.busB s c 0 1) 2 || s.mode == mLIMP || s.flag (R.BUS_CTL_RECOVER c)
  if s.get (R.BUS_STAT_ESTATE c) = 2 ∧ begun ∧ !s.busStopped c then
    let s := State.modBus s c fun b => { b with tec := 0 }
    .next ((State.puts s [(R.BUS_STAT_ESTATE c, 0), (R.BUS_CTL_RECOVER c, 0), (R.BUS_ERRC_TEC c, 0),
      (R.BUS_ERRC_REC c, 0)]).busEvent c 3 0)
  else .next s

/-! ### The transmit queue (R412 to R415) -/

/-- Table 11.1: what a controller can send: Classical CAN of up to 8 bytes, and CAN FD where its record sets FD (never on BUS0
and BUS1). -/
def State.carries (s : State) (c : Nat) (f : CanFrame) : Bool :=
  if f.fdf then decide (2 ≤ c) && bit (s.busB c 0 1) 0 else decide (f.data.length ≤ 8)

/-- R412: entries that arrive together: transmit objects of one tick, which all submit at its edge (R416), in ascending number. -/
def TxEntry.before (e x : TxEntry) : Bool :=
  e.src == 1 && x.src == 1 && x.arrived == e.arrived && !x.sending && decide (e.obj.getD 0 < x.obj.getD 0)

/-- R412: the place of an arriving entry: the tail, but before the transmit objects of its tick with higher numbers. -/
def queueIn (e : TxEntry) : List TxEntry → List TxEntry
  | [] => [e]
  | x :: l => if e.before x then e :: x :: l else x :: queueIn e l

/-- R412: an entry is submitted: refused at a full queue, and where the controller cannot carry its frame (Table 11.1; log:
`frames that a controller cannot carry`). -/
def State.busSubmit (s : State) (c : Nat) (e : TxEntry) : State × Bool :=
  let q := (s.busOf c).queue
  if q.length < 32 ∧ s.carries c e.frame then (s.busQueue c (queueIn e q), true)
  else ((s.bump (R.BUS_CNT1_TXDROP c)).raise 94 [c, e.src], false)

/-- The arbitration key of a frame (R414). -/
def canKey (f : CanFrame) : Nat := bits f.id 18 11 * 2 ^ 19 + (if f.xtd then 2 ^ 18 + f.id % 2 ^ 18 else 0)

/-- R414: the entries that a command moves or removes: those ahead of the first at or below the key. -/
def State.busReorder (s : State) (c : Nat) (abort : Bool) : State :=
  let s := (s.put (R.BUS_TXCMD_OP c) (b2n abort)).put (R.BUS_TXCMD_MOVED c) 0
  if s.mode = mLIMP then s.put (R.BUS_TXCMD_RESULT c) 3
  else
    let key := s.get (R.BUS_TXKEY_KEY c)
    let q := (s.busOf c).queue
    match q.findIdx? fun e => decide (canKey e.frame ≤ key) with
    | none => s.put (R.BUS_TXCMD_RESULT c) 2
    | some i =>
      let ahead := q.take i
      let stay := ahead.filter (·.sending)
      let go := ahead.filter fun e => !e.sending
      let s := s.busQueue c (stay ++ q.drop i ++ if abort then [] else go)
      let s := if stay = [] then s else s.modBus c fun b => { b with after := some (key, abort) }
      s.puts [(R.BUS_TXCMD_RESULT c, 1), (R.BUS_TXCMD_MOVED c, go.length)]

def execRequeue (c : Fin 6) (s : State) : Out := .next (s.busReorder c false)
def execTxAbort (c : Fin 6) (s : State) : Out := .next (s.busReorder c true)

/-- R406: in LIMP only SAFE sources are served. -/
def State.limpDrop (s : State) (c : Nat) : State :=
  if s.mode = mLIMP then
    s.busQueue c ((s.busOf c).queue.filter fun e => e.safe || e.sending)
  else s

/-- The head entry is not in transmission any more; a command that waited for it acts (R414). -/
def State.headBack (s : State) (c : Nat) : State :=
  match (s.busOf c).queue with
  | [] => s
  | e :: q =>
    let e := { e with sending := false }
    let s := match (s.busOf c).after with
      | some (key, abort) =>
        let s := s.modBus c fun b => { b with after := none }
        if key < canKey e.frame then (s.busQueue c (q ++ if abort then [] else [e])).bump (R.BUS_TXCMD_MOVED c)
        else s.busQueue c (e :: q)
      | none => s.busQueue c (e :: q)
    s.limpDrop c

/-- CAN_TX_ATTEMPT_END (R412, R415, R416, R419): the head entry's attempt begins, or ends. -/
def execCanTxAttemptEnd (c : Fin 6) (r : TxEnd) (s : State) : Out :=
  let s := match r with
    | .sent stamp => s.tookStamp (ptBus c 1) stamp
    | _ => s
  match (State.busOf s c).queue with
  | [] => .next s
  | e :: q =>
    if decide (2 ≤ s.get (R.BUS_STAT_ESTATE c)) || s.busStopped c || s.busSilent c then .next s
    else match r with
    | .started => .next (s.busQueue c ({ e with sending := true } :: q))
    | .lost => .next (s.headBack c)
    | .failed lec exempt =>
      let keep := exempt && (lec == 1 || (lec == 3 && s.get (R.BUS_STAT_ESTATE c) == 1))
      let s := (s.headBack c).put (R.BUS_ERRC_LEC c) (lec % 8)
      .next (State.busCount s c ((s.busOf c).tec + if keep then 0 else 8) (s.get (R.BUS_ERRC_REC c)))
    | .sent stamp =>
      let s := s.modBus c fun b => { b with after := none }
      let s := s.busQueue c q
      let (t, s) := s.stampOr stamp
      let s := if e.src = 2 ∨ e.src = 3 then s.puts [(R.BUS_TXDONE_TAG c, e.tag),
          (R.BUS_TXSTAMP_VALUE c 0, t), (R.BUS_TXSTAMP_VALUE c 1, t / 2 ^ 32)] else s
      let s := match e.obj with
        | some j => s.puts [(R.BUS_TXO_SOF_VALUE c j 0, t), (R.BUS_TXO_SOF_VALUE c j 1, t / 2 ^ 32)]
        | none => s
      .next (State.busCount s c ((s.busOf c).tec - 1) (s.get (R.BUS_ERRC_REC c)))

/-- TX_MAX_EXPIRY (R413): an entry that has waited TX_MAX ms and is not in transmission is removed. -/
def execTxMaxExpiry (c : Fin 6) (s : State) : Out :=
  let lim := State.busB s c 0x0C 2
  let q := (State.busOf s c).queue
  match q.findIdx? fun e => !e.sending && lim != 0 && decide (e.arrived + 10 * lim ≤ s.chr.tick) with
  | none => .next s
  | some i =>
    -- Table 11.8: the object, or the TAG.
    let detail := (q[i]?.map fun e => e.obj.getD e.tag).getD 0
    .next (((s.busQueue c (q.eraseIdx i)).bump (R.BUS_CNT1_TXDROP c)).busEvent c 6 detail)

/-- The frame that a submission's words describe (Table 11.7): TXOBJ's ID word, LEN, data. -/
def frameOfWords (w len : Nat) (data : List Nat) : CanFrame :=
  let fdf := bit w 30
  let dlc := if len ≤ 8 then len else [12, 16, 20, 24, 32, 48, 64].foldl (fun d l => if l < len then d + 1 else d) 9
  { id := w % 2 ^ 29, xtd := bit w 29, fdf := fdf, brs := bit w 31, dlc := dlc
    data := (data ++ List.replicate len 0).take len }

/-- BUS_TXSUB (R412, R415, Table 11.7): a submission of the firmware (2) or the host (3): RESULT. -/
def State.txSubmit (s : State) (c src tag : Nat) (f : CanFrame) : State × Nat :=
  if s.mode = mLIMP ∨ s.busStopped c then (s, 3)
  else
    let (s, ok) := s.busSubmit c { frame := f, src := src, tag := tag, arrived := s.chr.tick }
    (s, if ok then 1 else 2)

/-- A GO of BUS_TXSUB: the words are submitted as the firmware's. -/
def State.txGo (s : State) (c : Nat) : State :=
  let w (k : Nat) : Nat := s.get (R.BUS_TXW_VALUE c k)
  let data := (List.range 16).flatMap fun k => leBytes 4 (w (2 + k))
  let (s, r) := s.txSubmit c 2 (w 1 / 65536) (frameOfWords (w 0) (w 1 % 256) data)
  s.put (R.BUS_TXSUB_RESULT c) r

/-! ### Transmit objects (R416) -/

/-- TXOBJ_SUBMIT (R416, R418): in its tick an enabled object submits a frame from its mailbox words. -/
def execTxobjSubmit (c : Fin 6) (j : Fin 32) (s : State) : Out :=
  let b := State.txB s c j
  let flags := b 5 1
  let len := b 4 1
  if !State.has s 0x0902 (32 * c.val + j.val) || !bit flags 2 || s.busStopped c || s.busSilent c ||
      (s.mode == mLIMP && !bit flags 0) || s.chr.tick % max 1 (b 6 2) != b 8 2 ||
      (State.busOf s c).acted.getD j none == some s.chr.tick then .next s
  else
    let s := State.modBus s c fun b => { b with acted := b.acted.set j (some s.chr.tick) }
    let ws := (List.range ((len + 3) / 4)).map fun k => s.mbx (b 0x0C 4 % 2 ^ 20 + k)
    let wasStale := (State.busOf s c).stale.contains j.val
    if ws.any fun m => !m.valid then
      let s := State.bump s (R.BUS_TXO_STAT_STALE c j)
      .next (if wasStale then s else (State.modBus s c fun b => { b with stale := b.stale ++ [j.val] }).busEvent c 7 j)
    else
      let s := State.modBus s c fun b => { b with stale := b.stale.filter (· != j.val) }
      let sub := bit flags 1
      match if sub then (s.busOf c).iso.addr else some 0 with
      | none => .next s
      | some a =>
        let w := b 0 4
        let w := if sub then w / 256 * 256 + a else w
        let f := frameOfWords w len (ws.flatMap fun m => leBytes 4 m.val)
        let (s, ok) := State.busSubmit s c { frame := f, src := 1, obj := some j.val, safe := bit flags 0
                                             arrived := s.chr.tick }
        .next (if ok then s else s.bump (R.BUS_TXO_STAT_SKIP c j))

/-! ### Receive objects (R409 to R411, R417) -/

/-- A receive object, and the objects, rising, with one set. -/
def rxGet (o : Nat) : List (Nat × RxObj) → RxObj
  | [] => {}
  | (a, x) :: l => if a = o then x else rxGet o l

def rxSet (o : Nat) (x : RxObj) : List (Nat × RxObj) → List (Nat × RxObj)
  | [] => [(o, x)]
  | (a, y) :: l => if o < a then (o, x) :: (a, y) :: l else if o = a then (o, x) :: l else (a, y) :: rxSet o x l

def State.rxObj (s : State) (c o : Nat) : RxObj := rxGet o (s.busOf c).rx
def State.setRx (s : State) (c o : Nat) (x : RxObj) : State := s.modBus c fun b => { b with rx := rxSet o x b.rx }

/-- The PGN of an extended identifier (ISO 11783-3). -/
def pgnOf (id : Nat) : Nat := if bits id 16 8 < 240 then bits id 16 10 * 256 else bits id 8 18

/-- The PGNs that the firmware's objects take (Table 11.4): claim, request, acknowledgement, transport, DM1 to DM3. -/
def isoPgns : List Nat := [0xEE00, 0xEA00, 0xE800, 0xEC00, 0xEB00, 0xFECA, 0xFECB, 0xFECC]

/-- R420: the firmware acts on the bus. -/
def State.isoOn (s : State) (c : Nat) : Bool := decide (c < 2) && s.has 0x0903 c && bit (s.cfg 0x0903 c 9 1) 0

/-- R409: the object a data frame matches: the lowest-numbered; object 240 is the firmware's where it acts. -/
def State.rxMatch (s : State) (c : Nat) (f : CanFrame) : Option Nat :=
  let hit (o : Nat) : Bool :=
    s.has 0x0901 (256 * c + o) && bit (s.rxB c o 0 4) 29 == f.xtd &&
      ((f.id ^^^ s.rxB c o 0 4) &&& s.rxB c o 4 4) % 2 ^ 29 == 0
  match (List.range 256).find? hit with
  | some o => some o
  | none => if s.isoOn c && f.xtd && isoPgns.contains (pgnOf f.id) then some 240 else none

/-- R410, R411: a frame into an object, or into its shadow while it is locked. -/
def State.rxStore (s : State) (c o : Nat) (m : RxMsg) : State :=
  let x := s.rxObj c o
  let lost := if x.lock.isSome then x.shadow.isSome else x.new
  let s := s.setRx c o (if x.lock.isSome then
      { x with shadow := some m, shadowLost := x.shadowLost || lost, lost := x.lost || lost }
    else { x with msg := some m, new := true, lost := x.lost || lost })
  if !lost then s
  else
    let s := s.bump (R.BUS_CNT0_LOST c)
    let due := match x.told with
      | some t => decide (t + 10000 ≤ s.chr.tick)
      | none => true
    if due then (s.setRx c o { s.rxObj c o with told := some s.chr.tick }).busEvent c 4 o else s

/-- R417: a frame as it goes out on another bus. -/
def forwarded (dest : Nat) (f : CanFrame) : CanFrame :=
  if dest < 2 ∧ f.fdf ∧ f.data.length ≤ 8 then { f with fdf := false, brs := false, esi := false } else f

/-- R417: a frame is forwarded; one that finds the queue full is dropped, and so is one that BUS0 and BUS1 cannot carry
(Table 11.1); in LIMP only a SAFE source is served (Table 11.2). -/
def State.forward (s : State) (c dest : Nat) (safe : Bool) (f : CanFrame) : State :=
  if s.mode = mLIMP ∧ !safe then s else
  let g := forwarded dest f
  let (s, ok) := if !s.carries dest g then (s, false)
    else s.busSubmit dest { frame := g, src := 0, safe := safe, arrived := s.chr.tick }
  if ok then s else (s.bump (R.BUS_CNT1_FWDROP dest)).raise 95 [c, dest]

/-- R423: the commits of the receive objects stand while a frame of up to 10 ms may be on the bus; here those of an edge. -/
def State.busCommitted (s old : State) (c : Nat) (l : List (Nat × Nat × Nat)) : State :=
  s.modBus c fun b => { b with
    rxWas := (b.rxWas.filter fun x => decide (s.now < x.1 + 8000000)) ++
      [(s.now, l.map fun e => (e.2.1, (cellGet e.2.1 old.regs).getD (resetOf e.2.1)))] }

/-- R406, R423: the state by which a frame that carries this SOF stamp is judged: the objects as they stood when it began. -/
def State.whenBegun (s : State) (c : Nat) (stamp : Option Nat) : State :=
  let l := (s.busOf c).rxWas.filter fun x => begunBefore stamp (some x.1)
  { s with regs := l.reverse.foldl (fun m x => x.2.foldl (fun m e => cellStore e.1 e.2 m) m) s.regs }

/-- CAN_RX_FRAME (R402, R406, R407, R409, R410, R417, R423): a frame valid for a receiver. One that began before the entry to
LIMP, a write of STOP or a commit completes as it began. -/
def execCanRxFrame (c : Fin 6) (f : CanFrame) (stamp : Option Nat) (s : State) : Out :=
  let s := s.tookStamp (ptBus c 0) stamp
  let off := s.busHeld c || (s.busStopped c && !begunBefore stamp (s.busOf c).stopAt)
  if off || decide (2 ≤ s.get (R.BUS_STAT_ESTATE c)) then .next s
  else if c.val < 2 ∧ f.fdf then
    .next (State.busCount (s.put (R.BUS_ERRC_LEC c) 2) c (State.busOf s c).tec (s.get (R.BUS_ERRC_REC c) + 1))
  else
    let rec' := s.get (R.BUS_ERRC_REC c)
    let s := State.busCount s c (s.busOf c).tec (if 127 < rec' then 127 else rec' - 1)
    if f.remote then .next (s.bump (R.BUS_CNT0_UNMATCHED c))
    else
    let v := s.whenBegun c stamp
    match State.rxMatch v c f with
    | none => .next (s.bump (R.BUS_CNT0_UNMATCHED c))
    | some o =>
      let safe := bit (v.rxB c o 9 1) 0
      if s.mode = mLIMP ∧ !safe ∧ !begunBefore stamp (s.busOf c).limpAt then .next s
      else
        let n := if State.has s 0x0901 (256 * c.val + o) then v.rxB c o 8 1 else 8
        let m : RxMsg := { frame := { f with data := f.data.take n }, stamp := stamp, trunc := decide (n < f.data.length) }
        let s := s.rxStore c o m
        let s := (List.range 6).foldl (fun s d =>
          if bit (v.rxB c o 0x0A 1) d then s.forward c d safe f else s) s
        if o < 240 ∨ !s.isoOn c then .next s
        else
          let q := (s.busOf c).iso.queue
          if q.length < 64 then .next (s.modBus c fun b => { b with iso := { b.iso with queue := q ++ [{ m with frame := f }] } })
          else .next ((s.modBus c fun b => { b with iso := { b.iso with lost := b.iso.lost + 1 } }).raise 98
            [c, (s.busOf c).iso.lost + 1])

/-- Word 0 of an object's window (Table 11.6). -/
def RxObj.word0 (x : RxObj) : Nat :=
  match x.msg with
  | none => 2 ^ 8 * b2n x.lockTo
  | some m =>
    m.frame.dlc % 16 * 2 ^ 16 + b2n m.stamp.isNone * 2 ^ 10 + b2n m.trunc * 2 ^ 9 + b2n x.lockTo * 2 ^ 8 +
      b2n x.new * 2 ^ 7 + b2n x.lost * 2 ^ 6 + b2n m.frame.xtd * 2 ^ 4 + b2n m.frame.fdf * 2 ^ 3 +
      b2n m.frame.brs * 2 ^ 2 + b2n m.frame.esi * 2 + 1

/-- A word of an object's window (Table 11.6). -/
def RxObj.word (x : RxObj) (k : Nat) : Nat :=
  match k, x.msg with
  | 0, _ => x.word0
  | _, none => 0
  | 1, some m => m.frame.id % 2 ^ 29
  | 2, some m => m.stamp.getD 0 % 2 ^ 32
  | 3, some m => m.stamp.getD 0 / 2 ^ 32 % 2 ^ 32
  | k + 4, some m => leNat ((m.frame.data.drop (4 * k)).take 4)

/-- R411: the lock ends: NEW and LOST clear and the shadow becomes the content. -/
def RxObj.release (x : RxObj) : RxObj :=
  let y := { x with lock := none, new := false, lost := false, shadow := none, shadowLost := false }
  match x.shadow with
  | some m => { y with msg := some m, new := true, lost := x.shadowLost }
  | none => y

/-- RXO_LOCK_READ (R411): master `m` reads the lock word. -/
def State.rxLock (s : State) (c o m : Nat) : State :=
  let x := s.rxObj c o
  let s := { s with rdata := x.word0 }
  if x.lock.isSome then s else s.setRx c o { x with lock := some m }

def execRxoLockRead (c : Fin 6) (o : Fin 256) (m : Nat) (s : State) : Out := .next (s.rxLock c o m)

/-- RXO_RELEASE_READ (R411): master `m` reads the last data word; the owner's read releases the lock. -/
def State.rxRelease (s : State) (c o m : Nat) : State :=
  let x := s.rxObj c o
  let s := { s with rdata := x.word (3 + s.rxB c o 8 1 / 4) }
  if x.lock = some m then s.setRx c o { x.release with lockTo := false } else s

def execRxoReleaseRead (c : Fin 6) (o : Fin 256) (m : Nat) (s : State) : Out := .next (s.rxRelease c o m)

/-- RXO_LOCK_TIMEOUT (R411). -/
def execRxoLockTimeout (c : Fin 6) (o : Fin 256) (s : State) : Out :=
  let x := State.rxObj s c o
  if x.lock.isNone then .next s
  else .next ((State.setRx s c o { x.release with lockTo := true }).busEvent c 5 o)

/-! ### Stopping, clock loss, modes (R406 to R408) -/

/-- A write of BUS_CTL.STOP (R407): acts in STANDBY and SERVICE. -/
def State.busStop (s : State) (c : Nat) (on : Bool) : State :=
  if !s.inMode [mSTANDBY, mSERVICE] then s
  else
    let was := s.flag (R.BUS_CTL_STOP c)
    let s := (s.put (R.BUS_CTL_STOP c) (b2n on)).modBus c fun b =>
      { b with stopAt := if !on then none else if was then b.stopAt else some s.now }
    if was && !on then s.integrate c else s

def execBusStop (c : Fin 6) (s : State) : Out := .next (s.busStop c true)
def execBusStart (c : Fin 6) (s : State) : Out := .next (s.busStop c false)

/-- PLL_C_UNLOCK (R408, Table 3.9). -/
def execPllCUnlock (s : State) : Out :=
  if !s.flag R.CHR_CLKSTAT_LOCK_C then .next s else
  let s := (s.put R.CHR_CLKSTAT_LOCK_C 0).raise 1 [2]
  let s := (List.range 6).foldl (fun s c =>
    (State.modBus (s.busQueue c []) c fun b => { b with after := none }).put (R.BUS_STAT_CLK_LOST c) 1) s
  .next (s.raise 99 [0])

/-- PLL_C_RELOCK (R120, R408). -/
def execPllCRelock (s : State) : Out :=
  if s.flag R.CHR_CLKSTAT_LOCK_C then .next s
  else
    let s := (s.put R.CHR_CLKSTAT_LOCK_C 1).resetDomain 4
    let s := (List.range 6).foldl (fun s c =>
      (State.modBus s c fun b => { b with tec := 0 }).puts
        [(R.BUS_ERRC_TEC c, 0), (R.BUS_ERRC_REC c, 0), (R.BUS_STAT_ESTATE c, 3), (R.BUS_STAT_CLK_LOST c, 0), (R.BUS_CTL_RECOVER c, 0)]) s
    .next (s.raise 99 [1])

/-- Table 11.2: what a mode change does to a controller: integration as it leaves reset, the queue in LIMP, STOP cleared
when SERVICE or STANDBY is left. -/
def State.busMode (s : State) (old : Nat) (c : Nat) : State :=
  let s := if (old = mSTANDBY ∨ old = mSERVICE) ∧ s.mode ≠ old ∧ s.flag (R.BUS_CTL_STOP c) then
      ((s.put (R.BUS_CTL_STOP c) 0).modBus c fun b => { b with stopAt := none }).integrate c else s
  let s := if (old = mPROVE ∨ old = mLOAD) ∧ s.inMode [mSTANDBY, mSERVICE, mLIMP] ∧ s.has 0x0900 c then s.integrate c else s
  let s := if s.mode = mLIMP then s.modBus c fun b => { b with limpAt := some s.now } else s
  s.limpDrop c

/-! ### Counters (R424) -/

def execBusCnt0Read (c : Fin 6) (s : State) : Out :=
  .next (({ s with rdata := s.get (R.BUS_CNT0_UNMATCHED c) * 2 ^ 16 + s.get (R.BUS_CNT0_LOST c) } : State).puts
    [(R.BUS_CNT0_UNMATCHED c, 0), (R.BUS_CNT0_LOST c, 0)])

def execBusCnt1Read (c : Fin 6) (s : State) : Out :=
  .next (({ s with rdata := s.get (R.BUS_CNT1_TXDROP c) * 2 ^ 16 + s.get (R.BUS_CNT1_FWDROP c) } : State).puts
    [(R.BUS_CNT1_TXDROP c, 0), (R.BUS_CNT1_FWDROP c, 0)])

def execBusTxoStatRead (c : Fin 6) (j : Fin 32) (s : State) : Out :=
  .next (({ s with rdata := s.get (R.BUS_TXO_STAT_STALE c j) * 2 ^ 16 + s.get (R.BUS_TXO_STAT_SKIP c j) } : State).puts
    [(R.BUS_TXO_STAT_STALE c j, 0), (R.BUS_TXO_STAT_SKIP c j, 0)])

end Sys2Proof.Machine
end

