-- ==== Sys2Proof/Machine/Isobus.lean ====
section
/-! DEFINITION. The ISO 11783 functions of the firmware on BUS0 and BUS1 (R420, R421, Table 11.4). What the manual leaves to
ISO 11783-3, -5 and -12 follows those standards, as the assumption log says. -/

namespace Sys2Proof.Machine

def State.iso (s : State) (c : Nat) : Iso := (s.busOf c).iso
def State.modIso (s : State) (c : Nat) (f : Iso → Iso) : State := s.modBus c fun b => { b with iso := f b.iso }

/-- The firmware runs (R420, R421): it stops with the management plane. -/
def State.isoRuns (s : State) (c : Nat) : Bool :=
  s.isoOn c && s.alm.pilotUp && !s.alm.mgmtFailed && s.inMode [mSTANDBY, mROAD, mFIELD, mSERVICE, mLIMP]

/-- It may also send: in LIMP only SAFE objects do (Table 11.2). -/
def State.isoUp (s : State) (c : Nat) : Bool := s.isoRuns c && s.mode != mLIMP

/-- The identifier of a PGN from an address to a destination (255 global). -/
def isoId (prio pgn dst src : Nat) : Nat :=
  prio * 2 ^ 26 + (if pgn / 256 % 256 < 240 then pgn / 256 * 256 + dst else pgn) * 256 + src

/-- The firmware submits a frame; LIMP refuses it (Table 11.2). -/
def State.isoSend (s : State) (c prio pgn dst src : Nat) (data : List Nat) : State :=
  if s.mode = mLIMP then s else
  (s.busSubmit c
    { frame := { id := isoId prio pgn dst src, xtd := true, dlc := data.length, data := data }, src := 2
      arrived := s.chr.tick }).1

/-- The NAME of the ISOBUS record. -/
def State.isoName (s : State) (c : Nat) : Nat := s.cfg 0x0903 c 0 8

/-- The address-claimed message. -/
def State.sendClaim (s : State) (c a : Nat) : State := s.isoSend c 6 0xEE00 255 a (leBytes 8 (s.isoName c))

/-- The firmware claims an address; the wait begins. -/
def State.isoClaim (s : State) (c a : Nat) : State :=
  (s.modIso c fun i => { i with addr := none, claim := some a, claimAt := s.chr.tick, cannot := false }).sendClaim c a

/-- ADDRESS_CLAIM (R420): at the entry to STANDBY, before anything has been claimed, the preferred address is claimed. -/
def execAddressClaim (c : Fin 2) (s : State) : Out :=
  let i := State.iso s c
  if s.isoUp c && i.addr.isNone && i.claim.isNone && !i.cannot then .next (s.isoClaim c (s.cfg 0x0903 c 8 1)) else .next s

/-- ADDRESS_CLAIM_WAIT_END (R420): 250 ms without contention: the address is held. -/
def execAddressClaimWaitEnd (c : Fin 2) (s : State) : Out :=
  match (State.iso s c).claim with
  | some a =>
    if s.isoUp c && decide ((State.iso s c).claimAt + 2500 ≤ s.chr.tick) then .next ((State.modIso s c fun i => { i with addr := some a, claim := none }).raise 96 [c, 0, a])
    else .next s
  | none => .next s

/-- Another control function holds an address (ISO 11783-5): the lower NAME wins; the loser claims another address when
its NAME allows it, or reports that it cannot claim. -/
def State.contend (s : State) (c a name : Nat) : State :=
  let i := s.iso c
  let s := s.modIso c fun i => { i with others := (i.others.filter (· != a)) ++ [a] }
  if i.addr ≠ some a ∧ i.claim ≠ some a then s
  else if s.isoName c < name then s.sendClaim c a
  else if bit (s.isoName c) 63 then
    match (List.range 120).find? fun k => !(s.iso c).others.contains (128 + k) with
    | some k => (s.isoClaim c (128 + k)).raise 96 [c, 1, 128 + k]
    | none => ((s.modIso c fun i => { i with addr := none, claim := none, cannot := true }).sendClaim c 254).raise 96
        [c, 2, 254]
  else ((s.modIso c fun i => { i with addr := none, claim := none, cannot := true }).sendClaim c 254).raise 96
    [c, 2, 254]

/-! ### Transport (ISO 11783-3) -/

/-- A packet of a transport session. -/
def tpPacket (data : List Nat) (n : Nat) : List Nat :=
  let d := (data.drop (7 * (n - 1))).take 7
  n % 256 :: d ++ List.replicate (7 - d.length) 255

/-- The number of packets of a size. -/
def tpCount (size : Nat) : Nat := (size + 6) / 7

/-- The three bytes of a PGN. -/
def pgnBytes (p : Nat) : List Nat := leBytes 3 p

/-- A message from our address: one frame up to 8 bytes, otherwise a session, broadcast or to one address; at most four
transmit sessions. -/
def State.isoMessage (s : State) (c prio pgn dst : Nat) (data : List Nat) : State :=
  match (s.iso c).addr with
  | none => s
  | some a =>
    if data.length ≤ 8 then s.isoSend c prio pgn dst a (data ++ List.replicate (8 - data.length) 255)
    else if 1785 < data.length ∨ 4 ≤ ((s.iso c).sessions.filter (·.tx)).length then s
    else
      let n := tpCount data.length
      let b := decide (dst = 255)
      let s := s.modIso c fun i => { i with sessions := i.sessions ++
        [{ tx := true, peer := dst, pgn := pgn, size := data.length, data := data, bcast := b
           cleared := if b then n else 0, wait := 500 }] }
      s.isoSend c 7 0xEC00 dst a ([if b then 32 else 16] ++ leBytes 2 data.length ++ [n, 255] ++ pgnBytes pgn)

/-- A session ends with an abort: the other side is told, unless it was a broadcast. -/
def State.tpAbort (s : State) (c : Nat) (t : TpSession) (why : Nat) : State :=
  let s := (s.modIso c fun i => { i with sessions := i.sessions.filter (· != t) }).raise 97 [c, t.pgn, why]
  match (s.iso c).addr with
  | some a => if t.bcast then s else s.isoSend c 7 0xEC00 t.peer a ([255, why, 255, 255, 255] ++ pgnBytes t.pgn)
  | none => s

/-- TP_SESSION_TIMEOUT (R420): abort reason 3 of ISO 11783-3; the functions stop with the management plane (R421). -/
def execTpSessionTimeout (c : Fin 2) (peer : BitVec 8) (tx : Bool) (s : State) : Out :=
  if !s.isoRuns c then .next s else
  match (State.iso s c).sessions.find? fun t => t.tx == tx && t.peer == peer.toNat with
  | some t => .next (s.tpAbort c t 3)
  | none => .next s

/-! ### Messages taken (Table 11.4) -/

/-- R507: what the subscriber of a bus is pushed: controller, identifier, SOF stamp (0 where it is missing, as R410 has it), data;
of a message of several frames, the stamp of the last. -/
def State.canPush (s : State) (c id : Nat) (stamp : Option Nat) (data : List Nat) : State :=
  let subs := s.hsi.canSub.filter fun x => bit x.2.1 c && decide (s.chr.tick < x.2.2)
  { s with hsi.pushes := s.hsi.pushes ++ subs.map fun x => (0x61, [x.1, c] ++ leBytes 4 id ++ leBytes 8 (stamp.getD 0) ++ data) }

/-- DM1 and DM2 bodies (ISO 11783-12): lamp status, then the codes; the lamp bytes are not given and are free. -/
def State.dmBody (s : State) (codes : List Nat) : List Nat × State :=
  let (l, s) := s.free 16
  let one (d : Nat) : List Nat :=
    let spn := d % 2 ^ 19
    [spn % 256, spn / 256 % 256, spn / 65536 * 32 + bits d 19 5, bits d 24 7]
  (leBytes 2 l ++ (if codes = [] then [0, 0, 0, 0] else codes.flatMap one) ++ (if codes.length ≤ 1 then [255, 255] else []), s)

/-- A message of the firmware's PGNs is complete. -/
def State.isoTake (s : State) (c id src pgn : Nat) (stamp : Option Nat) (data : List Nat) : State :=
  let dst := if bits id 16 8 < 240 then bits id 8 8 else 255
  let own := (s.iso c).addr
  if pgn = 0xEE00 then s.contend c src (leNat (data.take 8))
  else if pgn = 0xEA00 then
    if dst ≠ 255 ∧ own ≠ some dst then s
    else
      let want := leNat (data.take 3)
      if want = 0xEE00 then
        match own, (s.iso c).claim with
        | some a, _ | none, some a => s.sendClaim c a
        | none, none => if (s.iso c).cannot then s.sendClaim c 254 else s
      else if want = 0xFECB then
        let (b, s) := s.dmBody (s.iso c).prev
        s.isoMessage c 6 0xFECB (if dst = 255 then 255 else src) b
      else if want = 0xFECC then
        (s.modIso c fun i => { i with prev := [] }).isoMessage c 6 0xE800 255 ([0, 255, 255, 255, src] ++ pgnBytes 0xFECC)
      else s.canPush c id stamp data
  else if pgn = 0xFECA then s.canPush c id stamp data
  else s

/-- Transport frames: connection management and data. -/
def State.tpTake (s : State) (c id src pgn : Nat) (stamp : Option Nat) (data : List Nat) : State :=
  let dst := bits id 8 8
  let g (k : Nat) : Nat := data.getD k 0
  let p := leNat ((data.drop 5).take 3)
  match (s.iso c).addr with
  | none => s
  | some a =>
    if dst ≠ 255 ∧ dst ≠ a then s
    else if pgn = 0xEC00 then
      let rx := (s.iso c).sessions.filter fun t => !t.tx
      if g 0 = 32 ∨ g 0 = 16 then
        let size := leNat ((data.drop 1).take 2)
        let n := min (tpCount size) (g 4)
        let t : TpSession := { tx := false, peer := src, pgn := p, size := size, bcast := g 0 == 32, limit := g 4
                               cleared := if g 0 = 32 then tpCount size else n }
        if 1785 < size ∨ 8 ≤ rx.length then
          if g 0 = 16 then s.isoSend c 7 0xEC00 src a ([255, 2, 255, 255, 255] ++ pgnBytes p) else s
        else
          let s := s.modIso c fun i => { i with
            sessions := (i.sessions.filter fun u => u.tx || u.peer != src || u.bcast != t.bcast) ++ [t] }
          if g 0 = 16 then s.isoSend c 7 0xEC00 src a ([17, n, 1, 255, 255] ++ pgnBytes p) else s
      else if g 0 = 17 then
        match (s.iso c).sessions.find? fun t => t.tx && t.peer == src && t.pgn == p with
        | none => s
        | some t =>
          ((List.range (g 1)).filter fun k => decide (g 2 + k ≤ tpCount t.size)).foldl
            (fun s k => s.isoSend c 7 0xEB00 src a (tpPacket t.data (g 2 + k))) s
      else if g 0 = 19 then
        s.modIso c fun i => { i with sessions := i.sessions.filter fun t => !(t.tx && t.peer == src && t.pgn == p) }
      else if g 0 = 255 then
        match (s.iso c).sessions.find? fun t => t.peer == src && t.pgn == p && !t.bcast with
        | some t => (s.modIso c fun i => { i with sessions := i.sessions.filter (· != t) }).raise 97 [c, p, g 1]
        | none => s
      else s
    else
      match (s.iso c).sessions.find? fun t => !t.tx && t.peer == src && (t.bcast == (dst == 255)) with
      | none => s
      | some t =>
        if g 0 ≠ t.next then s
        else
          let t' := { t with data := t.data ++ (data.drop 1).take 7, next := t.next + 1 }
          if t.next < tpCount t.size then
            -- The packets cleared are in: the next ones are cleared, within what the sender allows.
            let n := min (tpCount t.size - t.next) t.limit
            let ask := decide (t.next = t.cleared)
            let t' := if ask then { t' with cleared := t.next + n } else t'
            let s := s.modIso c fun i => { i with sessions := i.sessions.map fun u => if u == t then t' else u }
            if ask then s.isoSend c 7 0xEC00 src a ([17, n, t.next + 1, 255, 255] ++ pgnBytes t.pgn) else s
          else
            let s := s.modIso c fun i => { i with sessions := i.sessions.filter (· != t) }
            let s := if t.bcast then s
              else s.isoSend c 7 0xEC00 src a ([19] ++ leBytes 2 t.size ++ [tpCount t.size, 255] ++ pgnBytes t.pgn)
            s.isoTake c (isoId 6 t.pgn dst src) src t.pgn stamp (t'.data.take t.size)

/-- The firmware takes every frame of its queue, and sends the next packet of each broadcast that is due. -/
def State.isoTick (s : State) (c : Nat) : State :=
  if !s.isoUp c then s
  else
    let q := (s.iso c).queue
    let s := s.modIso c fun i => { i with queue := [] }
    let s := q.foldl (fun s m =>
      let f := m.frame
      let pgn := pgnOf f.id
      if pgn = 0xEC00 ∨ pgn = 0xEB00 then s.tpTake c f.id (f.id % 256) pgn m.stamp f.data
      else s.isoTake c f.id (f.id % 256) pgn m.stamp f.data) s
    match (s.iso c).addr with
    | none => s
    | some a =>
      let s := s.modIso c fun i => { i with sessions := i.sessions.map fun t => { t with wait := t.wait - 1 } }
      ((s.iso c).sessions.filter fun t => t.tx && t.bcast && t.wait == 0).foldl (fun s t =>
        let s := s.isoSend c 7 0xEB00 255 a (tpPacket t.data t.next)
        let next (u : TpSession) : Option TpSession :=
          if (u == t) = false then some u
          else if t.next < tpCount t.size then some { t with next := t.next + 1, wait := 500 }
          else none
        s.modIso c fun i => { i with sessions := i.sessions.filterMap next }) s

/-- DM1_TRANSMIT (R420): the active list, while it is not empty, and on a change, at most once per second. -/
def execDm1Transmit (c : Fin 2) (s : State) : Out :=
  let i := State.iso s c
  if !s.isoUp c || !bit (s.cfg 0x0903 c 9 1) 1 || i.addr.isNone || (i.active.isEmpty && !i.changed) ||
      i.dm1At.any (fun t => decide (s.chr.tick < t + 10000)) then .next s
  else
    let (b, s) := s.dmBody i.active
    .next ((State.modIso s c fun i => { i with changed := false, dm1At := some s.chr.tick }).isoMessage c 6 0xFECA 255 b)

/-- R507: DTC_SET replaces the active list; the codes that leave it were active before. -/
def State.setDtcs (s : State) (c : Nat) (codes : List Nat) : State :=
  s.modIso c fun i => { i with
    prev := (i.prev.filter fun d => !codes.contains d) ++ i.active.filter fun d => !codes.contains d && !i.prev.contains d
    changed := i.changed || decide (i.active ≠ codes)
    active := codes }

end Sys2Proof.Machine
end

