-- ==== Sys2Proof/Machine/Container.lean ====
section
/-! DEFINITION. The Almanac container (R72 to R74, Tables 2.9 to 2.13): its header, its records, and the checks that need
no record field. -/

namespace Sys2Proof.Machine

/-- A little-endian field of an image. -/
def imgNat (img : List Nat) (off n : Nat) : Nat := leNat ((img.drop off).take n)

/-- SHA-256 of an image. -/
def imgSha (img : List Nat) : List Nat := (Config.sha256 (img.map (BitVec.ofNat 8))).map (·.toNat)

/-- R73: the ECDSA signature in the last 64 bytes verifies under the key of a slot. -/
def imgSigned (slot : Nat) (img : List Nat) : Bool :=
  let n := img.length - 64
  Config.ecdsaOk slot ((img.take n).map (BitVec.ofNat 8)) ((img.drop n).map (BitVec.ofNat 8))

/-- The image that a partition holds: the bytes that the header's LENGTH names (R72). -/
def almImage (part : List Nat) : List Nat := part.take (imgNat part 8 4)

/-- Checks 1 to 5 of Table 2.13 (R72, R73): 0, or the code of the first that fails. `usable` are the fuse slots that
hold a key that is not revoked, `rel` the release. -/
def almHeaderCode (part : List Nat) (usable rel : Nat) : Nat :=
  let f := imgNat part
  let len := f 8 4
  let n := f 0xC 4
  if part.length < 128 ∨ f 0 4 ≠ 0x4E4D4C41 ∨ f 4 2 ≠ 1 ∨ f 6 2 ≠ 128 ∨ 3 < f 0x16 1 ∨ f 0x17 1 ≠ 0 ∨
      (part.drop 0x30).take 80 ≠ List.replicate 80 0 then 0x10
  else if len % 4 ≠ 0 ∨ len < 128 + 8 * n + 64 ∨ 8388608 < len ∨ n < 1 ∨ 65534 < n ∨ part.length < len then 0x11
  else if !bit usable (f 0x16 1) then 0x13
  else if !imgSigned (f 0x16 1) (almImage part) then 0x12
  else if rel < f 0x14 2 then 0x14
  else 0

/-- A record of an image (Table 2.10): index, TYPE[14:0], OPTIONAL, INSTANCE, body length and body. -/
structure ARec where
  idx : Nat
  type : Nat
  opt : Bool
  inst : Nat
  len : Nat
  body : List Nat
  /-- Offset of the body from the start of the image (R76). -/
  off : Nat
deriving DecidableEq, Repr

/-- The records up to the end or to the first that does not fit: the records, whether one overran, and the offset
after the last. -/
def almWalk : (n idx off stop : Nat) → List Nat → List ARec × Bool × Nat
  | 0, _, off, _, _ => ([], false, off)
  | n + 1, idx, off, stop, img =>
    if stop < off + 8 then ([], true, off)
    else
      let t := imgNat img off 2
      let len := imgNat img (off + 4) 4
      let r : ARec := ⟨idx, t % 32768, bit t 15, imgNat img (off + 2) 2, len, (img.drop (off + 8)).take len, off + 8⟩
      if len % 4 ≠ 0 ∨ stop < off + 8 + len then ([r], true, off)
      else
        let (rs, bad, o) := almWalk n (idx + 1) (off + 8 + len) stop img
        (r :: rs, bad, o)

/-- The records of an image that has passed checks 1 to 5. -/
def almRecords (part : List Nat) : List ARec × Bool × Nat :=
  almWalk (imgNat part 0xC 4) 0 128 (imgNat part 8 4 - 64) (almImage part)

/-- A length padded to 4 bytes (R74). -/
def pad4 (n : Nat) : Nat := (n + 3) / 4 * 4

/-- The record types the module knows, with the body length that each fixes or that its count implies (R74). -/
def recLen (type : Nat) (body : List Nat) : Option Nat :=
  match type with
  | 0x0100 => some 16
  | 0x0200 => some 8
  | 0x0201 => some 32
  | 0x0202 => some (0x30 + pad4 (imgNat body 0 4))
  | 0x0300 => some 128
  | 0x0301 => some 268
  | 0x0302 => some 32
  | 0x0303 => some 4128
  | 0x0304 => some 2080
  | 0x0400 => some 48
  | 0x0401 => some 64
  | 0x0402 => some 64
  | 0x0403 => some 16
  | 0x0410 => some 32
  | 0x0411 => some 32
  | 0x0412 => some 16
  | 0x0420 => some 64
  | 0x0421 => some 64
  | 0x0500 => some 128
  | 0x0501 => some 32
  | 0x0502 => some 6144
  | 0x0503 => some (4 + 4 * imgNat body 0 4)
  | 0x0504 => some 32
  | 0x0600 => some (64 + 16 * imgNat body 0xE 2 + 32 * imgNat body 0x18 4 + pad4 (imgNat body 0x1C 4))
  | 0x0601 => some 64
  | 0x0900 => some 16
  | 0x0901 => some 16
  | 0x0902 => some 16
  | 0x0903 => some 16
  | 0x0A00 => some 16
  | 0x0B00 => some 8
  | 0x0C00 => some 16
  | 0x0C01 => some 32
  | 0x0C02 => some 1024
  | 0x0E00 => some 96
  | 0x0E01 => some 80
  | 0x0E02 => some 40
  | 0x0F00 => some 32
  | 0x0F01 => some 8
  | 0x0F02 => some 8
  | 0x1000 => some 8
  | 0x1100 => some 352
  | 0x1101 => some 8
  | 0x1102 => some 8
  | 0x1103 => some 4
  | _ => none

/-- A record of a type the module knows. -/
def ARec.known (r : ARec) : Bool := (recLen r.type r.body).isSome

/-- A record whose TYPE[14:0] and INSTANCE an earlier one has. -/
def firstDup : List (Nat × Nat) → List ARec → Option ARec
  | _, [] => none
  | seen, r :: rs => if (r.type, r.inst) ∈ seen then some r else firstDup ((r.type, r.inst) :: seen) rs

/-- Checks 6 to 8 of Table 2.13 (R74, R76, R77): none, or the code with the index and type of the failing record. -/
def almShapeFault (part : List Nat) : Option (Nat × Nat × Nat) :=
  let (rs, ovr, stop) := almRecords part
  match rs.find? fun r => !r.known && !r.opt with
  | some r => some (0x20, r.idx, r.type)
  | none =>
    match rs.find? fun r => r.known && recLen r.type r.body != some r.len with
    | some r => some (0x21, r.idx, r.type)
    | none =>
      if ovr then
        match rs.getLast? with
        | some r =>
          if r.len % 4 ≠ 0 ∨ imgNat part 8 4 - 64 < r.off + r.len then some (0x21, r.idx, r.type)
          else some (0x21, rs.length, imgNat (part.take (imgNat part 8 4 - 64)) stop 2 % 32768)
        | none => some (0x21, 0, 0)
      else if stop ≠ imgNat part 8 4 - 64 then some (0x21, 0xFFFF, 0)
      else
        match firstDup [] rs with
        | some r => some (0x22, r.idx, r.type)
        | none =>
          if [0x0C00, 0x0C01, 0x0C02].all fun t => rs.any fun r => r.type == t && r.inst == 0 then none
          else some (0x22, 0xFFFF, 0)

end Sys2Proof.Machine
end

