-- ==== Sys2Proof/Machine/Records.lean ====
section
/-! DEFINITION. The documented ranges of the Almanac's record bodies (check 9 of Table 2.13): for every record type but
those of Helm, its instances, its plain fields and what its chapter says beyond them. -/

namespace Sys2Proof.Machine

/-- A body field: offset, bytes, least and greatest value. -/
abbrev FieldRow := Nat × Nat × Nat × Nat

/-- Reserved bytes (R13). -/
def rsvd (off n : Nat) : FieldRow := (off, n, 0, 0)

def fieldIn (b : List Nat) (x : FieldRow) : Bool :=
  let v := imgNat b x.1 x.2.1
  decide (x.2.2.1 ≤ v ∧ v ≤ x.2.2.2)

/-- A signed field of a body. -/
def imgInt (b : List Nat) (off n : Nat) : Int := toInt (8 * n) (imgNat b off n)

/-- The instances of a type. -/
def recInsts (type : Nat) : Nat :=
  match type with
  | 0x0201 | 0x0202 | 0x0400 | 0x0403 | 0x0411 => 64
  | 0x0300 | 0x0301 | 0x0302 | 0x0303 | 0x0304 => 128
  | 0x0401 | 0x0601 | 0x0F02 | 0x1100 | 0x1102 | 0x1103 => 16
  | 0x0500 | 0x0502 | 0x0503 | 0x0600 => 8
  | 0x0501 | 0x0504 | 0x0E02 => 4
  | 0x0900 => 6
  | 0x0901 => 1536
  | 0x0902 => 192
  | 0x0903 | 0x0E01 => 2
  | 0x0F01 => 32
  | 0x1101 => 24
  | _ => 1

/-- The plain ranges of a type's fields (Tables 1.23, 2.12, 3.7, 4.18 to 4.20, 6.5, 7.9, 8.10, 9.7, 9.11, 11.5, 12.10,
14.5, 15.7). -/
def recRows (type : Nat) : List FieldRow :=
  match type with
  | 0x0100 => [(2, 1, 0, 7), (3, 1, 10, 100), (8, 2, 1, 3600), rsvd 0x0B 5]
  | 0x0200 => [(0, 1, 1, 64), (1, 1, 0, 3), (2, 2, 64, 1024), rsvd 4 4]
  | 0x0201 => [(0, 1, 0, 63), (1, 1, 0, 3), (2, 2, 0, 3840), (0x0C, 2, 0, 1024), (0x0E, 2, 0, 1024), (0x10, 2, 0, 9999),
      (0x12, 1, 1, 255), (0x14, 2, 0, 4800), (0x16, 2, 0, 4800), rsvd 0x1C 4]
  | 0x0202 => [(0, 4, 1, 1048576), rsvd 8 8]
  | 0x0400 => [(0, 1, 1, 9), (1, 1, 0, 3), (6, 1, 1, 32), (7, 1, 1, 255), (8, 4, 80000, 4000000000), (0x24, 2, 1, 65535),
      (0x26, 2, 1, 65535), rsvd 0x2E 2]
  | 0x0401 => [(0, 1, 0, 1), (1, 1, 0, 7), (3, 1, 1, 64), (4, 2, 0, 4095), (6, 2, 0, 9000), (8, 1, 4, 16), rsvd 0x0A 6,
      rsvd 0x30 16]
  | 0x0402 => [(0x0C, 1, 0, 63), (0x0D, 1, 0, 63), (0x2E, 2, 1, 65535), rsvd 0x36 10]
  | 0x0403 => [(0, 1, 0, 15), (1, 1, 0, 1), (2, 2, 0x20, 0x7C), (4, 4, 0, 65535), (0x0D, 1, 1, 255), rsvd 0x0E 2]
  | 0x0410 => [(0, 1, 0, 7), (2, 1, 1, 64), (3, 1, 1, 16), (4, 1, 1, 16), (5, 1, 1, 255), (6, 2, 0, 9000),
      (8, 2, 1, 1024), (0x0C, 4, 1, 4294967295), rsvd 0x18 8]
  | 0x0411 => [(0, 1, 0, 1), (1, 1, 0, 30), (2, 1, 0, 1), rsvd 3 1, (0x0C, 2, 1, 6283), (0x0E, 2, 1, 65535), rsvd 0x18 8]
  | 0x0412 => [(2, 1, 0, 30), (3, 1, 0, 30), (4, 1, 0, 32), (5, 1, 0, 1), (6, 2, 1, 65535), rsvd 8 8]
  | 0x0420 => [(0, 1, 0, 7), (2, 1, 1, 64), (3, 1, 1, 16), (4, 2, 0, 9000), (6, 2, 100, 2000), (8, 2, 100, 2000),
      (0x0A, 2, 1, 1024), (0x0C, 4, 1000, 20000), (0x28, 4, 1, 4294967295), (0x2C, 2, 100, 1200), (0x2E, 4, 1, 4294967295),
      (0x32, 2, 0, 30000), (0x34, 2, 0, 30000), (0x36, 2, 0, 4000), (0x38, 2, 1, 3600), (0x3A, 1, 8, 16), rsvd 0x3B 1]
  | 0x0421 => [(0, 2, 0, 0x3FFF), (0x1C, 4, 0, 65535), (0x20, 2, 10, 120), (0x22, 2, 0, 30000), (0x24, 2, 200, 10000),
      (0x26, 2, 0, 120), (0x28, 2, 0, 200), (0x30, 2, 1, 65535), (0x38, 2, 1, 65535)]
  | 0x0500 => [(0, 1, 0, 15), (1, 1, 0x2A, 0x2E), (2, 1, 0, 15), (3, 1, 1, 3), (4, 2, 64, 4096), (6, 2, 16, 2304),
      (8, 2, 1, 6400), (0x0C, 2, 0, 9999), (0x12, 2, 100, 65535), (0x14, 2, 16, 4608), rsvd 0x16 2, (0x22, 2, 1, 65535),
      rsvd 0x2E 2, rsvd 0x42 2, rsvd 0x6E 18]
  | 0x0501 => [(0, 1, 0, 3), (1, 1, 0, 1), (2, 1, 0, 3), (4, 2, 0, 1920), (6, 2, 0, 1080), (8, 1, 0, 4), rsvd 0x12 14]
  | 0x0503 => [(0, 4, 0, 4096)]
  | 0x0504 => [(1, 1, 1, 16), (2, 2, 0, 3840), (4, 2, 0, 2160), (6, 2, 1, 1024), (8, 1, 0, 2), (9, 1, 20, 28),
      (0x0A, 1, 0, 51), (0x0B, 1, 0, 51), (0x0C, 1, 0, 51), (0x0D, 1, 0, 51), (0x0E, 4, 100, 100000), rsvd 0x12 14]
  | 0x0600 => [(0, 4, 0x544E4B4C, 0x544E4B4C), (4, 2, 1, 1), (6, 2, 1, 1), (0x0D, 1, 0, 1), (0x0E, 2, 1, 1024),
      (0x18, 4, 1, 4096), (0x20, 4, 0, 67108864), (0x24, 1, 0, 8), (0x25, 1, 1, 16), (0x26, 2, 0, 64), rsvd 0x28 24]
  | 0x0601 => [(0, 1, 0, 7), (1, 1, 0, 7), (2, 1, 1, 16), (3, 1, 0, 3), (6, 2, 100, 65535), rsvd 0x39 7] ++
      (List.range 16).map fun k => (8 + k, 1, 0, 4)
  | 0x0900 => [(0, 1, 0, 31), (1, 1, 1, 32), (2, 2, 2, 256), (4, 1, 1, 128), (0x0A, 1, 0, 127), rsvd 0x0B 1, rsvd 0x0E 2]
  | 0x0901 => [(0, 4, 0, 0x3FFFFFFF), (4, 4, 0, 0x1FFFFFFF), (9, 1, 0, 1), (0x0A, 1, 0, 63), rsvd 0x0B 5]
  | 0x0902 => [(5, 1, 0, 7), (6, 2, 1, 65535), rsvd 0x0A 2, (0x0C, 4, 0, 0xFFFFF)]
  | 0x0903 => [(8, 1, 0, 253), (9, 1, 0, 3), rsvd 0x0A 6]
  | 0x0A00 => []
  | 0x0B00 => [(0, 1, 2, 15), (1, 1, 1, 255), (2, 2, 1, 3600), rsvd 4 4]
  | 0x0C01 => [(0, 2, 0, 127), (8, 1, 0, 1), rsvd 9 3, rsvd 0x10 16]
  | 0x0E00 => [(0, 2, 1000, 65535), (2, 2, 2000, 6000), (0x2A, 1, 0, 7), (0x2B, 1, 0, 1), (0x2C, 2, 100, 20000),
      (0x2E, 2, 1, 65535), (0x30, 2, 0x4000, 0x4000), (0x48, 1, 0, 200), (0x49, 1, 0, 200), (0x54, 2, 200, 65534),
      (0x56, 2, 200, 65534), rsvd 0x58 8] ++
      ((List.range 8).flatMap fun k => [(0x12 + 2 * k, 2, 2500, 5500), (0x22 + k, 1, 48, 248), (0x40 + k, 1, 0, 200)]) ++
      (List.range 10).map fun k => (0x4A + k, 1, 1, 200)
  | 0x0E01 => [(0x48, 4, 0, 0xFFFFF), rsvd 0x4E 2]
  | 0x0E02 => [(0, 4, 0, 0xFFFFF), (4, 1, 1, 4), (5, 1, 1, 3), rsvd 6 2]
  | 0x0F00 => [(8, 1, 8, 30), (9, 1, 8, 30), (0x0A, 1, 0, 15), (0x10, 2, 60, 3600), (0x12, 1, 0, 3), rsvd 0x13 13]
  | 0x0F01 => [rsvd 4 4]
  | 0x0F02 => [(0, 2, 1024, 65535), (2, 1, 1, 3), rsvd 3 1]
  | 0x1000 => [rsvd 2 6]
  | 0x1100 => [(0, 2, 5000, 50000), rsvd 0x0E 2, rsvd 0x1E 2]
  | 0x1101 => [(1, 1, 0, 3), (2, 1, 0, 1), rsvd 3 5]
  | 0x1102 => [(0, 1, 0, 2), (1, 1, 0, 2), (2, 1, 0, 1), (3, 1, 0, 1), (4, 1, 1, 128), rsvd 5 1, (6, 2, 1, 65535)]
  | 0x1103 => [(0, 1, 0, 1), rsvd 2 2]
  | _ => []

/-- Values of `n` bytes each from `off`, rising or not falling. -/
def ascending (strict : Bool) : List Int → Bool
  | a :: b :: l => (if strict then decide (a < b) else decide (a ≤ b)) && ascending strict (b :: l)
  | _ => true

/-- A field selector of Tables 7.9 and 8.10: [15:14] 0; 0xFFFF where `none` is allowed. -/
def selOk (none : Bool) (v : Nat) : Bool := decide (v < 2 ^ 14) || none && v == 0xFFFF

/-- R122: the source codes of CHRONO: each once, and zeros after the first 0. -/
def srcOrderOk (v : Nat) : Bool :=
  let l := [0, 1, 2, 3].map fun i => bits v (4 * i) 4
  let used := l.takeWhile (· != 0)
  l.all (fun c => decide (c ≤ 4)) && (l.drop used.length).all (· == 0) && decide used.Nodup

/-- R287, R288: SOURCE by kind. -/
def sourceOk (f : Nat → Nat → Nat) : Bool :=
  let kind := f 0 1
  let ports := [0, 1, 24, 16, 64, 8, 8, 16, 2, 32].getD kind 0
  let fmt := f 0x28 4
  decide (f 2 2 < ports) && [16, 32, 48, 64].contains (f 5 1) && (decide (kind ≤ 5) || decide (f 4 1 ≤ 4)) &&
    decide (f 0x14 4 ≤ f 8 4) &&
    (if kind = 8 then decide (fmt % 16 ≤ 1 ∧ bits fmt 4 4 = 0 ∧ 4800 ≤ fmt / 256 ∧ fmt / 256 ≤ 921600)
     else kind == 7 || fmt == 0) &&
    (if kind = 7 ∨ kind = 9 then decide (1 ≤ f 0x2C 1 ∧ f 0x2C 1 ≤ 8) else f 0x2C 1 == 0)

/-- R403 to R405: a rate in kbit/s from the kernel clock of 80 MHz: the period in kernel cycles. -/
def busTimingOk (c : Nat) (f : Nat → Nat → Nat) : Bool :=
  let flags := f 0 1
  let fd := bit flags 0
  let nom := f 1 1 * (1 + f 2 2 + f 4 1)
  let data := f 6 1 * (1 + f 7 1 + f 8 1)
  decide (1 ≤ f 5 1 ∧ f 5 1 ≤ f 4 1) &&
    (if c < 2 then !fd && !bit flags 4 && nom == 320 else [640, 320, 160, 80].contains nom) &&
    (if fd then
      f 6 1 == f 1 1 && decide (1 ≤ f 7 1 ∧ f 7 1 ≤ 32 ∧ 1 ≤ f 8 1 ∧ f 8 1 ≤ 16 ∧ 1 ≤ f 9 1 ∧ f 9 1 ≤ f 8 1) &&
        [80, 40, 20, 16].contains data && (data != 80 || f 0x0A 1 == 0)
     else f 6 1 == 0 && f 7 1 == 0 && f 8 1 == 0 && f 9 1 == 0) &&
    (!bit flags 1 || (decide (320 ≤ nom) && decide (3 ≤ f 2 2)))

/-- R358, R359: the tables of a network container, with the limits of Table 9.8 that stand in them: the sizes of FC, the
factor of RESIZE, the channels of SOFTMAX. -/
def networkOk (b : List Nat) : Bool :=
  let tens := 64
  let ops := 64 + 16 * imgNat b 0x0E 2
  [1, 3].contains (imgNat b 0x0C 1) &&
    ((List.range (imgNat b 0x0E 2)).all fun i =>
      imgNat b (tens + 16 * i + 7) 1 == 0 && imgNat b (tens + 16 * i + 12) 4 == 0) &&
    ((List.range (imgNat b 0x18 4)).all fun i =>
      let o := ops + 32 * i
      let dim (at_ k : Nat) : Nat := imgNat b (tens + 16 * imgNat b (o + at_) 2 + 2 * k) 2
      let size (at_ : Nat) : Nat := dim at_ 0 * dim at_ 1 * dim at_ 2
      [(o, 1, 1, 0x0E), (o + 1, 1, 0, 3), (o + 28, 1, 0, 31), (o + 29, 1, 0, 1), rsvd (o + 30) 2].all (fieldIn b) &&
        (match imgNat b o 1 with
         | 3 => decide (size 2 ≤ 4096 ∧ size 6 ≤ 4096)
         | 9 => dim 6 0 == 2 * dim 2 0 && dim 6 1 == 2 * dim 2 1
         | 11 => decide (dim 2 2 ≤ 16)
         | _ => true)) &&
    Config.netLimits b

/-- LOGCFG: the sources that cannot be masked (R450). -/
def unmaskable : List Nat :=
  [0, 1, 2] ++ (List.range 8).map (80 + ·) ++ (List.range 12).map (100 + ·) ++ (List.range 7).map (120 + ·)

/-- What a type's chapter says beyond the plain ranges. `limp` is the offset of the LIMP_TABLE body. -/
def recSpecial (type inst limp : Nat) (b : List Nat) : Bool :=
  let f := imgNat b
  let g := imgInt b
  match type with
  | 0x0100 => srcOrderOk (f 0 2)
  | 0x0200 => f 2 2 % 64 == 0
  | 0x0201 =>
    f 0x0C 2 % 4 == 0 && f 0x0E 2 % 4 == 0 && (inst == 0 || f 0 1 != 0) &&
      (decide (f 0x1A 1 < 64) || f 0x1A 1 == 0xFF) && (decide (f 0x1B 1 < 64) || f 0x1B 1 == 0xFF) &&
      (decide (f 0x13 1 < 0x40) || decide (0x80 ≤ f 0x13 1 ∧ f 0x13 1 < 0xC0) || f 0x13 1 == 0xFF)
  | 0x0400 => sourceOk f
  | 0x0401 =>
    decide (f 2 1 < 2 ^ f 1 1) && (if f 0 1 = 1 then decide (1 ≤ f 9 1 ∧ f 9 1 ≤ 16) else f 9 1 == 0) &&
      ((List.range 16).all fun i =>
        let x := f (0x10 + 2 * i) 2
        selOk false x && (decide (i < f 9 1) || x == 0))
  | 0x0402 => [0x0E, 0x0F].all fun o => decide (f o 1 < 64) || f o 1 == 255
  | 0x0403 => f 2 2 % 4 == 0 && decide (-32 ≤ g 0x0C 1 ∧ g 0x0C 1 ≤ 31)
  | 0x0410 => decide (f 1 1 < 2 ^ f 0 1) && decide (f 3 1 ≤ f 4 1)
  | 0x0411 =>
    f 1 1 % 2 == 0 &&
      (if f 0 1 = 0 then f 0x10 4 == 0
       else f 0x13 1 / 16 == 0 && [0, 4, 12].all fun o => bits (f 0x10 4) o 4 != 15)
  | 0x0412 => f 2 1 % 2 == 0 && f 3 1 % 2 == 0 && (f 0 2 == 0 || decide (100 ≤ f 0 2))
  | 0x0420 =>
    decide (f 1 1 < 2 ^ f 0 1) && selOk false (f 0x14 2) && ([0x16, 0x18, 0x1A].all fun o => selOk true (f o 2)) &&
      (bit (f 0x3C 4) 31 || decide (f 0x3C 4 ≤ 65535)) && bits (f 0x3C 4) 20 11 == 0
  | 0x0421 =>
    ([2, 4, 6].all fun o => selOk true (f o 2)) && decide (f 0x2C 2 < f 0x2E 2) && decide (f 0x38 2 ≤ f 0x3A 2) &&
      decide (f 0x38 2 * 4096 ≤ f 0x3C 4 ∧ f 0x3C 4 ≤ f 0x3A 2 * 4096)
  | 0x0500 =>
    f 4 2 % 16 == 0 && f 6 2 % 16 == 0 && decide (f 0x0A 2 < f 8 2) && decide (f 0x0E 2 < f 0x10 2) &&
      decide (f 6 2 ≤ f 0x14 2)
  | 0x0501 =>
    let m := 32 * 2 ^ (f 9 1 % 4)
    decide (2 ≤ f 3 1 % 16 ∧ 2 ≤ f 3 1 / 16) && f 4 2 % 2 == 0 && decide (f 9 1 % 16 ≤ 2 ∧ 2 ≤ f 9 1 / 16) &&
      [0x0A, 0x0C, 0x0E, 0x10].all fun o => f o 2 % m == 0
  | 0x0504 => (decide (f 0 1 < 8) || f 0 1 == 255) && f 2 2 % 8 == 0 && f 4 2 % 8 == 0
  | 0x0600 => networkOk b
  | 0x0900 => busTimingOk inst f
  | 0x0901 =>
    [8, 12, 16, 20, 24, 32, 48, 64].contains (f 8 1) && (decide (512 ≤ inst) || f 8 1 == 8)
  | 0x0902 =>
    (decide (64 ≤ inst) || decide (f 0 4 < 2 ^ 30)) && decide (f 8 2 < f 6 2) &&
      (decide (f 4 1 ≤ 8) || bit (f 0 4) 30 && [12, 16, 20, 24, 32, 48, 64].contains (f 4 1))
  | 0x0A00 => unmaskable.all fun e => !bit (f 0 16) e
  | 0x0C00 => b.contains 0
  | 0x0C01 => f 0x0C 4 == limp
  | 0x0E00 =>
    ascending true ((List.range 7).map fun k => g (4 + 2 * k) 2) &&
      ascending false ((List.range 8).map fun k => (f (0x30 + 2 * k) 2 : Int)) &&
      ((List.range 8).all fun k => f (0x22 + k) 1 % 8 == 0) && f 0x54 2 % 2 == 0 && f 0x56 2 % 2 == 0
  | 0x0E02 =>
    (List.range 28).all fun i =>
      let x := f (0x0C + i) 1
      x == 255 || (decide (x ≤ 191) && decide (i / 7 < f 4 1))
  | 0x0F00 =>
    let grp := f 0x0C 1
    f 0x0A 1 % 4 != 3 && f 0x0A 1 / 4 != 3 && (f 0x0C 4 == 0 || decide (224 ≤ grp ∧ grp ≤ 239))
  | 0x0F02 => f 0 2 != 47800 && f 0 2 != 47801
  | 0x1100 =>
    let per := f 0 2
    let dith := f 4 4
    decide (f 2 2 < per) &&
      (dith == 0 || dith % per == 0 && decide (2 * per ≤ dith ∧ 250000 ≤ dith ∧ dith ≤ 2500000)) &&
      ascending true ((List.range 7).map fun k => g (0x10 + 2 * k) 2)
  | 0x1101 => if inst < 16 then decide (f 0 1 ≤ 2) else f 0 1 == 3
  | _ => true

/-- Check 9 for a record of a type that Helm does not own. -/
def recOk (limp : Nat) (r : ARec) : Bool :=
  decide (r.inst < recInsts r.type) && (recRows r.type).all (fieldIn r.body) && recSpecial r.type r.inst limp r.body

end Sys2Proof.Machine
end

