-- ==== Sys2Proof/Machine/Ring.lean ====
section
/-! DEFINITION. The Meridian ring: passes, collection and delivery, the stations, node loading, breaks and master
hand-over. -/

namespace Sys2Proof.Machine

/-! ### Directions: 0 CW, 1 CCW -/

def dirGet (p : Nat × Nat) (d : Nat) : Nat := if d = 0 then p.1 else p.2

def dirSet (p : Nat × Nat) (d v : Nat) : Nat × Nat := if d = 0 then (v, p.2) else (p.1, v)

def dirInc (p : Nat × Nat) (d : Nat) : Nat × Nat := dirSet p d (dirGet p d + 1)

def deadFld (d : Nat) : Fld := if d = 0 then R.MRD_STATUS_CW_DEAD else R.MRD_STATUS_CCW_DEAD

/-- The in contact a frame arrives at: a wrapped frame runs against its DIR (R159). -/
def frameInput (f : RingFrame) : Nat := if f.wrap then 1 - f.dir else f.dir

/-- The number of a pass: two in every tick. -/
def frameNumber (f : RingFrame) : Nat := 2 * f.tick + (f.ftype - 1)

/-! ### The layout of the passes (R127, R129, R134, R136, R151) -/

/-- This module's own station (R24, R79). -/
def State.me (s : State) : Nat := s.get R.MRD_STATUS_ROLE

/-- The declared stations, and RING.STATIONS. -/
def State.declared (s : State) : List Nat := (List.range 64).filter fun a => s.has 0x0201 a
def State.stationsN (s : State) : Nat := s.cfg 0x0200 0 0 1

/-- Slots of a map in the order of ORDER: station and LEN. -/
def slotsOf (en len order : Nat → Nat) : List (Nat × Nat) :=
  let l := (List.range 64).filter fun a => en a != 0
  (List.range 256).flatMap fun k => (l.filter fun a => order a == k).map fun a => (a, len a)

def State.cSlots (s : State) : List (Nat × Nat) :=
  slotsOf (fun a => s.get (R.MRD_CSLOT_EN a)) (fun a => s.get (R.MRD_CSLOT_LEN a)) (fun a => s.get (R.MRD_CSLOT_ORDER a))

def State.dSlots (s : State) : List (Nat × Nat) :=
  slotsOf (fun a => s.get (R.MRD_DSLOT_EN a)) (fun a => s.get (R.MRD_DSLOT_LEN a)) (fun a => s.get (R.MRD_DSLOT_ORDER a))

/-- Slot starts and ends in bytes: station, first byte, end. -/
def slotSpans : Nat → List (Nat × Nat) → List (Nat × Nat × Nat)
  | _, [] => []
  | o, (a, n) :: l => (a, o, o + n + 8) :: slotSpans (o + n + 8) l

/-- Bytes of a pass whose slots begin at `o` (Table 4.2, R134, R136). -/
def passLen (o mail : Nat) (l : List (Nat × Nat)) : Nat := o + (l.map fun x => x.2 + 8).sum + 12 + mail

/-- The declared station at a CW position. -/
def State.stationAt (s : State) (p : Nat) : Nat :=
  (s.declared.find? fun a => s.cfg 0x0201 a 0 1 == p).getD 0

/-- A(s,d) of R129 for the station at CW position `p`, in 1/256 ns: cable at 5.0 ns/m, forwarding everywhere but at
S0, which is 0 hops from itself. -/
def State.arrival (s : State) (p d : Nat) : Nat :=
  let n := s.stationsN
  let hop (q : Nat) := 5 * s.cfg 0x0201 (s.stationAt q) 2 2
  let fwd (q : Nat) := if q = 0 then 0 else 16 * s.cfg 0x0201 (s.stationAt q) (if d = 0 then 0x14 else 0x16) 2
  if p = 0 then 0
  else if d = 0 then ((List.range p).map fun q => hop q + fwd q).sum
  else ((List.range (n - p)).map fun i => hop (p + i)).sum + ((List.range (n - 1 - p)).map fun i => fwd (p + 1 + i)).sum

/-- R151: C readiness and D delivery of every slot of a layout. -/
def State.cReady (s : State) (l : List (Nat × Nat)) : Bool :=
  (slotSpans 32 l).all fun (a, start, _) =>
    let p := s.cfg 0x0201 a 0 1
    decide (256 * s.cfg 0x0201 a 0x18 2 ≤
      256 * 1000 + min (s.arrival p 0) (s.arrival p 1) + 2048 * start)

def State.dReady (s : State) (l : List (Nat × Nat)) : Bool :=
  (slotSpans 164 l).all fun (a, _, stop) =>
    let p := s.cfg 0x0201 a 0 1
    decide (max (s.arrival p 0) (s.arrival p 1) + 2048 * stop ≤
      256 * 39000 + 2560 * s.cfg 0x0201 a 0x10 2)

/-- R169: a slot map at the edge that applies its region is used, or the old one comes back. DESIGN CHOICE (log entry
`EV028 reason`): a layout that fails both tests is reported as too long. -/
def State.slotMapCheck (s old : State) (region : Nat) : State :=
  let c := decide (region = 0x10)
  let l := if c then s.cSlots else s.dSlots
  let long := decide (4096 < passLen (if c then 32 else 164) (s.get R.MRD_CFG_MAIL_LEN) l)
  if long || !(if c then s.cReady l else s.dReady l) then
    let back (t : State) (a : Nat) : State :=
      let fs := if c then [R.MRD_CSLOT_EN a, R.MRD_CSLOT_LEN a, R.MRD_CSLOT_ORDER a]
        else [R.MRD_DSLOT_EN a, R.MRD_DSLOT_LEN a, R.MRD_DSLOT_ORDER a]
      t.puts (fs.map fun f => (f, old.get f))
    (((List.range 64).foldl back s).put (if c then R.MRD_MAPSTAT_REJ_C else R.MRD_MAPSTAT_REJ_D) 1).raise 28
      [region, b2n long]
  else s.put R.MRD_MAPSTAT_MAPVER (s.get R.MRD_MAPSTAT_MAPVER + 1)

/-! ### State of the ring -/

def State.station (s : State) (a : Nat) : Station := s.mrd.stations.getD a {}

def State.modStation (s : State) (a : Nat) (f : Station → Station) : State :=
  { s with mrd.stations := s.mrd.stations.modify a f }

def State.ringTx (s : State) (l : List (Nat × RingFrame)) : State := { s with mrd.tx := l }

/-- The module takes part in the ring. -/
def State.inserted (s : State) : Bool := decide (2 ≤ s.get R.MRD_STATUS_INSERT ∧ s.get R.MRD_STATUS_INSERT ≤ 4)

def State.launching (s : State) : Bool := s.flag R.MRD_STATUS_LAUNCH && s.inserted

/-- R153, R163: a pass goes out in this tick: the first one in the tick after the module became the launcher. -/
def State.launchesNow (s : State) : Bool := s.launching && decide (s.mrd.launchFrom ≤ s.chr.tick)

/-- R24, R49: the station at whose place on the ring the module lies, in RESET and unpowered too. -/
def State.ringPlace (s : State) : Nat := if s.pwr.ssel = 1 then 1 else 0

/-- R47: a relay's cut window: its direction, CW for KW and CCW for KE, carries no frame across this station. -/
def State.dirCut (s : State) (d : Nat) : Bool := (s.relay (if d = 0 then 0 else 1)).cut

/-- The master's mail and announcements go on: it launches and the management plane runs (R167). -/
def State.mastering (s : State) : Bool := s.launching && !s.alm.mgmtFailed

/-- The station that launches, as this module sees it. -/
def State.launcher (s : State) : Nat := if s.launching then s.me else if s.me = 0 then 1 else 0

/-- R148, R162: a module that hears the master follows the ring and not its own sources. -/
def State.followsRing (s : State) : Bool :=
  (s.me == 1 || s.mrd.standby) && !s.launching && decide (2 ≤ (s.station s.me).state)

def stBit (s : State) (f : Nat → Fld) (a : Nat) : Bool := bit (s.get (f (a / 32))) (a % 32)

def State.setStBit (s : State) (f : Nat → Fld) (a : Nat) (b : Bool) : State :=
  s.put (f (a / 32)) (setBit (s.get (f (a / 32))) (a % 32) b)

/-- R69: the station runs the image that this start's load gave it, where this module loads one. -/
def State.imageLoaded (s : State) (a : Nat) : Bool :=
  s.me != 0 || s.cfg 0x0201 a 0x13 1 == 0xFF || s.mrd.loaded.contains a

/-- R69, R154, R162: RING_READY: every declared station but the module's own is present, not failed, and in RUN with its
image; the launcher has no C-slot to say so in. -/
def State.refreshReady (s : State) : State :=
  let ok := decide (3 ≤ s.get R.MRD_STATUS_INSERT ∧ s.get R.MRD_STATUS_INSERT ≤ 4) &&
    !(s.mrd.standby && s.me == 0) &&
    s.declared.all fun a => a == s.me ||
      stBit s R.MRD_PRESENT_BITS a && !stBit s R.MRD_MISM_BITS a && !s.mrd.loadFailed.contains a &&
      (a == s.launcher || stBit s R.MRD_RUN_BITS a && s.imageLoaded a)
  s.put R.ALM_MODE_RING_READY (b2n ok)

/-- R154: a station fails the topology check. -/
def State.failStation (s : State) (a reason : Nat) : State :=
  ((s.setStBit R.MRD_MISM_BITS a true).raise 23 [a, reason]).refreshReady

/-! ### Announcements (R133) -/

/-- An announcement is accepted into an entry, a withdrawal (TYPE 0) too: each counts SEQ up (DESIGN CHOICE, log entry `SEQ of a
withdrawal`); the first D-pass that carries it is this tick's up to phase 59.00 µs. A module
that follows the ring is not its master, and a failed management plane makes none (R167). -/
def State.announce (s : State) (e type tick arg : Nat) : State :=
  if s.alm.mgmtFailed || s.followsRing then s
  else
    let old := s.mrd.ann.getD e {}
    { s with
      mrd.ann := s.mrd.ann.set e { type, seq := (old.seq + 1) % 256, tick, arg }
      mrd.annFrom := s.mrd.annFrom.set e (if s.chr.phase ≤ 5900 then s.chr.tick else s.chr.tick + 1)
      mrd.annSent := setBit s.mrd.annSent e false }

/-- The entries that the D-pass of this tick carries: those accepted in time whose AT has not passed; TYPE 0 goes out
too, with its SEQ. -/
def State.annNow (s : State) : List RingAnn :=
  s.mrd.ann.zipIdx.map fun (a, i) =>
    if s.mrd.annFrom.getD i 0 ≤ s.chr.tick ∧ s.chr.tick < a.tick then a else { a with type := 0, tick := 0, arg := 0 }

/-- EV029: at the edge AT an active entry that no D-pass of this module has carried. -/
def State.annEdge (s : State) : State :=
  (List.range 7).foldl (fun t e =>
    let a := s.mrd.ann.getD e {}
    if a.type ≠ 0 ∧ a.tick = s.chr.tick ∧ !bit s.mrd.annSent e then t.raise 29 [e, a.tick] else t) s

/-- The update's UID (Table 13.1). -/
def State.updUid (s : State) : Nat := s.get (R.UPD_UID_VALUE 0) + 2 ^ 32 * s.get (R.UPD_UID_VALUE 1)

/-- R458: a change of the update's state raises EV116. -/
def State.updTo (s : State) (st result : Nat) : State :=
  if s.get R.UPD_STAT_STATE = st ∧ s.get R.UPD_STAT_RESULT = result then s
  else
    let s' := s.puts [(R.UPD_STAT_STATE, st), (R.UPD_STAT_RESULT, result)]
    if s.get R.UPD_STAT_STATE = st then s' else s'.raise 116 [st, result, s.get (R.UPD_UID_VALUE 0)]

/-- The edge AT of the waypoint (R462), or none. -/
def State.setAt (s : State) (t : Option Nat) : State :=
  { s with upd.at_ := t, upd.lock := false }.put R.UPD_WP_AT_VALUE (t.getD 0)

/-- R463: the entry is withdrawn. -/
def State.withdraw (s : State) : State :=
  if (s.mrd.ann.getD 5 {}).type = 3 then s.announce 5 0 0 0 else s

/-- R463: entry 5 is carried in STANDBY and SERVICE while the state is ARMED. -/
def State.carryWaypoint (s : State) : State :=
  match s.upd.at_ with
  | some t =>
    if s.get R.UPD_STAT_STATE = 5 ∧ s.inMode [mSTANDBY, mSERVICE] ∧ t > s.chr.tick then s.announce 5 3 t s.updUid
    else s.withdraw
  | none => s.withdraw

/-- The first tick edge whose MT64 is at or after `wp`, as a tick count, on a scale moved by `step` (R462, R466). -/
def State.edgeAt (s : State) (wp : Nat) (step : Int) : Nat :=
  ((s.chr.tick : Int) + ((wp : Int) - step - s.chr.base + 79999) / 80000).toNat

/-- A step of MT64 that is announced for a coming edge: the edge, and the step in MT units: this module's own, or one that its
station hears (R148). -/
def State.stepAhead (s : State) : Option (Nat × Int) :=
  let a := (s.station s.me).annStep
  match s.chr.step with
  | some (t, n) => some (t, 80000 * n)
  | none => if a.type = 2 ∧ s.chr.tick < a.tick then some (a.tick, toInt 64 a.arg) else none

/-- R462, R466: the edge AT of a waypoint `wp`, with a step announced for an edge S before it: the first edge at or after it, S if
the step carries MT64 past it. -/
def State.waypointEdge (s : State) (wp : Nat) : Nat :=
  let t := s.edgeAt wp 0
  match s.stepAhead with
  | some (e, d) => if t < e then t else max e (s.edgeAt wp d)
  | none => t

/-- R466: a step of MT64 announced for an edge S, by this module or by the ring, or one announced that is not made, sets AT anew,
unless AT precedes S. -/
def State.retimeWaypoint (s : State) : State :=
  match s.upd.at_ with
  | some t =>
    let n := s.waypointEdge s.upd.wp
    let before := match s.stepAhead with
      | some (e, _) => decide (t < e)
      | none => false
    if s.get R.UPD_STAT_STATE = 5 ∧ n ≠ t ∧ !before ∧ s.chr.tick < t then (s.setAt (some n)).carryWaypoint else s
  | none => s

/-- R464, R465: a module that does not launch takes the AT of the master's entry 5 that carries its own UID. -/
def State.followWaypoint (s : State) (a : RingAnn) : State :=
  let st := s.get R.UPD_STAT_STATE
  if a.type = 3 ∧ a.arg = s.updUid ∧ (st = 5 ∨ st = 6) ∧ s.upd.at_ ≠ some a.tick then
    (s.setAt (some a.tick)).updTo 5 (s.get R.UPD_STAT_RESULT)
  else s

/-! ### Insertion (R153) -/

/-- LISTEN_END (Table 4.12): after two ticks on West in: the standby role, forwarding as S1, or, for S0, launching from the
next tick. -/
def execListenEnd (seen : Option (Fin 2)) (s : State) : Out :=
  if s.get R.MRD_STATUS_INSERT ≠ 2 then .next s
  else
    match seen with
    | none => .next (if s.me = 0 then { s.put R.MRD_STATUS_LAUNCH 1 with mrd.launchFrom := s.chr.tick + 1 } else s)
    | some o =>
      if o = 1 then .next ({ s with mrd.standby := true } : State).refreshReady
      else .next s

/-- R48, R153: the module waits for the CW insertion, and KW's cut window has ended 5 ms ago. -/
def State.eastDue (s : State) : Bool := s.get R.MRD_STATUS_INSERT == 2 && !s.cutNear 0 500000

/-- R46, R153: the KE coil is energised after the CW insertion, in STANDBY: outside SERVICE no other mode opens a relay. -/
def State.insertEast (s : State) : State :=
  if s.mode = mSTANDBY then (s.put R.MRD_STATUS_INSERT 3).coilTo 1 true else s

/-- CW_INSERTION_COMPLETE (R48, R153): eight valid headers in a row on West in since KW opened. -/
def execCwInsertionComplete (s : State) : Out :=
  .next (if s.eastDue ∧ 8 ≤ s.mrd.good.1 then s.insertEast else s)

/-- CW_INSERTION_TIMEOUT (R48, R153): EV025, and KE opens anyway. -/
def execCwInsertionTimeout (s : State) : Out :=
  .next (if s.eastDue then (s.raise 25 []).insertEast else s)

/-- RING_LINK_UP (R126, R144): a PHY reaches link; the module's own station listens. -/
def execRingLinkUp (dir : Fin 2) (s : State) : Out :=
  let s := { s with mrd.linkUp := setBit s.mrd.linkUp dir true }
  .next (s.modStation s.me fun x => if x.state = 0 then { x with state := 1 } else x)

/-! ### The two passes (R128 to R136) -/

/-- A mail region of this ring, sealed (R136). -/
def State.mailOf (s : State) (m : RingMail) (payload : List Nat) : RingMail :=
  let n := s.get R.MRD_CFG_MAIL_LEN
  RingMail.seal { m with len := min n payload.length, payload := padTo n payload }

/-- A pass as the launcher sends it in a direction (R128, R131 to R136). -/
def State.passOf (s : State) (ftype dir : Nat) (slots : List RingSlot) (ann : List RingAnn) (mail : RingMail) :
    RingFrame :=
  RingFrame.seal {
    ftype := ftype
    dir := dir
    origin := s.me
    tai := s.get R.CHR_DISC_TAI_VALID
    mode := s.mode
    len := passLen (if ftype = 1 then 32 else 164) (s.get R.MRD_CFG_MAIL_LEN) (slots.map fun x => (x.addr, x.payload.length))
    mapver := s.get R.MRD_MAPSTAT_MAPVER
    tick := s.chr.tick
    mtLaunch := (s.chr.base + if ftype = 1 then 800 else 48000) % 2 ^ 64
    nslot := slots.length
    slots := slots
    ann := ann
    annCrc := crc32 (ann.flatMap RingAnn.bytes)
    mail := mail }

/-- R47, R128, R153: both directions, or CW alone while only KW is open; none that a relay cuts. -/
def State.launch (s : State) (ftype : Nat) (slots : List RingSlot) (ann : List RingAnn) (mail : RingMail) : State :=
  s.ringTx (((if s.pwr.ke.coil then [0, 1] else [0]).filter fun d => !s.dirCut d).map fun d =>
    (s.me, s.passOf ftype d slots ann mail))

/-- C_PASS_LAUNCH (R128, R135, R136): slots pre-filled with STATUS 0x00 and zeros, the mail region with ADDR. -/
def execCPassLaunch (s : State) : Out :=
  let s := s.atPhase 100
  if !s.launchesNow then .next (s.ringTx [])
  else
    .next (s.launch 1 (s.cSlots.map fun (a, n) => RingSlot.seal ⟨a, 1, 0, List.replicate n 0, 0⟩) []
      (s.mailOf { addr := s.mrd.mailAddr } []))

/-- The output word of the channel whose sink is a word of a station's D-slot; a word that no channel drives is 0 (R178). -/
def State.dWord (s : State) (a w : Nat) : Nat :=
  match s.channels.find? fun c => s.chanB c 0x1C 4 == 3 * 2 ^ 28 + 256 * a + w with
  | some c => s.get (R.HLM_CHRAW_VALUE c)
  | none => 0

/-- A station's D-slot words in order, as bytes. -/
def State.dPayload (s : State) (a n : Nat) : List Nat := (List.range (n / 4)).flatMap fun w => leBytes 4 (s.dWord a w)

/-- D_SLOT_TAKE (R154, R178): from 59.00 µs the slots are gathered; a slot spoilt by an uncorrectable error, and a
failed station's, is not valid. -/
def execDSlotTake (s : State) : Out :=
  let s := s.atPhase 5900
  .next { s with
    mrd.dTaken := s.dSlots.map fun (a, n) =>
      (a, { payload := s.dPayload a n, valid := !s.mrd.dSpoilt.contains a && !s.stationFailed a })
    mrd.dSpoilt := [] }

/-- D_PASS_LAUNCH (R128, R133, R136, R167): the announcements, the slots taken and the mail. -/
def execDPassLaunch (s : State) : Out :=
  let s := s.atPhase 6000
  if !s.launchesNow then .next (s.ringTx [])
  else
    let ann := s.annNow
    let mail := (s.mrd.mail.head?).getD (s.mailOf {} [])
    let t := s.launch 2 (s.mrd.dTaken.map fun (a, d) => RingSlot.seal ⟨a, 2, b2n d.valid, d.payload, 0⟩) ann mail
    .next { t with
      mrd.annSent := (List.range 8).foldl (fun m e => if (ann.getD e {}).type ≠ 0 then setBit m e true else m) s.mrd.annSent
      mrd.mailAddr := if mail.op = 0 || mail.bcast then 0 else mail.addr
      mrd.mail := s.mrd.mail.tail }

/-- R164: a launcher that hears the other origin stops launching; S0 takes the standby role. -/
def State.yieldTo (s : State) (origin : Nat) : State :=
  let s := ((s.put R.MRD_STATUS_LAUNCH 0).put R.MRD_STATUS_YIELDED 1).raise 27 [origin]
  if s.me = 0 then ({ s with mrd.standby := true } : State).refreshReady else s

/-- R158: a bad header at an input of this module. -/
def State.badHeader (s : State) (d : Nat) : State :=
  { s.bump R.MRD_ERR_A_HCRC with
    mrd.badTick := dirInc s.mrd.badTick d
    mrd.bad := dirInc s.mrd.bad d
    mrd.good := dirSet s.mrd.good d 0 }

/-- R158: a valid header at an input. -/
def State.goodHeader (s : State) (d : Nat) : State :=
  { s with
    mrd.good := dirInc (if dirGet s.mrd.miss (1 - d) = 0 then s.mrd.good else dirSet s.mrd.good (1 - d) 0) d
    mrd.bad := dirSet s.mrd.bad d 0
    mrd.miss := dirInc (dirSet s.mrd.miss d 0) (1 - d) }

/-- What the launcher does with its own pass that returns: the round trip, and an undeclared station (R154). DESIGN CHOICE (log
entry `undeclared station`): HOPS tells of one only once the module is fully inserted. -/
def State.ownReturn (s : State) (f : RingFrame) (rttNs : Nat) : State :=
  if f.wrap then s
  else
    let s := s.put (if f.dir = 0 then R.MRD_RTT_RTT_CW else R.MRD_RTT_RTT_CCW) (min rttNs 65535)
    if s.me = 0 ∧ f.hops ≠ s.stationsN ∧ !s.mrd.hopsTold ∧ s.get R.MRD_STATUS_INSERT = 4 then
      ({ s with mrd.hopsTold := true } : State).raise 23 [0, 4]
    else s

/-- What a module that does not launch reads of the master's pass: the mode of S0, the D-slots (R162, R228) and the
waypoint (R465). -/
def State.hearMaster (s : State) (f : RingFrame) : State :=
  let s := { s with mrd.heardAt := some s.chr.tick }
  let s := if f.origin = 0 then { s with mrd.lastS0 := (frameNumber f), mrd.s0Mode := f.mode } else s
  if f.ftype ≠ 2 then s
  else
    let seen := (f.slots.filter fun x => x.kind == 2 && x.crcOk && bit x.status 0).map fun x => (x.addr, x.payload)
    let s := { s with mrd.dSeen := seen ++ s.mrd.dSeen.filter fun o => !seen.any fun n => n.1 == o.1 }
    if f.annOk then (s.retimeWaypoint).followWaypoint (f.ann.getD 5 {}) else s

/-- PASS_RECEIVE (R47, R150, R154, R158, R162 to R164, R437): a copy reaches an input of this module that is not held dead; it is
kept when it has come by 99.00 µs. -/
def execPassReceive (f : RingFrame) (rttNs : Nat) (s : State) : Out :=
  if !s.inserted || s.dirCut (frameInput f) || bit s.mrd.heldDead (frameInput f) || !(f.ftype == 1 || f.ftype == 2) then .next s
  else if !f.hcrcOk then .next (s.badHeader (frameInput f))
  else
    let s := s.goodHeader (frameInput f)
    let s := if f.wrap then { s with mrd.wrapTick := setBit s.mrd.wrapTick (frameInput f) true } else s
    let s := if s.launching && f.origin != s.me then s.yieldTo f.origin else s
    let s := if s.launching then s.ownReturn f rttNs else s.hearMaster f
    .next (if f.ftype = 1 ∧ f.tick = s.chr.tick ∧ s.chr.phase < 9900 then
      { s with mrd.copies := s.mrd.copies ++ f.slots.map fun x => (f.dir, x) } else s)

/-! ### Collection (R150) -/

/-- R145: the mean of the valid exchanges, 1/16 ns; none before the 64th. DESIGN CHOICE (log entry `link delay rounding`): to the
nearest 1/16 ns. -/
def linkDelay (l : List Nat) : Option Nat := if l.length < 64 then none else some ((l.sum + l.length / 2) / l.length)

/-- The copies of a station's C-slot that count: good CRC and FILLED. -/
def State.goodCopies (s : State) (a : Nat) : List RingSlot :=
  (s.mrd.copies.filter fun c => c.2.addr == a && c.2.kind == 1 && c.2.crcOk && bit c.2.status 0).map (·.2)

/-- The directions in which a bad copy of the slot came. -/
def State.badDirs (s : State) (a : Nat) : Nat :=
  (s.mrd.copies.filter fun c => c.2.addr == a && c.2.kind == 1 && !c.2.crcOk).foldl (fun m c => setBit m c.1 true) 0

/-- The station's input for the tick: its copies agree, disagree, or there is none. DESIGN CHOICE (log entry `STATUS of copies`):
copies agree when STATUS and payload do. -/
def State.collectOne (s : State) (a : Nat) : State :=
  let s := s.bump R.MRD_ERR_A_SLOTCRC (s.mrd.copies.filter fun c => c.2.addr == a && c.2.kind == 1 && !c.2.crcOk).length
  let old := s.mrd.inNext.filter fun p => p.1 != a
  match s.goodCopies a with
  | [] =>
    ({ s with mrd.inNext := old ++ [(a, {})] } : State).bump R.MRD_ERR_B_MISSING |>.raise 17 [a, s.badDirs a]
  | c :: cs =>
    if cs.all fun d => d == c then
      { s with mrd.inNext := old ++ [(a, { valid := true, status := c.status, payload := c.payload })] }
    else ({ s with mrd.inNext := old ++ [(a, {})] } : State).bump R.MRD_ERR_B_MISMATCH |>.raise 18 [a]

/-- A station with a valid C-slot in this tick, and its STATUS. -/
def State.statusOf (s : State) (a : Nat) : Option Nat :=
  match s.mrd.inNext.find? fun p => p.1 == a with
  | some (_, i) => if i.valid then some i.status else none
  | none => none

/-- Tables 4.23 and 4.26: a station is present or not, and EV021 when that changes. DESIGN CHOICE (log entry `first
appearance`): a station's first appearance is told as a return. -/
def State.notePresent (s : State) (a : Nat) (b : Bool) : State :=
  let was := s.mrd.present.contains a
  let s := s.setStBit R.MRD_PRESENT_BITS a b
  if was = b then s
  else
    ({ s with mrd.present := (s.mrd.present.filter (· != a)) ++ (if b then [a] else []) } : State).raise 21 [a, b2n b]

/-- R157: a station that has restarted since it was loaded waits to be loaded again, alone; S1 finds the stations loaded. A C-slot
sent before the station's RUN says nothing of it. -/
def State.noteRestart (s : State) (a : Nat) : State :=
  if s.mastering && ((s.mrd.ranAt.find? fun p => p.1 == a).all fun p => decide (p.2 < s.chr.tick)) && s.cfg 0x0201 a 0x13 1 != 0xFF && (s.me != 0 || s.mrd.loaded.contains a) &&
      !s.mrd.loadFailed.contains a && !s.mrd.reload.contains a then
    { s with mrd.loaded := s.mrd.loaded.filter (· != a), mrd.reload := s.mrd.reload ++ [a] }
  else s

/-- Tables 4.23 and 4.26 for a station: PRESENT, RUN, EV021, EV024, and the reload of R157. -/
def State.collectStatus (s : State) (a : Nat) : State :=
  match s.statusOf a with
  | none => (s.setStBit R.MRD_RUN_BITS a false).notePresent a false
  | some st =>
    let s := (s.setStBit R.MRD_RUN_BITS a (bit st 1)).notePresent a true
    let s :=
      if bit st 5 then { s with mrd.timeOk := a :: s.mrd.timeOk.filter (· != a) }
      else if s.mrd.timeOk.contains a then
        ({ s with mrd.timeOk := s.mrd.timeOk.filter (· != a) } : State).raise 24 [a]
      else s
    if bit st 6 then s.noteRestart a else s

/-- EV016 and EV020 of an input. -/
def State.inputEvents (s : State) (d : Nat) : State :=
  let n := dirGet s.mrd.badTick d
  let s := if n = 0 then s else s.raise 16 [d, n]
  if bit s.mrd.wrapTick d = bit s.mrd.wrapLast d then s else s.raise 20 [d, b2n (bit s.mrd.wrapLast d)]

/-- Tables 4.21, 4.23 and 4.26 of a module that is not in the ring: no C-slot is valid, and the stations are lost to it. -/
def State.noRing (s : State) : State :=
  let s := s.mrd.present.foldl (fun t a => t.notePresent a false) s
  ({ s with mrd.timeOk := [], mrd.copies := [] } : State).puts
    [(R.MRD_STATUS_PRESENT_N, 0), (R.MRD_STATUS_SYNTON, 0), (R.MRD_STATUS_WRAP_SEEN, 0), (R.MRD_PRESENT_BITS 0, 0),
     (R.MRD_PRESENT_BITS 1, 0), (R.MRD_RUN_BITS 0, 0), (R.MRD_RUN_BITS 1, 0)]

/-- EV030's reference: this module's own link delay estimates as they are; 0 for an input that has none yet. -/
def State.takeDelayRef (s : State) : State :=
  let x := s.station s.me
  { s with mrd.delayRef := ((linkDelay x.probeW).getD 0, (linkDelay x.probeE).getD 0) }

/-- C_SLOT_COLLECT (R147, R150, R157, R162): at 99.00 µs the copies of the tick become the input table of the next edge. The
launcher fills no C-slot: its passes show that it is present. -/
def execCSlotCollect (s : State) : Out :=
  let s := s.atPhase 9900
  if !s.inserted then .next s.noRing.refreshReady
  else
    let la := s.launcher
    let l := (s.cSlots.map (·.1)).filter fun a => a != s.me && a != la
    let s := l.foldl State.collectOne s
    let s := l.foldl State.collectStatus s
    let own := s.station s.me
    let s := if la = s.me then s.setStBit R.MRD_PRESENT_BITS s.me true
      else (s.setStBit R.MRD_PRESENT_BITS s.me (decide (2 ≤ own.state) && s.flag (R.MRD_CSLOT_EN s.me))).notePresent la
        (s.mrd.heardAt == some s.chr.tick)
    let here := l.filter fun a => (s.statusOf a).isSome
    let synton := (here.all fun a => s.mrd.timeOk.contains a) && (la == s.me || own.timeOk)
    let s := if la = s.me && synton && !s.flag R.MRD_STATUS_SYNTON then s.takeDelayRef else s
    let s := s.puts [
      (R.MRD_STATUS_PRESENT_N, ((List.range 64).filter fun a => stBit s R.MRD_PRESENT_BITS a).length),
      (R.MRD_STATUS_SYNTON, b2n synton),
      (R.MRD_STATUS_WRAP_SEEN, b2n (s.mrd.wrapTick != 0))]
    let s := (s.inputEvents 0).inputEvents 1
    .next ({ s with
      mrd.copies := [], mrd.badTick := (0, 0), mrd.wrapLast := s.mrd.wrapTick, mrd.wrapTick := 0 } : State).refreshReady

/-- MRD_ERR_A_READ, MRD_ERR_B_READ (R169): reads that clear. -/
def State.readClear2 (s : State) (hi lo : Fld) : State :=
  { (s.put hi 0).put lo 0 with rdata := 65536 * s.get hi + s.get lo }

def execMrdErrARead (s : State) : Out := .next (s.readClear2 R.MRD_ERR_A_HCRC R.MRD_ERR_A_SLOTCRC)
def execMrdErrBRead (s : State) : Out := .next (s.readClear2 R.MRD_ERR_B_MISMATCH R.MRD_ERR_B_MISSING)

/-! ### What every station does (R138 to R148) -/

def Station.delays (x : Station) (d : Nat) : List Nat := if d = 0 then x.probeW else x.probeE

/-- R144: what TIME_OK, gained or lost, does to the state. -/
def Station.settle (x : Station) (lost : Bool) : Station :=
  if x.state ≤ 1 then x
  else if lost then { x with state := 2, outSafe := true }
  else if x.timeOk ∧ x.state ≤ 3 then
    if x.needLoad then { x with state := 3 } else { x with state := 4, hold := 0 }
  else x

/-- R146, R147: the estimate of a pass steers the local clock and moves TIME_OK. -/
def Station.steer (x : Station) (err : Int) : Station :=
  let was := x.timeOk
  let x := { x with mt := x.mt - roundDiv err 20 }
  let x :=
    if err.natAbs ≤ 64 then { x with goodPass := x.goodPass + 1, badPass := 0, timeOk := x.timeOk || decide (64 ≤ x.goodPass + 1) }
    else if err.natAbs ≤ 80 then { x with goodPass := 0, badPass := 0 }
    else { x with goodPass := 0, badPass := x.badPass + 1, timeOk := x.timeOk && decide (x.badPass + 1 < 4) }
  x.settle (was && !x.timeOk)

/-- The error of the last pass, which acts when a copy of the next one arrives (R146). -/
def Station.dueErr (x : Station) (f : RingFrame) : Option Int :=
  match x.est with
  | some (n, _, _, e) => if n = frameNumber f then none else some e
  | none => none

/-- R95, R146: a valid copy that was not wrapped: the first ever loads the local time; of the two copies of a pass the one
with fewer HOPS counts, CW when they are equal, and it acts when the next pass arrives. A copy without a stamp is not used, and a
pass that is missing breaks the run of valid ones (R147). -/
def Station.timeCopy (x : Station) (f : RingFrame) (rx : Option Nat) : Station :=
  if !x.synced then { x with synced := true, tick := f.tick, mt := (f.mtLaunch : Int) - if f.ftype = 1 then 800 else 48000 }
  else
    let x := match x.dueErr f with
      | some e =>
        let n := x.est.map (·.1)
        let x := if n == x.lastEst.map (· + 1) then x else { x with goodPass := 0 }
        { x.steer e with est := none, lastEst := n }
      | none => x
    match linkDelay (x.delays (frameInput f)), rx with
    | some d, some rx =>
      let err : Int := 20 * ((rx : Int) - f.mtLaunch) - (f.acc + d)
      let mine := ((frameNumber f), f.hops, f.dir, err)
      match x.est with
      | none => { x with est := some mine }
      | some (_, h, d', _) => if f.hops < h ∨ (f.hops = h ∧ f.dir < d') then { x with est := some mine } else x
    | _, _ => x

/-- R158: the station's own view of its inputs. -/
def Station.hear (x : Station) (d : Nat) : Station :=
  let good := dirInc (if dirGet x.miss (1 - d) = 0 then x.good else dirSet x.good (1 - d) 0) d
  let miss := dirInc (dirSet x.miss d 0) (1 - d)
  let dead := if bit x.dead d && decide (8 ≤ dirGet good d) then setBit x.dead d false else x.dead
  let dead := if 4 ≤ dirGet miss (1 - d) then setBit dead (1 - d) true else dead
  { x with good, miss, dead }

/-- R135, Table 4.5: the STATUS byte that a station inserts. -/
def Station.status (x : Station) (tick : Nat) (lenBad : Bool) : Nat :=
  let ok (c : Option (Nat × Bool × List Nat)) : Bool := match c with
    | some (t, v, _) => v && t + 1 == tick
    | none => false
  1 + 2 * b2n (x.state == 4) + 4 * b2n (ok x.dCw) + 8 * b2n (ok x.dCcw) + 16 * b2n x.outSafe + 32 * b2n x.timeOk +
    64 * b2n x.needLoad + 128 * b2n lenBad

/-- R140: a station overwrites its C-slot. DESIGN CHOICE (log entry `length of a status-only slot`): the own length of a module's
status-only slot (R162) is 0. -/
def Station.insert (x : Station) (a tick : Nat) (payload : List Nat) (sl : RingSlot) : RingSlot :=
  if sl.addr ≠ a ∨ sl.kind ≠ 1 ∨ x.state < 2 then sl
  else
    let n := sl.payload.length
    let p := if 4 ≤ x.state then padTo n payload else List.replicate n 0
    RingSlot.seal { sl with status := x.status tick (payload.length != n), payload := p }

/-- R166: the blocks of the edges that the SNAP announcements name, where the station still holds them; a new announcement
ends the blocks of its slot. -/
def Station.takeSnaps (x : Station) : Station :=
  (x.annSnap.zipIdx.filter fun e => e.1.type == 1).foldl (fun (x : Station) e =>
    if x.snaps.any fun y => y.1 == e.2 && y.2.1 == e.1.seq && y.2.2.1 == e.1.tick then x
    else
      let rest := x.snaps.filter fun y => y.1 != e.2
      match x.hist.find? fun h => h.1 == e.1.tick && decide (x.tick ≤ h.1 + 3) with
      | some h => { x with snaps := rest ++ [(e.2, e.1.seq, h.1, h.2)] }
      | none => { x with snaps := rest }) x

/-- R166: the blocks latched at the edge of a tick join the last four. -/
def Station.keepBlocks (x : Station) (tick : Nat) (blocks : List Nat) : Station :=
  if x.hist.any fun h => h.1 == tick then x
  else Station.takeSnaps { x with hist := ((tick, blocks) :: x.hist).take 4 }

/-- R141, R166: a station keeps the D-slot copy of a direction, and the entries of a valid announcement block. -/
def Station.readD (x : Station) (a : Nat) (f : RingFrame) : Station :=
  let x := match f.slots.find? fun sl => sl.addr == a && sl.kind == 2 with
    | none => x
    | some sl =>
      if !sl.crcOk then { x with cntSlot := x.cntSlot + 1 }
      else
        let c := some (f.tick, bit sl.status 0, sl.payload)
        if f.dir = 0 then { x with dCw := c } else { x with dCcw := c }
  if f.annOk then
    Station.takeSnaps { x with
      annSnap := f.ann.take 4, annStep := f.ann.getD 4 {}, annWp := f.ann.getD 5 {}, annReset := f.ann.getD 6 {} }
  else x

/-! ### Requests by mail (R136, R155, R156, R166) -/

/-- The reply to a request that names the station (Table 4.6); it goes out in the C-pass of the next tick. -/
def Station.answer (x : Station) (a : Nat) (m : RingMail) (tick status : Nat) (p : List Nat) : Station :=
  if m.bcast then x
  else
    let n := m.payload.length
    { x with reply := some (tick, RingMail.seal
        { addr := a, filled := true, len := min n p.length, op := m.op, seq := m.seq, status, payload := padTo n p }) }

/-- The digest of the image a station has received. -/
def Station.imageDigest (x : Station) : List Nat := (Config.sha256 (x.buf.map (BitVec.ofNat 8))).map (·.toNat)

/-- Table 4.15, with what the station's state gives: FLAGS[2], HOPS last seen, and the digest of the running image. -/
def Station.identBytes (x : Station) (id : List Nat) : List Nat :=
  let d := if x.needLoad then List.replicate 32 0 else if x.buf = [] then id.drop 0x20 else x.imageDigest
  padTo 0x16 id ++ [id.getD 0x16 0 % 4 + 4 * b2n !x.needLoad, id.getD 0x17 0 % 256, x.hops.1, x.hops.2] ++
    padTo 6 (id.drop 0x1A) ++ padTo 32 d

/-- The sixteen counters of STATS (Table 4.14). -/
def Station.counters (x : Station) : List Nat :=
  [x.cntHcrc.1, x.cntHcrc.2, x.cntSlot, x.cntMiss, x.cntDiff, x.cntProbe, (linkDelay x.probeW).getD 0,
    (linkDelay x.probeE).getD 0] ++ List.replicate 8 0

/-- R156: LOAD_BEGIN at a station. -/
def Station.beginLoad (x : Station) (p : List Nat) : Station :=
  { x with
    state := 3, needLoad := true, outSafe := true, buf := []
    imgLen := leNat (p.take 4), entry := leNat ((p.drop 4).take 4), digest := (p.drop 8).take 32 }

/-- R166: the blocks of a snapshot from a first channel on, as many as `n` bytes hold. -/
def Station.snapBlocks (x : Station) (tick first n : Nat) : Option (List Nat) :=
  (x.snaps.find? fun y => y.2.2.1 == tick).map fun y => (y.2.2.2.drop (64 * first)).take (64 * ((n - 8) / 64))

/-- DESIGN CHOICE (log entry `SNAP_READ of no block`): a SNAP_READ whose AT names no block that the station holds answers
BAD_ARG.

R155, R156, R166: a station serves a request that came in the D-pass of a tick; `own` is the module's own station, which
takes no node image; `id` is what its making fixes of its IDENT reply. -/
def Station.serve (x : Station) (a : Nat) (own busy : Bool) (id : List Nat) (m : RingMail) (tick : Nat) : Station :=
  let x := { x with asked := some (tick, m.seq) }
  let r := fun (y : Station) => y.answer a m tick
  let p := m.payload
  if busy then r x 1 []
  else if m.op = 1 then r x 0 (x.identBytes id)
  else if 2 ≤ m.op ∧ m.op ≤ 5 ∧ own then r x 4 []
  else if m.op = 2 then r (x.beginLoad p) 0 []
  else if m.op = 3 then
    if x.state = 3 ∧ leNat (p.take 4) = x.buf.length then
      r { x with buf := (x.buf ++ (p.drop 8)).take x.imgLen } 0 []
    else r x 2 []
  else if m.op = 4 then r x (if x.imageDigest = x.digest then 0 else 3) x.imageDigest
  else if m.op = 5 then
    if x.state = 3 ∧ x.imageDigest = x.digest ∧ x.buf ≠ [] then
      r { x with needLoad := false, hold := 0, state := if x.timeOk then 4 else 2 } 0 []
    else r x 4 []
  else if m.op = 6 then
    match x.snapBlocks (leNat (p.take 6)) (p.getD 6 0) p.length with
    | some b => r x 0 b
    | none => r x 2 []
  else if m.op = 7 then r x 0 (x.counters.flatMap (leBytes 4))
  else x

/-- R136: a station reads the mail of a D-pass that is for it, once. -/
def Station.readMail (x : Station) (a img : Nat) (own busy : Bool) (id : List Nat) (f : RingFrame) : Station :=
  let m := f.mail
  let seen := match x.asked with
    | some (t, q) => q == m.seq && decide (f.tick < t + 256)
    | none => false
  if f.ftype = 2 ∧ m.op ≠ 0 ∧ m.crcOk ∧ !seen ∧ (if m.bcast then m.addr = img else m.addr = a) then
    x.serve a own busy id m f.tick
  else x

/-! ### Forwarding -/

/-- R139, R140, R144, R146: what a good header does at a station, before the frame goes on. -/
def Station.take (x : Station) (a : Nat) (f : RingFrame) (tick : Nat) (rx : Option Nat) : Station :=
  let x := { x with lastPass := tick, state := if x.state = 0 then 1 else x.state }
  let x := if f.wrap then x else x.timeCopy f rx
  let x := { x with hops := if f.wrap then x.hops else dirSet x.hops f.dir f.hops }
  let x := if x.state = 1 then Station.settle { x with state := 2, outSafe := true } false else x
  let x := x.hear (frameInput f)
  if f.ftype = 2 then x.readD a f else x

/-- R136, R139, R140: the frame as the station sends it on. -/
def Station.pass (x : Station) (a : Nat) (f : RingFrame) (payload : List Nat) (fwd : Nat) : RingFrame :=
  let f := RingFrame.seal { f with
    acc := (f.acc + (linkDelay (x.delays (frameInput f))).getD 0 + fwd) % 2 ^ 32, hops := (f.hops + 1) % 256 }
  if f.ftype ≠ 1 ∨ f.wrap then f
  else
    let f := { f with slots := f.slots.map (x.insert a f.tick payload) }
    match x.reply with
    | some (t, r) => if f.mail.addr = a ∧ !f.mail.filled ∧ 3 ≤ x.state ∧ f.tick = t + 1 then { f with mail := r } else f
    | none => f

/-- R148: S1 steers its PLL_T to the ring. -/
def State.steerRing (s : State) (e : Option Int) : State :=
  match e with
  | some e =>
    if s.followsRing then
      { s with chr.rateWant :=
          clamp (-120 * 8388608) (120 * 8388608) (Config.ringRate e (toInt 32 (s.get R.CHR_RATE_VALUE))) }
    else s
  | none => s

/-- R144: a station that is assigned no image (IMAGE 0xFF) runs its own when it joins. -/
def State.joinStation (s : State) (st : Nat) (x : Station) : Station :=
  if x.state = 0 ∧ s.cfg 0x0201 st 0x13 1 = 0xFF then { x with needLoad := false } else x

/-- What the module's own station does beyond a node: its inputs are the module's; the firmware is the image that it runs, but in
the tick of a RESET that names it (R144, log entry `own image`); its first header sets the module's time, each pass steers PLL_T,
and TIME_OK renews EV030's reference. -/
def State.ownPass (s : State) (old : Station) (f : RingFrame) : State :=
  let s := s.modStation s.me fun x =>
    let x := { x with dead := b2n (s.inputDead 0) + 2 * b2n (s.inputDead 1) }
    if x.annReset.type = 4 ∧ x.annReset.tick = s.chr.tick ∧ bit x.annReset.arg s.me then x
    else Station.settle { x with needLoad := false } false
  let x := s.station s.me
  let s := if !old.synced && x.synced then { s with chr.tick := x.tick, chr.base := x.mt.toNat } else s
  let s := s.steerRing (if f.wrap || !old.synced then none else old.dueErr f)
  if x.timeOk && !old.timeOk then s.takeDelayRef else s

/-- FRAME_FORWARD (R138 to R141, R144, R146, R148, R158, R159, R166): a ring frame passes a station. `sample` is what it sampled
at the edge, `fwd` its delay in 1/16 ns, `rx` its stamp of the frame start. A bypassed module's relays pass it on (R49); a relay
that cuts the direction stops it (R47), as does an input held dead (R430, R437); the launcher ends it. -/
def execFrameForward (st : Fin 64) (f : RingFrame) (sample : NodeSample) (fwd : Nat) (rx : Option Nat) (s : State) : Out :=
  let own := decide (st.val = s.ringPlace)
  let s := if own then s.tookStamp (ptRing 0 (frameInput f)) rx else s
  let s := if own then s else s.modStation st fun x => if x.synced then x.keepBlocks x.tick sample.blocks else x
  if own && (s.dirCut (frameInput f) || s.inserted && bit s.mrd.heldDead (frameInput f)) then .next (s.ringTx [])
  else if own && !s.inserted then .next (s.ringTx [(st, f)])
  else if own && s.launching then .next (s.ringTx [])
  else if !(f.ftype == 1 || f.ftype == 2) then .next (s.ringTx [(st, f)])
  else if !f.hcrcOk then
    .next ((s.modStation st fun x => { x with cntHcrc := dirInc x.cntHcrc (frameInput f), good := dirSet x.good (frameInput f) 0 }).ringTx
      [(st, f)])
  else
    let old := s.station st
    let s := s.modStation st fun x => (s.joinStation st x).take st f s.chr.tick rx
    let s := if own then s.ownPass old f else s
    let s := s.modStation st fun x =>
      let x := if own then x else x.keepBlocks x.tick sample.blocks
      x.readMail st (s.cfg 0x0201 st 0x13 1) own sample.busy (Config.nodeIdent st) f
    let x := s.station st
    let g := x.pass st f (if own then [] else sample.payload) fwd
    .next (s.ringTx ((st.val, g) ::
      if !f.wrap && bit x.dead (1 - (frameInput f)) then [(st.val, RingFrame.seal { g with wrap := true })] else []))

/-- R141: the usable copies that arrived in the D-pass of a tick. -/
def Station.usable (x : Station) (tick : Nat) : List (List Nat) :=
  [x.dCw, x.dCcw].filterMap fun c => match c with
    | some (t, v, p) => if t = tick ∧ v then some p else none
    | none => none

/-- STATION_OUTPUT_APPLY (R141, R142): the data of the last tick's D-pass, or one more tick without. -/
def execStationOutputApply (st : Fin 64) (s : State) : Out :=
  .next (s.modStation st fun x =>
    let u := if s.chr.tick = 0 then [] else x.usable (s.chr.tick - 1)
    let x := { x with cntMiss := x.cntMiss + (2 - u.length) }
    match u with
    | [] => { x with hold := x.hold + 1 }
    | p :: ps =>
      if ps.all (· == p) then
        if x.state = 4 ∨ x.state = 5 then { x with outputs := p, outSafe := false, hold := 0, state := 4 }
        else { x with hold := 0 }
      else { x with hold := x.hold + 1, cntDiff := x.cntDiff + 1 })

/-- STATION_SAFE (R142): HOLD_TICKS ticks without usable data. -/
def execStationSafe (st : Fin 64) (s : State) : Out :=
  .next (s.modStation st fun x =>
    if x.state = 4 ∧ s.cfg 0x0201 st 0x12 1 ≤ x.hold then { x with state := 5, outSafe := true } else x)

/-- NO_PASS_TIMEOUT (R144, R146, R147): eight ticks without a valid pass; the next one is the first again. -/
def execNoPassTimeout (st : Fin 64) (s : State) : Out :=
  .next (s.modStation st fun x =>
    if x.state = 0 ∨ s.chr.tick < x.lastPass + 8 then x
    else { x with state := 1, synced := false, timeOk := false, goodPass := 0, badPass := 0, outSafe := true, est := none })

/-- A station discards its image (R144, R167). -/
def Station.unload (x : Station) : Station :=
  { x with state := if x.state = 0 then 0 else 3, needLoad := true, outSafe := true, buf := [], hold := 0 }

/-- STATION_RESET (R167, R465): at the edge AT of the RESET announcement that the station received last. The master loads it again,
alone, one that had failed its loads too. -/
def execStationReset (st : Fin 64) (s : State) : Out :=
  let x := s.station st
  let named := x.annReset.type == 4 && x.annReset.tick == s.chr.tick && bit x.annReset.arg st
  let wp := st.val != s.me && x.annWp.type == 3 && x.annWp.tick == s.chr.tick
  .next (if named || wp then
    let s := s.modStation st Station.unload
    let again := s.mastering && s.cfg 0x0201 st 0x13 1 != 0xFF && !s.mrd.reload.contains st.val
    { s with
      mrd.loaded := s.mrd.loaded.filter (· != st.val)
      mrd.reload := if again then s.mrd.reload ++ [st.val] else s.mrd.reload
      mrd.loadFailed := s.mrd.loadFailed.filter (· != st.val)
      mrd.loadTries := s.mrd.loadTries.filter fun (p : Nat × Nat) => p.1 != st.val }
  else s)

/-! ### Probes (R137, R145) -/

/-- PROBE (R137): at 80.00 µs on the reverse direction of each in pair. -/
def execProbe (st : Fin 64) (seq : BitVec 8) (s : State) : Out :=
  let s := s.atPhase 8000
  if (s.station st).state = 0 ∧ !(st.val = s.ringPlace ∧ s.inserted) then .next { s with mrd.probes := [] }
  else
    let s := s.modStation st fun x => { x with probeSeq := some seq.toNat }
    let f := ProbeFrame.seal { ftype := 0x10, seq := seq.toNat }
    .next { s with mrd.probes := [(st, 0, f), (st, 1, f)] }

/-- PROBE_RECEIVE (R137): the REPLY repeats SEQ and carries TURN; a station that is OFF does not answer, and a frame whose CRC is
bad is none. -/
def execProbeReceive (st : Fin 64) (dir : Fin 2) (f : ProbeFrame) (turn : Nat) (s : State) : Out :=
  if ((s.station st).state = 0 ∧ !(st.val = s.ringPlace ∧ s.inserted)) ∨ f.ftype ≠ 0x10 ∨ !f.crcOk then .next { s with mrd.probes := [] }
  else .next { s with mrd.probes := [(st, dir, ProbeFrame.seal { ftype := 0x11, seq := f.seq, turn := turn })] }

/-- TIME_OK as EV030 has it: this module's own, and of a launcher that the ring is syntonised. -/
def State.refStands (s : State) : Bool := if s.launching then s.flag R.MRD_STATUS_SYNTON else (s.station s.me).timeOk

/-- EV030: this module's estimate of an input has moved by more than 1 ns since TIME_OK, or since it was first formed after. -/
def State.noteDelay (s : State) (dir : Nat) (old new : Option Nat) : State :=
  let ref := dirGet s.mrd.delayRef dir
  let far (l : Option Nat) : Bool := l.any fun m => decide (16 < ((m : Int) - ref).natAbs)
  if !s.refStands then s
  else if ref = 0 then { s with mrd.delayRef := dirSet s.mrd.delayRef dir (new.getD 0) }
  else if far new ∧ !far old then s.raise 30 [dir, new.getD 0]
  else s

/-- R145: an exchange of `d` 1/16 ns at an in link: it joins the mean of the last 1,024, or lies more than 2 ns from the mean
and is counted. -/
def State.exchange (s : State) (st dir d : Nat) : State :=
  let l := (s.station st).delays dir
  let off := match linkDelay l with
    | some m => decide (32 < ((d : Int) - m).natAbs)
    | none => false
  if off then s.modStation st fun x => { x with cntProbe := x.cntProbe + 1 }
  else
    let l' := (d :: l).take 1024
    let t := s.modStation st fun x => if dir = 0 then { x with probeW := l' } else { x with probeE := l' }
    if st = s.me then t.noteDelay dir (linkDelay l) (linkDelay l') else t

/-- REPLY_RECEIVE (R95, R137, R145, EV030): a REPLY to the PROBE sent, with the departure and arrival stamps in 1/16 ns; an
exchange that lacks a stamp is not valid. DESIGN CHOICE (log entry `link delay rounding`): its half is cut to 1/16 ns. -/
def execReplyReceive (st : Fin 64) (dir : Fin 2) (t1 t4 : Option Nat) (f : ProbeFrame) (s : State) : Out :=
  let s := if st.val = s.me then (s.tookStamp (ptRing 1 dir) t1).tookStamp (ptRing 0 dir) t4 else s
  match t1, t4 with
  | some t1, some t4 =>
    .next (if f.ftype = 0x11 ∧ f.crcOk ∧ (s.station st).probeSeq = some f.seq then
      s.exchange st dir ((t4 - t1 - f.turn) / 2) else s)
  | _, _ => .next s

/-! ### Breaks (R158, R161) -/

/-- R158: an input is declared dead, once. -/
def State.declareDead (s : State) (d : Nat) : State :=
  if s.flag (deadFld d) then s else (s.put (deadFld d) 1).raise 19 [d, 0]

/-- RING_LINK_DOWN (R120, R158, Table 12.1): the input is dead at once; while the module is inserted that is a port
error. -/
def execRingLinkDown (dir : Fin 2) (s : State) : Out :=
  let s := { s with mrd.linkUp := setBit s.mrd.linkUp dir false, mrd.good := dirSet s.mrd.good dir 0 }
  let s := (s.declareDead dir).resetDomain (5 + dir)
  let ins := s.get R.MRD_STATUS_INSERT
  .next (if ins = 3 ∨ ins = 4 then s.unitError (portUnit dir) 2 108 [portUnit dir, 0] else s)

/-- INPUT_DEAD (R158): four passes missed while the other input delivers. -/
def execInputDead (dir : Fin 2) (s : State) : Out :=
  .next (if 4 ≤ dirGet s.mrd.miss dir then
    ({ s with mrd.good := dirSet s.mrd.good dir 0 } : State).declareDead dir else s)

/-- INPUT_ALIVE (R158, R430): eight valid headers in a row; a port held dead stays dead. -/
def execInputAlive (dir : Fin 2) (s : State) : Out :=
  .next (if s.flag (deadFld dir) && !bit s.mrd.heldDead dir && decide (8 ≤ dirGet s.mrd.good dir) then
    (s.put (deadFld dir) 0).raise 19 [dir, 1] else s)

/-! ### Master and standby (R163) -/

/-- R163: the conditions of a takeover. -/
def State.mayTakeOver (s : State) : Bool :=
  s.me == 1 && s.inserted && !s.flag R.MRD_STATUS_LAUNCH && s.flag R.MRD_CFG_TAKEOVER && s.mrd.linkUp != 0 &&
    decide (s.mrd.lastS0 + 4 ≤ 2 * s.chr.tick + 1) && s.inMode [mSTANDBY, mROAD, mFIELD] && s.mode == s.mrd.s0Mode

/-- TAKEOVER (R163, R228): S1 launches from the next tick. DESIGN CHOICE (log entry `YIELDED stays`): MRD_STATUS.YIELDED of an
earlier yield stays 1. -/
def execTakeover (s : State) : Out :=
  if !s.mayTakeOver then .next s
  else
    let s := { (s.put R.MRD_STATUS_LAUNCH 1).raise 26 [s.chr.tick + 1] with mrd.launchFrom := s.chr.tick + 1 }
    .next (s.eachChan (List.range 128) fun t c => t.takeoverChan s.mrd.dSeen c)

/-! ### Mail: the topology check, node loading, snapshots, counters (R154 to R157) -/

/-- The tick whose D-pass carries a request made now: one request a tick. -/
def State.mailTick (s : State) : Nat := (if s.chr.phase < 6000 then s.chr.tick else s.chr.tick + 1) + s.mrd.mail.length

/-- A request reaches a station: the module's own, and a node that hears the passes (Table 4.8). -/
def Station.asks (x : Station) (a : Nat) (own busy : Bool) (id : List Nat) (m : RingMail) (tick : Nat) : Station :=
  if own || decide (2 ≤ x.state) then x.serve a own busy id m tick else { x with reply := none }

/-- R136, R155: a request goes out by mail, and the stations `dest` serve it. -/
def State.ask (s : State) (dest : List Nat) (addr : Nat) (bcast : Bool) (op : Nat) (payload : List Nat) (busy : Bool)
    (id : List Nat) : State :=
  let m := s.mailOf { addr, bcast, op, seq := (s.mrd.mailSeq + 1) % 256 } payload
  let t := s.mailTick
  dest.foldl (fun u a => u.modStation a fun x => x.asks a (a == u.me) busy id m t)
    { s with mrd.mailSeq := m.seq, mrd.mail := s.mrd.mail ++ [m] }

/-- A request to one station. -/
def State.askOne (s : State) (a op : Nat) (payload : List Nat) (busy : Bool := false) (id : List Nat := []) : State :=
  s.ask [a] a false op payload busy id

/-- STATUS and payload of a station's reply, which a station in SYNC has no C-pass to carry (Table 4.8). -/
def State.replyOf (s : State) (a : Nat) : Nat × List Nat := match (s.station a).reply with
  | some (_, r) => if 3 ≤ (s.station a).state ∨ a = s.me then (r.status, r.payload.take r.len) else (1, [])
  | none => (1, [])

/-- R154: the first reason for which a station's IDENT reply fails, as EV023 numbers it. -/
def State.identFault (s : State) (a : Nat) (r : IdentReply) : Option Nat :=
  let f (o n : Nat) := s.cfg 0x0201 a o n
  if r.vendor ≠ f 4 4 ∨ r.product ≠ f 8 4 ∨ r.cLen ≠ f 0xC 2 ∨ r.dLen ≠ f 0xE 2 then some 1
  else if f 0x14 2 < r.fwdCw ∨ f 0x16 2 < r.fwdCcw ∨ f 0x18 2 < r.ready then some 2
  else if r.hopsCw ≠ f 0 1 ∨ r.hopsCcw ≠ s.stationsN - f 0 1 then some 3
  else none

/-- IDENT (R153 to R155): S0 asks a declared station and compares its reply. -/
def execIdent (st : Fin 64) (reply : IdentReply) (s : State) : Out :=
  if !s.mastering || s.me != 0 || !s.has 0x0201 st then .next s
  else
    let s := s.askOne st 1 [] false reply.bytes
    let s := { s with mrd.ident := (s.mrd.ident.filter fun (p : Nat × IdentReply) => p.1 != st.val) ++ [(st.val, reply)] }
    match s.identFault st reply with
    | some reason => .next (s.failStation st reason)
    | none => .next s

/-- IDENT_TIMEOUT (R154): no answer within four ticks, three times over. -/
def execIdentTimeout (st : Fin 64) (s : State) : Out :=
  .next (if s.mastering && s.me == 0 && s.has 0x0201 st && !s.mrd.ident.any (fun (p : Nat × IdentReply) => p.1 == st.val) then
    s.failStation st 0 else s)

/-- An image by its number in STATION.IMAGE (Table 4.19): bytes, entry, digest. -/
def State.nodeImage (s : State) (img : Nat) : Option (List Nat × Nat × List Nat) :=
  if img < 64 then
    if s.has 0x0202 img then
      some ((List.range (s.cfg 0x0202 img 0 4)).map (fun i => s.cfg 0x0202 img (0x30 + i) 1), s.cfg 0x0202 img 4 4,
        (List.range 32).map fun i => s.cfg 0x0202 img (0x10 + i) 1)
    else none
  else if 128 ≤ img ∧ img < 192 then
    (Config.fwNode (s.nor.fw.getD (s.get R.ALM_LOAD_FW_BANK) []) (img - 128)).map fun (b, e) =>
      (b, e, (Config.sha256 (b.map (BitVec.ofNat 8))).map (·.toNat))
  else none

/-- The stations assigned an image. -/
def State.assigned (s : State) (img : Nat) : List Nat :=
  s.declared.filter fun a => a != s.me && s.cfg 0x0201 a 0x13 1 == img

/-- LOAD_BEGIN (R155 to R157): a station that waits to be loaded alone comes first; otherwise a broadcast to every
station assigned the image. -/
def execLoadBegin (img : Nat) (s : State) : Out :=
  match s.mastering, s.nodeImage img with
  | true, some (bytes, entry, digest) =>
    let alone := s.mrd.reload.find? fun a => s.cfg 0x0201 a 0x13 1 == img
    let body := leBytes 4 bytes.length ++ leBytes 4 entry ++ digest
    let s := match alone with
      | some a => s.askOne a 2 body
      | none => s.ask (s.assigned img) img true 2 body false []
    .next { s with
      mrd.loads := (s.mrd.loads.filter fun l => l.1 != img) ++ [(img, alone, 0)]
      mrd.reload := s.mrd.reload.filter fun a => some a != alone }
  | _, _ => .next s

/-- LOAD_DATA (R155, R156): the next block of MAIL_LEN − 8 bytes. -/
def execLoadData (img : Nat) (s : State) : Out :=
  match s.mastering, s.nodeImage img, (s.mrd.loads.find? fun (l : Nat × Option Nat × Nat) => l.1 == img) with
  | true, some (bytes, _, _), some (_, alone, off) =>
    let n := s.get R.MRD_CFG_MAIL_LEN - 8
    let body := leBytes 4 off ++ [0, 0, 0, 0] ++ (bytes.drop off).take n
    let s := match alone with
      | some a => s.askOne a 3 body
      | none => s.ask (s.assigned img) img true 3 body false []
    .next { s with mrd.loads := s.mrd.loads.map fun (l : Nat × Option Nat × Nat) => if l.1 = img then (img, alone, off + n) else l }
  | _, _, _ => .next s

/-- LOAD_END (R156): the digest decides; after the third failure the station is FAILED and EV022 is raised. -/
def execLoadEnd (st : Fin 64) (s : State) : Out :=
  if !s.mastering || (s.station st).state != 3 then .next s
  else
    let s := s.askOne st 4 []
    let status := (s.replyOf st).1
    let tries := (((s.mrd.loadTries.find? fun p => p.1 == st.val).map (·.2)).getD 0) + 1
    let others := s.mrd.loadTries.filter fun p => p.1 != st.val
    if status = 0 then .next { s with mrd.loadTries := others }
    else if tries < 3 then
      .next { s with mrd.loadTries := others ++ [(st.val, tries)], mrd.reload := s.mrd.reload ++ [st.val] }
    else
      .next (({ s with mrd.loadTries := others, mrd.loadFailed := s.mrd.loadFailed ++ [st.val] } : State).raise 22
        [st, status]).refreshReady

/-- RUN (R69, R144, R155, R156): a loaded station runs its image; a BUSY one is asked again in the next tick. -/
def execRun (st : Fin 64) (busy : Bool) (s : State) : Out :=
  if !s.mastering then .next s
  else
    let t := s.mailTick
    let s := s.askOne st 5 [] busy
    .next (if (s.replyOf st).1 = 0 then { s with
      mrd.loaded := st.val :: s.mrd.loaded.filter (· != st.val)
      mrd.ranAt := (st.val, t) :: s.mrd.ranAt.filter fun (p : Nat × Nat) => p.1 != st.val } else s)

/-- SNAP_READ (R155, R166): blocks of a slot's tick count, from a first channel on, as many as a mail holds. -/
def execSnapRead (st : Fin 64) (slot : Fin 4) (first : Nat) (busy : Bool) (s : State) : Out :=
  if !s.mastering then .next s
  else
    let s := s.askOne st 6 (leBytes 6 (s.chr.snaps.getD slot {}).t ++ [first % 256, 0]) busy
    let (status, blocks) := s.replyOf st
    .next (if status = 0 then
      { s with mrd.snapRead := (s.mrd.snapRead.filter fun p => !(p.1 == st.val && p.2.1 == slot.val && p.2.2.1 == first)) ++
          [(st.val, slot.val, first, blocks)] }
    else s)

/-- STATS (Table 4.14): the station's sixteen counters, as its reply brings them. -/
def execStats (st : Fin 64) (s : State) : Out :=
  if !s.mastering then .next s
  else
    let s := s.askOne st 7 []
    let (status, bytes) := s.replyOf st
    .next (if status = 0 then
      { s with mrd.stats := (s.mrd.stats.filter fun p => p.1 != st.val) ++
          [(st.val, (List.range 16).map fun i => natAt bytes (4 * i) 4)] }
    else s)

end Sys2Proof.Machine
end

