-- ==== Sys2Proof/Machine/LoadCheck.lean ====
section
/-! DEFINITION. Checks 9 to 14 of Table 2.13 on a trial state that holds only the image's records. -/

namespace Sys2Proof.Machine

/-- The known records of an image in force, and nothing of another Almanac. -/
def State.withRecs (s : State) (rs : List ARec) : State :=
  let rs := rs.filter ARec.known
  rs.foldl (fun t r => t.cfgPut r.type r.inst 0 r.body)
    { s with alm.present := rs.map fun r => (r.type, r.inst) }

/-- R169: MRD_CFG and the slot maps from the RING and STATION records. -/
def State.applyRing (s : State) : State :=
  let s := s.puts [(R.MRD_CFG_MAIL_LEN, s.cfg 0x0200 0 2 2), (R.MRD_CFG_TAKEOVER, s.cfg 0x0200 0 1 1 / 2)]
  s.declared.foldl (fun t a =>
    let ord (o : Nat) := t.cfg 0x0201 a o 1
    let c := b2n (ord 0x1A != 255)
    let d := b2n (ord 0x1B != 255)
    t.puts [(R.MRD_CSLOT_EN a, c), (R.MRD_CSLOT_LEN a, c * t.cfg 0x0201 a 0x0C 2), (R.MRD_CSLOT_ORDER a, c * ord 0x1A),
      (R.MRD_DSLOT_EN a, d), (R.MRD_DSLOT_LEN a, d * t.cfg 0x0201 a 0x0E 2), (R.MRD_DSLOT_ORDER a, d * ord 0x1B)]) s

/-- A failed check: code, record index, record type. -/
abbrev CheckFault := Nat × Nat × Nat

/-- The index of the record (type, instance) in an image. -/
def recAt (rs : List ARec) (t i : Nat) : Nat :=
  match rs.find? fun r => r.type == t && r.inst == i with
  | some r => r.idx
  | none => 0xFFFF

/-! ### Check 9 -/

/-- A record of Helm in its ranges (R210). -/
def State.helmRecOk (t : State) (r : ARec) : Bool :=
  decide (r.inst < 128) &&
    match r.type with
    | 0x0300 => t.chanRange r.inst
    | 0x0301 => t.vlinRange r.inst
    | 0x0302 => t.hctlRange r.inst
    | 0x0303 => t.fricRange r.inst
    | _ => t.coggRange r.inst

def State.check9 (t : State) (rs : List ARec) : Option CheckFault :=
  let limp := ((rs.find? fun r => r.type == 0x0C02).map (·.off)).getD 0
  match rs.find? fun r => r.known && !(if r.type / 256 = 3 then t.helmRecOk r else recOk limp r) with
  | some r => some (0x23, r.idx, r.type)
  | none => none

/-! ### Checks 10 and 11 -/

/-- R78: a group's load at its full 16 slices. -/
def State.check10 (t : State) : Option CheckFault :=
  if (List.range 8).all fun g => decide (ttLoad (t.ttRecord g) ≤ 128 * 576000) then none else some (0x30, 0xFFFF, 0)

/-- R210, R524. -/
def State.check11 (t : State) (rs : List ARec) : Option CheckFault :=
  match t.channels.find? fun c => !t.chan31 c with
  | some c => some (0x31, recAt rs 0x0300 c, 0x0300)
  | none =>
    if !t.helm31 then some (0x31, 0xFFFF, 0)
    else if !t.chanOn (t.cfg 0x0C01 0 0 2) then some (0x31, recAt rs 0x0C01 0, 0x0C01)
    else none

/-! ### Checks 12 and 13 (R50, R79, R151, R163) -/

/-- The relay chains of R50: cables and 0.5 m for each bypassed module, UQ8.8 m. -/
def State.chainsOk (t : State) : Bool :=
  let n := t.stationsN
  let hop (p : Nat) := t.cfg 0x0201 (t.stationAt (p % n)) 2 2
  let relays (p : Nat) := bit (t.cfg 0x0201 (t.stationAt (p % n)) 1 1) 0
  (List.range n).all fun p => (List.range n).all fun k =>
    k == 0 || !((List.range k).all fun i => relays (p + i)) ||
      decide (((List.range (k + 1)).map fun i => hop (p + n - 1 + i)).sum + 128 * k ≤ 3840)

/-- R79: a declared node names an image that is present. -/
def State.imageOk (t : State) (fw : List Nat) (a : Nat) : Bool :=
  let i := t.cfg 0x0201 a 0x13 1
  decide (a < 2) || i == 255 || (if i < 64 then t.has 0x0202 i else (Config.fwNode fw (i - 128)).isSome)

def State.check12 (t : State) (rs : List ARec) (fw : List Nat) : Option CheckFault :=
  let st := 0x0201
  let s1 := bit (t.cfg 0x0200 0 1 1) 0
  let modl (a : Nat) := bit (t.cfg st a 1 1) 1
  let bad := t.declared.find? fun a =>
    !t.imageOk fw a || (a == 1 && !(s1 && modl 1)) || (s1 && decide (2 ≤ a) && decide (t.cfg st a 0x12 1 < 4))
  if !t.has 0x0200 0 then some (0x40, 0xFFFF, 0)
  else
    match bad with
    | some a => some (0x40, recAt rs st a, st)
    | none =>
      if t.has st 0 && modl 0 && t.cfg st 0 0 1 == 0 && decide (t.pwr.ssel < 2) && t.has st t.pwr.ssel &&
          (t.pwr.ssel == 0 || s1) && decide (t.declared.length = t.stationsN) && (!s1 || t.has st 1) && t.chainsOk && t.cReady t.cSlots && t.dReady t.dSlots then none
      else some (0x40, 0xFFFF, 0)

def State.check13 (t : State) : Option CheckFault :=
  let mail := t.cfg 0x0200 0 2 2
  if passLen 32 mail t.cSlots ≤ 4096 ∧ passLen 164 mail t.dSlots ≤ 4096 then none else some (0x41, 0xFFFF, 0)

/-! ### Check 14 -/

/-- Fields of a sample of a source (Table 7.1, R268, R363). -/
def State.fieldsOf (t : State) (i : Nat) : Nat :=
  let kind := t.srcB i 0 1
  if kind = 4 then t.cfg 0x0201 (t.srcB i 2 2) 0x0C 2 / 4
  else if kind = 7 ∨ kind = 9 then t.srcB i 0x2C 1
  else [0, 6, 1, 2, 0, 8, 8, 0, 9].getD kind 0

/-- A selector names a declared source and one of its fields. -/
def State.selRef (t : State) (v : Nat) : Bool :=
  let i := bits v 8 6
  t.has 0x0400 i && decide (v % 256 < t.fieldsOf i)

/-- As `selRef`, 0xFFFF for none. -/
def State.selRefN (t : State) (v : Nat) : Bool := v == 0xFFFF || t.selRef v

/-- Helm channels that drive a mailbox word. -/
def State.wordDrivers (t : State) (w : Nat) : List Nat := t.driversOf (4 * 2 ^ 28 + w)

/-- The EXPORT records that write a mailbox word. -/
def State.exportsOf (t : State) (w : Nat) : List Nat :=
  (List.range 64).filter fun e => t.has 0x0403 e && t.cfg 0x0403 e 4 4 == w

/-- R386: the word is driven by an EXPORT or a Helm sink. -/
def State.driven (t : State) (w : Nat) : Bool := !(t.wordDrivers w).isEmpty || !(t.exportsOf w).isEmpty

/-- The word is driven by Helm channels with the limp flag alone (R418, R490). -/
def State.limpDriven (t : State) (w : Nat) : Bool :=
  !(t.wordDrivers w).isEmpty && (t.wordDrivers w).all fun c => bit (t.chanB c 8 1) 6

/-- R360: a binding's machine-vision output fits its network. -/
def State.bindFits (t : State) (net port : Nat) : Bool :=
  let p := fun o n => t.pipeB (port / 2) o n
  let f := p 8 1
  let d := 2 ^ (p 9 1 % 4)
  let n := t.cfg 0x0600 net
  t.served port && f != 0 && p 0x0E 2 / d == n 8 2 && p 0x10 2 / d == n 0x0A 2 &&
    n 0x0C 1 == (if f ≤ 2 then 3 else 1) && n 0x0D 1 == (f + 1) % 2

/-- What a record refers to exists and suits it (R288, R325, R360, R365, R418, R420, R422, R490, R511). -/
def State.refOk (t : State) (r : ARec) : Bool :=
  let f := imgNat r.body
  match r.type with
  | 0x0400 =>
    (if f 0 1 = 7 then t.has 0x0F02 (f 2 2) else if f 0 1 = 9 then t.has 0x0F01 (f 2 2) else true) &&
      !(f 0 1 == 8 && (List.range 64).any fun i =>
        i != r.inst && t.has 0x0400 i && t.srcB i 0 1 == 8 && t.srcB i 2 2 == f 2 2)
  | 0x0401 =>
    ((List.range (f 9 1)).all fun i => t.selRef (f (0x10 + 2 * i) 2)) && (f 0 1 != 0 || t.has 0x0402 0)
  | 0x0402 =>
    let kindIs (o k : Nat) := f o 1 == 255 || (t.has 0x0400 (f o 1) && t.srcB (f o 1) 0 1 == k)
    kindIs 0x0C 1 && kindIs 0x0D 8 && kindIs 0x0E 8 && kindIs 0x0F 3
  | 0x0403 => t.has 0x0401 (f 0 1) && (t.exportsOf (f 4 4)).length == 1 && (t.wordDrivers (f 4 4)).isEmpty
  | 0x0410 => t.vsProd.isSome
  | 0x0411 =>
    t.has 0x0400 r.inst && (if f 0 1 = 0 then [5, 6] else [7, 9]).contains (t.srcB r.inst 0 1)
  | 0x0412 =>
    (f 4 1 == 0 || (t.sources.any fun i => t.srcB i 0 1 == 9)) && (f 0 2 == 0 || t.cfg 0x0F00 0 0x0C 4 != 0)
  | 0x0420 =>
    t.has 0x0421 0 && t.selRef (f 0x14 2) && t.selRefN (f 0x16 2) && t.selRefN (f 0x18 2) && t.selRefN (f 0x1A 2) &&
      (f 0x16 2 == 0xFFFF || (t.srcB (bits (f 0x16 2) 8 6) 0 1 == 3 && f 0x16 1 == 1)) &&
      (bit (f 0x3C 4) 31 || !t.driven (f 0x3C 4))
  | 0x0421 =>
    t.has 0x0420 0 && t.selRef (f 0 2) && t.selRefN (f 2 2) && t.selRefN (f 4 2) && t.selRefN (f 6 2) &&
      !t.driven (f 0x1C 4)
  | 0x0500 => t.has 0x0502 r.inst
  | 0x0501 =>
    let k := 2 * r.inst
    (f 0 1 % 2 == 0 || t.has 0x0500 k) && (f 0 1 / 2 == 0 || t.has 0x0500 (k + 1))
  | 0x0502 | 0x0503 => t.has 0x0500 r.inst
  | 0x0504 => f 0 1 == 255 || t.has 0x0500 (f 0 1)
  | 0x0601 =>
    t.has 0x0600 (f 0 1) && t.has 0x0500 (f 1 1) && t.bindFits (f 0 1) (f 1 1) &&
      !(bit (f 3 1) 1 && (List.range 16).any fun b =>
        b != r.inst && t.has 0x0601 b && t.cfg 0x0601 b 1 1 == f 1 1 && bit (t.cfg 0x0601 b 3 1) 1)
  | 0x0901 =>
    let c := r.inst / 256
    t.has 0x0900 c && !bit (f 0x0A 1) c &&
      ((List.range 6).all fun b => !bit (f 0x0A 1) b || t.has 0x0900 b) &&
      !(decide (8 < f 8 1) && f 0x0A 1 % 4 != 0) &&
      !(decide (c < 2) && decide (240 ≤ r.inst % 256) && t.has 0x0903 c && bit (t.cfg 0x0903 c 9 1) 0)
  | 0x0902 =>
    let w := f 0x0C 4
    let n := (f 4 1 + 3) / 4
    t.has 0x0900 (r.inst / 32) && decide (w + n ≤ 65536) &&
      (!bit (f 5 1) 0 || (List.range n).all fun k => t.limpDriven (w + k))
  | 0x0E02 => decide (f 0 4 ≤ 65535) && (!bit (f 5 1) 1 || t.limpDriven (f 0 4))
  | 0x0F02 =>
    !((List.range 16).any fun i => i != r.inst && t.has 0x0F02 i && t.cfg 0x0F02 i 0 2 == f 0 2)
  | _ => true

/-- R278: engine load, in 1/512 engine-µs, and jobs in flight of the products. -/
def State.plotterFits (t : State) : Bool :=
  let cost (p : Nat) : Nat :=
    let k := t.prodB p 1 1
    (if t.prodB p 0 1 = 0 then 32 + 2 * 2 ^ k else 4 + t.prodB p 9 1) * 2 ^ (7 - k)
  let jobs (d k : Nat) : Nat := ceilDiv d (2 ^ k) + 1
  decide ((t.products.map cost).sum ≤ 400 * 512) &&
    decide ((t.products.map fun p => jobs (t.prodB p 3 1) (t.prodB p 1 1)).sum ≤ 192)

/-- R325: the track and yield stages; engine load in 1/12,800 engine-µs. -/
def State.stagesFit (t : State) : Bool :=
  let tr := fun o n => t.cfg 0x0410 0 o n
  let y := fun o n => t.cfg 0x0420 0 o n
  let hasT := t.has 0x0410 0
  let hasY := t.has 0x0420 0
  let load := (if hasT then (2024 + 5 * tr 8 2) * 2 ^ (7 - tr 0 1) else 0) +
    (if hasY then (200 + 25 * y 3 1) * 2 ^ (7 - y 0 1) else 0)
  let jobs := (if hasT then ceilDiv (tr 2 1) (2 ^ tr 0 1) + 1 else 0) +
    (if hasY then ceilDiv (y 2 1) (2 ^ y 0 1) + 1 else 0) + 2
  decide (load ≤ 200 * 12800) && decide (jobs ≤ 64)

/-- Frames per second of a port. -/
def State.fps (t : State) (n : Nat) : Rat := 10000 / (t.sxB n 8 2 : Rat)

/-- Pixels per second of a coding stream. -/
def State.codeRate (t : State) (i : Nat) : Rat :=
  (t.codecB i 2 2 * t.codecB i 4 2 : Nat) * t.fps (t.codecB i 0 1) / (t.codecB i 1 1 : Rat)

/-- The coding streams that are on. -/
def State.streams (t : State) : List Nat := (List.range 4).filter fun i => t.has 0x0504 i && t.codecB i 0 1 != 255

/-- R339, R353. -/
def State.sextantFits (t : State) : Bool :=
  ((List.range 4).all fun k =>
    let ports := t.pipePorts k
    let extra := if ports.length = 2 then 256 else 0
    decide ((ports.map fun n =>
      t.fps n * ((t.sxB n 6 2 * (t.sxB n 4 2 + 16) + extra * t.sxB n 6 2 / 16 : Nat) : Rat)).sum ≤ 600000000) &&
      decide ((t.streams.filter fun i => t.codecB i 0 1 / 2 == k).length ≤ 2)) &&
    decide ((t.streams.map t.codeRate).sum ≤ 1040000000)

/-- R361: a port's Sextant traffic, bytes per second. -/
def State.portTraffic (t : State) (n : Nat) : Rat :=
  let p := fun o w => t.pipeB (n / 2) o w
  let full := t.sxB n 4 2 * t.sxB n 6 2
  let mv := p 8 1
  let mvBytes := [0, 3, 6, 1, 2].getD mv 0
  t.fps n * ((4 * full + (if t.sxB n 0x21 1 = 0 then 0 else 4 * full) +
    (if bit (p 2 1) (n % 2) then 2 * p 4 2 * p 6 2 else 0) +
    mvBytes * (p 0x0E 2 / 2 ^ (p 9 1 % 4)) * (p 0x10 2 / 2 ^ (p 9 1 % 4)) : Nat) : Rat) +
    6 * ((t.streams.filter fun i => t.codecB i 0 1 == n).map t.codeRate).sum

/-- R361. -/
def State.lookoutFits (t : State) : Bool :=
  let binds := (List.range 16).filter fun b => t.has 0x0601 b
  let per (b o : Nat) : Rat :=
    (t.cfg 0x0600 (t.cfg 0x0601 b 0 1) o 4 : Rat) * t.fps (t.cfg 0x0601 b 1 1) / (t.cfg 0x0601 b 2 1 : Rat)
  let nets := (List.range 8).filter fun n => t.has 0x0600 n
  decide ((binds.map fun b => per b 0x10).sum ≤ 640000000) &&
    decide ((((List.range 8).filter fun n => t.has 0x0500 n).map t.portTraffic).sum + (binds.map fun b => per b 0x14).sum ≤ 24000000000) &&
    decide ((nets.map fun n => t.cfg 0x0600 n 0x1C 4 + t.cfg 0x0600 n 0x20 4).sum ≤ 536870912)

/-- R490: no segment is named twice among the fields of a page. -/
def State.pagesOk (t : State) : Bool :=
  [0, 1].all fun page =>
    let fs := (List.range 4).filter fun i => t.has 0x0E02 i && bit (t.cfg 0x0E02 i 5 1) page
    decide ((fs.flatMap fun i => ((List.range 28).map fun k => t.cfg 0x0E02 i (0x0C + k) 1).filter (· != 255)).Nodup)

/-- The records that must appear (R490, R511). -/
def State.required (t : State) : Bool :=
  t.has 0x0F00 0 && t.has 0x0E00 0 && t.has 0x0E01 0 && t.has 0x0E01 1

/-- Check 14, with the window check of R194. -/
def State.check14 (t : State) (rs : List ARec) : Option CheckFault :=
  match (List.range 8).findSome? fun g => windowFail [4, 4, 4, 4] (t.ttRecord g) with
  | some c => some (0x50, recAt rs 0x0300 c, 0x0300)
  | none =>
    match rs.find? fun r => r.known && !t.refOk r with
    | some r => some (0x50, r.idx, r.type)
    | none =>
      if t.required && t.plotterFits && t.stagesFit && t.sextantFits && t.lookoutFits && t.pagesOk then none
      else some (0x50, 0xFFFF, 0)

/-- R77: the checks of an image that has passed 1 to 8, in order. `base` holds no record. -/
def State.recordFault (base : State) (rs : List ARec) (fw : List Nat) : Option CheckFault :=
  let t := (base.withRecs rs).applyRing
  (t.check9 rs).or ((t.check10).or ((t.check11 rs).or ((t.check12 rs fw).or ((t.check13).or (t.check14 rs)))))

end Sys2Proof.Machine
end

