-- ==== Sys2Proof/Machine/Power.lean ====
section
/-! DEFINITION. Supply, ignition, relays, temperature and the sensor and camera supplies (Connectors, Supply and the
Ring Bypass), and the failures that enter RESET. -/

namespace Sys2Proof.Machine

/-! ### UB (Table 1.10) -/

/-- The rows of Table 1.10 by UB in mV: 0 below 6.5 V, 1 below 8.0, 2 below 9.0, 3 in range, 4 to 48.0, 5 to 58.0,
6 to 60.0, 7 above. -/
def ubBand (ub : Int) : Nat :=
  if ub < 6500 then 0 else if ub < 8000 then 1 else if ub < 9000 then 2 else if ub ≤ 36000 then 3
  else if ub ≤ 48000 then 4 else if ub ≤ 58000 then 5 else if ub ≤ 60000 then 6 else 7

/-- R25, R29: the camera supplies are shed. -/
def State.shed (s : State) : State :=
  let s := { s with pwr := { s.pwr with camWait := 0 } }
  (s.put R.PWR_CAM_SHED 1).put R.PWR_STATUS_UB_SHED 1

/-- Table 1.10: what entering a row raises and sets. -/
def State.enterBand (s : State) (b : Nat) : State :=
  if b = 0 then
    ((s.put R.PWR_STATUS_UB_WARN 1).put R.PWR_STATUS_UB_RIDE 1).shed.raise 120 [2]
  else if b = 1 then (s.put R.PWR_STATUS_UB_WARN 1).shed.raise 120 [1]
  else if b = 2 then (s.put R.PWR_STATUS_UB_WARN 1).raise 120 [0]
  else if b = 3 then s
  else (s.put R.PWR_STATUS_UB_OV 1).raise 121 [0]

/-- UB_APPLY (R28, R56): the PWR registers take their reset values, the relay counts come from MRAM, and the module
holds itself in RESET. A UB below 0 V does not operate the module (Table 1.10). DESIGN CHOICE (log entry `UB applied below 6.5 V`):
a UB from 0 V up powers the PWR domain and its row of Table 1.10 acts. -/
def execUbApply (ub : Int) (s : State) : Out :=
  if s.pwr.powered then .next s
  else if ub > 60000 ∨ ub < -36000 then .fault .outsideRating
  else
    if ub < 0 then .next { s with pwr.ub := ub } else
    let t : State :=
      { pending := s.pending, freeCtr := s.freeCtr, nor := s.nor, mrd := { stations := s.mrd.stations }
        pwr := { powered := true, ub := ub, uv := s.pwr.uv, ssel := s.pwr.ssel,
                 kw := { cut := s.pwr.kw.cut }, ke := s.pwr.ke, keClosing := s.pwr.keClosing }
        log := { s.log with up := false, urgent := [], queue := [], lostSince := 0 } }
    .next (t.enterBand (ubBand ub))

/-- UB_LEVEL_CHANGE (R25, Table 1.10): PWR_SUPPLY shows the new level, in RESET too (R56), and its row acts when it differs
from the old one's. -/
def execUbLevelChange (ub : Int) (s : State) : Out :=
  if ub > 60000 ∨ ub < -36000 then .fault .outsideRating
  else
    let t := { s with pwr := { s.pwr with ub := ub } }
    if !s.pwr.powered then .next t
    else
      let t := t.put R.PWR_SUPPLY_UB_MV ub.toNat
      .next (if ubBand ub != ubBand s.pwr.ub then t.enterBand (ubBand ub) else t)

/-- CAMERA_SHED_OVERVOLTAGE (R25): 60 s between 36.0 and 48.0 V. -/
def execCameraShedOvervoltage (s : State) : Out :=
  if s.pwr.powered && ubBand s.pwr.ub = 4 then .next (s.shed.raise 121 [1]) else .next s

/-- The parameters of a POWER_FAIL record (Table 12.8). -/
def State.pfParams (s : State) : List Nat :=
  [ofInt 32 s.pwr.ub, s.mode, s.log.queue.length, s.get R.PWR_TEMP_TJ]

/-- OVERVOLTAGE_SHUTDOWN (R26): the actions of R52 and RESET with cause 0x06. -/
def execOvervoltageShutdown (s : State) : Out :=
  if s.pwr.powered && decide (5 ≤ ubBand s.pwr.ub) then
    let s := s.raise 121 [2]
    .next ((s.urgentRec 0x0101 s.pfParams).enterReset 0x06)
  else .next s

/-- POWER_FAILURE (R52, R447): UB below 6.5 V for 2.0 ms. -/
def execPowerFailure (s : State) : Out :=
  if s.pwr.powered && !s.pwr.holdUp && ubBand s.pwr.ub = 0 then
    .next ((s.urgentRec 0x0101 s.pfParams).enterReset 0x00)
  else .next s

/-- HOLD_UP_END (R52, R56, R522): the module becomes unpowered: the PWR domain loses its contents and the held events
are discarded; KE follows KW by its capacitor (KE_CLOSE). With UB back in time the module stays powered and RESET
goes on. -/
def execHoldUpEnd (s : State) : Out :=
  if !s.pwr.holdUp then .next s
  else if s.pwr.ub ≥ 6500 then
    let t := s.logDrain
    .next { t with pwr := { t.pwr with holdUp := false }, log := { t.log with up := false } }
  else
    .next
      { pending := s.pending, freeCtr := s.freeCtr, nor := s.nor, mrd := { stations := s.mrd.stations }
        pwr := { powered := false, ub := s.pwr.ub, uv := s.pwr.uv, ssel := s.pwr.ssel,
                 kw := { cut := s.pwr.kw.cut }, ke := s.pwr.ke, keClosing := s.pwr.keClosing }
        log := { s.log with up := false, urgent := [], queue := [], lostSince := 0 } }

/-- CLOCK_FAILURE (R121, Table 3.9): the actions of R52 with a CLOCK_FAIL record; the third within 60 s holds RESET. -/
def execClockFailure (s : State) : Out :=
  let fails := recent s.pwr.clock s.pwr.clkFails
  let s := { s with pwr := { s.pwr with clkFails := fails, stuck := s.pwr.stuck || decide (3 ≤ fails.length) } }
  let s := s.raise 1 [0]
  .next ((s.urgentRec 0x0102 [0, fails.length, s.log.queue.length, 0]).enterReset 0x07)

/-! ### Cameras -/

/-- The ports that wait for power under R29: enabled, not latched off. -/
def State.camDue (s : State) : Nat := clearBits (s.get R.PWR_CAM_EN) (s.get R.PWR_CAM_FLT)

/-- The lowest port whose bit is set. -/
def firstBit (m : Nat) : Option Nat := (List.range 8).find? fun i => bit m i

/-- CAMERA_SUPPLY_RETURN (R29): with UB in range the first return ends the shedding, and each return powers the next
port in ascending order that is still enabled and not latched off. -/
def execCameraSupplyReturn (s : State) : Out :=
  if s.pwr.powered && decide (8500 ≤ s.pwr.ub) && decide (s.pwr.ub ≤ 36000) then
    let wait := if s.flag R.PWR_CAM_SHED then s.camDue else s.pwr.camWait &&& s.camDue
    let rest := match firstBit wait with
      | some i => setBit wait i false
      | none => 0
    .next ({ s with pwr := { s.pwr with camWait := rest } }.put R.PWR_CAM_SHED 0)
  else .next s

/-- CAMERA_SUPPLY_TRIP (R43): the port switches off; EV124 with the port. -/
def execCameraSupplyTrip (port : Fin 8) (s : State) : Out :=
  if bit s.camOn port then
    .next ({ s with pwr := { s.pwr with camTrip := setBit s.pwr.camTrip port true } }.raise 124 [port])
  else .next s

/-- CAMERA_SUPPLY_RETRY (R43): one retry; a second failure latches the port off. -/
def execCameraSupplyRetry (port : Fin 8) (fails : Bool) (s : State) : Out :=
  if bit s.pwr.camTrip port then
    let s := { s with pwr := { s.pwr with camTrip := setBit s.pwr.camTrip port false } }
    .next (if fails then (s.orBits R.PWR_CAM_FLT (2 ^ port.val)).raise 124 [port] else s)
  else .next s

/-- CAM_FAULT_CLEAR (R43): W1C of PWR_CAM.FLT; a cleared port returns if its EN bit is 1. -/
def State.camFaultClear (s : State) (m : Nat) : State := s.clrBits R.PWR_CAM_FLT m

def execCamFaultClear (mask : BitVec 8) (s : State) : Out := .next (s.camFaultClear mask.toNat)

/-! ### Sensor supplies -/

/-- SENSOR_SUPPLY_TRIP (R42): the supply switches off; EV125 with the supply. -/
def execSensorSupplyTrip (sup : Fin 8) (s : State) : Out :=
  if bit s.sensOn sup then
    .next ({ s with pwr := { s.pwr with sensTrip := setBit s.pwr.sensTrip sup true } }.raise 125 [sup])
  else .next s

/-- SENSOR_SUPPLY_RETRY (R42): one retry; a second failure latches the supply off. -/
def execSensorSupplyRetry (sup : Fin 8) (fails : Bool) (s : State) : Out :=
  if bit s.pwr.sensTrip sup then
    let s := { s with pwr := { s.pwr with sensTrip := setBit s.pwr.sensTrip sup false } }
    .next (if fails then (s.orBits R.PWR_SENS_FLT (2 ^ sup.val)).raise 125 [sup] else s)
  else .next s

/-- SENS_FAULT_CLEAR (R42): W1C of PWR_SENS.FLT. -/
def State.sensFaultClear (s : State) (m : Nat) : State := s.clrBits R.PWR_SENS_FLT m

def execSensFaultClear (mask : BitVec 8) (s : State) : Out := .next (s.sensFaultClear mask.toNat)

/-! ### Ignition and MOD_OK -/

/-- IGN_CHANGE (R30, R64): the level with its hysteresis; going high cancels a request whose power-down has not begun,
and a low pulse shorter than 2.0 s is recorded. -/
def execIgnChange (mv lowMs : Nat) (s : State) : Out :=
  let high := if mv ≥ 6000 then true else if mv ≤ 3000 then false else s.flag R.PWR_STATUS_IGN
  if high = s.flag R.PWR_STATUS_IGN then .next s
  else
    let s := s.put R.PWR_STATUS_IGN (b2n high)
    if high then
      let s := if lowMs < 2000 then s.sysRec 0x0105 [lowMs, s.mode] else s
      .next (if s.flag R.PWR_STATUS_SHUTREQ && !s.pwr.pdBegun then s.put R.PWR_STATUS_SHUTREQ 0 else s)
    else .next s

/-- MOD_OK_TOGGLE (R32): in LIMP the output toggles. -/
def execModOkToggle (s : State) : Out :=
  if s.mode = mLIMP then .next { s with pwr := { s.pwr with modOkPhase := !s.pwr.modOkPhase } } else .next s

/-- XRST_ASSERT (R31): RESET with cause 0x01. -/
def execXrstAssert (s : State) : Out := .next (if s.pwr.powered then s.enterReset 0x01 else s)

/-! ### Relays -/

/-- KE_CLOSE (R46, R47, R52): KE follows KW to bypass. -/
def execKeClose (s : State) : Out :=
  if s.pwr.keClosing then .next ({ s with pwr := { s.pwr with keClosing := false } }.coilTo 1 false) else .next s

/-- The relay's operation count in MRAM (R54). -/
def State.relayOps (s : State) (r : Fin 2) : Nat := if r = 0 then s.log.relayKw else s.log.relayKe

/-- R54: one more operation; EV126 when the count reaches 900,000. -/
def State.countOp (s : State) (r : Fin 2) : State :=
  let n := s.relayOps r + 1
  let s := if r = 0 then { s with log := { s.log with relayKw := n } } else { s with log := { s.log with relayKe := n } }
  if n = 900000 then s.raise 126 [1, r, n] else s

/-- RELAY_CHECK (R53, R54): the auxiliary contact 10 ms after a coil change, and how long the contact took. -/
def execRelayCheck (relay : Fin 2) (aux : Bool) (t10us : Nat) (s : State) : Out :=
  let s1 :=
    if b2n aux = s.get (relayPos relay) then s
    else ((s.put (relayPos relay) (b2n aux)).put (relayTime relay) (min t10us 65535)).countOp relay
  let x := s1.relay relay
  if aux = x.coil then .next s1
  else
    let x' := { x with
      failOpen := x.failOpen || x.coil
      failClose := x.failClose && s.flag (relayFlt relay) || !x.coil }
    .next (((s1.setRelay relay x').put (relayFlt relay) 1).raise 126 [0, relay, b2n x.coil])

/-- Table 4.21: MRD_STATUS.INSERT for the relays' positions: both open, KW alone (CW inserted, or listening when it opens), and
bypassed. KE alone has no code of its own (log entry `KE alone`). A bypassed module launches no passes. -/
def State.insertNow (s : State) : State :=
  let ins := s.get R.MRD_STATUS_INSERT
  if ins = 1 ∨ ins = 5 then s
  else if s.pwr.kw.coil then s.put R.MRD_STATUS_INSERT (if s.pwr.ke.coil then 4 else if 3 ≤ ins then 3 else 2)
  else s.puts [(R.MRD_STATUS_INSERT, 0), (R.MRD_STATUS_LAUNCH, 0)]

/-- RELAY_CUT_END (R47, Table 4.21): the cut window ends, and INSERT follows the relays; the time is kept for R48. -/
def execRelayCutEnd (relay : Fin 2) (s : State) : Out :=
  .next ((s.put (relayBusy relay) 0).setRelay relay { s.relay relay with cut := false, cutEnd := some s.pwrNow }).insertNow

/-- R48: in SERVICE the other relay's command is held back: its cut window runs, or has ended less than 3 ms ago. -/
def State.relayHolds (s : State) (r : Fin 2) : Bool := s.cutNear (otherRelay r) 300000

/-- R48: one relay's command in SERVICE, held until the other's cut window has ended plus 3 ms. -/
def State.commandRelay (s : State) (r : Fin 2) (pos : Bool) : State :=
  if b2n pos = s.get (relayCmd r) then s
  else if s.relayHolds r then
    ((s.setRelay r { s.relay r with held := some pos }).put (relayCmd r) (b2n pos)).put R.PWR_RELAY_HELD 1
  else s.coilTo r pos

/-- RELAY_COMMAND (R48, R521, Table 1.21): a write of KW_CMD and KE_CMD; outside SERVICE a changed command is ignored
and sets IGNORED. -/
def State.relayCommand (s : State) (kw ke : Bool) : State :=
  if s.mode = mSERVICE then (s.commandRelay 0 kw).commandRelay 1 ke
  else if b2n kw = s.get R.PWR_RELAY_KW_CMD ∧ b2n ke = s.get R.PWR_RELAY_KE_CMD then s
  else s.put R.PWR_RELAY_IGNORED 1

def execRelayCommand (kw ke : Bool) (s : State) : Out := .next (s.relayCommand kw ke)

/-- RELAY_HELD_RELEASE (R48): in SERVICE a held command takes effect once the other window has ended plus 3 ms. -/
def execRelayHeldRelease (relay : Fin 2) (s : State) : Out :=
  match (s.relay relay).held with
  | some pos => .next (if s.relayHolds relay || s.mode != mSERVICE then s else s.coilTo relay pos)
  | none => .next s

/-! ### Temperature -/

/-- TEMP_MEASURE (R37, Table 1.12): TJ and TCP in Q11.4; each action begins at its threshold and ends 10 K below. The
action at 118 °C stays in force until then: a module that reaches STANDBY under it enters LIMP too (R59). -/
def execTempMeasure (tj tcp : Int) (s : State) : Out :=
  let s := (s.put R.PWR_TEMP_TJ (ofInt 16 tj)).put R.PWR_TEMP_TCP (ofInt 16 tcp)
  let p := s.pwr
  let s := { s with pwr := { p with
    tWarn := decide (tj ≥ 1760) || p.tWarn && decide (tj > 1600)
    tLimp := decide (tj ≥ 1888) || p.tLimp && decide (tj > 1728)
    tTrip := decide (tj ≥ 2000) || p.tTrip && decide (tj > 1840) } }
  let s := if tj ≥ 1760 ∧ p.tWarn = false then (s.put R.PWR_STATUS_T_WARN 1).raise 123 [0] else s
  let s := if tj ≥ 1888 ∧ p.tLimp = false then (s.put R.PWR_STATUS_T_LIMP 1).raise 123 [1] else s
  let s := if s.pwr.tLimp ∧ !s.alm.modeReq.contains (mLIMP, 0x32) then s.reqLimp 0x32 else s
  .next (if tj ≥ 2000 ∧ p.tTrip = false then ((s.put R.PWR_STATUS_T_TRIP 1).raise 123 [2]).enterReset 0x03 else s)

/-! ### Standstill -/

/-- MODES.STILL_TIME and the condition of R524: the count of ticks has reached it. DESIGN CHOICE (log entry `STILL_TIME 0`):
a STILL_TIME of 0 counts as one tick. -/
def State.standstill (s : State) : Bool :=
  s.has 0x0C01 0 && decide (max 1 (s.cfg 0x0C01 0 4 4) ≤ s.alm.stillCount)

/-- The module waits for standstill under a shutdown request (Table 2.4). -/
def State.waitsStill (s : State) : Bool :=
  s.flag R.PWR_STATUS_SHUTREQ && s.inMode [mROAD, mFIELD, mLIMP] && !s.pwr.pdBegun

/-- STANDSTILL_REACHED (R64, R524): ROAD and FIELD enter STANDBY with cause 0x23; LIMP powers down,
unless the lock of R463 refuses it. -/
def execStandstillReached (s : State) : Out :=
  if s.waitsStill && s.standstill then
    if s.mode = mLIMP then .next (if s.upd.lock then s else { s with pwr := { s.pwr with pdBegun := true } })
    else .next (s.reqMode mSTANDBY 0x23)
  else .next s

/-- STANDSTILL_WAIT_REPORT (R524): EV115 with parameter 3. -/
def execStandstillWaitReport (s : State) : Out :=
  if s.waitsStill && !s.standstill then .next (s.raise 115 [3]) else .next s

end Sys2Proof.Machine
end

