-- ==== Sys2Proof/Machine/RegMap.lean ====
section
/-! DEFINITION. The register map as data (R12, R14, Table 16.6): for each register its place, its instances and the
access type and change class of each field. What no entry covers is a reserved field or no register. -/

namespace Sys2Proof.Machine

/-- Access types (R12, Table 0.7). -/
inductive Acc where | rw | ro | w1c | w1s | wo | rs
deriving DecidableEq, Repr

/-- Change classes (R14, R81); `none` for a field that no write reaches. -/
inductive Cls where | none | live | tick | commit | halt
deriving DecidableEq, Repr

/-- One field of a register: lowest bit, width, access type, change class. -/
structure FDesc where
  lo : Nat
  w : Nat
  acc : Acc
  cls : Cls
deriving DecidableEq, Repr

/-- A register and its instances: byte address of the first, (count, stride) of each index, outermost first, the
fields, and the commit region of its COMMIT fields as (first region, step per outermost index) (Table 2.14). -/
structure RDesc where
  addr : Nat
  dims : List (Nat × Nat)
  fields : List FDesc
  region : Nat × Nat := (0, 0)
deriving DecidableEq, Repr

/-- The PWR registers. -/
def regsPWR : List RDesc := [
  ⟨0xF001000000, [], [⟨16, 16, .ro, .none⟩, ⟨0, 16, .ro, .none⟩], (0, 0)⟩,
  ⟨0xF001000004, [], [⟨9, 1, .ro, .none⟩, ⟨8, 1, .ro, .none⟩, ⟨7, 1, .w1c, .live⟩, ⟨6, 1, .w1c, .live⟩, ⟨5, 1, .w1c, .live⟩, ⟨4, 1, .w1c, .live⟩, ⟨3, 1, .w1c, .live⟩, ⟨2, 1, .w1c, .live⟩, ⟨1, 1, .w1c, .live⟩, ⟨0, 1, .w1c, .live⟩], (0, 0)⟩,
  ⟨0xF001000008, [], [⟨16, 16, .ro, .none⟩, ⟨0, 16, .ro, .none⟩], (0, 0)⟩,
  ⟨0xF00100000C, [], [⟨16, 1, .ro, .none⟩, ⟨8, 8, .w1c, .live⟩, ⟨0, 8, .rw, .tick⟩], (0, 0)⟩,
  ⟨0xF001000010, [], [⟨16, 8, .w1c, .live⟩, ⟨0, 8, .rw, .tick⟩], (0, 0)⟩,
  ⟨0xF001000014, [], [⟨9, 1, .w1c, .live⟩, ⟨8, 1, .w1c, .live⟩, ⟨7, 1, .w1c, .live⟩, ⟨6, 1, .w1c, .live⟩, ⟨5, 1, .ro, .none⟩, ⟨4, 1, .ro, .none⟩, ⟨3, 1, .ro, .none⟩, ⟨2, 1, .ro, .none⟩, ⟨1, 1, .rw, .live⟩, ⟨0, 1, .rw, .live⟩], (0, 0)⟩,
  ⟨0xF001000018, [], [⟨16, 16, .ro, .none⟩, ⟨0, 16, .ro, .none⟩], (0, 0)⟩,
  ⟨0xF00100001C, [], [⟨0, 32, .ro, .none⟩], (0, 0)⟩,
  ⟨0xF001000020, [], [⟨0, 32, .ro, .none⟩], (0, 0)⟩]

/-- The ALM registers. -/
def regsALM : List RDesc := [
  ⟨0xF000C00000, [], [⟨24, 8, .ro, .none⟩, ⟨16, 3, .ro, .none⟩, ⟨8, 1, .ro, .none⟩, ⟨4, 1, .ro, .none⟩, ⟨3, 1, .ro, .none⟩, ⟨0, 3, .ro, .none⟩], (0, 0)⟩,
  ⟨0xF000C00004, [], [⟨24, 8, .ro, .none⟩, ⟨16, 8, .ro, .none⟩, ⟨1, 1, .ro, .none⟩, ⟨0, 1, .ro, .none⟩], (0, 0)⟩,
  ⟨0xF000C00008, [], [⟨16, 16, .ro, .none⟩, ⟨0, 16, .ro, .none⟩], (0, 0)⟩,
  ⟨0xF000C0000C, [], [⟨16, 16, .ro, .none⟩, ⟨0, 16, .ro, .none⟩], (0, 0)⟩,
  ⟨0xF000C00010, [], [⟨31, 1, .wo, .live⟩, ⟨16, 3, .ro, .none⟩, ⟨0, 8, .rw, .live⟩], (0, 0)⟩,
  ⟨0xF000C00014, [], [⟨24, 8, .ro, .none⟩, ⟨16, 8, .ro, .none⟩, ⟨1, 1, .w1c, .live⟩, ⟨0, 1, .w1c, .live⟩], (0, 0)⟩,
  ⟨0xF000C00020, [(8, 0x4)], [⟨0, 32, .ro, .none⟩], (0, 0)⟩]

/-- The CHR registers. -/
def regsCHR : List RDesc := [
  ⟨0xF000100000, [], [⟨0, 32, .rs, .none⟩], (0, 0)⟩,
  ⟨0xF000100004, [], [⟨0, 32, .ro, .none⟩], (0, 0)⟩,
  ⟨0xF000100008, [], [⟨0, 32, .rs, .none⟩], (0, 0)⟩,
  ⟨0xF00010000C, [], [⟨0, 16, .ro, .none⟩], (0, 0)⟩,
  ⟨0xF000100010, [], [⟨0, 14, .ro, .none⟩], (0, 0)⟩,
  ⟨0xF000100014, [], [⟨24, 8, .ro, .none⟩, ⟨11, 1, .ro, .none⟩, ⟨10, 1, .w1c, .live⟩, ⟨9, 1, .ro, .none⟩, ⟨8, 1, .ro, .none⟩, ⟨4, 3, .ro, .none⟩, ⟨0, 2, .ro, .none⟩], (0, 0)⟩,
  ⟨0xF000100018, [], [⟨0, 32, .ro, .none⟩], (0, 0)⟩,
  ⟨0xF00010001C, [], [⟨0, 32, .ro, .none⟩], (0, 0)⟩,
  ⟨0xF000100020, [], [⟨24, 8, .rw, .commit⟩, ⟨16, 1, .rw, .commit⟩, ⟨0, 16, .rw, .commit⟩], (96, 0)⟩,
  ⟨0xF000100024, [], [⟨16, 16, .rw, .commit⟩, ⟨0, 16, .rw, .commit⟩], (96, 0)⟩,
  ⟨0xF000100028, [], [⟨24, 8, .rw, .commit⟩, ⟨17, 1, .rw, .commit⟩, ⟨16, 1, .rw, .commit⟩, ⟨0, 12, .rw, .commit⟩], (96, 0)⟩,
  ⟨0xF00010002C, [], [⟨0, 32, .rw, .live⟩], (0, 0)⟩,
  ⟨0xF000100030, [], [⟨31, 1, .wo, .live⟩, ⟨24, 3, .ro, .none⟩, ⟨16, 2, .rw, .live⟩, ⟨0, 16, .rw, .live⟩], (0, 0)⟩,
  ⟨0xF000100034, [], [⟨4, 4, .w1c, .live⟩, ⟨0, 4, .ro, .none⟩], (0, 0)⟩,
  ⟨0xF000100038, [], [⟨8, 1, .w1c, .live⟩, ⟨3, 1, .ro, .none⟩, ⟨2, 1, .ro, .none⟩, ⟨1, 1, .ro, .none⟩, ⟨0, 1, .ro, .none⟩], (0, 0)⟩,
  ⟨0xF00010003C, [], [⟨16, 16, .ro, .none⟩, ⟨0, 16, .rs, .none⟩], (0, 0)⟩]

/-- The MRD registers. -/
def regsMRD : List RDesc := [
  ⟨0xF000200000, [], [⟨16, 8, .ro, .none⟩, ⟨8, 4, .ro, .none⟩, ⟨6, 1, .ro, .none⟩, ⟨5, 1, .ro, .none⟩, ⟨4, 1, .ro, .none⟩, ⟨3, 1, .ro, .none⟩, ⟨2, 1, .ro, .none⟩, ⟨1, 1, .ro, .none⟩, ⟨0, 1, .ro, .none⟩], (0, 0)⟩,
  ⟨0xF000200004, [], [⟨16, 16, .ro, .none⟩, ⟨0, 16, .ro, .none⟩], (0, 0)⟩,
  ⟨0xF000200008, [(2, 0x4)], [⟨0, 32, .ro, .none⟩], (0, 0)⟩,
  ⟨0xF000200010, [(2, 0x4)], [⟨0, 32, .ro, .none⟩], (0, 0)⟩,
  ⟨0xF000200018, [(2, 0x4)], [⟨0, 32, .ro, .none⟩], (0, 0)⟩,
  ⟨0xF000200020, [], [⟨16, 16, .rs, .none⟩, ⟨0, 16, .rs, .none⟩], (0, 0)⟩,
  ⟨0xF000200024, [], [⟨16, 16, .rs, .none⟩, ⟨0, 16, .rs, .none⟩], (0, 0)⟩,
  ⟨0xF000200028, [], [⟨16, 1, .rw, .halt⟩, ⟨0, 11, .rw, .halt⟩], (0, 0)⟩,
  ⟨0xF00020002C, [], [⟨16, 16, .ro, .none⟩, ⟨1, 1, .w1c, .live⟩, ⟨0, 1, .w1c, .live⟩], (0, 0)⟩,
  ⟨0xF000200100, [(64, 0x4)], [⟨16, 8, .rw, .commit⟩, ⟨15, 1, .rw, .commit⟩, ⟨0, 11, .rw, .commit⟩], (16, 0)⟩,
  ⟨0xF000200200, [(64, 0x4)], [⟨16, 8, .rw, .commit⟩, ⟨15, 1, .rw, .commit⟩, ⟨0, 11, .rw, .commit⟩], (17, 0)⟩]

/-- The HLM registers. -/
def regsHLM : List RDesc := [
  ⟨0xF000300000, [], [⟨0, 32, .rw, .live⟩], (0, 0)⟩,
  ⟨0xF000300004, [], [⟨31, 1, .wo, .live⟩, ⟨8, 8, .rw, .live⟩, ⟨0, 4, .rw, .live⟩], (0, 0)⟩,
  ⟨0xF000300008, [], [⟨24, 8, .ro, .none⟩, ⟨16, 8, .ro, .none⟩, ⟨0, 8, .ro, .none⟩], (0, 0)⟩,
  ⟨0xF000310000, [(8, 0x10000)], [⟨16, 8, .ro, .none⟩, ⟨8, 5, .ro, .none⟩, ⟨4, 1, .ro, .none⟩, ⟨3, 1, .ro, .none⟩, ⟨2, 1, .ro, .none⟩, ⟨1, 1, .ro, .none⟩, ⟨0, 1, .ro, .none⟩], (0, 0)⟩,
  ⟨0xF000310004, [(8, 0x10000)], [⟨16, 16, .ro, .none⟩, ⟨8, 8, .ro, .none⟩, ⟨0, 3, .ro, .none⟩], (0, 0)⟩,
  ⟨0xF000310008, [(8, 0x10000)], [⟨31, 1, .w1s, .tick⟩, ⟨0, 16, .w1s, .tick⟩], (0, 0)⟩,
  ⟨0xF000310040, [(8, 0x10000), (16, 0x4)], [⟨0, 32, .ro, .none⟩], (0, 0)⟩,
  ⟨0xF000311080, [(8, 0x10000), (16, 0x100)], [⟨0, 32, .rw, .tick⟩], (0, 0)⟩,
  ⟨0xF000311084, [(8, 0x10000), (16, 0x100)], [⟨16, 8, .ro, .none⟩, ⟨9, 1, .ro, .none⟩, ⟨8, 1, .ro, .none⟩, ⟨4, 2, .ro, .none⟩, ⟨0, 3, .ro, .none⟩], (0, 0)⟩,
  ⟨0xF000311088, [(8, 0x10000), (16, 0x100)], [⟨0, 32, .ro, .none⟩], (0, 0)⟩,
  ⟨0xF00031108C, [(8, 0x10000), (16, 0x100)], [⟨0, 32, .ro, .none⟩], (0, 0)⟩,
  ⟨0xF000311090, [(8, 0x10000), (16, 0x100)], [⟨0, 32, .ro, .none⟩], (0, 0)⟩,
  ⟨0xF000311094, [(8, 0x10000), (16, 0x100)], [⟨0, 32, .ro, .none⟩], (0, 0)⟩,
  ⟨0xF000316020, [(8, 0x10000), (16, 0x40)], [⟨12, 4, .ro, .none⟩, ⟨11, 1, .w1c, .live⟩, ⟨10, 1, .ro, .none⟩, ⟨9, 1, .ro, .none⟩, ⟨8, 1, .ro, .none⟩, ⟨1, 1, .ro, .none⟩, ⟨0, 1, .rw, .tick⟩], (0, 0)⟩,
  ⟨0xF000316024, [(8, 0x10000), (16, 0x40)], [⟨0, 32, .rw, .tick⟩], (0, 0)⟩,
  ⟨0xF000316028, [(8, 0x10000), (16, 0x40)], [⟨31, 1, .ro, .none⟩, ⟨24, 3, .ro, .none⟩, ⟨0, 16, .ro, .none⟩], (0, 0)⟩,
  ⟨0xF00031602C, [(8, 0x10000), (16, 0x40)], [⟨0, 32, .ro, .none⟩], (0, 0)⟩,
  ⟨0xF000316030, [(8, 0x10000), (16, 0x40)], [⟨16, 7, .ro, .none⟩, ⟨8, 3, .ro, .none⟩, ⟨0, 3, .ro, .none⟩], (0, 0)⟩,
  ⟨0xF000316034, [(8, 0x10000), (16, 0x40)], [⟨16, 16, .rs, .none⟩, ⟨0, 8, .ro, .none⟩], (0, 0)⟩,
  ⟨0xF000316400, [(8, 0x10000)], [⟨24, 8, .ro, .none⟩, ⟨8, 16, .ro, .none⟩, ⟨4, 4, .ro, .none⟩, ⟨0, 4, .ro, .none⟩], (0, 0)⟩,
  ⟨0xF000316404, [(8, 0x10000)], [⟨8, 2, .rw, .live⟩, ⟨0, 4, .rw, .live⟩], (0, 0)⟩]

/-- The DIO registers. -/
def regsDIO : List RDesc := [
  ⟨0xF001100000, [(16, 0x10)], [⟨29, 3, .ro, .none⟩, ⟨4, 1, .ro, .none⟩, ⟨3, 1, .ro, .none⟩, ⟨2, 1, .ro, .none⟩, ⟨1, 1, .ro, .none⟩, ⟨0, 1, .w1c, .live⟩], (0, 0)⟩,
  ⟨0xF001100004, [(16, 0x10)], [⟨0, 32, .ro, .none⟩], (0, 0)⟩,
  ⟨0xF001100008, [(16, 0x10)], [⟨0, 32, .ro, .none⟩], (0, 0)⟩,
  ⟨0xF00110000C, [(16, 0x10)], [⟨0, 16, .ro, .none⟩], (0, 0)⟩,
  ⟨0xF001100100, [(24, 0x8)], [⟨0, 32, .ro, .none⟩], (0, 0)⟩,
  ⟨0xF001100104, [(24, 0x8)], [⟨8, 24, .ro, .none⟩, ⟨2, 1, .ro, .none⟩, ⟨1, 1, .w1c, .live⟩, ⟨0, 1, .ro, .none⟩], (0, 0)⟩,
  ⟨0xF001100200, [(16, 0x8)], [⟨0, 32, .ro, .none⟩], (0, 0)⟩,
  ⟨0xF001100204, [(16, 0x8)], [⟨0, 32, .ro, .none⟩], (0, 0)⟩,
  ⟨0xF001100280, [], [⟨0, 16, .ro, .none⟩], (0, 0)⟩,
  ⟨0xF001100284, [], [⟨0, 16, .ro, .none⟩], (0, 0)⟩,
  ⟨0xF001100288, [], [⟨0, 16, .w1c, .live⟩], (0, 0)⟩]

/-- The PLT registers. -/
def regsPLT : List RDesc := [
  ⟨0xF000400000, [], [⟨4, 4, .ro, .none⟩, ⟨1, 1, .ro, .none⟩, ⟨0, 1, .ro, .none⟩], (0, 0)⟩,
  ⟨0xF000400004, [], [⟨0, 1, .rw, .live⟩], (0, 0)⟩,
  ⟨0xF000400008, [], [⟨16, 10, .rs, .none⟩, ⟨0, 10, .ro, .none⟩], (0, 0)⟩,
  ⟨0xF00040000C, [], [⟨0, 32, .rs, .none⟩], (0, 0)⟩,
  ⟨0xF000400010, [], [⟨0, 32, .rs, .none⟩], (0, 0)⟩,
  ⟨0xF000400014, [], [⟨0, 32, .rs, .none⟩], (0, 0)⟩,
  ⟨0xF000400018, [], [⟨0, 32, .rs, .none⟩], (0, 0)⟩,
  ⟨0xF00040001C, [], [⟨16, 16, .rs, .none⟩, ⟨0, 16, .rs, .none⟩], (0, 0)⟩,
  ⟨0xF000400040, [], [⟨0, 32, .rw, .commit⟩], (32, 0)⟩,
  ⟨0xF000400044, [], [⟨0, 32, .rw, .commit⟩], (32, 0)⟩,
  ⟨0xF000400048, [], [⟨0, 32, .rw, .commit⟩], (32, 0)⟩,
  ⟨0xF00040004C, [], [⟨0, 32, .rw, .commit⟩], (32, 0)⟩,
  ⟨0xF000400050, [], [⟨0, 1, .rw, .commit⟩], (32, 0)⟩,
  ⟨0xF000400100, [(64, 0x10)], [⟨8, 8, .ro, .none⟩, ⟨4, 3, .ro, .none⟩, ⟨0, 2, .ro, .none⟩], (0, 0)⟩,
  ⟨0xF000400104, [(64, 0x10)], [⟨0, 32, .ro, .none⟩], (0, 0)⟩,
  ⟨0xF000400108, [(64, 0x10)], [⟨0, 32, .ro, .none⟩], (0, 0)⟩,
  ⟨0xF00040010C, [(64, 0x10)], [⟨16, 16, .rs, .none⟩, ⟨0, 16, .rs, .none⟩], (0, 0)⟩,
  ⟨0xF000400500, [(16, 0x10)], [⟨0, 32, .ro, .none⟩], (0, 0)⟩,
  ⟨0xF000400504, [(16, 0x10)], [⟨0, 32, .ro, .none⟩], (0, 0)⟩,
  ⟨0xF000400508, [(16, 0x10)], [⟨0, 8, .ro, .none⟩], (0, 0)⟩,
  ⟨0xF00040050C, [(16, 0x10)], [⟨16, 16, .ro, .none⟩, ⟨0, 8, .ro, .none⟩], (0, 0)⟩,
  ⟨0xF000408000, [], [⟨16, 16, .ro, .none⟩, ⟨0, 9, .ro, .none⟩], (0, 0)⟩,
  ⟨0xF000408004, [], [⟨16, 16, .rs, .none⟩, ⟨0, 16, .rs, .none⟩], (0, 0)⟩,
  ⟨0xF000408008, [], [⟨0, 32, .ro, .none⟩], (0, 0)⟩,
  ⟨0xF00040800C, [], [⟨8, 1, .ro, .none⟩, ⟨0, 8, .ro, .none⟩], (0, 0)⟩,
  ⟨0xF000408010, [], [⟨16, 16, .ro, .none⟩, ⟨7, 1, .ro, .none⟩, ⟨6, 1, .ro, .none⟩, ⟨5, 1, .ro, .none⟩, ⟨0, 4, .ro, .none⟩], (0, 0)⟩,
  ⟨0xF000408014, [], [⟨0, 32, .ro, .none⟩], (0, 0)⟩,
  ⟨0xF000408018, [], [⟨0, 32, .ro, .none⟩], (0, 0)⟩,
  ⟨0xF00040801C, [], [⟨16, 16, .rs, .none⟩, ⟨0, 16, .rs, .none⟩], (0, 0)⟩,
  ⟨0xF000408020, [], [⟨31, 1, .wo, .live⟩, ⟨16, 3, .ro, .none⟩, ⟨0, 2, .rw, .live⟩], (0, 0)⟩,
  ⟨0xF000408024, [], [⟨0, 32, .rw, .live⟩], (0, 0)⟩,
  ⟨0xF000408028, [], [⟨0, 32, .ro, .none⟩], (0, 0)⟩,
  ⟨0xF00040802C, [], [⟨0, 32, .ro, .none⟩], (0, 0)⟩,
  ⟨0xF000408030, [], [⟨0, 32, .ro, .none⟩], (0, 0)⟩,
  ⟨0xF000408034, [], [⟨0, 8, .ro, .none⟩], (0, 0)⟩,
  ⟨0xF000408038, [], [⟨0, 32, .ro, .none⟩], (0, 0)⟩,
  ⟨0xF00040803C, [], [⟨0, 8, .ro, .none⟩], (0, 0)⟩,
  ⟨0xF000408040, [], [⟨16, 16, .ro, .none⟩, ⟨0, 16, .ro, .none⟩], (0, 0)⟩,
  ⟨0xF000408044, [], [⟨0, 32, .ro, .none⟩], (0, 0)⟩,
  ⟨0xF000408048, [], [⟨0, 8, .ro, .none⟩], (0, 0)⟩]

/-- The SXT registers. -/
def regsSXT : List RDesc := [
  ⟨0xF000500000, [(8, 0x40)], [⟨8, 2, .ro, .none⟩, ⟨0, 2, .ro, .none⟩], (0, 0)⟩,
  ⟨0xF000500004, [(8, 0x40)], [⟨16, 16, .ro, .none⟩, ⟨0, 16, .ro, .none⟩], (0, 0)⟩,
  ⟨0xF000500008, [(8, 0x40)], [⟨24, 8, .rs, .none⟩, ⟨16, 8, .rs, .none⟩, ⟨8, 8, .rs, .none⟩, ⟨0, 8, .rs, .none⟩], (0, 0)⟩,
  ⟨0xF00050000C, [(8, 0x40)], [⟨16, 16, .rs, .none⟩, ⟨0, 16, .rs, .none⟩], (0, 0)⟩,
  ⟨0xF000500010, [(8, 0x40)], [⟨0, 32, .rs, .none⟩], (0, 0)⟩,
  ⟨0xF000500014, [(8, 0x40)], [⟨0, 2, .rw, .live⟩], (0, 0)⟩,
  ⟨0xF000500018, [(8, 0x40)], [⟨0, 32, .ro, .none⟩], (0, 0)⟩,
  ⟨0xF00050001C, [(8, 0x40)], [⟨0, 8, .ro, .none⟩], (0, 0)⟩,
  ⟨0xF000500020, [(8, 0x40)], [⟨0, 32, .ro, .none⟩], (0, 0)⟩,
  ⟨0xF000500200, [(4, 0x40)], [⟨16, 16, .ro, .none⟩, ⟨2, 1, .ro, .none⟩, ⟨1, 1, .ro, .none⟩, ⟨0, 1, .ro, .none⟩], (0, 0)⟩,
  ⟨0xF000500204, [(4, 0x40)], [⟨0, 1, .rw, .live⟩], (0, 0)⟩,
  ⟨0xF000500208, [(4, 0x40)], [⟨0, 32, .ro, .none⟩], (0, 0)⟩,
  ⟨0xF000500300, [(4, 0x20)], [⟨1, 1, .ro, .none⟩, ⟨0, 1, .ro, .none⟩], (0, 0)⟩,
  ⟨0xF000500304, [(4, 0x20)], [⟨0, 32, .rw, .live⟩], (0, 0)⟩,
  ⟨0xF000500308, [(4, 0x20)], [⟨0, 32, .ro, .none⟩], (0, 0)⟩,
  ⟨0xF00050030C, [(4, 0x20)], [⟨0, 32, .ro, .none⟩], (0, 0)⟩,
  ⟨0xF000500310, [(4, 0x20)], [⟨0, 8, .ro, .none⟩], (0, 0)⟩,
  ⟨0xF000500314, [(4, 0x20)], [⟨0, 32, .rs, .none⟩], (0, 0)⟩]

/-- The LKT registers. -/
def regsLKT : List RDesc := [
  ⟨0xF000600000, [], [⟨8, 5, .ro, .none⟩, ⟨2, 4, .ro, .none⟩, ⟨1, 1, .ro, .none⟩, ⟨0, 1, .ro, .none⟩], (0, 0)⟩,
  ⟨0xF000600004, [], [⟨0, 1, .rw, .live⟩], (0, 0)⟩,
  ⟨0xF000600008, [], [⟨16, 16, .rs, .none⟩, ⟨0, 16, .rs, .none⟩], (0, 0)⟩,
  ⟨0xF00060000C, [], [⟨0, 32, .ro, .none⟩], (0, 0)⟩,
  ⟨0xF000600010, [], [⟨0, 32, .ro, .none⟩], (0, 0)⟩,
  ⟨0xF000600014, [], [⟨0, 8, .ro, .none⟩], (0, 0)⟩,
  ⟨0xF000600018, [], [⟨0, 32, .ro, .none⟩], (0, 0)⟩,
  ⟨0xF000600100, [(16, 0x10)], [⟨0, 32, .ro, .none⟩], (0, 0)⟩,
  ⟨0xF000600104, [(16, 0x10)], [⟨16, 16, .ro, .none⟩, ⟨0, 7, .ro, .none⟩], (0, 0)⟩]

/-- The SPD registers. -/
def regsSPD : List RDesc := [
  ⟨0xF000700000, [], [⟨31, 1, .wo, .live⟩, ⟨30, 1, .rw, .live⟩, ⟨24, 3, .ro, .none⟩, ⟨16, 5, .rw, .live⟩, ⟨8, 8, .rw, .live⟩, ⟨0, 8, .rw, .live⟩], (0, 0)⟩,
  ⟨0xF000700004, [], [⟨16, 16, .ro, .none⟩, ⟨0, 8, .ro, .none⟩], (0, 0)⟩,
  ⟨0xF000700010, [], [⟨0, 16, .rw, .live⟩], (0, 0)⟩,
  ⟨0xF000700014, [], [⟨0, 32, .rw, .live⟩], (0, 0)⟩,
  ⟨0xF000700018, [], [⟨31, 1, .wo, .tick⟩, ⟨24, 3, .ro, .none⟩, ⟨8, 1, .rw, .live⟩, ⟨0, 8, .rw, .live⟩], (0, 0)⟩,
  ⟨0xF00070001C, [], [⟨0, 32, .ro, .none⟩], (0, 0)⟩,
  ⟨0xF000700020, [], [⟨0, 1, .ro, .none⟩], (0, 0)⟩,
  ⟨0xF000700040, [(8, 0x4)], [⟨0, 32, .rs, .none⟩], (0, 0)⟩,
  ⟨0xF000700060, [], [⟨0, 32, .ro, .none⟩], (0, 0)⟩,
  ⟨0xF000700100, [(32, 0x4)], [⟨24, 8, .rs, .none⟩, ⟨16, 6, .ro, .none⟩, ⟨8, 8, .ro, .none⟩, ⟨0, 8, .rs, .none⟩], (0, 0)⟩]

/-- The FAB registers. -/
def regsFAB : List RDesc := [
  ⟨0xF000800000, [], [⟨16, 10, .rs, .none⟩, ⟨0, 10, .ro, .none⟩], (0, 0)⟩,
  ⟨0xF000800004, [], [⟨16, 16, .rs, .none⟩, ⟨0, 16, .rs, .none⟩], (0, 0)⟩,
  ⟨0xF000800100, [(5, 0x4)], [⟨24, 8, .rs, .none⟩, ⟨0, 16, .ro, .none⟩], (0, 0)⟩]

/-- The BUS registers. -/
def regsBUS : List RDesc := [
  ⟨0xF000900000, [(6, 0x10000)], [⟨8, 6, .ro, .none⟩, ⟨5, 1, .ro, .none⟩, ⟨4, 1, .ro, .none⟩, ⟨3, 1, .ro, .none⟩, ⟨0, 2, .ro, .none⟩], (0, 0)⟩,
  ⟨0xF000900004, [(6, 0x10000)], [⟨24, 8, .ro, .none⟩, ⟨16, 8, .ro, .none⟩, ⟨8, 8, .ro, .none⟩, ⟨0, 3, .ro, .none⟩], (0, 0)⟩,
  ⟨0xF000900008, [(6, 0x10000)], [⟨2, 1, .wo, .live⟩, ⟨0, 1, .rw, .live⟩], (0, 0)⟩,
  ⟨0xF00090000C, [(6, 0x10000)], [⟨31, 1, .wo, .live⟩, ⟨24, 3, .ro, .none⟩, ⟨8, 2, .rw, .live⟩, ⟨0, 6, .ro, .none⟩], (0, 0)⟩,
  ⟨0xF000900010, [(6, 0x10000)], [⟨0, 30, .rw, .live⟩], (0, 0)⟩,
  ⟨0xF000900014, [(6, 0x10000)], [⟨0, 16, .ro, .none⟩], (0, 0)⟩,
  ⟨0xF000900018, [(6, 0x10000), (2, 0x4)], [⟨0, 32, .ro, .none⟩], (0, 0)⟩,
  ⟨0xF000900020, [(6, 0x10000)], [⟨16, 16, .rs, .none⟩, ⟨0, 16, .rs, .none⟩], (0, 0)⟩,
  ⟨0xF000900024, [(6, 0x10000)], [⟨16, 16, .rs, .none⟩, ⟨0, 16, .rs, .none⟩], (0, 0)⟩,
  ⟨0xF000900040, [(6, 0x10000), (18, 0x4)], [⟨0, 32, .rw, .live⟩], (0, 0)⟩,
  ⟨0xF000900088, [(6, 0x10000)], [⟨31, 1, .wo, .live⟩, ⟨0, 2, .ro, .none⟩], (0, 0)⟩,
  ⟨0xF000904000, [(6, 0x10000), (32, 0x10)], [⟨16, 16, .rs, .none⟩, ⟨0, 16, .rs, .none⟩], (0, 0)⟩,
  ⟨0xF000904004, [(6, 0x10000), (32, 0x10), (2, 0x4)], [⟨0, 32, .ro, .none⟩], (0, 0)⟩]

/-- The REP registers. -/
def regsREP : List RDesc := [
  ⟨0xF000B00000, [], [⟨24, 6, .ro, .none⟩, ⟨16, 6, .ro, .none⟩, ⟨7, 1, .w1c, .live⟩, ⟨6, 1, .ro, .none⟩, ⟨0, 4, .ro, .none⟩], (0, 0)⟩,
  ⟨0xF000B00004, [], [⟨16, 16, .rw, .tick⟩, ⟨8, 8, .rw, .tick⟩, ⟨0, 4, .rw, .tick⟩], (0, 0)⟩,
  ⟨0xF000B00010, [(8, 0x4)], [⟨16, 8, .ro, .none⟩, ⟨0, 5, .ro, .none⟩], (0, 0)⟩,
  ⟨0xF000B00030, [], [⟨2, 2, .ro, .none⟩, ⟨0, 2, .ro, .none⟩], (0, 0)⟩,
  ⟨0xF000B00040, [], [⟨0, 5, .rw, .live⟩], (0, 0)⟩,
  ⟨0xF000B00044, [], [⟨31, 1, .ro, .none⟩, ⟨28, 3, .ro, .none⟩, ⟨27, 1, .ro, .none⟩, ⟨24, 3, .ro, .none⟩, ⟨16, 8, .ro, .none⟩], (0, 0)⟩,
  ⟨0xF000B00048, [], [⟨0, 32, .ro, .none⟩], (0, 0)⟩,
  ⟨0xF000B0004C, [(2, 0x4)], [⟨0, 32, .ro, .none⟩], (0, 0)⟩,
  ⟨0xF000B00060, [], [⟨31, 1, .wo, .live⟩, ⟨24, 3, .ro, .none⟩, ⟨0, 2, .rw, .live⟩], (0, 0)⟩,
  ⟨0xF000B00064, [], [⟨0, 32, .rw, .live⟩], (0, 0)⟩]

/-- The LOG registers. -/
def regsLOG : List RDesc := [
  ⟨0xF000A00000, [], [⟨16, 9, .ro, .none⟩, ⟨1, 1, .ro, .none⟩, ⟨0, 1, .w1c, .live⟩], (0, 0)⟩,
  ⟨0xF000A00004, [], [⟨0, 19, .ro, .none⟩], (0, 0)⟩,
  ⟨0xF000A00008, [], [⟨0, 32, .ro, .none⟩], (0, 0)⟩,
  ⟨0xF000A0000C, [], [⟨16, 16, .ro, .none⟩, ⟨0, 16, .ro, .none⟩], (0, 0)⟩,
  ⟨0xF000A00010, [], [⟨0, 32, .rs, .none⟩], (0, 0)⟩,
  ⟨0xF000A00014, [], [⟨0, 32, .rs, .none⟩], (0, 0)⟩,
  ⟨0xF000A00020, [], [⟨0, 19, .rw, .live⟩], (0, 0)⟩,
  ⟨0xF000A00040, [(8, 0x4)], [⟨0, 32, .ro, .none⟩], (0, 0)⟩,
  ⟨0xF000A00080, [(4, 0x4)], [⟨0, 32, .rw, .tick⟩], (0, 0)⟩]

/-- The UPD registers. -/
def regsUPD : List RDesc := [
  ⟨0xF000D00000, [], [⟨24, 8, .ro, .none⟩, ⟨10, 2, .ro, .none⟩, ⟨9, 1, .ro, .none⟩, ⟨8, 1, .ro, .none⟩, ⟨0, 3, .ro, .none⟩], (0, 0)⟩,
  ⟨0xF000D00004, [], [⟨16, 16, .ro, .none⟩, ⟨0, 16, .ro, .none⟩], (0, 0)⟩,
  ⟨0xF000D00008, [(2, 0x4)], [⟨0, 32, .ro, .none⟩], (0, 0)⟩,
  ⟨0xF000D00010, [(2, 0x4)], [⟨0, 32, .rw, .live⟩], (0, 0)⟩,
  ⟨0xF000D00018, [], [⟨0, 32, .ro, .none⟩], (0, 0)⟩,
  ⟨0xF000D0001C, [], [⟨0, 32, .ro, .none⟩], (0, 0)⟩,
  ⟨0xF000D00020, [], [⟨16, 16, .ro, .none⟩, ⟨0, 16, .ro, .none⟩], (0, 0)⟩,
  ⟨0xF000D00024, [], [⟨31, 1, .wo, .live⟩, ⟨24, 3, .ro, .none⟩, ⟨0, 3, .rw, .live⟩], (0, 0)⟩]

/-- The BIN registers. -/
def regsBIN : List RDesc := [
  ⟨0xF000E00000, [], [⟨20, 2, .ro, .none⟩, ⟨19, 1, .ro, .none⟩, ⟨16, 3, .ro, .none⟩, ⟨6, 10, .w1c, .live⟩, ⟨5, 1, .ro, .none⟩, ⟨4, 1, .w1c, .live⟩, ⟨3, 1, .w1c, .live⟩, ⟨2, 1, .ro, .none⟩, ⟨1, 1, .w1c, .live⟩, ⟨0, 1, .ro, .none⟩], (0, 0)⟩,
  ⟨0xF000E00004, [], [⟨16, 16, .ro, .none⟩, ⟨0, 16, .ro, .none⟩], (0, 0)⟩,
  ⟨0xF000E00008, [], [⟨0, 32, .ro, .none⟩], (0, 0)⟩,
  ⟨0xF000E00010, [(6, 0x4)], [⟨0, 32, .rw, .commit⟩], (80, 0)⟩,
  ⟨0xF000E00030, [(12, 0x4)], [⟨0, 32, .rw, .commit⟩], (80, 0)⟩,
  ⟨0xF000E00060, [], [⟨16, 4, .rw, .commit⟩, ⟨0, 16, .rw, .commit⟩], (80, 0)⟩,
  ⟨0xF000E00064, [], [⟨8, 8, .rw, .commit⟩, ⟨0, 8, .rw, .commit⟩], (80, 0)⟩,
  ⟨0xF000E00080, [(10, 0x4)], [⟨0, 32, .rw, .live⟩], (0, 0)⟩]

/-- The HSI registers. -/
def regsHSI : List RDesc := [
  ⟨0xF000F00000, [], [⟨16, 16, .ro, .none⟩, ⟨3, 4, .ro, .none⟩, ⟨0, 3, .ro, .none⟩], (0, 0)⟩,
  ⟨0xF000F00004, [], [⟨16, 16, .rs, .none⟩, ⟨0, 16, .rs, .none⟩], (0, 0)⟩,
  ⟨0xF000F00008, [], [⟨16, 16, .rs, .none⟩, ⟨0, 16, .rs, .none⟩], (0, 0)⟩,
  ⟨0xF000F0000C, [], [⟨0, 32, .rs, .none⟩], (0, 0)⟩]

/-- Every register but the windows that mirror record bodies and the CAN receive objects. -/
def regTable : List RDesc :=
  regsPWR ++ regsALM ++ regsCHR ++ regsMRD ++ regsHLM ++ regsDIO ++ regsPLT ++ regsSXT ++ regsLKT ++ regsSPD ++ regsFAB ++ regsBUS ++ regsREP ++ regsLOG ++ regsUPD ++ regsBIN ++ regsHSI

end Sys2Proof.Machine
end

