-- ==== Sys2Proof/Machine/Update.lean ====
section
/-! DEFINITION. Field update and settings: frames, the delta image, waypoints, trial and rollback, and the power-down
that writes the settings. -/

namespace Sys2Proof.Machine

/-! ### Settings frames (R471, R472) -/

/-- The newest frame of a partition. -/
def newestIn (l : List (Nat × SetFrame)) : Option SetFrame :=
  l.foldl (fun m e => match m with
    | none => some e.2
    | some f => if f.gen < e.2.gen then some e.2 else some f) none

/-- The current frame: the valid frame with the highest GEN in either partition, with its partition. -/
def Nor.newest (n : Nor) : Option (Nat × SetFrame) :=
  match newestIn (n.sets.getD 0 []), newestIn (n.sets.getD 1 []) with
  | some a, some b => if a.gen < b.gen then some (1, b) else some (0, a)
  | some a, none => some (0, a)
  | none, some b => some (1, b)
  | none, none => none

/-- A settings block as a frame holds it (Table 13.5). -/
def SetBlock.bytes (b : SetBlock) : List Nat :=
  leBytes 2 b.fmt ++ leBytes 2 b.item ++ leBytes 4 b.body.length ++ b.body ++ List.replicate ((4 - b.body.length % 4) % 4) 0

/-- A settings frame as its sector holds it (Table 13.5): MAGIC, GEN, LENGTH, BANKS, TRIAL, STARTS, RESULT, UID, NBLK, the blocks and
the CRC over what precedes it. -/
def SetFrame.blockBytes (f : SetFrame) : List Nat := (f.frozen ++ f.blocks).flatMap SetBlock.bytes

def SetFrame.length (f : SetFrame) : Nat := 36 + f.blockBytes.length

def SetFrame.bytes (f : SetFrame) : List Nat :=
  let l := leBytes 4 0x474E5453 ++ leBytes 4 f.gen ++ leBytes 4 f.length ++ [f.banks, f.trial, f.starts, f.result] ++
    leBytes 8 f.uid ++ leBytes 2 (f.frozen ++ f.blocks).length ++ List.replicate 6 0 ++ f.blockBytes
  l ++ leBytes 4 (crc32 l)

/-- R471: a frame goes into the partition that does not hold the newest, in the sector after the last written there,
with the next GEN. -/
def State.writeFrame (s : State) (f : SetFrame) : State :=
  let (p, gen) := match s.nor.newest with
    | some (q, g) => (1 - q, g.gen + 1)
    | none => (0, 1)
  let sec := (s.nor.lastSec.getD p 63 + 1) % 64
  let f := { f with gen := gen % 2 ^ 32 }
  { s with
    nor.sets := s.nor.sets.modify p fun l => (l.filter fun (e : Nat × SetFrame) => e.1 != sec) ++ [(sec, f)]
    nor.lastSec := s.nor.lastSec.set p sec
    nor.torn := false
    upd.cur := f }.put R.UPD_SET_GEN gen

/-- The frame that a further one builds on: the last that waits, or the current one. -/
def State.lastFrame (s : State) : SetFrame := (s.upd.queue.getLast?).getD s.upd.cur

/-- A new frame waits to be written (SETTINGS_WRITE). -/
def State.queueFrame (s : State) (f : SetFrame) : State := { s with upd.queue := s.upd.queue ++ [f] }

/-- R471: a frame that waits is written, if it keeps to 64 KiB; a longer one is a write that fails. -/
def State.storeFrame (s : State) (f : SetFrame) : State :=
  if 65536 < f.length then s.raise 119 [1, s.get R.UPD_SET_GEN] else s.writeFrame f

/-- Every frame that waits is written. -/
def State.writeFrames (s : State) : State :=
  { s.upd.queue.foldl State.storeFrame s with upd.queue := [] }

/-- A block of an item replaced, in the format in use. -/
def setBlock (fmt item : Nat) (body : List Nat) (l : List SetBlock) : List SetBlock :=
  (l.filter fun b => b.item != item) ++ [⟨fmt, item, body⟩]

def blockOf (item : Nat) (l : List SetBlock) : Option (List Nat) := (l.find? fun b => b.item == item).map (·.body)

/-- An item takes a new value, in a frame that waits. R472: after a rollback has been made the blocks are those of the previous
firmware, which stand as they are: what the running one saves is lost. -/
def State.saveItem (s : State) (item : Nat) (body : List Nat) : State :=
  let f := s.lastFrame
  if s.upd.rolled then s.queueFrame f
  else s.queueFrame { f with blocks := setBlock (s.get R.UPD_SETFMT_NEW) item body f.blocks }

/-- R322, Table 13.6: item 0x0001: TARE, LC_GAIN and CAL in the formats of Table 8.10; CAL before the yield stage has started is
that of CAL0, which LOAD set from the stored one. -/
def State.tankItem (s : State) : List Nat :=
  let cal := s.get R.PLT_YLD_CAL_VALUE
  leBytes 4 (s.cfg 0x0421 0 0x18 4) ++ ((List.range 16).map fun i => s.cfg 0x0421 0 (8 + i) 1) ++
    leBytes 4 (if cal = 0 then s.cfg 0x0421 0 0x3C 4 else cal)

def State.saveTank (s : State) : State := if s.has 0x0421 0 then s.saveItem 1 s.tankItem else s

/-- Table 13.7: the write of a frame is cut: its sector holds no valid frame, and the frame before stands. -/
def State.tornFrame (s : State) : State :=
  let p := match s.nor.newest with
    | some (q, _) => 1 - q
    | none => 0
  let sec := (s.nor.lastSec.getD p 63 + 1) % 64
  { s with
    nor.sets := s.nor.sets.modify p fun l => l.filter fun (e : Nat × SetFrame) => e.1 != sec
    nor.lastSec := s.nor.lastSec.set p sec
    nor.torn := true }

/-- SETTINGS_WRITE (R471): the next frame that waits is written; if the write fails, EV119 with reason 1 and the frames
already written stay. -/
def execSettingsWrite (r : SetWrite) (s : State) : Out :=
  match s.upd.queue with
  | [] => .next s
  | f :: rest =>
    let s := { s with upd.queue := rest }
    .next (match r with
      | .done => s.storeFrame f
      | .failed => s.raise 119 [1, s.get R.UPD_SET_GEN]
      | .cut => s.tornFrame)

/-- TANK_CAL_COMPLETE (R322, R323): the result is set and stored. -/
def execTankCalComplete (s : State) : Out :=
  let (t, done) := s.tankCalEnd
  .next (if done then t.saveTank else t)

/-! ### Shutdown (R64) -/

/-- R64, Table 2.4, R463: a shutdown request is handled according to the mode. -/
def State.shutdownReq (s : State) (src : Nat) : State :=
  let s := { s with pwr.shutSrc := src }.put R.PWR_STATUS_SHUTREQ 1
  if s.inMode [mROAD, mFIELD, mLIMP] ∨ s.upd.lock then s
  else { s with pwr.pdBegun := true }

/-- SHUTDOWN_REQUEST (R30, R64): IGN low for 2.0 s. -/
def execShutdownRequest (s : State) : Out :=
  .next (if s.pwr.powered && !s.flag R.PWR_STATUS_IGN && !s.flag R.PWR_STATUS_SHUTREQ then s.shutdownReq 0 else s)

/-- POWER_DOWN (R64, R322): pending writes complete, the settings and the shutdown record are written, the relays close
and the module enters RESET with cause 0x05. -/
def execPowerDown (s : State) : Out :=
  if !s.pwr.pdBegun then .next s
  else
    let s := if s.log.up then s.saveTank.writeFrames else s
    let s := s.sysRec 0x0103 [s.mode, s.pwr.shutSrc]
    .next ((s.enterReset 0x05).put R.PWR_STATUS_SHUTREQ 0)

/-! ### The delta image (R456, R457) -/

/-- The fuse slots that hold a key that is not revoked (R73). -/
def State.usable (s : State) : Nat := clearBits (Config.fuseKeys % 16) s.nor.revoked

/-- The image in the active or the other bank of a pair: `kind` 0 firmware, 1 Almanac (R455). -/
def SetFrame.active (f : SetFrame) (kind : Nat) : Nat := bits f.banks kind 1

def State.bank (s : State) (kind b : Nat) : List Nat := if kind = 0 then s.nor.fw.getD b [] else s.nor.alm.getD b []

/-- The bytes of whole 64 KiB sectors that `n` bytes need. -/
def sectorBytes (n : Nat) : Nat := ceilDiv n 65536 * 65536

/-- An image in a bank, and what lies behind it there. -/
def State.putBank (s : State) (kind b : Nat) (img rest : List Nat) : State :=
  let s := { s with nor.rest := s.nor.rest.set (2 * kind + b) rest }
  if kind = 0 then { s with nor.fw := s.nor.fw.set b img } else { s with nor.alm := s.nor.alm.set b img }

/-- The bytes of a bank from an offset on that NOR still holds. -/
def State.bankFrom (s : State) (kind b off : Nat) : List Nat := (s.bank kind b ++ s.nor.rest.getD (2 * kind + b) []).drop off

/-- R460: the sectors that an image needs are erased, and it is written; the others keep their bytes. -/
def State.setBank (s : State) (kind b : Nat) (img : List Nat) : State :=
  let n := sectorBytes img.length
  s.putBank kind b img (List.replicate (n - img.length) 0xFF ++ s.bankFrom kind b n)

/-- What an active bank holds as an image: all of a firmware bank, an Almanac up to its LENGTH. -/
def State.activeImage (s : State) (kind : Nat) : List Nat :=
  let b := s.bank kind (s.upd.cur.active kind)
  if kind = 0 then b else almImage b

/-- A field of the staged delta's header (Table 13.1). -/
def State.delta (s : State) (off n : Nat) : Nat := imgNat s.nor.staging off n

def State.deltaDigest (s : State) (off : Nat) : List Nat := (s.nor.staging.drop off).take 32

/-- The staging partition holds a complete delta. -/
def State.deltaWhole (s : State) : Bool :=
  s.delta 0 4 == 0x4C445055 && decide (256 ≤ s.nor.staging.length) && s.delta 8 4 == s.nor.staging.length

/-- R459, Table 13.4: 0, or the code of the first check of the staged delta that fails: header, key slot, signature,
base digests. `sent` is the number of bytes transferred. -/
def State.deltaCode (s : State) (sent : Nat) : Nat :=
  let kind := s.delta 0xD 1
  let slot := s.delta 0xC 1
  let rev := s.delta 0xE 1
  let base (off k : Nat) : Bool :=
    let d := s.deltaDigest off
    d == List.replicate 32 0 || d == imgSha (s.activeImage k)
  if s.delta 0 4 ≠ 0x4C445055 ∨ s.delta 4 2 ≠ 1 ∨ s.delta 6 2 ≠ 192 ∨ kind = 0 ∨ 3 < kind ∨ 3 < slot ∨
      s.delta 0xF 1 ≠ 0 ∨ (s.nor.staging.drop 0xA4).take 28 ≠ List.replicate 28 0 ∨ bit rev slot ∨
      clearBits s.usable rev = 0 then 0x10
  else if 48 * 1048576 < s.delta 8 4 ∨ s.delta 8 4 ≠ sent ∨ 24 * 1048576 < s.delta 0x18 4 ∨
      8 * 1048576 < s.delta 0x1C 4 then 0x11
  else if !bit s.usable slot then 0x13
  else if !imgSigned slot s.nor.staging then 0x12
  else if !(base 0x20 0) || !(base 0x40 1) then 0x14
  else 0

/-- R457, Table 13.2: one section of the operation stream: the image it builds and the stream after its END. -/
def deltaSection : (fuel : Nat) → (src ops acc : List Nat) → Option (List Nat × List Nat)
  | 0, _, _, _ => none
  | fuel + 1, src, ops, acc =>
    let w := imgNat ops 0 4
    let n := w % 2 ^ 28
    if ops.length < 4 ∨ n % 4 ≠ 0 then none
    else if w / 2 ^ 28 = 1 then
      let o := imgNat ops 4 4
      if ops.length < 8 ∨ src.length < o + n then none
      else deltaSection fuel src (ops.drop 8) (acc ++ (src.drop o).take n)
    else if w / 2 ^ 28 = 2 then
      if ops.length < 4 + n then none else deltaSection fuel src (ops.drop (4 + n)) (acc ++ (ops.drop 4).take n)
    else if w / 2 ^ 28 = 3 then deltaSection fuel src (ops.drop 4) (acc ++ List.replicate n 0)
    else if w / 2 ^ 28 = 15 ∧ n = 0 then some (acc, ops.drop 4)
    else none

/-- The target images of the staged delta, by kind; none where an operation is malformed or a section has the wrong
length. -/
def State.deltaImages (s : State) : Option (Option (List Nat) × Option (List Nat)) :=
  let len := s.nor.staging.length
  let ops := (s.nor.staging.drop 192).take (len - 256)
  let kind := s.delta 0xD 1
  let one (k want : Nat) (ops : List Nat) : Option (Option (List Nat) × List Nat) :=
    if !bit kind k then some (none, ops)
    else
      match deltaSection (ops.length + 1) (s.activeImage k) ops [] with
      | some (img, rest) => if img.length = want then some (some img, rest) else none
      | none => none
  match one 0 (s.delta 0x18 4) ops with
  | none => none
  | some (fw, rest) =>
    match one 1 (s.delta 0x1C 4) rest with
    | some (alm, []) => some (fw, alm)
    | _ => none

/-- R460: 0, or 0x16 or 0x17, for the target images written. -/
def State.targetCode (s : State) (fw alm : Option (List Nat)) : Nat :=
  let differs (img : Option (List Nat)) (off : Nat) : Bool := match img with
    | some x => imgSha x != s.deltaDigest off
    | none => false
  let rel := s.delta 0xA0 2
  let bad : Bool :=
    (match fw with | some x => !Config.fwSigned s.usable x | none => false) ||
      match alm with
      | some x => almHeaderCode x s.usable rel != 0
      | none => decide (rel < imgNat (s.activeImage 1) 0x14 2)
  if differs fw 0x60 || differs alm 0x80 then 0x16 else if bad then 0x17 else 0

/-- The target images are written into the inactive banks. -/
def State.writeBanks (s : State) (fw alm : Option (List Nat)) : State :=
  let put (t : State) (k : Nat) (img : Option (List Nat)) : State := match img with
    | some x => t.setBank k (1 - s.upd.cur.active k) x
    | none => t
  put (put s 0 fw) 1 alm

/-- The inactive banks match the delta's targets (R467, R470). -/
def State.banksMatch (s : State) : Bool :=
  let kind := s.delta 0xD 1
  let ok (k off len : Nat) : Bool :=
    !bit kind k || imgSha ((s.bank k (1 - s.upd.cur.active k)).take (s.delta len 4)) == s.deltaDigest off
  kind != 0 && ok 0 0x60 0x18 && ok 1 0x80 0x1C

/-- Transfer, application and verification run (R459, R474): in LIMP while the Pilot runs. -/
def State.updRuns (s : State) : Bool :=
  s.inMode [mSTANDBY, mROAD, mFIELD, mSERVICE] || s.mode == mLIMP && s.alm.pilotUp && !s.alm.mgmtFailed || s.alm.recovery

/-- R460: the sectors of an inactive bank that its target image needs hold unknown bytes, and no image; the others keep theirs. -/
def State.spoilBank (s : State) (kind : Nat) : State :=
  if !bit (s.delta 0xD 1) kind then s
  else
    let b := 1 - s.upd.cur.active kind
    let n := sectorBytes (s.delta (if kind = 0 then 0x18 else 0x1C) 4)
    let s' := s.putBank kind b ((List.range n).map fun i => (Config.freeValue 8 (s.freeCtr + i)).toNat) (s.bankFrom kind b n)
    { s' with freeCtr := s.freeCtr + n }

/-- The inactive banks that the delta writes. -/
def State.spoilBanks (s : State) : State := (s.spoilBank 0).spoilBank 1

/-- R461: the inactive banks that the update has begun to write hold no image: the first sector of each is erased (DESIGN CHOICE,
log entry `an invalid bank`). -/
def State.voidBanks (s : State) : State :=
  (([0, 1].filter fun k => bit (s.delta 0xD 1) k).foldl (fun (s : State) k =>
    let b := 1 - s.upd.cur.active k
    s.putBank k b [] (List.replicate 65536 0xFF ++ s.bankFrom k b 65536)) s)

/-- Table 10.7: the partitions of the NOR flash: offset and size, in its order. -/
def norParts : List (Nat × Nat) :=
  [(0, 0x100000), (0x100000, 0x1800000), (0x1900000, 0x1800000), (0x3100000, 0x800000), (0x3900000, 0x800000),
    (0x4100000, 0x400000), (0x4500000, 0x400000), (0x4900000, 0x3000000), (0x7900000, 0x700000)]

/-- What a partition of Table 10.7 holds at an offset; a byte not written since its sector was erased reads 0xFF. -/
def State.partByte (s : State) (k off : Nat) : Nat :=
  let l : List Nat := match k with
    | 0 => s.nor.boot
    | 1 => s.bankFrom 0 0 0
    | 2 => s.bankFrom 0 1 0
    | 3 => s.bankFrom 1 0 0
    | 4 => s.bankFrom 1 1 0
    | 5 | 6 => (((s.nor.sets.getD (k - 5) []).lookup (off / 65536)).map SetFrame.bytes).getD []
    | 7 => s.nor.staging
    | _ => s.nor.reserved
  l.getD (if k = 5 ∨ k = 6 then off % 65536 else off) 0xFF

/-- A byte of the NOR flash (R394). -/
def State.norByte (s : State) (a : Nat) : Nat :=
  ((norParts.zipIdx.find? fun p => decide (p.1.1 ≤ a ∧ a < p.1.1 + p.1.2)).map fun p => s.partByte p.2 (a - p.1.1)).getD 0xFF

/-- R460: application begins: sectors of the inactive banks are erased. -/
def State.applying (s : State) : State := s.spoilBanks.updTo 3 0

/-- NVM_OPERATION_FAIL (R395, R458, Table 10.10): a NOR or MRAM operation failed; `kind` 0 program, 1 erase, 2 write. A NOR
failure in the staging partition ends a transfer, and one in an inactive bank that application writes ends that. DESIGN CHOICE
(log entry `partition numbers`): EV087 numbers the partitions in the order of Table 10.7 from 0. -/
def execNvmOperationFail (mram : Bool) (where_ kind : Nat) (s : State) : Out :=
  let s := (if mram then s.put R.LOG_STAT_MRAM_FAIL 1 else s).raise 87 [b2n mram, where_, kind]
  let st := s.get R.UPD_STAT_STATE
  let target (k : Nat) : Bool := bit (s.delta 0xD 1) k && where_ == 2 * k + 2 - s.upd.cur.active k
  .next (if !mram && (st == 1 || st == 2) && where_ == 7 then s.updTo 0 0x18
    else if !mram && st == 3 && (target 0 || target 1) then s.spoilBanks.updTo 0 0x18 else s)

/-- An operation stream copies from an active image (Table 13.2). -/
def copies : (fuel : Nat) → (ops : List Nat) → Bool
  | 0, _ => false
  | fuel + 1, ops =>
    let w := imgNat ops 0 4
    if ops.length < 4 then false
    else if w / 2 ^ 28 = 1 then true
    else copies fuel (ops.drop (4 + if w / 2 ^ 28 = 2 then w % 2 ^ 28 else 0))

/-- A full image: a delta that copies nothing from an active image. -/
def State.deltaFull (s : State) : Bool :=
  let n := s.nor.staging.length
  !copies n ((s.nor.staging.drop 192).take (n - 256))

/-- DELTA_CHECK (R456, R459, R473, R474): RECEIVED to APPLYING, or IDLE with the code. The boot loader takes only a full
delta with KIND[0]. -/
def execDeltaCheck (s : State) : Out :=
  if s.get R.UPD_STAT_STATE ≠ 2 ∨ s.updRuns = false then .next s
  else
    let c := s.deltaCode s.upd.got
    let c := if c = 0 && s.alm.recovery && (!bit (s.delta 0xD 1) 0 || !s.deltaFull) then 0x10
      else c
    .next (if c = 0 then s.applying else s.updTo 0 c)

/-- A firmware bank applied in the recovery state: a frame makes it active with the other as previous, and the module
restarts (Table 13.7). -/
def State.recovered (s : State) : State :=
  let b := s.upd.cur.active 0
  let banks := (1 - b) + 2 * s.upd.cur.active 1 + 4 * b + 8 * bits s.upd.cur.banks 3 1
  (s.writeFrame { s.upd.cur with banks }).enterReset 0x02

/-- APPLY_COMPLETE (R457, R460, Table 13.4): the target images are written and verified; `fail` is a NOR program or
erase failure, which leaves unknown bytes in the banks it wrote. -/
def execApplyComplete (fail : Bool) (s : State) : Out :=
  if s.get R.UPD_STAT_STATE ≠ 3 ∨ s.updRuns = false then .next s
  else if fail then .next (s.spoilBanks.updTo 0 0x18)
  else
    match s.deltaImages with
    | none => .next (s.updTo 0 0x15)
    | some (fw, alm) =>
      let s := s.writeBanks fw alm
      let s := s.put R.UPD_PROG_APPLY_KIB (((fw.getD []).length + (alm.getD []).length) / 1024)
      let c := s.targetCode fw alm
      if c ≠ 0 then .next (s.updTo 0 c)
      else if s.alm.recovery then .next s.recovered
      else .next (s.updTo 4 0)

/-- The registers that a staged delta fills. -/
def State.takeUid (s : State) : State :=
  s.puts [(R.UPD_UID_VALUE 0, s.delta 0x10 4), (R.UPD_UID_VALUE 1, s.delta 0x14 4), (R.UPD_STAT_STAGED, b2n s.deltaWhole)]

/-- STAGING_EXAMINE (R13, R459, R470, Table 13.7): at STANDBY after a start without a trial: IDLE, VERIFIED without writing, or
application from the beginning; the delta is checked again as one received is. -/
def execStagingExamine (s : State) : Out :=
  if s.mode ≠ mSTANDBY ∨ s.get R.UPD_STAT_STATE ≠ 0 ∨ s.upd.exam = false then .next s
  else
    let s := { s with upd.exam := false }.put R.UPD_STAT_STAGED (b2n s.deltaWhole)
    if s.deltaWhole && bit s.usable (s.delta 0xC 1) && imgSigned (s.delta 0xC 1) s.nor.staging &&
        s.delta 0x10 8 != s.upd.cur.uid then
      let s : State := { s.takeUid with upd.len := s.nor.staging.length, upd.got := s.nor.staging.length }
      let c := s.deltaCode s.upd.got
      .next (if c ≠ 0 then s.updTo 0 c else if s.banksMatch then s.updTo 4 0 else s.applying)
    else .next s

/-! ### The update's commands (R458 to R469, Table 13.9) -/

/-- A sector of staging erased: NOR cells read 0xFF. -/
def State.eraseStaging (s : State) : State :=
  let l := s.nor.staging
  { s with nor.staging := List.replicate (min 65536 l.length) 0xFF ++ l.drop 65536 }.put R.UPD_STAT_STAGED 0

/-- The result of UPD_CTL (Table 13.9). -/
def State.updResult (s : State) (r : Nat) : State := s.put R.UPD_CTL_RESULT r

/-- ABORT (R461). -/
def State.updAbort (s : State) : State :=
  let st := s.get R.UPD_STAT_STATE
  if s.mode = mLIMP then s.updResult 2
  else if st = 0 ∨ st = 7 then s.updResult 3
  else
    let s := if 3 ≤ st then s.voidBanks else s
    (((s.eraseStaging.setAt none).updTo 0 0x19).withdraw).updResult 1

/-- ARM (R462). -/
def State.updArm (s : State) (wp : Nat) : State :=
  let s := s.puts [(R.UPD_WP_VALUE 0, wp), (R.UPD_WP_VALUE 1, wp / 2 ^ 32)]
  if !s.inMode [mSTANDBY, mROAD, mFIELD, mSERVICE] then s.updResult 2
  else if s.get R.UPD_STAT_STATE ≠ 4 then s.updResult 3
  else if wp < s.now + 5120000 ∨ s.now + 483840000000000 < wp then s.updResult 5
  else
    let t := s.waypointEdge wp
    let s := { s with upd.wp := wp }
    ((((s.setAt (some t)).updTo 5 0).raise 118 [0, t]).carryWaypoint).updResult 1

/-- DISARM (R463): refused in the 16 ticks before AT. -/
def State.updDisarm (s : State) : State :=
  let st := s.get R.UPD_STAT_STATE
  if st ≠ 5 ∧ st ≠ 6 then s.updResult 3
  else if s.upd.lock then s.updResult 4
  else
    let t := s.upd.at_.getD 0
    ((((s.setAt none).updTo 4 0).raise 118 [1, t]).withdraw).updResult 1

/-- CONFIRM (R469, R473). -/
def State.updConfirm (s : State) : State :=
  if !s.inMode [mSTANDBY, mROAD, mFIELD, mSERVICE] then s.updResult 2
  else if s.get R.UPD_STAT_STATE ≠ 7 then s.updResult 3
  else
    let f := s.lastFrame
    let s := { s with nor.revoked := s.nor.revoked ||| bits (s.delta 0xE 1) 0 4 }
    let s := s.queueFrame { f with trial := 0, starts := 0, result := 1, frozen := [] }
    ((s.eraseStaging.puts [(R.UPD_SETFMT_OLD, 0), (R.UPD_STAT_STARTS, 0)]).updTo 0 1).updResult 1

/-- The frame that brings the previous banks back with a result (R468, R469), and the UID last confirmed. -/
def SetFrame.rolledBack (f : SetFrame) (result uid : Nat) : SetFrame :=
  { f with
    banks := bits f.banks 2 2 + 4 * bits f.banks 0 2
    trial := 0, starts := 0, result, uid, blocks := f.frozen, frozen := [] }

/-- The UID last confirmed, as the newest frame without a trial still gives it (DEDUCED, log entry `UID after a rollback`). -/
def Nor.confirmedUid (n : Nor) : Option Nat :=
  (newestIn ((n.sets.flatMap id).filter fun e => e.2.trial == 0)).map (·.uid)

/-- The frame of a rollback; where no frame without a trial stands any more, the UID last confirmed is free. -/
def State.rolledFrame (s : State) (f : SetFrame) (result : Nat) : SetFrame × State :=
  match s.nor.confirmedUid with
  | some u => (f.rolledBack result u, s)
  | none =>
    let (u, s) := s.free 64
    (f.rolledBack result u, s)

/-- ROLLBACK (R469): acts from the next start. -/
def State.updRollback (s : State) : State :=
  if !s.inMode [mSTANDBY, mSERVICE] then s.updResult 2
  else if s.get R.UPD_STAT_STATE ≠ 7 then s.updResult 3
  else
    let (f, s) := s.rolledFrame s.lastFrame 0x23
    let s := ({ s.queueFrame f with upd.rolled := true } : State).put R.UPD_SETFMT_OLD 0
    ((s.updTo 0 0x23).raise 117 [0x23, s.get (R.UPD_UID_VALUE 0)]).updResult 1

/-! ### The waypoint (R463 to R466) -/

/-- WAYPOINT_LOCK (R463): 16 ticks before AT. -/
def execWaypointLock (s : State) : Out :=
  match s.upd.at_ with
  | some t =>
    if s.get R.UPD_STAT_STATE = 5 ∧ t ≤ s.chr.tick + 16 ∧ s.chr.tick < t then
      .next { s with upd.lock := true }
    else .next s
  | none => .next s

/-- R464: a launching module in DUE at its entry to STANDBY sets AT 64 ticks ahead. -/
def State.dueStandby (s : State) : State :=
  if s.get R.UPD_STAT_STATE = 6 ∧ s.launching ∧ s.mode = mSTANDBY then
    ((s.setAt (some (s.chr.tick + 64))).updTo 5 0).carryWaypoint
  else s

/-- WAYPOINT_EDGE (R464, R465): at the edge AT: the activation, DUE, or EV118 with reason 4. A module on the ring that does not
launch acts only if the last valid announcement block that it received carried the waypoint with that AT. -/
def execWaypointEdge (s : State) : Out :=
  let own := s.upd.at_ == some s.chr.tick
  let st := s.get R.UPD_STAT_STATE
  let a := (s.station s.me).annWp
  if own && st == 5 && !s.launching && s.inserted && !(a.type == 3 && a.tick == s.chr.tick) then
    .next { s with upd.lock := false }
  else if own && st == 5 then
    if s.alm.modeWas = mSTANDBY ∨ s.alm.modeWas = mSERVICE then
      .next ((s.raise 118 [3, s.chr.tick]).enterReset 0x04)
    else .next (((s.setAt none).updTo 6 0).raise 118 [2, s.chr.tick]).dueStandby
  else
    let holds := a.arg == s.updUid && (st == 5 || st == 6)
    .next (if !s.launching && s.me == 1 && a.type == 3 && a.tick == s.chr.tick && !holds then
      s.raise 118 [4, s.chr.tick] else s)

/-! ### The start (R448, R467, R468, R471, R520, R522) -/

/-- R467: the boot loader checks the staged delta against the inactive banks and writes the trial frame, or refuses the
activation. -/
def State.trialFrame (s : State) : State :=
  if s.deltaWhole && s.banksMatch then
    let f := s.upd.cur
    let kind := s.delta 0xD 1
    let side (k : Nat) : Nat := if bit kind k then 1 - f.active k else f.active k
    s.writeFrame { f with
      banks := side 0 + 2 * side 1 + 4 * f.active 0 + 8 * f.active 1
      trial := 1, starts := 1, result := 0, uid := s.delta 0x10 8, blocks := [], frozen := f.blocks }
  else (s.put R.UPD_STAT_RESULT 0x16).raise 117 [0x16, s.delta 0x10 4]

/-- R468: a later start of a trial. -/
def State.trialStart (s : State) : State :=
  let f := s.upd.cur
  if f.starts = 3 then
    let (g, s) := s.rolledFrame f 0x20
    (s.writeFrame g).raise 117 [0x20, f.uid]
  else s.writeFrame { f with starts := f.starts + 1 }

/-- R467, R468, R471: what the boot loader does with the settings at a start. -/
def State.bootSettings (s : State) : State :=
  let s := match s.nor.newest with
    | some (_, f) => { s with upd.cur := f }.puts [(R.UPD_SET_GEN, f.gen), (R.UPD_STAT_RESULT, f.result)]
    | none => s
  let s := if s.nor.torn then { s with nor.torn := false }.raise 119 [0, s.upd.cur.gen] else s
  let s := if s.pwr.actDue then { s.trialFrame with pwr.actDue := false }
    else if s.upd.cur.trial = 1 then s.trialStart else s
  let s := s.put R.UPD_STAT_STAGED (b2n s.deltaWhole)
  let f := s.upd.cur
  if f.trial = 1 then
    (s.puts [(R.UPD_STAT_STARTS, f.starts), (R.UPD_UID_VALUE 0, f.uid), (R.UPD_UID_VALUE 1, f.uid / 2 ^ 32)]).updTo 7 f.result
  else { s with upd.exam := true }.put R.UPD_STAT_RESULT (if s.get R.UPD_STAT_RESULT = 0x16 then 0x16 else f.result)

/-- R520: the condition of the cause of the RESET, at an instant at which UB has lain in range for `okMs` and the last
entry's 1 ms wait has run for `heldMs`. DESIGN CHOICE (log entry `xrst release`): the supply conditions of R28 that R31
asks for after XRST_N are all of R28, IGN high and the 100 ms among them. -/
def State.mayRelease (s : State) (r : ReleaseIn) : Bool :=
  let c := s.pwr.rstCause
  let inRange := decide (8500 ≤ s.pwr.ub ∧ s.pwr.ub ≤ 36000)
  let r28 := inRange && decide (100 ≤ r.okMs) && s.flag R.PWR_STATUS_IGN
  s.pwr.powered && !s.pwr.holdUp && !s.pwr.stuck && !s.pwr.pdBegun && s.mode == mRESET && decide (2500 < r.xrstMv) &&
    (if c ∈ [0x00, 0x05, 0x06, 0x07] then r28
     else if c = 0x01 then r28 && decide (1 ≤ r.heldMs)
     else if c = 0x03 then decide (toInt 16 (s.get R.PWR_TEMP_TJ) ≤ 1840) && inRange
     else inRange && decide (1 ≤ r.heldMs) && (decide (r.heldMs ≤ r.okMs + 1) || decide (100 ≤ r.okMs)))

/-- R24: SSEL as the module reads it: 0 S0, 1 S1, 2 between. -/
def sselOf (mv : Nat) : Nat := if 3500 ≤ mv then 0 else if mv ≤ 1000 then 1 else 2

/-- R448: the Logbook controller checks the slot at WIDX; the parameter of EV111. -/
def State.logRecover (s : State) : State × Nat :=
  let r := slotGet s.log.widx s.log.slots
  if r.seq ≠ 0 ∧ r.seq = nextSeq s.log.lastSeq then
    ({ s with log := { s.log with
        widx := (s.log.widx + 1) % 524288, lastSeq := r.seq
        gen := if s.log.widx + 1 = 524288 then s.log.gen + 1 else s.log.gen } }.put R.LOG_STAT_RECOVERED 1, 1)
  else if r.seq = 0 ∧ r ≠ ({} : LogRec) then (s, 2)
  else (s, 0)

/-- The bits of a register word from the fields listed. -/
def State.pwrStatus (s : State) : Nat :=
  [R.PWR_STATUS_UB_WARN, R.PWR_STATUS_UB_SHED, R.PWR_STATUS_UB_RIDE, R.PWR_STATUS_UB_OV, R.PWR_STATUS_UV_LOSS,
    R.PWR_STATUS_T_WARN, R.PWR_STATUS_T_LIMP, R.PWR_STATUS_T_TRIP, R.PWR_STATUS_SHUTREQ,
    R.PWR_STATUS_IGN].foldr (fun f n => s.get f + 2 * n) 0

/-- The release of this firmware, and the silicon revision (Table 15.4). -/
def fwRelease : Nat := 0x0104
def siRevision : Nat := 0xA1

/-- RESET_RELEASE (R24, R58, R65, R448, R467, R468, R520, R522): the domains are released, the Logbook and the settings
come up, and LOAD begins with its first tick edge. -/
def execResetRelease (r : ReleaseIn) (s : State) : Out :=
  if !s.mayRelease r then .next s
  else
    let cause := s.pwr.rstCause
    let held := s.pwr.held
    let ssel := sselOf r.sselMv
    let s : State := { s with
      chr := { running := true }
      pwr := { s.pwr with ssel, held := [], clock := s.pwr.clock + 10 * r.heldMs }
      log := { s.log with up := true, starts := s.log.starts + 1, urgent := [], queue := [], lostSince := 0, last := none } }
    let s := s.puts [
      (R.ALM_MODE_MODE, mLOAD), (R.ALM_MODE_PREV, mRESET), (R.ALM_MODE_CAUSE, 0x10), (R.CHR_CLKSTAT_LOCK_T, 1), (R.CHR_CLKSTAT_LOCK_P, 1), (R.CHR_CLKSTAT_LOCK_C, 1),
      (R.CHR_CLKSTAT_LOCK_D, 1), (R.MRD_STATUS_ROLE, b2n (ssel == 1))]
    let (s, ev) := s.logRecover
    let s := s.raise 111 [ev]
    let s := s.sysRec 0x0100 [cause, s.pwrStatus, s.log.starts, fwRelease + 2 ^ 16 * siRevision]
    let s := held.foldl (fun t h =>
      t.enqueue { code := h.code, flags := logFlags (severity h.code h.params) mRESET (t.get R.CHR_DISC_TAI_VALID) false false
                  rep := h.count, params := h.params, held := true }) s
    let s := s.sysRec 0x0104 [mLOAD, mRESET, 0x10, 0]
    .next s.bootSettings

end Sys2Proof.Machine
end

