-- ==== Sys2Proof/Machine/Time.lean ====
section
/-! DEFINITION. The Chronometer: crossings and stamp points, discipline sources and the servo, steps of MT64, snapshots,
and the reads of its registers. -/

namespace Sys2Proof.Machine

/-! ### Stamp points and crossings -/

/-- STAMP (R92, R95): a stamp joins its point's queue of 8, or is dropped with EV012. The stamp comes with its point's fixed
delay removed (log entry `stamps come corrected`), but for the PPS points, whose delay the CHRONO record gives (Table 3.2). -/
def execStamp (point : Fin 66) (stamp : Nat) (s : State) : Out :=
  let q := s.stampQ point
  .next (if !s.chr.running then s
    else if q.stamps.length < 8 then s.setStampQ { q with stamps := q.stamps ++ [stamp] }
    else (s.setStampQ { q with lost := q.lost + 1 }).raise 12 [point, q.lost + 1])

/-- XING_PULSE (R114): a source pulse launches a toggle, waits or is lost; an acknowledge launches the next. -/
def execXingPulse (id : BitVec 16) (ack : Bool) (s : State) : Out :=
  let x := s.xing id.toNat
  if ack then
    if x.pend = 0 then .next (s.setXing { x with busy := false })
    else
      let x := { x with pend := x.pend - 1 }
      let s := s.setXing x
      .next (if x.pend = 0 then s.endEpisode x else s)
  else if !x.busy then .next (s.setXing { x with busy := true })
  else if x.pend < 15 then .next (s.setXing { x with pend := x.pend + 1 })
  else .next (s.setXing { x with lost := x.lost + 1 })

/-- XING_ACK_TIMEOUT (R118). -/
def execXingAckTimeout (id : BitVec 16) (s : State) : Out := .next ((s.raise 10 [id.toNat]).resetXing id.toNat)

/-! ### Register reads (R123) -/

/-- A master's latches. -/
def State.latch (s : State) (m : Nat) : Nat × Nat := ((s.chr.latches.find? fun l => l.1 == m).map (·.2)).getD (0, 0)

def State.setLatch (s : State) (m mt tick : Nat) : State :=
  { s with chr.latches := (s.chr.latches.filter fun l => l.1 != m) ++ [(m, mt, tick)] }

/-- A read of CHR_MT64_LO by a master. -/
def State.readMtLo (s : State) (m : Nat) : State :=
  { s.setLatch m (s.now / 2 ^ 32 % 2 ^ 32) (s.latch m).2 with rdata := s.now % 2 ^ 32 }

/-- A read of CHR_TICK_LO by a master. -/
def State.readTickLo (s : State) (m : Nat) : State :=
  { s.setLatch m (s.latch m).1 (s.chr.tick / 2 ^ 32 % 2 ^ 16) with rdata := s.chr.tick % 2 ^ 32 }

def execChrMt64LoRead (m : Nat) (phase : Fin 10000) (s : State) : Out := .next ((s.atPhase phase).readMtLo m)
def execChrTickLoRead (m : Nat) (s : State) : Out := .next (s.readTickLo m)

/-- CHR_XING_READ (R114). -/
def execChrXingRead (s : State) : Out :=
  .next { s.put R.CHR_XING_LOST 0 with rdata := 2 ^ 16 * s.get R.CHR_XING_LAST_ID + s.get R.CHR_XING_LOST }

/-! ### Snapshots (R102) -/

def State.setSnap (s : State) (slot : Nat) (x : Snap) : State :=
  { s with chr.snaps := s.chr.snaps.set slot x }.put R.CHR_SNAP_STAT_ARMED
    (setBit (s.get R.CHR_SNAP_STAT_ARMED) slot x.armed)

/-- GO of CHR_SNAP_CTL for a slot and the target tick count. DESIGN CHOICE (log entry `a busy slot answers first`): an armed
slot answers busy, and raises no EV011, whatever T is. -/
def State.snapArm (s : State) (slot t : Nat) : State :=
  if (s.chr.snaps.getD slot {}).armed then s.put R.CHR_SNAP_CTL_RESULT 4
  else if t < s.chr.tick + 2 then (s.put R.CHR_SNAP_CTL_RESULT 3).raise 11 [slot, t]
  else ((s.setSnap slot { armed := true, t := t }).put R.CHR_SNAP_CTL_RESULT 1).announce slot 1 t 0

/-- SNAP_ARM: the write of CHR_SNAP_AT and of CHR_SNAP_CTL with GO. -/
def execSnapArm (slot : Fin 4) (t : BitVec 48) (s : State) : Out :=
  let n := t.toNat
  .next ((s.puts [(R.CHR_SNAP_AT_AT_LO, n), (R.CHR_SNAP_CTL_AT_HI, n / 2 ^ 32), (R.CHR_SNAP_CTL_SLOT, slot)]).snapArm slot n)

/-- R203: a snapshot shows the state at the end of the tick before: TICK_EDGE has latched it as slot + 4. -/
def State.takeLatched (s : State) (slot : Nat) : State :=
  match s.hlm.snaps.find? fun p => p.1 == slot + 4 with
  | some (_, b) =>
    { s with hlm.snaps := (s.hlm.snaps.filter fun p => p.1 != slot && p.1 != slot + 4) ++ [(slot, b)] }
  | none => s.helmSnap slot

/-- SNAP_FIRE (R102, R206): at the edge where the tick count becomes T the groups latch their blocks; the set carries T and
MT64 of the edge. -/
def execSnapFire (slot : Fin 4) (s : State) : Out :=
  let x := s.chr.snaps.getD slot {}
  if x.armed ∧ x.t = s.chr.tick then
    .next (((s.setSnap slot { x with armed := false, mt := s.chr.base }).put R.CHR_SNAP_CTL_RESULT 2).orBits R.CHR_SNAP_STAT_FIRED
      (2 ^ slot.val)|>.takeLatched slot)
  else .next s

/-! ### Discipline sources (R103 to R106): codes 1 and 2 PPS, 3 and 4 gPTP -/

/-- A TAI second in MT units. -/
abbrev second : Nat := 800000000

/-- The codes of SRC_ORDER, most preferred first. -/
def State.srcOrder (s : State) : List Nat :=
  ([0, 1, 2, 3].map fun i => bits (s.get R.CHR_CFG_SRC_ORDER) (4 * i) 4).takeWhile (· ≠ 0)

/-- CHR_DISC.SOURCE as it reads. -/
def State.discSource (s : State) : Nat := if s.followsRing then 5 else s.get R.CHR_DISC_SOURCE

/-- The servo takes the events of a source (R103, R110, R148). -/
def State.takesRef (s : State) (code : Nat) : Bool :=
  s.alm.pilotUp && !s.alm.mgmtFailed && s.chr.running && !s.followsRing && s.srcOrder.contains code

def State.ref (s : State) (code : Nat) : Ref := s.chr.refs.getD (code - 1) {}

def State.modRef (s : State) (code : Nat) (f : Ref → Ref) : State :=
  { s with chr.refs := s.chr.refs.modify (code - 1) f }

def State.qualified (s : State) (code : Nat) : Bool := decide (8 ≤ (s.ref code).good)

/-- CHR_DISC.TAI_VALID changes (R266). -/
def State.setTai (s : State) (v : Bool) : State :=
  if s.flag R.CHR_DISC_TAI_VALID = v then s else (s.put R.CHR_DISC_TAI_VALID (b2n v)).taiChanged

/-- R106: the discipline state changes. -/
def State.discTo (s : State) (st : Nat) : State :=
  if s.get R.CHR_DISC_STATE = st then s
  else
    (({ s with chr.inTol := 0, chr.outTol := 0 } : State).put R.CHR_DISC_STATE st).raise 3
      [st, s.get R.CHR_DISC_SOURCE]

/-- A source comes into use: the servo acquires it. -/
def State.useSource (s : State) (code : Nat) : State :=
  let s := { s.put R.CHR_DISC_SOURCE code with chr.rateEst := (s.ref code).rate }
  if s.get R.CHR_DISC_STATE = 1 then { s with chr.inTol := 0, chr.outTol := 0 } else s.discTo 1

/-- R103: the most preferred qualified source of those listed is used; one in use that is listed and qualified stays. With
none qualified the source and the state stay as they are (Table 3.5 gives no change), and nothing is disciplined. -/
def State.pickSource (s : State) : State :=
  let now := s.get R.CHR_DISC_SOURCE
  let st := s.get R.CHR_DISC_STATE
  if (st = 1 ∨ st = 2) ∧ now ∈ s.srcOrder ∧ s.qualified now then s
  else
    match s.srcOrder.find? s.qualified with
    | some c => if (st = 1 ∨ st = 2) ∧ c = now then s else s.useSource c
    | none => s

/-- A source loses its run of good events. -/
def State.disqualify (s : State) (code : Nat) : State :=
  (s.modRef code fun r => { r with good := 0, qualTick := none, fast := 0 }).pickSource

/-- A good reference event. -/
def State.goodRef (s : State) (code : Nat) : State :=
  (s.modRef code fun r =>
    { r with good := r.good + 1, qualTick := if r.good = 7 then some s.chr.tick else r.qualTick }).pickSource

/-! ### The servo (R107, R108) -/

/-- The modes in which MT64 may step. -/
def State.quiet (s : State) : Bool := s.inMode [mLOAD, mPROVE, mSTANDBY, mSERVICE]

/-- R107: a step of whole ticks is announced for an edge at least 16 ticks ahead; a later waypoint moves with it. -/
def State.announceStep (s : State) (n : Int) : State :=
  let (lead, s) := s.free 16
  let edge := s.chr.tick + 16 + lead
  (({ s with chr.step := some (edge, n), chr.stepWait := none } : State).announce 4 2 edge
    (ofInt 64 (80000 * n))).retimeWaypoint

/-- R107: a measured offset: a step where steps are allowed; in ROAD, FIELD and LIMP one beyond 1 ms waits, and a step that waits
goes by the latest offset. -/
def State.considerStep (s : State) (off : Int) : State :=
  if s.quiet then
    if s.flag R.CHR_CFG_STEP_EN ∧ s.chr.step = none ∧ roundDiv off 80000 ≠ 0 then s.announceStep (roundDiv off 80000)
    else s
  else if 800000 < off.natAbs then
    let told := s.flag R.CHR_DISC_STEP_PENDING
    let s := (({ s with chr.stepWait := some off } : State).put R.CHR_DISC_STEP_PENDING 1).setTai false
    if told then s else s.raise 7 [ofInt 32 (satS 32 off)]
  else if s.chr.stepWait.isSome then { s with chr.stepWait := some off }
  else s

/-- R107: what of an offset is slewed: the remainder of a step that is announced or waits, else all of it. -/
def State.slewPart (s : State) (off : Int) : Int :=
  match s.chr.step, s.chr.stepWait with
  | some (_, n), _ => off - 80000 * n
  | none, some w => off - 80000 * roundDiv w 80000
  | none, none => off

/-- R107: after an entry to STANDBY the step that waited is made. -/
def State.stepAtStandby (s : State) : State :=
  match s.chr.stepWait with
  | some off =>
    if roundDiv off 80000 = 0 then { s with chr.stepWait := none }.put R.CHR_DISC_STEP_PENDING 0
    else if s.flag R.CHR_CFG_STEP_EN ∧ s.chr.step = none then s.announceStep (roundDiv off 80000)
    else s
  | none => s

/-- A rate in ppm as CHR_RATE holds it, Q8.23. -/
def ppm (n : Int) : Int := n * 8388608

/-- R106, R108: the correction that the servo chooses, within SLEW_MAX of the rate estimate and ±120 ppm (R90). -/
def State.setRate (s : State) (off : Int) : State :=
  let m := ppm (s.get R.CHR_CFG_SLEW_MAX)
  let want := clamp (-s.chr.rateEst - m) (-s.chr.rateEst + m)
    (Config.servoRate (s.get R.CHR_DISC_STATE) off s.chr.rateEst (toInt 32 (s.get R.CHR_RATE_VALUE)))
  { s with chr.rateWant := clamp (ppm (-120)) (ppm 120) want }

/-- R108: at every edge CHR_RATE moves to the correction chosen, by at most 200 ppm per second. -/
def State.rateEdge (s : State) : State :=
  let now := toInt 32 (s.get R.CHR_RATE_VALUE)
  let d := ppm 200 / 10000
  let v := clamp (now - d) (now + d) s.chr.rateWant
  { s.put R.CHR_RATE_VALUE (ofInt 32 v) with chr.corrSum := s.chr.corrSum + v }

/-- Table 3.5: ACQUIRE and LOCKED by the run of offsets. -/
def State.judge (s : State) (off : Int) : State :=
  let inT := if off.natAbs ≤ 32 then s.chr.inTol + 1 else 0
  let outT := if 160 < off.natAbs then s.chr.outTol + 1 else 0
  let s := { s with chr.inTol := inT, chr.outTol := outT }
  let pending := s.chr.step.isSome || s.flag R.CHR_DISC_STEP_PENDING
  if s.get R.CHR_DISC_STATE = 1 ∧ 8 ≤ inT ∧ !pending then (s.discTo 2).setTai true
  else if s.get R.CHR_DISC_STATE = 2 ∧ 3 ≤ outT then s.discTo 1
  else s

/-- A measured offset of a source: it counts when the source is in use. `whole` says that the second is known: the event
is a reference event, and counts when the source is qualified (R103); an edge without a time of day serves for rate and phase
within the second (R104). -/
def State.servo (s : State) (code : Nat) (off : Int) (whole : Bool) : State :=
  if s.get R.CHR_DISC_SOURCE ≠ code ∨ !(s.get R.CHR_DISC_STATE = 1 ∨ s.get R.CHR_DISC_STATE = 2) ∨
      (whole ∧ !s.qualified code) then s
  else
    let s := s.put R.CHR_OFFSET_VALUE (ofInt 32 (satS 32 off))
    let s := if whole then s.considerStep off else s
    let rest := s.slewPart off
    let s := (s.put R.CHR_DISC_SLEWING (b2n (decide (32 < rest.natAbs)))).setRate rest
    if whole then s.judge off else s

/-- An accepted event of a source at MT64 `a`. -/
def State.markRef (s : State) (code a : Nat) : State :=
  s.modRef code fun r => { r with edge := some a, tickAt := s.chr.tick, corrAt := s.chr.corrSum }

/-- The TCXO rate error against a source: `span` is the reference's time between two events, `got` the module's, under the
mean correction of the ticks between. The source in use gives the rate estimate (R104, R108). Table 3.9: EV002 at the eighth
event of a qualified source above 20 ppm. -/
def State.measureRate (s : State) (code : Nat) (span got : Int) : State :=
  if span ≤ 0 then s
  else
    let r := s.ref code
    let mean := if r.tickAt < s.chr.tick then roundDiv (s.chr.corrSum - r.corrAt) (s.chr.tick - r.tickAt)
      else toInt 32 (s.get R.CHR_RATE_VALUE)
    let err := roundDiv ((got - span) * 1000000 * 8388608) span - mean
    let s := if s.get R.CHR_DISC_SOURCE = code then { s with chr.rateEst := err } else s
    let n := if !s.qualified code then 0 else if ppm 20 < err.natAbs then r.fast + 1 else 0
    let s := s.modRef code fun r => { r with rate := err, fast := n }
    if n = 8 then (s.put R.CHR_CLKSTAT_TCXO_RATE 1).raise 2 [ofInt 32 (satS 32 err)] else s

/-! ### PPS (R104) -/

/-- A delay in 1/16 ns, 14.0 ns of R45 added, in MT units. DESIGN CHOICE (log entry `roundings to MT units`): to the nearest
unit, halves up. -/
def ppsDelay (d : Nat) : Nat := (d + 224 + 10) / 20

/-- An edge joins its source's run; without a time-of-day message it serves for rate and phase within the second. -/
def State.leaveUnnamed (s : State) (input code : Nat) (e : Nat) : State :=
  let s := (s.raise 5 [input, 3]).disqualify code
  s.servo code (second * roundDiv e second - e) false

/-- An accepted edge: after `k` seconds, with its measured span. Its second follows from the preceding edge's: in LIMP that names
it (R110), elsewhere its message does. -/
def State.ppsAccept (s : State) (input code a : Nat) (k : Nat) (prev : Option Nat) : State :=
  let r := s.ref code
  let span : Int := second * k
  let s := match prev with
    | some e => s.measureRate code span ((a : Int) - e)
    | none => s
  let s := match prev with
    | some e => if r.named || (s.mode == mLIMP && r.sec.isSome) then s else s.leaveUnnamed input code e
    | none => s
  let next := if prev.isSome then r.sec.map (· + k) else none
  let s := (s.markRef code a).modRef code fun r => { r with sec := next, named := s.mode == mLIMP && next.isSome }
  match next with
  | some t => if s.mode = mLIMP then (s.goodRef code).servo code ((second * t : Nat) - (a : Int)) true else s
  | none => s

/-- PPS_EDGE (R94, R95, R103, R104, R110): an active edge, stamped `raw` at its stamp point, checked as a reference event. An
edge whose stamp is missing is none. -/
def execPpsEdge (input : Fin 2) (raw : Option Nat) (s : State) : Out :=
  let code := input.val + 1
  let s := (s.tookStamp (ptPps input) raw).atPhase ((raw.map (· / 8)).getD s.chr.phase)
  if !s.takesRef code ∨ raw = none then .next s
  else
    let a := raw.getD 0 - ppsDelay (s.get (if input = 0 then R.CHR_PPS_DLY_PPS0 else R.CHR_PPS_DLY_PPS1))
    match (s.ref code).edge with
    | none => .next (s.ppsAccept input code a 0 none)
    | some e =>
      let d : Int := (a : Int) - e
      if d < second - 8000 then .next ((s.raise 5 [input, 0]).disqualify code)
      else if 10 * (second : Int) ≤ d then
        .next (((s.raise 5 [input, 2]).modRef code fun r => { r with edge := none, sec := none, named := false }).disqualify
          code)
      else
        let k := roundDiv d second
        if 8000 < (d - second * k).natAbs then .next ((s.raise 5 [input, 1]).disqualify code)
        else .next (s.ppsAccept input code a k.toNat (some e))

/-- TIME_OF_DAY (R104, R270): the TAI second of the edge that came up to 900 ms before the message. -/
def execTimeOfDay (input : Fin 2) (s : State) : Out :=
  match s.plt.tods.find? fun t => t.1 == input.val with
  | none => .next s
  | some (_, sec, a) =>
    let code := input.val + 1
    let s := { s with plt.tods := s.plt.tods.erase (input.val, sec, a) }
    match (s.ref code).edge with
    | none => .next s
    | some e =>
      if s.takesRef code ∧ !(s.ref code).named ∧ e ≤ a ∧ a ≤ e + 720000000 then
        let s := s.modRef code fun r => { r with sec := some sec, named := true }
        .next ((s.goodRef code).servo code ((second * sec : Nat) - (e : Int)) true)
      else .next s

/-! ### IEEE 802.1AS (R105, R510) -/

/-- HSICFG.GPTP of a port: 0 off, 1 slave only, 2 with the best master clock algorithm. -/
def State.gptpMode (s : State) (port : Nat) : Nat := bits (s.cfg 0x0F00 0 0x0A 1) (2 * port) 2

def State.gptpPort (s : State) (port : Nat) : GptpPort := s.hsi.gptp.getD port {}

/-- GPTP_SYNC (R95, R105): a Sync with its Follow_Up, received at the MT64 `rx`, sent at the TAI time `origin` in ns. One
whose receive stamp is missing is no reference event. DESIGN CHOICE (log entry `roundings to MT units`): the origin counts to
the nearest unit of 1.25 ns. -/
def execGptpSync (port : Fin 2) (rx : Option Nat) (origin : Nat) (s : State) : Out :=
  let code := port.val + 3
  let s := s.tookStamp (ptEth port 0) rx
  if !s.takesRef code ∨ s.gptpMode port = 0 ∨ (s.gptpPort port).master ∨ rx = none then .next s
  else
    let rx := rx.getD 0
    let r := s.ref code
    let org := (origin * 4 + 2) / 5
    let s := match r.edge, r.sec with
      | some rx0, some org0 => s.measureRate code ((org : Int) - org0) ((rx : Int) - rx0)
      | _, _ => s
    let s := (s.markRef code rx).modRef code fun r => { r with sec := some org, named := true }
    .next ((s.goodRef code).servo code ((org : Int) + r.delay - rx) true)

/-- GPTP_PDELAY_RESP (R95, R105): the exchange's stamps are taken, and with both of them it gives the path delay. -/
def execGptpPdelayResp (port : Fin 2) (x : PdelayIn) (s : State) : Out :=
  let s := (s.tookStamp (ptEth port 1) x.tx).tookStamp (ptEth port 0) x.rx
  .next (if s.gptpMode port = 0 ∨ x.tx = none ∨ x.rx = none then s
    else s.modRef (port.val + 3) fun r => { r with delay := x.delay })

/-- EV006; the manual does not number its reasons. -/
def State.gptpEvent (s : State) (port : Nat) : State :=
  let (why, s) := s.free 32
  s.raise 6 [port, why]

/-- GPTP_RECEIPT_TIMEOUT (R510): three intervals without a message: the reference is lost. -/
def execGptpReceiptTimeout (port : Fin 2) (s : State) : Out :=
  if s.gptpMode port = 0 ∨ (s.gptpPort port).master then .next s
  else
    let master := s.gptpMode port == 2 && s.get R.CHR_DISC_SOURCE != port.val + 3
    let s := { s with hsi.gptp := s.hsi.gptp.set port { gm := none, master := master } }
    .next ((s.gptpEvent port).modRef (port.val + 3) (fun r => { r with edge := none, sec := none }) |>.disqualify
      (port.val + 3))

/-- The clockClass and timeSource that the module announces (R510). -/
def State.clockClass (s : State) : Nat :=
  if s.get R.CHR_DISC_STATE = 2 ∧ s.get R.CHR_DISC_SOURCE ∈ [1, 2] then 6
  else if s.get R.CHR_DISC_STATE = 3 then 7 else 248

/-- The vector of the best master clock algorithm: priority1, class, accuracy, variance, priority2, identity. -/
def State.ownClock (s : State) : List Nat :=
  [s.cfg 0x0F00 0 0x0B 1, s.clockClass, 0x21, Config.gptpVariance, 248, Config.gptpIdentity]

/-- The first list is better: smaller at the first difference. -/
def betterClock : List Nat → List Nat → Bool
  | a :: l, b :: m => decide (a < b) || (a == b && betterClock l m)
  | _, _ => false

/-- GPTP_ANNOUNCE (R510): an Announce feeds the best master clock algorithm; a changed grandmaster raises EV006. -/
def execGptpAnnounce (port : Fin 2) (prio : List Nat) (gm : BitVec 64) (s : State) : Out :=
  let m := s.gptpMode port
  if m = 0 then .next s
  else
    let p := s.gptpPort port
    let master := m == 2 && s.get R.CHR_DISC_SOURCE != port.val + 3 && betterClock s.ownClock (prio ++ [gm.toNat])
    let gm' := if master then none else some gm.toNat
    let changed := p.gm.isSome && p.gm != gm'
    let s := { s with hsi.gptp := s.hsi.gptp.set port { gm := gm', master := master } }
    .next (if changed then s.gptpEvent port else s)

/-- GPTP_PDELAY_REQ (R510): every port that runs gPTP sends Pdelay_Req, and Announce in mode 2 while it is master. The
timeSource of clockClass 7 is not stated. -/
def execGptpPdelayReq (s : State) : Out :=
  let (x, s) := s.free 8
  let src := if s.clockClass = 6 then 0x20 else if s.clockClass = 7 then x else 0xA0
  let own (p : Nat) : List (Nat × Nat × List Nat) :=
    if s.gptpMode p = 0 then []
    else
      (p, 2, []) ::
        if (s.gptpPort p).master then [(p, 3, [s.cfg 0x0F00 0 0x0B 1, s.clockClass, 0x21, 248, src])] else []
  .next { s with hsi.net := own 0 ++ own 1 }

/-! ### Loss of the reference (Table 3.5) -/

/-- R106, R110: HOLDOVER is entered: the correction is frozen and TAI_VALID is 1 (Table 3.5). -/
def State.holdover (s : State) : State :=
  if s.get R.CHR_DISC_STATE = 3 then s
  else
    let s := { s with chr.holdTick := s.chr.tick, chr.rateWant := toInt 32 (s.get R.CHR_RATE_VALUE) }
    (s.discTo 3).setTai true

/-- Table 3.5: FREE is entered. DESIGN CHOICE (log entry `EV003 at the entry to FREE`): EV003 names the source that was in
use. -/
def State.freeRun (s : State) : State :=
  ((({ s with chr.rateWant := 0 } : State).discTo 0).puts [(R.CHR_DISC_SOURCE, 0), (R.CHR_DISC_SLEWING, 0)]).setTai false

/-- R103, R106, R122: a commit has written the Chronometer's parameters: with no source listed the module is FREE, and no
step of MT64 stands; else it disciplines from the best source listed. -/
def State.chronoCommitted (s : State) : State :=
  let s := s.put R.CHR_DISC_TAI_UTC (s.get R.CHR_REF_TAI_UTC)
  if s.get R.CHR_DISC_STATE = 0 then s
  else if s.srcOrder = [] then
    let s := if s.chr.step.isSome then s.announce 4 0 0 0 else s
    (({ s with chr.step := none, chr.stepWait := none } : State).put R.CHR_DISC_STEP_PENDING 0).freeRun
  else if s.get R.CHR_DISC_STATE = 3 then s
  else s.pickSource

/-- REFERENCE_LOST: 3 s without the reference while LOCKED. -/
def execReferenceLost (s : State) : Out :=
  if s.get R.CHR_DISC_STATE ≠ 2 then .next s
  else
    let code := s.get R.CHR_DISC_SOURCE
    .next (s.holdover.disqualify code)

/-- HOLDOVER_EXPIRY: HOLDOVER_S has elapsed: FREE, whose correction of 0 CHR_RATE reaches within the bound of R108. -/
def execHoldoverExpiry (s : State) : Out :=
  let n := s.chr.tick - s.chr.holdTick
  if s.get R.CHR_DISC_STATE = 3 ∧ 10000 * s.get R.CHR_REF_HOLDOVER_S ≤ n then
    .next (s.freeRun.raise 8 [n / 10000])
  else .next s

/-- SOURCE_SWITCH (R103): a more preferred source has stayed qualified for 60 s. -/
def execSourceSwitch (code : Fin 5) (s : State) : Out :=
  let pref := s.srcOrder.takeWhile (· ≠ s.get R.CHR_DISC_SOURCE)
  match (State.ref s code).qualTick with
  | some t =>
    if s.takesRef code ∧ code.val ∈ pref ∧ State.qualified s code ∧ t + 600000 ≤ s.chr.tick ∧
        s.get R.CHR_DISC_STATE ∈ [1, 2] then
      .next (s.useSource code)
    else .next s
  | none => .next s

/-! ### Failure of the management plane (R59, R110, R121) -/

/-- R59, Table 2.2: a management-plane failure: RESET with cause 0x08 in LOAD and PROVE, where the third within 60 s
keeps the module in RESET; LIMP with cause 0x31 at the edge elsewhere. -/
def State.mgmtFail (s : State) : State :=
  if s.inMode [mLOAD, mPROVE] then
    let fails := recent s.pwr.clock s.pwr.mgFails
    let s := { s with pwr := { s.pwr with mgFails := fails, stuck := s.pwr.stuck || decide (3 ≤ fails.length) } }
    s.enterReset 0x08
  else if s.inMode [mSTANDBY, mROAD, mFIELD, mSERVICE, mLIMP] && !s.alm.mgmtFailed then
    (({ s with alm := { s.alm with mgmtFailed := true }, mrd.mail := [] } : State).reqLimp 0x31).holdover
  else s

/-- PLL_P_UNLOCK (R59, R121): the Pilot stops; in LOAD and PROVE that is RESET with cause 0x08, elsewhere the watchdog
follows. -/
def execPllPUnlock (s : State) : Out :=
  let s := (s.put R.CHR_CLKSTAT_LOCK_P 0).raise 1 [1]
  let s := { s with alm := { s.alm with pilotUp := false } }
  .next (if s.inMode [mLOAD, mPROVE] then s.mgmtFail else s)

/-- WATCHDOG_EXPIRY (R59): 100 ticks without a heartbeat; heartbeats are due from the release of CTL. -/
def execWatchdogExpiry (s : State) : Out :=
  .next (if s.inMode [mRESET, mLOAD] then s else s.mgmtFail)

/-- LOCKSTEP_MISMATCH (R59): a management-plane failure in every mode but RESET. -/
def execLockstepMismatch (s : State) : Out := .next s.mgmtFail

/-! ### The step (R107) -/

/-- The step due at the edge just begun, MT units: the module's own, or the one its ring announced (R148). -/
def State.stepDue (s : State) : Option Int :=
  match s.chr.step with
  | some (t, n) => if t = s.chr.tick then some (80000 * n) else none
  | none =>
    let a := (s.station s.me).annStep
    if s.followsRing ∧ a.type = 2 ∧ a.tick = s.chr.tick then some (toInt 64 a.arg) else none

/-- A station that received the announcement adds ARG at its edge AT. -/
def Station.stepAt (x : Station) (tick : Nat) : Station :=
  if x.synced ∧ x.annStep.type = 2 ∧ x.annStep.tick = tick then { x with mt := x.mt + toInt 64 x.annStep.arg } else x

/-- MT64 steps by `d` here. -/
def State.stepMt (s : State) (d : Int) : State :=
  let s := { s with
    chr.base := ofInt 64 ((s.chr.base : Int) + d)
    chr.step := none
    chr.stepWait := none
    chr.refs := s.chr.refs.map fun (r : Ref) => { r with edge := r.edge.map fun e => ((e : Int) + d).toNat } }
  let s := s.puts [(R.CHR_DISC_STEPPED, 1), (R.CHR_DISC_STEP_PENDING, 0)]
  (s.raise 4 [ofInt 64 d, ofInt 64 d / 2 ^ 32, s.chr.tick]).pltStep d

/-- MT64_STEP (R107, R111, R148): at the announced edge MT64 jumps on every station; the tick count stays. A module that
has left the quiet modes does not step: the step waits again. -/
def execMt64Step (s : State) : Out :=
  let s := s.atPhase 0
  match s.stepDue with
  | none => .next s
  | some d =>
    if s.quiet then
      let s := { s with mrd.stations := s.mrd.stations.map fun (x : Station) => x.stepAt s.chr.tick }
      .next (s.stepMt d)
    else
      .next ((((({ s with chr.step := none, chr.stepWait := some d } : State).put R.CHR_DISC_STEP_PENDING 1).setTai
        false).raise 7 [ofInt 32 (satS 32 d)]).retimeWaypoint)

end Sys2Proof.Machine
end

