-- ==== Sys2Proof/Machine/Commit.lean ====
section
/-! DEFINITION. Commits (R82 to R85, R199 to R201): what takes effect at the edge that applies a region. -/

namespace Sys2Proof.Machine

/-- The record (type, instance) and offset whose byte a key holds. -/
def keyRec (k : Nat) : Option (Nat × Nat × Nat) :=
  if k < 2 ^ 51 then none
  else
    let n := k / 8 - 2 ^ 48
    some (n / 2 ^ 40, n / 2 ^ 24 % 2 ^ 16, n % 2 ^ 24)

/-- R200: the parameters of a channel that commits changed since its last computation, with their values before the
first. -/
def State.noteOld (s old : State) (e : Nat × Nat × Nat) : State :=
  match keyRec e.2.1 with
  | some (t, c, _) =>
    let was := (cellGet e.2.1 old.regs).getD (resetOf e.2.1)
    if 0x0300 ≤ t ∧ t ≤ 0x0304 ∧ was ≠ e.2.2 then
      s.modChan c fun x => if x.old.any fun o => o.1 == e.2.1 then x else { x with old := x.old ++ [(e.2.1, was)] }
    else s
  | none => s

/-- A byte of record (type, instance) in a span changed. -/
def State.recChanged (s old : State) (t i off n : Nat) : Bool := s.cfg t i off n != old.cfg t i off n

/-- What a region's owner does when a commit applies: Helm (R200), the direct I/O (R253), the slot maps (R169), calibration
(R318), Sextant (R345, R349), the CAN controllers (R423) and the Chronometer (TAI_UTC, R106). -/
def State.committed (s old : State) (r : Nat) (l : List (Nat × Nat × Nat)) : State :=
  if r < 8 then l.foldl (fun s e => State.noteOld s old e) s
  else if r = 8 then s.coilRefs
  else if r = 0x10 ∨ r = 0x11 then s.slotMapCheck old r
  else if r = 0x23 then
    -- CAL_WIN, T_TANK, T_AVG (Table 8.10).
    if s.recChanged old 0x0421 0 0x20 6 then s.modYld fun y => { y with changed := true } else s
  else if 0x30 ≤ r ∧ r ≤ 0x33 then
    let k := r - 0x30
    let s := s.put (R.SXT_PIPE_STAT_SETVER k) (s.get (R.SXT_PIPE_STAT_SETVER k) + 1)
    [2 * k, 2 * k + 1].foldl (fun s n => if s.recChanged old 0x0500 n 0x18 8 then s.blackChanged n else s) s
  else if 0x40 ≤ r ∧ r ≤ 0x45 then s.busCommitted old (r - 0x40) l
  else if r = 0x60 then s.chronoCommitted
  else s

/-- R82: at its edge a region's staged values all act together. -/
def State.commitApply (s : State) (r : Nat) : State :=
  if s.commits.any fun c => c.1 == r && decide (c.2 ≤ s.chr.tick) then
    let l := s.staged.filter fun e => e.1 == r
    let t : State := { s with
      regs := l.foldl (fun m e => cellStore e.2.1 e.2.2 m) s.regs
      staged := s.staged.filter fun e => e.1 != r
      commits := s.commits.filter fun c => c.1 != r }
    (t.put R.ALM_COMMIT_RESULT 2).committed s r l
  else s

/-- COMMIT_APPLY (R82), where the tick edge has not made the commit act. -/
def execCommitApply (region : BitVec 8) (s : State) : Out := .next (s.commitApply region.toNat)

/-- R203 step 2: the commits due at this edge act, in the order of their requests. -/
def State.commitEdge (s : State) : State := (s.commits.map (·.1)).foldl State.commitApply s

end Sys2Proof.Machine
end

