-- ==== Sys2Proof/Machine/Tick.lean ====
section
/-! DEFINITION. The tick edge (R100, R203): what acts at every edge, in the order of R203, and the change of mode. -/

namespace Sys2Proof.Machine

/-! ### Time and writes -/

/-- R97, R98: the tick count and MT64 advance, on this module and on every station whose time is loaded. -/
def State.advance (s : State) : State :=
  { s with
    alm.modeWas := s.mode
    pwr.clock := s.pwr.clock + 1
    chr.tick := (s.chr.tick + 1) % 2 ^ 48
    chr.base := (s.chr.base + 80000) % 2 ^ 64
    chr.phase := 0
    hsi.pushes := []
    mrd.stations := s.mrd.stations.map fun (x : Station) =>
      if x.synced then { x with tick := (x.tick + 1) % 2 ^ 48, mt := x.mt + 80000 } else x }

/-- EV000: the asynchronous domains (Table 3.1) that the edge reached outside its class P bound. -/
def State.lateEdges (s : State) (l : List Nat) : State :=
  (l.filter fun d => decide (3 ≤ d ∧ d ≤ 13)).foldl (fun t d => t.raise 0 [d]) s

/-- R203 step 1: the slots whose strobe fires at this edge latch their blocks. -/
def State.latchSnaps (s : State) : State :=
  (List.range 4).foldl (fun t k =>
    let x := t.chr.snaps.getD k {}
    if x.armed ∧ x.t = t.chr.tick then t.helmSnap (k + 4) else t) s

/-- A TICK-class write acts; one of HLM_AM.REQ is a request (R225). -/
def State.tickAct (s : State) (e : Nat × Nat) : State :=
  let s := { s with regs := cellStore e.1 e.2 s.regs }
  match (List.range 128).find? fun c => (R.HLM_AM_REQ c).key == e.1 with
  | some c => { s with hlm.amReq := s.hlm.amReq ++ [(c, e.2)] }
  | none => s

/-- R81, R101: the TICK-class writes of the tick that ends act. -/
def State.tickWrites (s : State) : State := s.tickW.foldl State.tickAct { s with tickW := [] }

/-- R150, R388: the ring inputs collected in the tick that ends come into force. -/
def State.ringInputs (s : State) : State := { s with mrd.inTab := s.mrd.inNext, mrd.inNext := [], mrd.copies := [] }

/-! ### Modes (R58 to R62, R84, R526, Table 2.3) -/

/-- The data plane leaves reset. -/
def State.dataUp (s : State) : State :=
  let s := if s.plt.up then s else s.pltStart.yldStart
  s.sxtStart.lktStart

/-- R120: the crossings that a block of DAT is a side of: those of the camera clocks, and those that the owning blocks number
so. -/
def datXing (id : Nat) : Bool := bits id 12 4 == 7 || bits id 8 4 == 7 || Config.xingDat id

/-- The data plane is held in reset (LIMP), with its crossings (R120). -/
def State.dataDown (s : State) : State :=
  let s := s.pltReset.sxtReset.lktReset
  ((s.chr.xings.filter fun x => datXing x.id).map (·.id)).foldl State.resetXing s

/-- R46, R153: the ring at the entry to a mode: loopback training in PROVE; KW opens at the entry to STANDBY when the
training has passed. -/
def State.ringMode (s : State) (old : Nat) : State :=
  if s.mode = mPROVE then s.put R.MRD_STATUS_INSERT 1
  else if old = mPROVE then
    if s.mode = mSTANDBY ∧ s.alm.trained then
      ({ s with mrd.good := (0, 0) } : State).coilTo 0 true |>.put R.MRD_STATUS_INSERT 2
    else s.put R.MRD_STATUS_INSERT 0
  else s

/-- R289: PLT_CTL.STOP ends when SERVICE is left. -/
def State.endStop (s : State) : State :=
  if s.plt.up ∧ s.flag R.PLT_CTL_STOP then ((s.put R.PLT_CTL_STOP 0).admitWaiting).jobsChanged else s

/-- R34: CTL comes out of reset with UV lost. -/
def State.supplyLost (s : State) : State :=
  if s.pwr.uvLost then (List.range 16).foldl (fun t n => t.put (R.DIO_PC_STAT_SUPPLY_LOST n) 1) s else s

/-- What each mode drives (R61, R526): Helm, the data plane, the CAN controllers, the ring and the update. The channels that
go on take the mode up in step 3 of R203. -/
def State.modeOutputs (s : State) (old : Nat) : State :=
  let s := if old = mLOAD then s.supplyLost else s
  let s := if old = mSERVICE then ((s.endStop).dropHeld 0).dropHeld 1 else s
  let s := if s.mode = mLIMP then s.dataDown else if s.inMode [mSTANDBY, mROAD, mFIELD, mSERVICE] then s.dataUp else s
  let s := if old = mPROVE then s.eachChan s.channels State.firstMode else s
  let s := (List.range 6).foldl (fun t c => t.busMode old c) s
  ((s.ringMode old).carryWaypoint).dueStandby

/-- A mode change takes effect (R58, R59, R62, R84), with its MODE record. -/
def State.enterMode (s : State) (m cause : Nat) : State :=
  let old := s.mode
  let s := s.puts [(R.ALM_MODE_MODE, m), (R.ALM_MODE_PREV, old), (R.ALM_MODE_CAUSE, cause)]
  let s := s.sysRec 0x0104 [m, old, cause, s.chr.tick]
  let s := if m = mLIMP then
      ({ s.discardStaged with pwr.modOkPhase := true } : State).put R.ALM_MODE_LIMP_SET
        (b2n (decide (old = mSTANDBY ∨ old = mSERVICE)))
    else s
  let s := s.modeOutputs old
  if m = mSTANDBY then { s with alm.standbySeen := true }.stepAtStandby else s

/-- The request that acts: a LIMP request, else the last one accepted. -/
def nextMode (l : List (Nat × Nat)) : Option (Nat × Nat) := (l.find? fun r => r.1 == mLIMP).or l.getLast?

/-- R58: a mode change accepted in the tick that ends acts; at the edge of an armed waypoint, which restarts the module
from STANDBY and SERVICE, none does (R464); and none leads out of LIMP (R63). -/
def State.modeEdge (s : State) : State :=
  let req := nextMode s.alm.modeReq
  let s := { s with alm.modeReq := [] }
  let restarts := decide (s.get R.UPD_STAT_STATE = 5 ∧ s.upd.at_ = some s.chr.tick ∧ (s.mode = mSTANDBY ∨ s.mode = mSERVICE))
  match req with
  | some (m, cause) => if restarts || m == s.mode || s.mode == mLIMP then s else s.enterMode m cause
  | none => s

/-- Table 2.4, R463: a shutdown request powers the module down in STANDBY and SERVICE, unless the waypoint locks it. -/
def State.shutdownEdge (s : State) : State :=
  if s.inMode [mSTANDBY, mSERVICE] ∧ s.flag R.PWR_STATUS_SHUTREQ ∧ !s.pwr.pdBegun ∧ !s.upd.lock then
    { s with pwr.pdBegun := true }
  else s

/-- R524: the ticks for which the standstill condition has held. -/
def State.stillEdge (s : State) : State :=
  if s.has 0x0C01 0 then
    let st := s.chState (s.cfg 0x0C01 0 0 2)
    { s with alm.stillCount :=
        if st = 0 ∨ st = 1 ∨ st = 4 ∨ st = 5 then 0 else if s.alm.stillOk then s.alm.stillCount + 1 else s.alm.stillCount }
  else s

/-- R203 steps 2 and 3 of Helm and the other blocks: TICK writes, commits, requests and broadcasts act, then the new mode. -/
def State.actEdge (s : State) : State := (((s.tickWrites).commitEdge).amEdge).broadcastEdge

def State.newMode (s : State) : State :=
  let s := (s.modeEdge).timetableEdge
  s.eachChan s.channels State.modeChan

/-- R441: the ticks in which a data-plane block has work admitted and completes nothing. -/
def State.quietEdge (s : State) : State :=
  let n (work : Bool) (q : Nat) : Nat := if work then q + 1 else 0
  let sx := s.sxt.pipes.any (·.run.isSome) || (List.range 8).any fun p => s.served p && s.blockReady p
  { s with
    plt.quiet := n (!s.plt.jobs.isEmpty) s.plt.quiet
    sxt.quiet := n sx s.sxt.quiet
    lkt.quiet := n (s.lkt.run.isSome || !s.lkt.waiting.isEmpty) s.lkt.quiet }

/-- TICK_EDGE (R100, R203): everything that is due at the edge acts, in the order of R203; `i` is what the module samples at
it. -/
def execTickEdge (i : TickIn) (s : State) : Out :=
  if !s.chr.running then .next s
  else
    let old := s.mode
    let imu := if s.dio.imuFault then none else some s.dio.imu
    let prev := s.chr.base
    let plotting := s.plt.up
    let s := (((s.advance.rateEdge.latchSnaps).hovEdge).actEdge.mbxEdge (s.chr.tick + 1)).ringInputs
    let s := s.puts [(R.PWR_SUPPLY_UB_MV, i.ubMv), (R.PWR_SUPPLY_UV_MV, i.uvMv)]
    let s := (s.lateEdges i.late).dioEdge i
    let s := ((s.newMode).shutdownEdge).annEdge
    let s := ((s.resetEdge).latchEdge).stillEdge
    let s := if plotting then s.pltEdge imu prev else s
    let s := ((s.camSync.quietEdge.confEdge.fabEdge).isoTick 0).isoTick 1
    .next (if old = mRESET ∨ old = mLOAD then s else s.binTick i.ntcOhm i.vlcdMv)

end Sys2Proof.Machine
end

