-- ==== Sys2Proof/Machine/RegAccess.lean ====
section
/-! DEFINITION. Writes and reads of the register windows (R11 to R14, R81 to R85, R516 to R518, R521): record windows,
change classes, commits, and what a register's value is. -/

namespace Sys2Proof.Machine

/-! ### Where an address lies -/

/-- The instance indices of an address, and its offset in the instance; none outside every instance. -/
def locateIn : (dims : List (Nat × Nat)) → (rest : Nat) → (span : Nat) → List Nat → Option (List Nat × Nat)
  | [], r, span, ix => if r < span then some (ix, r) else none
  | (n, st) :: ds, r, span, ix => if r / st < n then locateIn ds (r % st) span (ix ++ [r / st]) else none

def locate (base : Nat) (dims : List (Nat × Nat)) (span a : Nat) : Option (List Nat × Nat) :=
  if a < base then none else locateIn dims (a - base) span []

/-- An instance number from its indices, the last running fastest. -/
def instOf : (dims : List (Nat × Nat)) → (ix : List Nat) → Nat → Nat
  | (n, _) :: ds, i :: is, acc => instOf ds is (acc * n + i)
  | _, _, acc => acc

/-- A window that mirrors record bodies: address of the first instance, (count, stride) of each index, record type, body
length, byte spans (first, last) of class HALT and reserved; every other byte is COMMIT. -/
structure Win where
  base : Nat
  dims : List (Nat × Nat)
  type : Nat
  len : Nat
  halt : List (Nat × Nat) := []
  rsvd : List (Nat × Nat) := []
deriving DecidableEq, Repr

/-- The windows of R211, R255, R256, R289, R327, R366, R424 and R491. -/
def winTable : List Win := [
  ⟨0xF000311000, [(8, 0x10000), (16, 0x100)], 0x0300, 128, [(0x00, 0x07), (0x0A, 0x23)], [(0x32, 0x33), (0x75, 0x77)]⟩,
  ⟨0xF000314000, [(8, 0x10000), (16, 0x200)], 0x0301, 268, [], [(5, 7)]⟩,
  ⟨0xF000316000, [(8, 0x10000), (16, 0x40)], 0x0302, 32, [(0x0E, 0x19)], [(0x1A, 0x1F)]⟩,
  ⟨0xF000401000, [(64, 0x40)], 0x0400, 48, [(0, 5), (0x28, 0x2D)], [(0x2E, 0x2F)]⟩,
  ⟨0xF000402000, [(16, 0x40)], 0x0401, 64, [(0, 0x3F)], [(0x0A, 0x0F), (0x30, 0x3F)]⟩,
  ⟨0xF000402400, [], 0x0402, 64, [(0, 0x1B)], [(0x36, 0x3F)]⟩,
  ⟨0xF000402500, [(64, 0x10)], 0x0403, 16, [(0, 0x0F)], [(0x0E, 0x0F)]⟩,
  ⟨0xF000409000, [], 0x0410, 32, [(0, 2), (6, 9)], [(0x18, 0x1F)]⟩,
  ⟨0xF000409100, [(64, 0x20)], 0x0411, 32, [(0, 1), (4, 0x0B), (0x10, 0x13)], [(3, 3), (0x18, 0x1F)]⟩,
  ⟨0xF000409900, [], 0x0412, 16, [(4, 4)], [(8, 0x0F)]⟩,
  ⟨0xF000409A00, [], 0x0420, 64, [(0, 0x0B), (0x14, 0x1B), (0x3A, 0x3A), (0x3C, 0x3F)], [(0x3B, 0x3B)]⟩,
  ⟨0xF000409B00, [], 0x0421, 64, [(0, 7), (0x1C, 0x1F)], []⟩,
  ⟨0xF000501000, [(8, 0x100)], 0x0500, 128, [(0, 0x0D), (0x14, 0x15)],
    [(0x16, 0x17), (0x2E, 0x2F), (0x42, 0x43), (0x6E, 0x7F)]⟩,
  ⟨0xF000501800, [(4, 0x40)], 0x0501, 32, [(0, 0), (2, 9)], [(0x12, 0x1F)]⟩,
  ⟨0xF000501A00, [(4, 0x40)], 0x0504, 32, [(0, 5), (9, 9)], [(0x12, 0x1F)]⟩,
  ⟨0xF000504000, [(8, 0x2000)], 0x0502, 6144, [], []⟩,
  ⟨0xF000601000, [(16, 0x80)], 0x0601, 64, [(0, 3), (0x38, 0x38)], [(0x39, 0x3F)]⟩,
  ⟨0xF000900100, [(6, 0x10000)], 0x0900, 16, [(0, 0x0A)], [(0x0B, 0x0B), (0x0E, 0x0F)]⟩,
  ⟨0xF000902000, [(6, 0x10000), (256, 0x10)], 0x0901, 16, [], [(0x0B, 0x0F)]⟩,
  ⟨0xF000903000, [(6, 0x10000), (32, 0x10)], 0x0902, 16, [], [(0x0A, 0x0B)]⟩,
  ⟨0xF000903400, [(2, 0x10000)], 0x0903, 16, [(0, 9)], [(0x0A, 0x0F)]⟩,
  ⟨0xF000E00100, [], 0x0E00, 96, [], [(0x58, 0x5F)]⟩,
  ⟨0xF001101000, [(16, 0x200)], 0x1100, 352, [], [(0x0E, 0x0F), (0x1E, 0x1F)]⟩,
  ⟨0xF001103000, [(24, 8)], 0x1101, 8, [(0, 0)], [(3, 7)]⟩,
  ⟨0xF001103100, [(16, 8)], 0x1102, 8, [(0, 1)], [(5, 5)]⟩,
  ⟨0xF001103200, [(16, 4)], 0x1103, 4, [(0, 0)], [(2, 3)]⟩]

/-- R255: the table window of a group shows FRIC or COGG of the channel that HLM_TWSEL selects. -/
def fricWin (g : Nat) : Win := ⟨0xF000317000 + 0x10000 * g, [], 0x0303, 4128, [(0, 7)], [(0x0E, 0x0F), (0x14, 0x1F)]⟩
def coggWin (g : Nat) : Win := ⟨0xF000317000 + 0x10000 * g, [], 0x0304, 2080, [(0, 3)], [(5, 7), (0x10, 0x1F)]⟩

/-- The window, instance and body offset of an address. -/
def State.winAt (s : State) (a : Nat) : Option (Win × Nat × Nat) :=
  match winTable.findSome? fun w => (locate w.base w.dims w.len a).map fun (ix, off) => (w, instOf w.dims ix 0, off) with
  | some x => some x
  | none =>
    (List.range 8).findSome? fun g =>
      let i := 16 * g + s.get (R.HLM_TWSEL_CH g)
      let t := s.get (R.HLM_TWSEL_TAB g)
      let w := if t = 0 then fricWin g else coggWin g
      if 2 ≤ t then none else (locate w.base w.dims w.len a).map fun (_, off) => (w, i, off)

def inSpans (l : List (Nat × Nat)) (off : Nat) : Bool := l.any fun x => decide (x.1 ≤ off ∧ off ≤ x.2)

/-- Table 2.14: the commit region of a record's COMMIT fields. -/
def State.recRegion (s : State) (t i : Nat) : Nat :=
  match t with
  | 0x0300 | 0x0301 | 0x0302 | 0x0303 | 0x0304 => i / 16
  | 0x0400 => 0x21
  | 0x0402 => 0x20
  | 0x0410 | 0x0411 | 0x0412 => 0x22
  | 0x0420 | 0x0421 => 0x23
  | 0x0500 | 0x0502 => 0x30 + i / 2
  | 0x0501 => 0x30 + i
  | 0x0504 => 0x30 + s.codecB i 0 1 / 2 % 4
  | 0x0601 => 0x34
  | 0x0900 | 0x0903 => 0x40 + i
  | 0x0901 => 0x40 + i / 256
  | 0x0902 => 0x40 + i / 32
  | 0x0E00 => 0x50
  | _ => 0x08

/-- R202: no channel of the group is in RUN, HOLD or HANDOVER. -/
def State.groupIdle (s : State) (g : Nat) : Bool :=
  !(s.groupChans g).any fun c => [2, 3, 6].contains (s.chState c)

/-- R253: no channel in RUN, HOLD or HANDOVER reads the input (kind 0 AI, 1 PI, 2 DIO) or drives the DIO output. -/
def State.dioIdle (s : State) (kind n : Nat) : Bool :=
  !s.channels.any fun c => [2, 3, 6].contains (s.chState c) &&
    ((s.readSels c).contains (0x10000000 + 256 * kind + n) || (kind == 2 && s.chanB c 0x1C 4 == 0x20000000 + n))

/-- The pipeline is idle for HALT writes. -/
def State.pipeIdle (s : State) (k : Nat) : Bool := !s.sxt.up || s.flag (R.SXT_PIPE_STAT_IDLE k)

/-- R81: the owner of a record's HALT fields reports itself idle. -/
def State.recIdle (s : State) (t i : Nat) : Bool :=
  match t with
  | 0x0300 | 0x0302 | 0x0303 | 0x0304 => s.groupIdle (i / 16)
  | 0x0400 | 0x0401 | 0x0402 | 0x0403 | 0x0410 | 0x0411 | 0x0412 | 0x0420 | 0x0421 =>
    !s.plt.up || s.flag R.PLT_STATUS_IDLE
  | 0x0500 => s.pipeIdle (i / 2)
  | 0x0501 => s.pipeIdle i
  | 0x0504 => s.codecB i 0 1 == 0xFF || s.pipeIdle (s.codecB i 0 1 / 2)
  | 0x0601 => !s.lkt.up || s.flag R.LKT_STAT_IDLE
  | 0x0900 | 0x0903 => s.busStopped i
  | 0x1101 => s.dioIdle 0 i
  | 0x1102 => s.dioIdle 1 i
  | 0x1103 => s.dioIdle 2 i
  | _ => true

/-- R169: the ring is idle for MRD_CFG while it is bypassed. -/
def State.ringIdle (s : State) : Bool := s.get R.MRD_STATUS_INSERT == 0 || s.get R.MRD_STATUS_INSERT == 5

/-! ### What an address holds -/

/-- A field as a write of its register meets it: its place in the word, access type and class. -/
structure RField where
  lo : Nat
  fld : Fld
  acc : Acc
  cls : Cls
deriving DecidableEq, Repr

/-- What stands at an address: its fields, the region of COMMIT fields, whether HALT writes act, the record whose body a
window shows, and the register's first instance with the indices. -/
structure Target where
  fields : List RField
  region : Nat := 0
  idle : Bool := false
  body : Option (Nat × Nat) := none
  reg : Option (Nat × List Nat) := none
deriving DecidableEq, Repr

/-- A window's word. -/
def State.winTarget (s : State) (w : Win) (i off : Nat) : Target :=
  { fields := ([0, 1, 2, 3].filter fun k => !inSpans w.rsvd (off + k)).map fun k =>
      ⟨8 * k, recByte w.type i (off + k), .rw, if inSpans w.halt (off + k) then .halt else .commit⟩
    region := s.recRegion w.type i
    idle := s.recIdle w.type i
    body := some (w.type, i) }

/-- A register. -/
def State.regTarget (s : State) (d : RDesc) (ix : List Nat) (a : Nat) : Target :=
  { fields := d.fields.map fun f => ⟨f.lo, .at a f.lo f.w, f.acc, f.cls⟩
    region := d.region.1 + d.region.2 * ix.headD 0
    idle := s.ringIdle
    reg := some (d.addr, ix) }

/-- R11, R517: what a word-aligned address holds; none where the manual documents no register. -/
def State.target (s : State) (a : Nat) : Option Target :=
  if a % 4 ≠ 0 then none
  else
    match s.winAt a with
    | some (w, i, off) => some (s.winTarget w i off)
    | none =>
      regTable.findSome? fun d => (locate d.addr d.dims 4 a).map fun (ix, _) => s.regTarget d ix a

/-- The bits of the word that no field covers. -/
def Target.reserved (t : Target) (v : Nat) : Nat :=
  clearBits v (t.fields.map fun f => (2 ^ f.fld.w - 1) * 2 ^ f.lo).sum

/-- The address of the register that holds a field. -/
def Fld.reg (f : Fld) : Nat := f.key / 32 * 4

/-! ### Commits (R82 to R85) -/

/-- Table 2.14: the regions that are assigned. -/
def regions : List Nat :=
  List.range 9 ++ [0x10, 0x11] ++ List.range' 0x20 4 ++ List.range' 0x30 5 ++ List.range' 0x40 6 ++ [0x50, 0x60]

/-- R82, R83: a write of ALM_COMMIT with GO = 1, at the present phase. -/
def State.commitGo (s : State) (r : Nat) : State :=
  if !regions.contains r then s.put R.ALM_COMMIT_RESULT 4
  else if s.commits.any fun c => c.1 == r then (s.put R.ALM_COMMIT_RESULT 3).raise 115 [1]
  else
    let t := if s.chr.phase ≤ 9800 then s.chr.tick + 1 else s.chr.tick + 2
    { s with commits := s.commits ++ [(r, t)] }.put R.ALM_COMMIT_RESULT 1

/-- COMMIT (R82). -/
def execCommit (region : BitVec 8) (phase : Fin 10000) (s : State) : Out :=
  .next (((s.atPhase phase).put R.ALM_COMMIT_REGION region.toNat).commitGo region.toNat)

/-! ### Writes -/

/-- R81: a HALT write to a block that is running. -/
def State.lateWrite (s : State) (blk : Nat) : State :=
  (s.puts [(R.ALM_CHG_STATUS_LATE, 1), (R.ALM_CHG_STATUS_LATE_BLK, blk)]).raise 115 [0]

/-- R83: a COMMIT write to a region whose commit is pending. -/
def State.stageLocked (s : State) (region : Nat) : State :=
  (s.puts [(R.ALM_CHG_STATUS_STAGE_LOCKED, 1), (R.ALM_CHG_STATUS_STAGE_REGION, region)]).raise 115 [2]

/-- R81, R83: values for COMMIT fields of a region. -/
def State.stageWrite (s : State) (region : Nat) (l : List (Fld × Nat)) : State :=
  if l.isEmpty then s
  else if s.commits.any fun c => c.1 == region then s.stageLocked region
  else
    { s with staged := (s.staged.filter fun e => !(l.any fun x => x.1.key == e.2.1)) ++
        l.map fun x => (region, x.1.key, x.2 % 2 ^ x.1.w) }

/-- R202, R420: what follows an accepted HALT write. -/
def State.halted (s : State) (body : Option (Nat × Nat)) : State :=
  match body with
  | some (t, i) =>
    if 0x0300 ≤ t ∧ t ≤ 0x0304 then s.put (R.HLM_GSTAT_TT_STALE (i / 16)) 1
    else if t = 0x0903 ∧ s.isoUp i then s.isoClaim i (s.cfg 0x0903 i 8 1)
    else if t = 0x0504 ∧ s.sxt.up then s.streamSet i
    else s
  | none => s

/-- R81, R202: values for HALT fields. -/
def State.haltWrite (s : State) (t : Target) (blk : Nat) (l : List (Fld × Nat)) : State :=
  if l.isEmpty then s else if t.idle then (s.puts l).halted t.body else s.lateWrite blk

/-- R198, R227, R483: fields whose writes LIMP ignores; of HLM_AM that is REQ alone. -/
def State.limpIgnores (s : State) (blk : Nat) (t : Target) (f : RField) : Bool :=
  let host := match t.reg with
    | some (a, _) => [(R.HLM_SP_VALUE 0).reg, (R.HLM_AM_REQ 0).reg, (R.HLM_MAN_VALUE 0).reg].contains a
    | none => false
  s.mode == mLIMP &&
    ((blk == 0x03 && ((host && f.acc == .rw) || f.cls == .halt || f.cls == .commit)) || (blk == 0x0E && f.cls == .commit))

/-- R224: a write of HLM_AM.REQ has no effect on a channel with MAN_MODE 0. -/
def State.noMan (s : State) (t : Target) (f : RField) : Bool :=
  match t.reg with
  | some (a, [g, c]) => a == (R.HLM_AM_REQ 0).reg && f.acc == .rw && s.hctl (16 * g + c) 0x0E 1 == 0
  | _ => false

/-- A LIVE or TICK field of access RW or W1C (R81, R521). -/
def State.plainWrite (s : State) (f : RField) (v : Nat) : State :=
  match f.acc, f.cls with
  | .rw, .live => s.put f.fld v
  | .rw, .tick => if v = s.seen f.fld then s else s.putTick f.fld v
  | .w1c, _ => s.clrBits f.fld v
  | _, _ => s

/-- R81, R521: a word written to a register or a window. -/
def State.fieldsWrite (s : State) (blk : Nat) (t : Target) (v : Nat) : State :=
  let l := (t.fields.filter fun f => !s.limpIgnores blk t f && !s.noMan t f).map fun f => (f, bits v f.lo f.fld.w)
  let commits := (l.filter fun x => x.1.acc == .rw && x.1.cls == .commit && x.2 != s.seen x.1.fld).map fun x => (x.1.fld, x.2)
  let halts := (l.filter fun x => x.1.acc == .rw && x.1.cls == .halt && x.2 != s.get x.1.fld).map fun x => (x.1.fld, x.2)
  let s := l.foldl (fun s x => State.plainWrite s x.1 x.2) s
  (s.stageWrite t.region commits).haltWrite t blk halts

/-- A GO of SPD_MBX_CTL (R384, R386). -/
def State.mbxGo (s : State) : State :=
  let w := s.get R.SPD_MBX_IDX_INDEX
  if s.mode = mLIMP then s.put R.SPD_MBX_CTL_RESULT 3
  else if s.driven w then s.put R.SPD_MBX_CTL_RESULT 2
  else
    (s.mbxWrite w (s.get R.SPD_MBX_VAL_VALUE) (s.flag R.SPD_MBX_CTL_VALID) (s.get R.SPD_MBX_CTL_EXP)).put
      R.SPD_MBX_CTL_RESULT 1

/-- HLM_GRST: requests of channel and group resets (R207, R208). -/
def State.grstWrite (s : State) (g v : Nat) : State :=
  let cs := (List.range 16).filter fun c => bit v c
  let s := s.orBits (R.HLM_GRST_CH g) (v % 2 ^ 16)
  let s := { s with hlm.rstReq := s.hlm.rstReq ++ cs.map fun c => (16 * g + c, s.chr.tick) }
  if bit v 31 then { s.put (R.HLM_GRST_GROUP g) 1 with hlm.grpReq := s.hlm.grpReq ++ [(g, s.chr.tick)] } else s

/-- Registers whose writes have rules of their own: R48, R244, R289, R354, R407, R419, R475, R485 to R489; none elsewhere. -/
def State.ownWrite (s : State) (a i v : Nat) : Option State :=
  if a = R.PWR_RELAY_KW_CMD.reg then
    let clear (s : State) (f : Fld) (k : Nat) : State := if bit v k then s.put f 0 else s
    some ((clear (clear (clear (clear s R.PWR_RELAY_HELD 9) R.PWR_RELAY_IGNORED 8) R.PWR_RELAY_KE_FLT 7)
      R.PWR_RELAY_KW_FLT 6).relayCommand (bit v 0) (bit v 1))
  else if a = (R.HLM_GRST_CH 0).reg then some (s.grstWrite i v)
  else if a = (R.DIO_PC_STAT_OC 0).reg then some (if bit v 0 then s.pcOcClear i else s)
  else if a = R.DIO_OFLT_OC.reg then some (s.dioOfltClear (v % 2 ^ 16))
  else if a = R.PLT_CTL_STOP.reg then some (s.pltStop (bit v 0))
  else if a = (R.SXT_ENC_RD_VALUE 0).reg then some (s.encRead i v)
  else if a = (R.BUS_CTL_STOP 0).reg then
    let s := if bit v 0 = s.flag (R.BUS_CTL_STOP i) then s else s.busStop i (bit v 0)
    some (if bit v 2 then s.busRecover i else s)
  else if a = R.UPD_CTL_OP.reg then some s
  else if a = R.BIN_STAT_OUT_FLT.reg then
    let s := (s.outFltClear (bits v 6 10)).crackClear (bit v 3) (bit v 4)
    some (if bit v 1 then s.pumpClear else s)
  else if a = (R.BIN_STRESS_VALUE 0).reg then some (s.stressWrite i v)
  else none

/-- What a write sets off once its fields hold their values: a GO, or Lookout's pause. -/
def State.afterWrite (s : State) (a i v : Nat) : State :=
  if a = R.LKT_CTL_PAUSE.reg then s.lktStat
  else if !bit v 31 then s
  else if a = R.ALM_COMMIT_GO.reg then s.commitGo (s.get R.ALM_COMMIT_REGION)
  else if a = R.CHR_SNAP_CTL_GO.reg then
    s.snapArm (s.get R.CHR_SNAP_CTL_SLOT) (s.get R.CHR_SNAP_CTL_AT_HI * 2 ^ 32 + s.get R.CHR_SNAP_AT_AT_LO)
  else if a = R.HLM_BC_CTL_GO.reg then
    s.broadcast (s.get R.HLM_BC_VAL_VALUE) (s.get R.HLM_BC_CTL_WORD) (s.get R.HLM_BC_CTL_GMASK)
  else if a = R.PLT_TANK_CTL_GO.reg then
    let op := s.get R.PLT_TANK_CTL_OP
    if op = 0 then s.tankClose else if op ≤ 2 then s.tankCal op else s
  else if a = R.SPD_MARCH_CTL_GO.reg then
    s.marchGo (s.flag R.SPD_MARCH_CTL_MODE) (s.get R.SPD_MARCH_CTL_BANK) (s.get R.SPD_MARCH_CTL_FIRST)
      (s.get R.SPD_MARCH_CTL_LAST)
  else if a = R.SPD_MBX_CTL_GO.reg then s.mbxGo
  else if a = (R.BUS_TXCMD_GO 0).reg then
    let op := s.get (R.BUS_TXCMD_OP i)
    if op ≤ 1 then s.busReorder i (op == 1) else s
  else if a = (R.BUS_TXSUB_GO 0).reg then s.txGo i
  else if a = R.REP_CMD_GO.reg then s.repCommand (s.get R.REP_CMD_OP)
  else s

/-- The block identifier of an address in the register windows (R517). -/
def blockOfAddr (a : Nat) : Nat := (a - 0xF000000000) / 0x100000

/-- A write of a documented word. -/
def State.wordWrite (s : State) (a : Nat) (t : Target) (v : Nat) : State :=
  match t.reg with
  | some (d, ix) =>
    match s.ownWrite d (ix.headD 0) v with
    | some u => u
    | none => (s.fieldsWrite (blockOfAddr a) t v).afterWrite d (ix.headD 0) v
  | none => s.fieldsWrite (blockOfAddr a) t v

/-- R13, R81, R517, R521: a write of a register: undefined when a reserved bit is written as 1; without effect at an
address that holds no register, and while every master is held in reset. -/
def State.regWrite (s : State) (a v : Nat) : Out :=
  if s.mode = mRESET then .next s
  else
    match s.target a with
    | none => .next s
    | some t => if t.reserved v ≠ 0 then .fault .reservedFieldWritten else .next (s.wordWrite a t v)

/-- REGISTER_WRITE (R81). -/
def execRegisterWrite (addr : Nat) (value : BitVec 32) (s : State) : Out := s.regWrite addr value.toNat

/-! ### Reads -/

/-- A mask of flags over the eight groups. -/
def groupMask (f : Nat → Bool) : Nat := ((List.range 8).map fun g => b2n (f g) * 2 ^ g).sum

/-- REP_PORT of an input (Table 12.11). -/
def State.repPortCode (s : State) (dir : Nat) : Nat :=
  if s.rep.retiredPorts.contains dir then 3
  else
    match s.entryOf (portUnit dir) with
    | some (_, e) => if e.state = 2 then 2 else 1
    | none => 0

/-- A word of a Logbook slot (Table 12.7). -/
def LogRec.word (r : LogRec) (k : Nat) : Nat :=
  match k with
  | 0 => r.code + 2 ^ 16 * r.flags
  | 1 => r.rep + 2 ^ 16 * r.seq
  | 2 => r.mt % 2 ^ 32
  | 3 => r.mt / 2 ^ 32
  | k + 4 => r.params.getD k 0

/-- The registers whose value follows from other state: the register's first instance `a`, its indices and a field's lowest
bit; none for a field that holds its own value. -/
def State.derived (s : State) (m a : Nat) (ix : List Nat) (lo : Nat) : Option Nat :=
  let i := ix.headD 0
  if a = R.CHR_MT64_HI_VALUE.reg then some (s.latch m).1
  else if a = R.CHR_TICK_HI_VALUE.reg then some (s.latch m).2
  else if a = R.CHR_PHASE_CYCLE.reg then some s.chr.phase
  else if a = R.CHR_DISC_SOURCE.reg ∧ lo = 4 then some s.discSource
  else if a = R.PWR_RELAY_CNT_KW_COUNT.reg then some s.log.relayKw
  else if a = R.PWR_RELAY_CNT_KE_COUNT.reg then some s.log.relayKe
  else if a = (R.ALM_PENDING_PEND 0).reg then
    some ((List.range 32).map fun b => b2n (s.commits.any fun c => c.1 == 32 * i + b) * 2 ^ b).sum
  else if a = R.HLM_SUM_IDLE.reg then
    some (if s.inMode [mRESET, mLOAD] then 0 else if lo = 24 then groupMask fun g => s.flag (R.HLM_GSTAT_TT_FAIL g)
      else if lo = 16 then groupMask fun g => s.flag (R.HLM_GSTAT_DEGRADED g)
      else groupMask s.groupIdle)
  else if a = (R.HLM_GSTAT_IDLE 0).reg ∧ lo = 0 then
    some (b2n (s.groupIdle i && !s.inMode [mRESET, mLOAD]))
  else if a = (R.HLM_GSTAT_SL_OK 0).reg ∧ lo = 8 then some (if s.inMode [mRESET, mLOAD] then 0 else (s.groupA i).sum)
  else if a = (R.HLM_RATE_K_CFG 0).reg ∧ lo = 0 then some (s.chanB (16 * i + ix.getD 1 0) 2 1)
  else if a = (R.DIO_AI_STAT_NOMOD 0).reg ∧ lo = 2 then some (b2n (s.noMod i))
  else if a = R.DIO_IN_LEVEL.reg then some (s.dioLevel (10000 * s.chr.tick + s.chr.phase))
  else if a = R.REP_STAT_ACTIVE.reg ∧ lo = 24 then some (s.rep.table.countP Option.isSome)
  else if a = R.REP_STAT_ACTIVE.reg ∧ lo = 16 then
    some (s.rep.table.countP fun e => match e with
      | some e => e.state == 2
      | none => false)
  else if a = (R.REP_GRP_ISOLATED 0).reg then
    some (if lo = 16 then min 255 (s.unitsIn1s i).length
      else ((List.range 4).map fun x => (s.cell (4 * i + x)).isolated.length).sum)
  else if a = R.REP_PORT_WEST.reg then some (s.repPortCode (lo / 2))
  else if a = R.REP_HENT0_VALID.reg ∨ a = R.REP_HENT1_UNIT.reg ∨ a = (R.REP_HENT23_VALUE 0).reg then
    match s.rep.table.getD (s.get R.REP_HSEL_ENTRY) none with
    | none => some 0
    | some e =>
      some (if a = R.REP_HENT1_UNIT.reg then e.unit
        else if a = (R.REP_HENT23_VALUE 0).reg then e.mt / 2 ^ (32 * i) % 2 ^ 32
        else if lo = 31 then 1 else if lo = 28 then e.state else if lo = 27 then b2n e.esc
        else if lo = 24 then e.sev else min 255 e.rep)
  else if a = R.LOG_STAT_QDEPTH.reg ∧ lo = 16 then some (s.log.queue.length + s.log.urgent.length)
  else if a = R.LOG_WIDX_WIDX.reg then some s.log.widx
  else if a = R.LOG_GEN_VALUE.reg then some s.log.gen
  else if a = R.LOG_LAST_SEQ.reg then some (if lo = 16 then s.log.lastSeq else (slotGet ((s.log.widx + 524287) % 524288) s.log.slots).rep)
  else if a = (R.LOG_RD_VALUE 0).reg then some ((slotGet (s.get R.LOG_RSEL_SLOT) s.log.slots).word i)
  else if a = (R.SXT_PORT_STAT_STATE 0).reg ∧ lo = 0 then some (s.portState i)
  else if a = (R.SXT_PORT_RADDR_LO_VALUE 0).reg then
    some (if s.sxt.up then camBase i (s.get (R.SXT_PORT_RSEL_RING i)) % 2 ^ 32 else 0)
  else if a = (R.SXT_PORT_RADDR_HI_VALUE 0).reg then
    some (if s.sxt.up then camBase i (s.get (R.SXT_PORT_RSEL_RING i)) / 2 ^ 32 else 0)
  else if a = (R.SXT_PORT_RWIDX_VALUE 0).reg then
    some ((s.sxPort i).widx.getD (s.get (R.SXT_PORT_RSEL_RING i)) 0)
  else if a = R.FAB_STATUS_INFLIGHT.reg then some (if lo = 16 then max s.inflight (s.spd.hwm.getD 0 0) else s.inflight)
  else if a = (R.SPD_CONF_VALUE 0).reg then some (if i = 0 then 0 else s.spd.conf.getD i 0)
  else if a = (R.FAB_CLASS_BW 0).reg then
    some (if lo = 24 then max (s.tagsNow i) (s.spd.hwm.getD (i + 1) 0) else (Config.bandwidth i s.chr.tick).toNat)
  else if a = R.SPD_MBX_RD_VALUE.reg then some (s.mbx (s.get R.SPD_MBX_IDX_INDEX)).val
  else if a = R.SPD_MBX_RDST_VALID.reg then some (b2n (s.mbx (s.get R.SPD_MBX_IDX_INDEX)).valid)
  else if a = (R.BUS_STAT_STOPPED 0).reg ∧ lo = 4 then some (b2n (s.busStopped i))
  else if a = (R.BUS_STAT_SILENT 0).reg ∧ lo = 3 then some (b2n (s.busSilent i))
  else if a = R.HSI_STAT_HOSTS.reg ∧ lo = 3 then some s.hsi.hosts.length
  else if a = R.HSI_STAT_TOKEN_S.reg ∧ lo = 16 then
    some (match s.hsi.token with
      | some k => (k.expiry - s.chr.tick + 9999) / 10000
      | none => 0)
  else none

/-- What a field reads as: 0 for a WO field, the staged or waiting value of a writable one (R12, R81). -/
def State.fieldRead (s : State) (m : Nat) (t : Target) (f : RField) : Nat :=
  match f.acc with
  | .wo => 0
  | .rw => s.seen f.fld
  | _ =>
    match t.reg with
    | some (a, ix) => (s.derived m a ix f.lo).getD (s.get f.fld)
    | none => s.get f.fld

/-- The word that a target reads as, for a master. -/
def State.wordRead (s : State) (m : Nat) (t : Target) : Nat :=
  (t.fields.map fun f => s.fieldRead m t f % 2 ^ f.fld.w * 2 ^ f.lo).sum

/-- The state a command leaves when it answers one. -/
def State.after (s : State) : Out → State
  | .next t => t
  | _ => s

/-- Reads with rules of their own (R102, R114, R123, R289, R340, R374, R397). -/
def State.ownRead (s : State) (m a i : Nat) : Option State :=
  if a = R.CHR_MT64_LO_VALUE.reg then some (s.readMtLo m)
  else if a = R.CHR_TICK_LO_VALUE.reg then some (s.readTickLo m)
  else if a = R.PLT_JOBS_HWM.reg then some (s.after (execPltJobsRead s))
  else if a = (R.SXT_PORT_HWM_VALUE 0).reg then some (s.after (execSxtPortHwmRead (Fin.ofNat 8 i) s))
  else if a = (R.SPD_CONF_VALUE 0).reg then some (s.after (execSpdConfRead (Fin.ofNat 8 i) s))
  else if a = R.FAB_STATUS_HWM.reg then some (s.after (execFabStatusRead s))
  else if a = (R.FAB_CLASS_BW 0).reg then some (s.after (execFabClassRead (Fin.ofNat 5 i) s))
  else none

/-- A read of a documented word: RS fields clear. -/
def State.targetRead (s : State) (m : Nat) (t : Target) : State :=
  let plain : State :=
    { s.puts ((t.fields.filter fun f => f.acc == .rs).map fun f => (f.fld, 0)) with rdata := s.wordRead m t }
  match t.reg with
  | some (a, ix) => (s.ownRead m a (ix.headD 0)).getD plain
  | none => plain

/-- R411, Table 11.6: the windows of the receive objects: word 0 locks, word 3 + N releases. -/
def State.rxoRead (s : State) (m a : Nat) : Option State :=
  (locate 0xF000908000 [(6, 0x10000), (256, 0x80)] 0x80 a).map fun (ix, off) =>
    let c := ix.headD 0
    let o := ix.getD 1 0
    let n := s.rxB c o 8 1 / 4
    if off / 4 = 0 then s.rxLock c o m
    else if off / 4 = 3 + n then s.rxRelease c o m
    else { s with rdata := if off / 4 < 4 + n then (s.rxObj c o).word (off / 4) else 0 }

/-- R206, Table 5.14: the snapshot blocks. -/
def State.snapWord (s : State) (a : Nat) : Option State :=
  (locate 0xF00031C000 [(8, 0x10000), (4, 0x400), (16, 0x40)] 0x40 a).map fun (ix, off) =>
    let b := match s.hlm.snaps.find? fun p => p.1 == ix.getD 1 0 with
      | some (_, l) => l.getD (16 * ix.headD 0 + ix.getD 2 0) []
      | none => []
    { s with rdata := leNat ((b.drop off).take 4) }

/-- R12, R123, R516 to R518: master `m` reads a word: `rdata` holds what it returns. -/
def State.regRead (s : State) (m a : Nat) : State :=
  if a < 0x400000000 then { s with rdata := s.dramRead a }
  else
    match s.rxoRead m a with
    | some t => t
    | none =>
      match s.snapWord a with
      | some t => t
      | none =>
        match s.target a with
        | some t => s.targetRead m t
        | none => { s with rdata := 0 }

end Sys2Proof.Machine
end

