-- ==== Sys2Proof/Machine/Hsi.lean ====
section
/-! DEFINITION. The Host Service Interface (Host Service Interface and Fleet Link): requests and replies, tokens, messages,
bulk data, streams, sensors and the port services. -/

namespace Sys2Proof.Machine

/-! ### Ports, hosts and requests (R493 to R496) -/

/-- The management plane runs: the module answers on its ports. -/
def State.hsiUp (s : State) : Bool := s.pwr.powered && s.mode != mRESET && s.alm.pilotUp && !s.alm.mgmtFailed

/-- The address of a port, once it has one (R493). -/
def State.portIp (s : State) (eth : Nat) : Option Nat :=
  if eth = 2 then some 0xC0A88001
  else if s.has 0x0F00 0 then some (s.ipField 0x0F00 0 (4 * eth))
  else none

/-- R493: the port answers HSI requests. -/
def State.hsiPort (s : State) (eth : Nat) : Bool := eth == 2 || (s.has 0x0F00 0 && bit (s.cfg 0x0F00 0 0x12 1) eth)

/-- What a request's meaning answers: the state it leaves, STATUS, COND, what follows COND, and whether a register write
was undefined (R13). -/
structure Ans where
  st : State
  status : Nat := 0
  cond : Nat := 0
  body : List Nat := []
  undef : Bool := false

def Ans.ok (s : State) (body : List Nat := []) : Ans := { st := s, body := body }
def Ans.refuse (s : State) (cond : Nat) (body : List Nat := []) : Ans := { st := s, status := 1, cond := cond, body := body }
def Ans.busy (s : State) : Ans := { st := s, status := 4 }

def isHost (ip port : Nat) (h : HsiHost) : Bool := h.ip == ip && h.port == port

/-- The host that a header names. -/
def State.hostOf (s : State) (h : HsiHdr) : Option HsiHost := s.hsi.hosts.find? (isHost h.ip.toNat h.port.toNat)

/-- The host heard from the longest ago. -/
def oldest : List HsiHost → Option HsiHost
  | [] => none
  | a :: l =>
    match oldest l with
    | some b => if a.seen ≤ b.seen then some a else some b
    | none => some a

/-- R495: a request's host is tracked; a ninth displaces the one idle longest. -/
def State.seeHost (s : State) (h : HsiHdr) : State :=
  let ip := h.ip.toNat
  let port := h.port.toNat
  match s.hostOf h with
  | some x =>
    { s with hsi.hosts := (s.hsi.hosts.filter fun y => !isHost ip port y) ++ [{ x with last := s.chr.tick, seen := s.chr.tick }] }
  | none =>
    let l := if s.hsi.hosts.length < 8 then s.hsi.hosts
      else match oldest s.hsi.hosts with
        | some o => s.hsi.hosts.filter fun y => !isHost o.ip o.port y
        | none => s.hsi.hosts
    { s with hsi.hosts := l ++ [{ ip := ip, port := port, last := s.chr.tick }] }

/-- The host's entry changed. -/
def State.modHost (s : State) (h : HsiHdr) (f : HsiHost → HsiHost) : State :=
  { s with hsi.hosts := s.hsi.hosts.map fun (x : HsiHost) => if isHost h.ip.toNat h.port.toNat x then f x else x }

/-- R497, R498: the request carries the valid token of its host. -/
def State.tokenOk (s : State) (h : HsiHdr) : Bool :=
  match s.hsi.token with
  | some t => t.val == h.token.toNat && t.val != 0 && t.ip == h.ip.toNat && t.port == h.port.toNat &&
      decide (s.chr.tick < t.expiry ∧ s.chr.tick < t.used + 600000)
  | none => false

/-- R498: a message carrying the token restarts the idle time. -/
def State.useToken (s : State) (h : HsiHdr) : State :=
  if s.tokenOk h then { s with hsi.token := s.hsi.token.map fun (t : HsiToken) => { t with used := s.chr.tick } } else s

/-- The messages of the recovery state (R501). -/
def recoveryTypes : List Nat := [0x0001, 0x0080, 0x0081, 0x0082, 0x0083, 0x00F0, 0x00F1]

/-- The messages that LIMP refuses (R499). -/
def limpTypes : List Nat := [0x0010, 0x0011, 0x0012, 0x0021, 0x0042, 0x0091]

/-- R499: why a request is refused before its own conditions are looked at. -/
def State.gateCond (s : State) (typ : Nat) : Option Nat :=
  if s.alm.recovery then if recoveryTypes.contains typ then none else some 7
  else if !s.inMode [mSTANDBY, mROAD, mFIELD, mLIMP, mSERVICE] && typ != 0x0001 then some 7
  else if s.mode == mLIMP && limpTypes.contains typ then some 8
  else none

/-- A reply leaves, and is stored for a duplicate (R495, R496). -/
def State.replyTo (s : State) (h : HsiHdr) (typ status cond : Nat) (body : List Nat) : State :=
  let r : HsiReply := { typ := typ + 0x8000, seq := h.seq.toNat, status := status, cond := cond, body := body }
  ({ s with hsi.reply := some r } : State).modHost h fun x => { x with reply := some r }

/-- The stored reply that answers a duplicate within 1 s (R495). -/
def State.dupReply (s : State) (h : HsiHdr) : Option HsiReply :=
  match s.hostOf h with
  | some x => x.reply.filter fun r => r.seq == h.seq.toNat && decide (s.chr.tick ≤ x.last + 10000)
  | none => none

/-- A request of a message type (R493 to R499): on a port that answers, it is a duplicate, refused, or done. -/
def State.request (s : State) (h : HsiHdr) (typ : Nat) (needTok : Bool) (act : State → Ans) : Out :=
  let s := s.atPhase h.phase
  if !s.hsiUp || !s.hsiPort h.eth || (s.alm.recovery && h.eth != 2) then .next s
  else
    match s.dupReply h with
    | some r =>
      let s := (s.modHost h fun x => { x with seen := s.chr.tick }).useToken h
      .next { s.bump R.HSI_CNT0_DUP with hsi.reply := some r }
    | none =>
      let held := s.tokenOk h
      let s := (s.seeHost h).useToken h
      match s.gateCond typ with
      | some c => .next (s.replyTo h typ 1 c [])
      | none =>
        if needTok && !held then .next (s.replyTo h typ 1 4 [])
        else
          let a := act s
          if a.undef then .fault .reservedFieldWritten
          else .next (a.st.replyTo h typ a.status a.cond a.body)

/-! ### Status (Table 15.4) -/

/-- The bus master that the HSI is (R518). -/
abbrev hsiMaster : Nat := 1

/-- A register's word as the HSI reads it. -/
def State.wordAt (s : State) (a : Nat) : Nat :=
  match s.target a with
  | some t => s.wordRead hsiMaster t
  | none => 0

/-- The ordering code, zero-padded. -/
def orderCode : List Nat := ("SC128-HM1".toList.map Char.toNat) ++ List.replicate 7 0

/-- Bytes of the running Almanac's header. -/
def State.almBytes (s : State) (off n : Nat) : List Nat :=
  if s.alm.present.isEmpty then List.replicate n 0
  else (((s.bank 1 (s.get R.ALM_LOAD_ALM_BANK)).drop off).take n ++ List.replicate n 0).take n

/-- The seconds left on the token. -/
def State.tokenLeft (s : State) : Nat :=
  match s.hsi.token with
  | some k => (k.expiry - s.chr.tick + 9999) / 10000
  | none => 0

/-- The status body for a host. -/
def State.statusBody (s : State) (ip port : Nat) : List Nat :=
  let ours := match s.hsi.token with
    | some t => t.ip == ip && t.port == port
    | none => false
  orderCode ++ [siRevision, 0] ++ leBytes 2 fwRelease ++ s.almBytes 0x10 4 ++ s.almBytes 0x20 16 ++
    (if s.alm.present.isEmpty then List.replicate 16 0 else s.bodyBytes 0x0C00 0 16) ++ leBytes 8 s.now ++
    leBytes 8 s.chr.tick ++
    ([R.ALM_MODE_MODE, R.PWR_STATUS_UB_WARN, R.CHR_DISC_STATE, R.MRD_STATUS_ROLE, R.HLM_SUM_IDLE, R.REP_STAT_ACTIVE,
      R.UPD_STAT_STATE, R.PLT_STATUS_IDLE].flatMap fun f => leBytes 4 (s.wordAt f.reg)) ++
    leBytes 4 s.log.widx ++ leBytes 4 (s.wordAt R.ALM_LOAD_ALM_BANK.reg) ++
    leBytes 4 (b2n s.hsi.token.isSome + 2 * b2n ours + 2 ^ 16 * s.tokenLeft) ++ List.replicate 12 0

/-- STATUS_GET. -/
def execStatusGet (h : HsiHdr) (s : State) : Out :=
  s.request h 0x0001 false fun s => .ok s (s.statusBody h.ip.toNat h.port.toNat)

/-- A subscription replaces the host's own of the same kind and number. -/
def State.subscribe (s : State) (b : HsiSub) : State :=
  { s with hsi.subs := (s.hsi.subs.filter fun x =>
      !(x.kind == b.kind && x.n == b.n && x.ip == b.ip && x.port == b.port)) ++ [b] }

/-- STATUS_SUB. -/
def execStatusSub (h : HsiHdr) (period life : Nat) (s : State) : Out :=
  s.request h 0x0002 false fun s =>
    if period < 1 ∨ 10000 < period ∨ life < 1 ∨ 60 < life then .refuse s 12
    else .ok (s.subscribe
      { kind := 0, n := 0, eth := h.eth, ip := h.ip.toNat, port := h.port.toNat, div := period, start := s.chr.tick
        stop := s.chr.tick + 10000 * life })

/-- STATUS_PUSH: the status goes to a subscriber at each of its periods. -/
def execStatusPush (ip : BitVec 32) (port : BitVec 16) (s : State) : Out :=
  let t := s.chr.tick
  let due := s.hsi.subs.any fun b => b.kind == 0 && b.ip == ip.toNat && b.port == port.toNat &&
    decide (b.start < t ∧ t ≤ b.stop) && (t - b.start) % b.div == 0
  .next (if due && s.hsiUp then
    { s with hsi.pushes := s.hsi.pushes ++ [(0x0002, s.statusBody ip.toNat port.toNat)] } else s)

/-- SUBSCRIPTION_EXPIRY (R499, R506, R507): lifetimes that have passed. -/
def execSubscriptionExpiry (s : State) : Out :=
  .next { s with
    hsi.subs := s.hsi.subs.filter fun b => decide (s.chr.tick < b.stop)
    hsi.canSub := s.hsi.canSub.filter fun x => decide (s.chr.tick < x.2.2) }

/-! ### Commands to the control plane (R500) -/

/-- The tick count of the coming edge, as replies give it. -/
def State.nextTick (s : State) : List Nat := leBytes 4 (s.chr.tick + 1)

/-- SETPOINT. -/
def execSetpoint (h : HsiHdr) (l : List (Nat × BitVec 32)) (s : State) : Out :=
  s.request h 0x0010 false fun s =>
    if s.mode = mSERVICE then .refuse s 7
    else if l.isEmpty || 32 < l.length || l.any fun e => decide (128 ≤ e.1) then .refuse s 12
    else .ok (l.foldl (fun s e => s.putTick (R.HLM_SP_VALUE e.1) e.2.toNat) s) s.nextTick

/-- MAILBOX: entries of index, value, VALID, EXP. -/
def execMailbox (h : HsiHdr) (l : List (Nat × BitVec 32 × Nat × Nat)) (s : State) : Out :=
  s.request h 0x0011 false fun s =>
    if l.isEmpty || 32 < l.length || l.any fun e => decide (65535 < e.1 ∨ 1 < e.2.2.1 ∨ 255 < e.2.2.2) then .refuse s 12
    else if l.any fun e => s.driven e.1 then .refuse s 13
    else .ok (l.foldl (fun s e => s.mbxWrite e.1 e.2.1.toNat (e.2.2.1 == 1) e.2.2.2) s) (l.map fun _ => 1)

/-- AM: HLM_AM.REQ, which has no effect with MAN_MODE 0 (R224), and HLM_MAN. -/
def execAm (h : HsiHdr) (ch req : Nat) (man : BitVec 32) (s : State) : Out :=
  s.request h 0x0012 false fun s =>
    if 128 ≤ ch ∨ 1 < req then .refuse s 12
    else
      let t := if s.hctl ch 0x0E 1 = 0 ∨ req = s.seen (R.HLM_AM_REQ ch) then s else s.putTick (R.HLM_AM_REQ ch) req
      .ok (t.putTick (R.HLM_MAN_VALUE ch) man.toNat) s.nextTick

/-- R60, R69, R157, Table 2.2: the cause of a host mode command, or the condition that refuses it. -/
def State.modeCond (s : State) (h : HsiHdr) (target : Nat) : Nat × Nat :=
  let road := target = mROAD ∨ target = mFIELD
  if target < 3 ∨ 7 < target then (12, 0)
  else if target = mLIMP then if s.inMode [mSTANDBY, mROAD, mFIELD] then (0, 0x34) else (1, 0)
  else if s.mode = mSTANDBY ∧ road then
    if s.flag R.UPD_STAT_MIXED then (6, 0)
    else if s.upd.lock then (5, 0)
    else if !s.flag R.ALM_MODE_RING_READY then (2, 0)
    else (0, 0x20)
  else if (s.mode = mROAD ∧ target = mFIELD) ∨ (s.mode = mFIELD ∧ target = mROAD) then
    if s.flag R.ALM_MODE_RING_READY then (0, 0x20) else (2, 0)
  else if (s.mode = mROAD ∨ s.mode = mFIELD) ∧ target = mSTANDBY then if s.standstill then (0, 0x20) else (3, 0)
  else if s.mode = mSTANDBY ∧ target = mSERVICE then if s.tokenOk h then (0, 0x21) else (4, 0)
  else if s.mode = mSERVICE ∧ road ∧ s.upd.lock then (5, 0)
  else if s.mode = mSERVICE ∧ target = mSTANDBY then if s.tokenOk h then (0, 0x22) else (4, 0)
  else (1, 0)

/-- MODE. -/
def execMode (h : HsiHdr) (target : Nat) (s : State) : Out :=
  s.request h 0x0013 false fun s =>
    match s.modeCond h target with
    | (0, cause) => .ok (s.reqMode target cause) s.nextTick
    | (c, _) => .refuse s c

/-- RESET. -/
def execReset (h : HsiHdr) (s : State) : Out :=
  s.request h 0x0014 true fun s => .ok (s.enterReset 0x02)

/-- SHUTDOWN (R64). -/
def execShutdown (h : HsiHdr) (s : State) : Out := s.request h 0x0015 false fun s => .ok (s.shutdownReq 1)

/-! ### Registers (R500, R518) -/

/-- REG_READ: in the order listed, as one bus master. -/
def execRegRead (h : HsiHdr) (l : List Nat) (s : State) : Out :=
  s.request h 0x0020 false fun s =>
    if l.isEmpty || 64 < l.length || l.any fun a => a % 4 != 0 || decide (2 ^ 40 ≤ a) then .refuse s 12
    else
      let (t, bs) := l.foldl (fun (x : State × List Nat) a =>
        let t := x.1.regRead hsiMaster a
        (t, x.2 ++ leBytes 4 t.rdata)) (s, [])
      .ok t bs

/-- The address holds a field that a write reaches. -/
def State.writable (s : State) (a : Nat) : Bool :=
  match s.target a with
  | some t => t.fields.any fun f => f.acc != .ro && f.acc != .rs
  | none => false

/-- R500: the RESULT that refuses a write with GO: the register's, when it reads one of the refusals. -/
def State.goRefused (s : State) (a v : Nat) : Option Nat :=
  let i := (a - 0xF000900000) / 0x10000
  let of (f : Fld) (l : List Nat) : Option Nat := if l.contains (s.get f) then some (s.get f) else none
  if !bit v 31 then none
  else if a = R.ALM_COMMIT_GO.reg then of R.ALM_COMMIT_RESULT [3, 4]
  else if a = R.CHR_SNAP_CTL_GO.reg then of R.CHR_SNAP_CTL_RESULT [3, 4]
  else if a = R.PLT_TANK_CTL_GO.reg then of R.PLT_TANK_CTL_RESULT [2, 3, 4]
  else if a = R.SPD_MARCH_CTL_GO.reg then of R.SPD_MARCH_CTL_RESULT [4, 5]
  else if a = R.SPD_MBX_CTL_GO.reg then of R.SPD_MBX_CTL_RESULT [2, 3]
  else if a = R.REP_CMD_GO.reg then of R.REP_CMD_RESULT [2, 3, 4, 5]
  else if i < 6 ∧ a = (R.BUS_TXCMD_GO i).reg then of (R.BUS_TXCMD_RESULT i) [3]
  else if i < 6 ∧ a = (R.BUS_TXSUB_GO i).reg then of (R.BUS_TXSUB_RESULT i) [2, 3]
  else none

/-- The writes of a REG_WRITE in order: the result codes, the first RESULT that refuses, and whether a write was
undefined. -/
def State.regWrites (s : State) : List (Nat × BitVec 32) → State × List Nat × Option Nat × Bool
  | [] => (s, [], none, false)
  | (a, v) :: l =>
    match s.regWrite a v.toNat with
    | .next t =>
      let (u, codes, r, bad) := t.regWrites l
      (u, b2n (!s.writable a) :: codes, (t.goRefused a v.toNat).or r, bad)
    | _ => (s, [], none, true)

/-- REG_WRITE. -/
def execRegWrite (h : HsiHdr) (l : List (Nat × BitVec 32)) (s : State) : Out :=
  s.request h 0x0021 true fun s =>
    if l.isEmpty || 64 < l.length || l.any fun e => e.1 % 4 != 0 || decide (2 ^ 40 ≤ e.1) then .refuse s 12
    else
      match s.regWrites l with
      | (t, _, _, true) => { st := t, undef := true }
      | (t, _, some r, false) => .refuse t 14 [r]
      | (t, codes, none, false) => .ok t codes

/-! ### The Logbook (R449, R499, R500) -/

/-- A record's 32 bytes. -/
def LogRec.bytes (r : LogRec) : List Nat := (List.range 8).flatMap fun k => leBytes 4 (r.word k)

/-- LOG_READ: a slot that holds no valid record reads as zeros. -/
def execLogRead (h : HsiHdr) (first count : Nat) (s : State) : Out :=
  s.request h 0x0030 false fun s =>
    if 524288 ≤ first ∨ count < 1 ∨ 44 < count then .refuse s 12
    else .ok s (leBytes 4 first ++ leBytes 2 count ++ [0, 0] ++ (List.range count).flatMap fun k =>
      let r := slotGet ((first + k) % 524288) s.log.slots
      if r.seq = 0 then List.replicate 32 0 else r.bytes)

/-- LOG_WRITE: a host record (Table 12.8). -/
def execLogWrite (h : HsiHdr) (code : Nat) (ps : List (BitVec 32)) (s : State) : Out :=
  s.request h 0x0031 false fun s =>
    let recent := s.hsi.logTicks.filter fun t => decide (s.chr.tick < t + 10000)
    if code < 0x0200 ∨ 0x02FF < code then .refuse s 12
    else if 10 ≤ recent.length then .busy s
    else .ok { s.enqueue (s.mkRec code 0 (ps.map (·.toNat)) false true) with hsi.logTicks := recent ++ [s.chr.tick] }

/-! ### Tiles (R313, R314, R505) -/

/-- TILE_LIST: dirty tiles from a directory entry on. -/
def execTileList (h : HsiHdr) (first : Nat) (s : State) : Out :=
  s.request h 0x0040 false fun s =>
    let l := ((s.plt.yld.tiles.drop first).filterMap id).filter (·.dirty)
    .ok s ((l.take 80).flatMap fun t => i32 t.te ++ i32 t.tn ++ leBytes 4 t.rev ++ [0, 0, 0, 0])

/-- TILE_READ. -/
def execTileRead (h : HsiHdr) (te tn : Int) (off len : Nat) (s : State) : Out :=
  s.request h 0x0041 false fun s =>
    match s.tileAt te tn with
    | some t =>
      if 1408 < len ∨ 1048640 < off + len then .refuse s 12
      else .ok s (leBytes 4 t.rev ++ (List.range len).map fun k => s.tileByte t (off + k))
    | none => .refuse s 12

/-- TILE_ACK: DIRTY clears when the REV is still current. -/
def execTileAck (h : HsiHdr) (te tn : Int) (rev : Nat) (s : State) : Out :=
  s.request h 0x0042 false fun s =>
    match s.tileAt te tn with
    | some t =>
      if t.rev % 2 ^ 32 ≠ rev then .refuse s 10
      else .ok (s.modYld fun y => { y with
        tiles := y.tiles.map fun (x : Option Tile) => x.map fun (x : Tile) =>
          if x.te = te ∧ x.tn = tn then { x with dirty := false } else x }).tilesCount
    | none => .refuse s 12

/-! ### Rings (R504, Table 15.5) -/

/-- The oldest index that a ring of `n` slots still holds. -/
def State.ringOldest (s : State) (r n widx : Nat) : Nat :=
  (widx + 2 ^ 32 - min n (s.rings.countP fun e => e.1 / 2 ^ 32 == r)) % 2 ^ 32

/-- Records of a ring from an index: at most `most`, each a slot, or the refusal with the oldest index available. -/
def State.ringRecords (s : State) (r n widx index most : Nat) : Option (List Nat) :=
  let back := (widx + 2 ^ 32 - index) % 2 ^ 32
  let held := (widx + 2 ^ 32 - s.ringOldest r n widx) % 2 ^ 32
  if back = 0 ∨ held < back then none
  else some ((List.range (min most back)).flatMap fun k => s.ringSlot r ((index + k) % n))

/-- The records of RING_READ, or the refusal. -/
def Ans.ring (s : State) (r n widx index most : Nat) (f : List Nat → List Nat) : Ans :=
  match s.ringRecords r n widx index most with
  | some bs => .ok s (f bs)
  | none => .refuse s 12 (leBytes 4 (s.ringOldest r n widx))

/-- RING_READ. -/
def execRingRead (h : HsiHdr) (ring index off : Nat) (s : State) : Out :=
  s.request h 0x0043 false fun s =>
    if ring < 16 then
      if !s.has 0x0401 ring then .refuse s 12
      else .ring s ring (2 ^ s.prodB ring 8 1) (s.get (R.PLT_P_WIDX_VALUE ring)) index 1 id
    else if ring = 16 then .ring s 0x10 (2 ^ s.cfg 0x0420 0 0x3A 1) (s.get R.PLT_CELLQ_WIDX_VALUE) index 22 id
    else if ring = 17 then .ring s 0x11 64 (s.get R.PLT_LOADQ_WIDX_VALUE) index 22 id
    else if ring = 18 then
      let bs := s.ringSlot (0x12 + s.get R.PLT_TRK_BUF_HI_CUR) 0
      .ok s ((bs.drop 0x0C).take 2 ++ (bs.drop off).take 1408)
    else if ring = 19 then .ring s 0x14 256 (s.get R.LKT_RING_WIDX_VALUE) index 1 fun bs => (bs.drop off).take 1408
    else .refuse s 12

/-! ### Streams (R506) -/

/-- The nominal output of a stream in bit/s: display frames at the port's rate over DIV, or the coding bit rate. -/
def State.streamRate (s : State) (kind n div : Nat) : Rat :=
  if kind = 1 then 8 * (64 + 2 * s.pipeB (n / 2) 4 2 * s.pipeB (n / 2) 6 2 : Nat) * s.fps n / div
  else if s.codecB n 8 1 = 0 then 0
  else 1000 * s.codecB n 0x0E 4

/-- STREAM_SUB: kind 0 display, 1 coding. -/
def execStreamSub (h : HsiHdr) (kind n div life : Nat) (s : State) : Out :=
  s.request h 0x0050 false fun s =>
    let k := kind + 1
    let other (b : HsiSub) : Bool := b.kind == k && b.n == n
    let mine (b : HsiSub) : Bool := b.ip == h.ip.toNat && b.port == h.port.toNat
    if 1 < kind ∨ (if kind = 0 then 8 else 4) ≤ n ∨ div < 1 ∨ 16 < div ∨ life < 1 then .refuse s 12
    else if s.hsi.subs.any fun b => other b && !mine b && decide (s.chr.tick < b.stop) then .busy s
    else
      let rest := s.hsi.subs.filter fun b => b.kind != 0 && b.eth == h.eth.val && !other b && decide (s.chr.tick < b.stop)
      if 800000000 < (rest.map fun b => s.streamRate b.kind b.n b.div).sum + s.streamRate k n div then .refuse s 12
      else .ok (s.subscribe
        { kind := k, n := n, eth := h.eth, ip := h.ip.toNat, port := h.port.toNat, div := div, start := s.chr.tick
          stop := s.chr.tick + 10000 * life, frames := if kind = 0 then (s.sxPort n).widx.getD 1 0 else 0 })

/-- Bytes cut into datagrams. -/
def chunks (n : Nat) : (fuel : Nat) → List Nat → List (List Nat)
  | 0, _ => []
  | _, [] => []
  | fuel + 1, l => l.take n :: chunks n fuel (l.drop n)

/-- Datagrams pushed, or counted when the port has no room. -/
def State.push (s : State) (room : Bool) (l : List (List Nat)) : State :=
  if room then { s with hsi.pushes := s.hsi.pushes ++ l.map fun d => (0x0050, d) }
  else s.bump R.HSI_CNT2_STREAM_DROP l.length

/-- STREAM_PUSH: every DIV-th display frame, or the coding bytes written and not read. -/
def execStreamPush (kind : Fin 2) (n : Fin 8) (room : Bool) (s : State) : Out :=
  match s.hsi.subs.find? fun b => b.kind == kind.val + 1 && b.n == n.val && decide (s.chr.tick < b.stop) with
  | none => .next s
  | some b =>
    if !s.hsiUp then .next s
    else if kind = 0 then
      let w := (State.sxPort s n).widx.getD 1 0
      if (w + 2 ^ 32 - b.frames) % 2 ^ 32 < b.div then .next s
      else
        let at_ := (b.frames + b.div - 1) % 2 ^ 32
        let bs := s.ringSlot (0x40 + 4 * n + 1) (s.camSlot n 1 (s.pipeB (n / 2) 3 1 % 16) at_)
        .next ((s.subscribe { b with frames := (b.frames + b.div) % 2 ^ 32 }).push room (chunks 1408 bs.length bs))
    else
      let buf := (s.sxt.encs.getD n {}).buf
      let rd := s.get (R.SXT_ENC_RD_VALUE n)
      let ds := (chunks 1408 buf.length buf).zipIdx.map fun (d, i) => leBytes 4 (rd + 1408 * i) ++ d
      let t := s.push room ds
      .next (if room then t.encRead n (rd + buf.length) else t)

/-! ### CAN (R507) -/

/-- CAN_TX: entries of the words BUS_TXW0 to BUS_TXW17. -/
def execCanTx (h : HsiHdr) (c : Nat) (l : List (List (BitVec 32))) (s : State) : Out :=
  s.request h 0x0060 false fun s =>
    if 6 ≤ c ∨ l.isEmpty ∨ 16 < l.length then .refuse s 12
    else
      let (t, rs) := l.foldl (fun (x : State × List Nat) e =>
        let w (k : Nat) : Nat := (e.getD k 0).toNat
        let data := (List.range 16).flatMap fun k => leBytes 4 (w (2 + k))
        let (t, r) := x.1.txSubmit c 3 (w 1 / 65536) (frameOfWords (w 0) (w 1 % 256) data)
        (t, x.2 ++ [r])) (s, [])
      .ok t rs

/-- CAN_SUB. -/
def execCanSub (h : HsiHdr) (mask life : Nat) (s : State) : Out :=
  s.request h 0x0061 false fun s =>
    let host := h.ip.toNat * 65536 + h.port.toNat
    .ok { s with hsi.canSub := (s.hsi.canSub.filter fun x => x.1 != host) ++ [(host, mask, s.chr.tick + 10000 * life)] }

/-- DTC_SET. -/
def execDtcSet (h : HsiHdr) (c : Nat) (codes : List (BitVec 32)) (s : State) : Out :=
  s.request h 0x0062 false fun s =>
    if 2 ≤ c ∨ 32 < codes.length then .refuse s 12 else .ok (s.setDtcs c (codes.map (·.toNat)))

/-! ### Settings (R471, R503) -/

/-- SET_READ. -/
def execSetRead (h : HsiHdr) (item off : Nat) (s : State) : Out :=
  s.request h 0x0070 false fun s =>
    let b := (blockOf item s.lastFrame.blocks).getD []
    if item < 0x0100 ∨ 0x01FF < item ∨ b.length < off then .refuse s 12
    else .ok s (leBytes 4 b.length ++ (b.drop off).take 1408)

/-- The bytes that the other host items hold. -/
def State.itemBytes (s : State) (item : Nat) : Nat :=
  ((s.lastFrame.blocks.filter fun b => decide (0x0100 ≤ b.item) && b.item != item).map fun b => b.body.length).sum

/-- SET_WRITE: the parts of an item in order; with the last the frame is written. -/
def execSetWrite (h : HsiHdr) (item len off : Nat) (bytes : List Nat) (s : State) : Out :=
  s.request h 0x0071 false fun s =>
    let got := if off = 0 then [] else ((s.upd.items.find? fun e => e.1 == item).map (·.2)).getD []
    let rest := s.upd.items.filter fun e => e.1 != item
    if item < 0x0100 ∨ 0x01FF < item ∨ 4096 < len ∨ len < off + bytes.length ∨ 24576 < s.itemBytes item + len then
      .refuse s 12
    else if s.hsi.setTick.any fun t => decide (s.chr.tick < t + 100000) then .busy s
    else if got.length ≠ off then .refuse s 9 (leBytes 4 got.length)
    else if off + bytes.length < len then .ok { s with upd.items := rest ++ [(item, got ++ bytes)] }
    else .ok (({ s with upd.items := rest, hsi.setTick := some s.chr.tick } : State).saveItem item (got ++ bytes))

/-! ### Updates (R459, R461, R501) -/

/-- UPD_BEGIN. -/
def execUpdBegin (h : HsiHdr) (len : Nat) (s : State) : Out :=
  s.request h 0x0080 true fun s =>
    if 50331648 < len then .refuse s 12
    else if s.get R.UPD_STAT_STATE ≠ 0 ∨ s.updRuns = false then .busy s
    else .ok ((({ s with nor.staging := [], upd.len := len, upd.got := 0 } : State).puts
      [(R.UPD_PROG_RX_KIB, 0), (R.UPD_PROG_APPLY_KIB, 0), (R.UPD_STAT_STAGED, 0)]).updTo 1 0)

/-- UPD_DATA. -/
def execUpdData (h : HsiHdr) (off : Nat) (bytes : List Nat) (s : State) : Out :=
  s.request h 0x0081 true fun s =>
    if s.get R.UPD_STAT_STATE ≠ 1 ∨ off ≠ s.upd.got then .refuse s 9 (leBytes 4 s.upd.got)
    else if 1408 < bytes.length ∨ s.upd.len < off + bytes.length then .refuse s 12
    else
      let n := off + bytes.length
      .ok (({ s with nor.staging := s.nor.staging ++ bytes, upd.got := n } : State).put R.UPD_PROG_RX_KIB (n / 1024))

/-- UPD_END. -/
def execUpdEnd (h : HsiHdr) (s : State) : Out :=
  s.request h 0x0082 true fun s =>
    if s.get R.UPD_STAT_STATE ≠ 1 then .refuse s 9 (leBytes 4 s.upd.got) else .ok (s.takeUid.updTo 2 0)

/-- The answer to UPD_CTL: its RESULT. -/
def Ans.upd (s : State) (op : Nat) (f : State → State) : Ans :=
  let t := f (s.put R.UPD_CTL_OP op)
  let r := t.get R.UPD_CTL_RESULT
  if r = 1 then .ok t [1] else .refuse t 14 [r]

/-- UPD_CTL by OP: UPD_ABORT, UPD_ARM, UPD_DISARM, UPD_CONFIRM, UPD_ROLLBACK. -/
def execUpdAbort (h : HsiHdr) (s : State) : Out := s.request h 0x0083 true fun s => .upd s 0 State.updAbort
def execUpdArm (h : HsiHdr) (wp : BitVec 64) (s : State) : Out :=
  s.request h 0x0083 true fun s => .upd s 1 fun s => s.updArm wp.toNat
def execUpdDisarm (h : HsiHdr) (s : State) : Out := s.request h 0x0083 true fun s => .upd s 2 State.updDisarm
def execUpdConfirm (h : HsiHdr) (s : State) : Out := s.request h 0x0083 true fun s => .upd s 3 State.updConfirm
def execUpdRollback (h : HsiHdr) (s : State) : Out := s.request h 0x0083 true fun s => .upd s 4 State.updRollback

/-! ### Ring reset and service drives (R502) -/

/-- RING_RESET: announcement entry 6. -/
def execRingReset (h : HsiHdr) (mask : BitVec 64) (edge : Nat) (s : State) : Out :=
  s.request h 0x0090 true fun s =>
    if mask.getLsbD 0 then .refuse s 12
    else if edge < s.chr.tick + 4 then .refuse s 11
    else .ok (s.announce 6 4 edge mask.toNat)

/-- SVC_DRIVE: a hand-over with cause 3 to the raw value; a release leads to the law or to SAFE_RAW. -/
def execSvcDrive (h : HsiHdr) (ch : Nat) (release : Bool) (raw : BitVec 32) (s : State) : Out :=
  s.request h 0x0091 true fun s =>
    if s.mode ≠ mSERVICE then .refuse s 7
    else if 128 ≤ ch ∨ s.chanOn ch = false ∨ s.chanB ch 0x1C 4 = 0 then .refuse s 12
    else if release then
      if (s.chan ch).svc.isNone then .ok s
      else
        let s := s.modChan ch fun x => { x with svc := none }
        .ok (if s.sinkOff ch || s.chState ch == 5 then s
          else if s.lawRuns ch && !s.ttBlocked (ch / 16) then s.startLaw ch 0
          else if (s.chan ch).removed then s.stopLaw ch 4 4 else s.stopLaw ch 1 0)
    else
      let st := s.chState ch
      let target := if st = 6 then (s.chan ch).target else st
      let s := s.modChan ch fun x => { x with svc := some (satSink (s.chanB ch 0x1C 4) raw.toInt) }
      .ok (if s.sinkOff ch || st == 5 then s else s.startHo ch 3 target)

/-! ### Service tokens (R497, R498) -/

/-- R498: the token ends; in SERVICE the module returns to STANDBY at the next edge, where service drives end. -/
def State.endToken (s : State) : State :=
  if s.hsi.token.isNone then s
  else
    let s := { s with hsi.token := none }
    if s.mode = mSERVICE then s.reqMode mSTANDBY 0x22 else s

/-- TOKEN_REQ: a nonce of 16 bytes. -/
def execTokenReq (h : HsiHdr) (s : State) : Out :=
  s.request h 0x00F0 false fun s =>
    let (v, s) := s.free 128
    let n := leBytes 16 v
    .ok (s.modHost h fun x => { x with nonce := some (n, s.chr.tick) }) n

/-- TOKEN_MAX in s; without an HSICFG record the greatest that Table 15.7 allows. -/
def State.tokenMax (s : State) : Nat := if s.has 0x0F00 0 then s.cfg 0x0F00 0 0x10 2 else 3600

/-- R497: what a grant signs. -/
def State.grantText (s : State) (nonce : List Nat) (life : Nat) (h : HsiHdr) : List Byte :=
  (nonce ++ s.almBytes 0x20 16 ++ leBytes 2 life ++ ipOctets h.ip.toNat).map (BitVec.ofNat 8)

/-- TOKEN_GRANT. -/
def execTokenGrant (h : HsiHdr) (slot life : Nat) (sig : List Byte) (s : State) : Out :=
  s.request h 0x00F1 false fun s =>
    let nonce := ((s.hostOf h).bind (·.nonce)).filter fun n => decide (s.chr.tick < n.2 + 100000)
    if 3 < slot ∨ life < 60 ∨ s.tokenMax < life then .refuse s 12
    else
      match nonce with
      | none => .refuse s 4
      | some n =>
        if bit s.usable slot && Config.ecdsaOk slot (s.grantText n.1 life h) sig then
          let (v, s) := s.free 64
          let t : HsiToken :=
            { val := v, ip := h.ip.toNat, port := h.port.toNat, expiry := s.chr.tick + 10000 * life, used := s.chr.tick }
          .ok (({ s with hsi.token := some t } : State).modHost h fun x => { x with nonce := none })
            (leBytes 8 v ++ leBytes 8 (s.now + 800000000 * life))
        else .refuse s 4

/-- TOKEN_DROP. -/
def execTokenDrop (h : HsiHdr) (s : State) : Out := s.request h 0x00F2 true fun s => .ok s.endToken

/-- TOKEN_EXPIRY: the lifetime, or 60 s without a message that carries the token. -/
def execTokenExpiry (s : State) : Out :=
  match s.hsi.token with
  | some t => .next (if t.expiry ≤ s.chr.tick ∨ t.used + 600000 ≤ s.chr.tick then s.endToken else s)
  | none => .next s

/-! ### Datagrams and port services (R493, R494, R509, R512) -/

/-- HSISENS record `k` takes the datagram. -/
def State.sensTakes (s : State) (eth ip dport k : Nat) : Bool :=
  s.has 0x0F02 k && s.cfg 0x0F02 k 0 2 == dport && bit (s.cfg 0x0F02 k 2 1) eth &&
    (s.ipField 0x0F02 k 4 == 0 || s.ipField 0x0F02 k 4 == ip)

/-- A datagram read at the offsets of a source's FMT: source time and fields; none when it is too short. -/
def State.sensRead (s : State) (i : Nat) (bs : List Nat) : Option (Nat × List Int) :=
  let tOff := s.srcB i 0x28 2
  let fOff := s.srcB i 0x2A 2
  let tw := s.srcB i 5 1 / 8
  let n := s.srcB i 0x2C 1
  if bs.length < max (tOff + tw) (fOff + 4 * n) then none
  else some (imgNat bs tOff tw, (List.range n).map fun k => imgInt32 bs (fOff + 4 * k))
where
  imgInt32 (bs : List Nat) (o : Nat) : Int := toInt 32 (imgNat bs o 4)

/-- SENSOR_DATAGRAM: a sample of every kind 0x07 source of the record that names its port; ETH2 feeds none. -/
def execSensorDatagram (eth : Fin 3) (ip : BitVec 32) (dport : BitVec 16) (stamp : Option Nat) (bytes : List Nat)
    (s : State) : Out :=
  let s := s.tookStamp (ptEth eth 0) stamp
  if eth = 2 then .next s
  else
    .next ((s.sources.filter fun i => s.srcB i 0 1 == 7 && s.sensTakes eth ip.toNat dport.toNat (s.srcB i 2 2)).foldl
      (fun s i =>
        match s.sensRead i bytes with
        | some (tau, vals) => s.ingestFree i tau stamp vals
        | none => if s.plt.up then s.discard i 4 else s) s)

/-- ARP_REQUEST: for the port's own address, answered with its MAC address. -/
def execArpRequest (eth : Fin 3) (ip : BitVec 32) (s : State) : Out :=
  if s.hsiUp && s.portIp eth == some ip.toNat then
    .next { s with hsi.net := [(eth.val, 0, (leBytes 6 (Config.mac eth).toNat).reverse ++ ipOctets ip.toNat)] }
  else .next s

/-- ICMP_ECHO: answered to the sender with the bytes it sent. -/
def execIcmpEcho (eth : Fin 3) (ip : BitVec 32) (bytes : List Nat) (s : State) : Out :=
  if s.hsiUp && (s.portIp eth).isSome then .next { s with hsi.net := [(eth.val, 1, ipOctets ip.toNat ++ bytes)] }
  else .next s

/-- R494, Table 15.1: a datagram whose MAGIC, VER, LEN or CRC is bad. -/
def hsiBad (bs : List Nat) : Bool :=
  let n := 20 + natAt bs 6 2
  natAt bs 0 2 != 0x5348 || natAt bs 2 1 != 1 || decide (1464 < n) || bs.length != n + 4 ||
    natAt bs n 4 != crc32 (bs.take n)

/-- The header of a datagram (Table 15.1), with where and when it came. -/
def hsiHdrOf (src : HsiFrom) (phase : Fin 10000) (bs : List Nat) : HsiHdr :=
  { eth := src.eth, ip := src.ip, port := src.port, seq := BitVec.ofNat 32 (natAt bs 8 4), token := BitVec.ofNat 64 (natAt bs 12 8), phase }

/-- The TYPEs of Table 15.3. -/
def hsiTypes : List Nat :=
  [1, 2] ++ List.range' 0x10 6 ++ [0x20, 0x21, 0x30, 0x31] ++ List.range' 0x40 4 ++ [0x50] ++ List.range' 0x60 3 ++
    [0x70, 0x71] ++ List.range' 0x80 4 ++ [0x90, 0x91] ++ List.range' 0xF0 3

/-- A stored reply as the datagram that leaves (R494, R496): header, STATUS, COND and what follows, CRC. Replies carry no token. -/
def HsiReply.datagram (r : HsiReply) : List Nat :=
  let pay := leBytes 2 r.status ++ leBytes 2 r.cond ++ r.body
  let head := leBytes 2 0x5348 ++ [1, 0] ++ leBytes 2 r.typ ++ leBytes 2 pay.length ++ leBytes 4 r.seq ++ leBytes 8 0
  head ++ pay ++ leBytes 4 (crc32 (head ++ pay))

/-- BAD_DATAGRAM (R494, R496): the bytes at the request port: bad ones are discarded and counted, an unknown TYPE is answered
UNKNOWN; a datagram of Table 15.3 is the command of its own row and no bad one. -/
def execBadDatagram (src : HsiFrom) (phase : Fin 10000) (bytes : List Byte) (s : State) : Out :=
  let bs := bytes.map (·.toNat)
  if hsiBad bs then .next (if s.hsiUp && s.hsiPort src.eth then s.bump R.HSI_CNT0_BAD else s)
  else if hsiTypes.contains (natAt bs 4 2) then .next s
  else s.request (hsiHdrOf src phase bs) (natAt bs 4 2) false fun s => { st := s, status := 3 }

/-- ETH_LINK_CHANGE (R120, R512): the crossings of CLK_E0 to CLK_E2 are reset when it is lost. -/
def execEthLinkChange (n : Fin 3) (up : Bool) (s : State) : Out :=
  let s := s.put R.HSI_STAT_LINK (setBit (s.get R.HSI_STAT_LINK) n up)
  .next (if up then s else s.resetDomain (9 + n))

/-- HSI_CNT0_READ, HSI_CNT1_READ, HSI_CNT2_READ: reads that clear. -/
def execHsiCnt0Read (s : State) : Out := .next (s.readClear2 R.HSI_CNT0_BAD R.HSI_CNT0_DUP)
def execHsiCnt1Read (s : State) : Out := .next (s.readClear2 R.HSI_CNT1_FLEET_DUP R.HSI_CNT1_FLEET_DROP)
def execHsiCnt2Read (s : State) : Out := .next (s.readClear R.HSI_CNT2_STREAM_DROP)

end Sys2Proof.Machine
end

