-- ==== Sys2Proof/Machine/Load.lean ====
section
/-! DEFINITION. LOAD and PROVE: the choice of the firmware and the Almanac, the application of an accepted image, and
what PROVE finds and repairs (R67 to R80). -/

namespace Sys2Proof.Machine

/-! ### Checking the banks (R68, R77, R80, R468) -/

/-- A start in trial is rolled back: the previous banks' frame, and EV117 (R468). -/
def State.rollBack (s : State) (result : Nat) : State :=
  let uid := s.upd.cur.uid
  let (f, s) := s.rolledFrame s.upd.cur result
  let s := ({ s.writeFrame f with upd.rolled := true } : State).put R.UPD_SETFMT_OLD 0
  (s.updTo 0 result).raise 117 [result, uid]

/-- Table 2.13: none for an Almanac accepted by a firmware image, else the first failure. -/
def State.almCheck (s : State) (fw part : List Nat) : Option CheckFault :=
  let c := almHeaderCode part s.usable (Config.fwRelease fw)
  if c ≠ 0 then some (c, 0xFFFF, 0)
  else
    match almShapeFault part with
    | some f => some f
    | none => s.recordFault (almRecords part).1 fw

def loadResult (b : Nat) : Fld := if b = 0 then R.ALM_LOAD_A_RESULT else R.ALM_LOAD_B_RESULT
def loadRec (b : Nat) : Fld := if b = 0 then R.ALM_LOAD_REC_A_REC else R.ALM_LOAD_REC_B_REC

/-- R77, R80: a bank is checked, its result recorded, and EV112 raised when it is rejected. -/
def State.almTry (s : State) (fw : List Nat) (b : Nat) : State × Bool :=
  match s.almCheck fw (s.nor.alm.getD b []) with
  | none => (s.puts [(loadResult b, 1), (loadRec b, 0xFFFF)], true)
  | some (code, idx, type) => ((s.puts [(loadResult b, code), (loadRec b, idx)]).raise 112 [b, code, idx, type], false)

/-- R80, R468: the bank given first, then the other; a trial Almanac that fails is rolled back, and the start goes on
mixed when the other is accepted. -/
def State.almSelect (s : State) (fw : List Nat) (first : Nat) : State × Option Nat :=
  let (s, ok) := s.almTry fw first
  if ok then (s, some first)
  else
    let f := s.upd.cur
    let trial := decide (f.trial = 1 ∧ f.active 1 = first ∧ bits f.banks 3 1 ≠ first)
    let s := if trial then s.rollBack 0x21 else s
    let (s, ok) := s.almTry fw (1 - first)
    (if trial && ok then s.put R.UPD_STAT_MIXED 1 else s, if ok then some (1 - first) else none)

/-- R67: a firmware bank passes its signature check. -/
def State.fwGood (s : State) (b : Nat) : Bool := Config.fwSigned s.usable (s.nor.fw.getD b [])

/-- R68, R80: the firmware bank the module runs and its Almanac: none when both firmware banks fail. -/
def State.chooseBanks (s : State) (r : LoadIn) : State × Option (Nat × Option Nat) :=
  let b := s.upd.cur.active 0
  let a := s.upd.cur.active 1
  let fw (b : Nat) := s.nor.fw.getD b []
  let runs (b : Nat) : Bool := s.fwGood b && !(if b = 0 then r.ucodeBadA else r.ucodeBadB)
  let (s, alm) := if s.fwGood b then s.almSelect (fw b) a else (s, some a)
  if runs b then (s, some (b, alm))
  else
    let s := s.put R.UPD_STAT_MIXED 0
    let trial := decide (s.upd.cur.trial = 1)
    let s := if trial then s.rollBack 0x21 else s
    let first := if trial then s.upd.cur.active 1 else alm.getD a
    let (s, alm) := if s.fwGood (1 - b) then s.almSelect (fw (1 - b)) first else (s, none)
    (s, if runs (1 - b) then some (1 - b, alm) else none)

/-! ### Application -/

/-- R122: CHRONO, or the values without it. -/
def State.applyChrono (s : State) : State :=
  let f := s.cfg 0x0100 0
  let tai := if s.has 0x0100 0 then f 0x0A 1 else 37
  let s := s.puts [(R.CHR_REF_TAI_UTC, tai), (R.CHR_DISC_TAI_UTC, tai)]
  if s.has 0x0100 0 then
    s.puts [(R.CHR_CFG_SRC_ORDER, f 0 2), (R.CHR_CFG_STEP_EN, b2n (bit (f 2 1) 0)), (R.CHR_CFG_SLEW_MAX, f 3 1),
      (R.CHR_PPS_DLY_PPS0, f 4 2), (R.CHR_PPS_DLY_PPS1, f 6 2), (R.CHR_REF_EDGE0, b2n (bit (f 2 1) 1)),
      (R.CHR_REF_EDGE1, b2n (bit (f 2 1) 2)), (R.CHR_REF_HOLDOVER_S, f 8 2)]
  else s.puts [(R.CHR_CFG_SLEW_MAX, 100), (R.CHR_REF_HOLDOVER_S, 60)]

/-- R450, R451, R523: REPCFG, LOGCFG and PWRCFG, or the values without them. -/
def State.applyOwn (s : State) : State :=
  let cams := ((List.range 8).filter fun n => s.has 0x0500 n).foldl (fun m n => m + 2 ^ n) 0
  let s := if s.has 0x0B00 0 then
      let f := s.cfg 0x0B00 0
      s.puts [(R.REP_CFG_TRANS_MAX, f 0 1), (R.REP_CFG_DRAM_UE_MAX, f 1 1), (R.REP_CFG_TRANS_WIN, f 2 2)]
    else s
  let s := if s.has 0x0A00 0 then
      s.puts ((List.range 4).map fun i => (R.LOG_MASK_VALUE i, s.cfg 0x0A00 0 (4 * i) 4))
    else s
  if s.has 0x1000 0 then s.puts [(R.PWR_CAM_EN, s.cfg 0x1000 0 0 1), (R.PWR_SENS_EN, s.cfg 0x1000 0 1 1)]
  else s.puts [(R.PWR_CAM_EN, cams), (R.PWR_SENS_EN, 0xFF)]

/-- R490: BINPAGE instance 0 goes into the Binnacle's registers. -/
def State.applyPage (s : State) : State :=
  let f := s.cfg 0x0E01 0
  s.puts (((List.range 6).map fun k => (R.BIN_SEG_BITS k, f (4 * k) 4)) ++
    ((List.range 12).map fun k => (R.BIN_BLINK_BITS k, f (0x18 + 4 * k) 4)) ++
    [(R.BIN_LED_LED, f 0x48 2), (R.BIN_LED_BL, f 0x4A 2 % 16), (R.BIN_DIM_LED_DIM, f 0x4C 1), (R.BIN_DIM_BL_DIM, f 0x4D 1)])

/-- R194: the timetables of the groups from their records, for the slices given. -/
def State.buildTts (s : State) (a : Nat → List Nat) : State :=
  { s with hlm.tts := (List.range 8).map fun g => ⟨a g, s.ttRecord g⟩ }

/-- Channels are STOPPED, with the K and TOFF of their records, and the timetables are built for four slices a cell (Table
5.1, R174, R194). -/
def State.applyChans (s : State) : State :=
  let s := s.channels.foldl (fun t c => (t.put (R.HLM_CHST_STATE c) 1).takeRate c) s
  s.buildTts fun _ => [4, 4, 4, 4]

/-- R322: the stored tank calibration replaces the TANK record's, where its values lie within the record's ranges. -/
def State.applyTank (s : State) : State :=
  let fmt := s.get R.UPD_SETFMT_NEW
  match s.upd.cur.blocks.find? fun b => b.item == 1 && b.fmt == fmt with
  | none => s
  | some b =>
    let f := imgNat b.body
    let cal := max (16 * 256 * s.tB 0x38 2) (min (16 * 256 * s.tB 0x3A 2) (f 20 4))
    let t := ((s.cfgPut 0x0421 0 0x18 (leBytes 4 (f 0 4))).cfgPut 0x0421 0 8 ((b.body.drop 4).take 16)).cfgPut 0x0421 0 0x3C
      (leBytes 4 cal)
    let body := (List.range 64).map fun o => t.cfg 0x0421 0 o 1
    if s.has 0x0421 0 && b.body.length == 24 && recOk 0 ⟨0, 0x0421, false, 0, 64, body, 0⟩ then t else s

/-- R472: at its first start a trial firmware converts the frozen blocks, or uses the Almanac's values. -/
def State.convertSettings (s : State) : State :=
  let f := s.upd.cur
  let new := s.get R.UPD_SETFMT_NEW
  if f.trial ≠ 1 ∨ f.starts ≠ 1 ∨ f.blocks ≠ [] ∨ f.frozen = [] then s
  else
    let conv := f.frozen.map fun b => (Config.convertItem b.fmt new b.item b.body).map fun x => (⟨new, b.item, x⟩ : SetBlock)
    if conv.all Option.isSome then
      let f := { f with blocks := conv.filterMap id }
      ({ s with upd.cur := f } : State).queueFrame f
    else s.raise 119 [2, f.gen]

/-- R525: unknown records that are optional are skipped, each with a SKIP record. DESIGN CHOICE (log entry `SKIP records`):
the records are written for the image that is applied, when it is applied. -/
def State.logSkips (s : State) (bank : Nat) (rs : List ARec) : State :=
  (rs.filter fun r => !r.known).foldl (fun t r => t.sysRec 0x0106 [bank, r.idx, r.type + 32768 * b2n r.opt, r.inst]) s

/-- R77: the whole image is applied. -/
def State.applyAlm (s : State) (bank : Nat) : State :=
  let rs := (almRecords (s.nor.alm.getD bank [])).1
  let s := (((((((s.logSkips bank rs).withRecs rs).applyRing).applyChrono).applyOwn).applyPage).applyChans).applyTank
  ((List.range 8).foldl State.listCopies s).put R.ALM_LOAD_ALM_BANK bank

/-- LOAD_COMPLETE (R67, R68, R77, R80): the firmware and the Almanac have been read and checked, the Almanac applied and
the microcode loaded. With no firmware the boot loader holds LOAD; with no Almanac the module asks for SERVICE. -/
def execLoadComplete (r : LoadIn) (s : State) : Out :=
  if s.mode ≠ mLOAD ∨ s.alm.recovery = true ∨ s.alm.modeReq ≠ [] then .next s
  else
    let first := s.upd.cur.active 1
    match s.chooseBanks r with
    | (s, none) => .next { s with alm.recovery := true }
    | (s, some (fw, alm)) =>
      let fmt (b : Nat) := Config.fwSetFmt (s.nor.fw.getD b []) % 65536
      let s := s.puts [(R.ALM_LOAD_FW_BANK, fw), (R.UPD_SETFMT_NEW, fmt fw),
        (R.UPD_SETFMT_OLD, if s.upd.cur.trial = 1 then fmt (bits s.upd.cur.banks 2 1) else 0)]
      let s := s.convertSettings
      match alm with
      | some b => .next ((s.applyAlm b).reqMode mPROVE 0x11)
      | none =>
        .next (((s.puts [(R.ALM_LOAD_ALM_BANK, first), (R.ALM_START_STANDBY_MS, min r.ms 65535)]).raise 113 []).reqMode
          mSERVICE 0x13)

/-! ### PROVE (R70, R71, R152, R194, R379, R380) -/

/-- Table 2.8, R379, R380: a bank's failing rows: spares that fail leave the pool, each other failing row takes a spare
or stays unrepaired, and the run's EV084. -/
def State.proveRows (s : State) (bad : List (Nat × Nat × Nat)) (bank : Nat) : State :=
  let mine := bad.filter fun x => x.1 == bank && x.2.2 != 0
  let rows := (mine.map fun x => x.2.1).eraseDups
  let words := (mine.map fun x => x.2.2).sum
  let s := { s with spd.deadSpares := s.spd.deadSpares ++ ((rows.filter (128 ≤ ·)).map fun r => (bank, r)) }
  let repair (s : State) (r : Nat) : State := match s.freeSpares bank with
    | sp :: _ =>
      let s := ({ s with spd.remaps := s.spd.remaps ++ [(bank, r, sp)] } : State).refreshRows bank
      s.raise 82 [bank, r, s.get (R.SPD_BANK_HEALTH_SPARE_LEFT bank)]
    | [] => ({ s with spd.unrepaired := s.spd.unrepaired ++ [(bank, r)] } : State).raise 83 [bank, r]
  let s := ((rows.filter (· < 128)).foldl repair s).refreshRows bank
  s.raise 84 [bank, if words = 0 then 2 else 3, words]

/-- SPD_MARCH_RES of PROVE's run: failing words of all banks, first failing row of the lowest bank that failed. -/
def State.proveMarch (s : State) (bad : List (Nat × Nat × Nat)) : State :=
  let bad := bad.filter fun x => x.2.2 != 0 && decide (x.1 < 32 ∧ x.2.1 < 160)
  let s := { s with spd := { s.spd with remaps := [], copying := [], deadSpares := [], unrepaired := [], mem := [], flips := [], hold := none, mbx := [] } }
  let first := (List.range 32).findSome? fun b => (List.range 160).find? fun r => bad.any fun x => x.1 == b && x.2.1 == r
  let s := (List.range 32).foldl (fun t b => t.proveRows bad b) s
  s.puts [(R.SPD_MARCH_RES_FAILS, min 65535 (bad.map fun x => x.2.2).sum), (R.SPD_MARCH_RES_ROW, first.getD 0)]

/-- Table 2.8: failing slices are retired; the cells' spares take their places. -/
def State.proveSlices (s : State) (bad : List (Nat × Nat × Nat)) : State :=
  let us := ((bad.filter fun x => decide (x.1 < 8 ∧ x.2.1 < 4 ∧ x.2.2 < 5)).map fun x =>
    sliceUnit (4 * x.1 + x.2.1) x.2.2).eraseDups
  let s := { s with rep.cells := List.replicate 32 {}, hlm.fbDue := [], hlm.fbTold := [], hlm.fbs := [] }
  let s := us.foldl State.retireSlice ((List.range 8).foldl State.refreshCells s)
  { s with hlm.fbDue := [] }

/-- R71, R194: the groups whose load or timetable the healthy slices do not carry. -/
def State.overBudget (s : State) : List Nat :=
  (List.range 8).filter fun g =>
    let l := s.ttRecord g
    decide (128 * 36000 * (s.groupA g).sum < ttLoad l) || (windowFail (s.groupA g) l).isSome

/-- R71, R237: the shed ladder at a degraded start. -/
def State.degradeGroup (s : State) (g : Nat) : State :=
  let f := s.fallbackOf g 0 (s.groupA g)
  let s := f.shed.foldl State.shedChan s
  let s := (f.removed.foldl (fun t c => (t.modChan c fun x => { x with removed := true }).chEvent c 0x11 1) s).setTt g f.tt
  let s := s.grpEvent g 0x11 f.steps
  let s := if f.removed = [] then s else s.grpEvent g 0x12 f.removed.length
  s.puts [(R.HLM_GSTAT_DEGRADED g, 1), (R.ALM_MODE_DEGRADED, 1), (R.HLM_FB_STEPS g, min 255 f.steps)]

/-- PROVE_COMPLETE (R70, R71, R194): repairs, the timetables of the healthy slices, the capacity check, and the request for
STANDBY or SERVICE. -/
def execProveComplete (r : ProveIn) (s : State) : Out :=
  if s.mode ≠ mPROVE ∨ s.alm.modeReq ≠ [] then .next s
  else
    let s := { s with
      pwr.kw.failOpen := false
      pwr.ke.failOpen := false
      alm.trained := r.trainedW && r.trainedE }
    let s := (s.proveMarch r.badRows).proveSlices r.badSlices
    let s := (s.buildTts s.groupA).puts
      ((R.ALM_START_PROVE_MS, min r.proveMs 65535) :: (R.ALM_START_STANDBY_MS, min r.startMs 65535) ::
        (List.range 16).map fun n => (R.DIO_PC_STAT_FAULTY n, b2n (bit r.pcFaulty n)))
    let excess := s.overBudget
    let degraded := decide (excess ≠ [])
    let allowed := s.cfg 0x0C01 0 8 1 == 1
    let pass := r.chronOk && r.lockstepOk && r.dramOk && r.eccOk && !r.otherError && !s.alm.proveErr && s.spd.unrepaired.isEmpty &&
      (!degraded || allowed)
    if pass then
      let mask := (excess.map (2 ^ ·)).sum
      let s := if degraded then (excess.foldl State.degradeGroup s).raise 114 [1, mask] else s
      .next (s.reqMode mSTANDBY 0x12)
    else
      let s := s.raise 114 [0]
      let s := if s.upd.cur.trial = 1 then s.rollBack 0x22 else s
      .next (s.reqMode mSERVICE 0x14)

end Sys2Proof.Machine
end

