-- ==== Sys2Proof/Machine/Dispatch.lean ====
section
/-! DEFINITION. The meaning of every command, one arm each: a direct call of its definition. -/

namespace Sys2Proof.Machine

open Sys2Proof

/-- What a command does to everything but the queue. -/
def exec (i : Instr) (s : State) : Host.Outcome State Fault Refusal :=
  match i with
  | .ubApply ub => Sys2Proof.Machine.execUbApply ub s
  | .ubLevelChange ub => Sys2Proof.Machine.execUbLevelChange ub s
  | .cameraShedOvervoltage => Sys2Proof.Machine.execCameraShedOvervoltage s
  | .overvoltageShutdown => Sys2Proof.Machine.execOvervoltageShutdown s
  | .powerFailure => Sys2Proof.Machine.execPowerFailure s
  | .cameraSupplyReturn => Sys2Proof.Machine.execCameraSupplyReturn s
  | .ignChange mv lowMs => Sys2Proof.Machine.execIgnChange mv lowMs s
  | .shutdownRequest => Sys2Proof.Machine.execShutdownRequest s
  | .standstillReached => Sys2Proof.Machine.execStandstillReached s
  | .standstillWaitReport => Sys2Proof.Machine.execStandstillWaitReport s
  | .powerDown => Sys2Proof.Machine.execPowerDown s
  | .xrstAssert => Sys2Proof.Machine.execXrstAssert s
  | .resetRelease r => Sys2Proof.Machine.execResetRelease r s
  | .loadComplete r => Sys2Proof.Machine.execLoadComplete r s
  | .proveComplete r => Sys2Proof.Machine.execProveComplete r s
  | .listenEnd seen => Sys2Proof.Machine.execListenEnd seen s
  | .cwInsertionComplete => Sys2Proof.Machine.execCwInsertionComplete s
  | .cwInsertionTimeout => Sys2Proof.Machine.execCwInsertionTimeout s
  | .keClose => Sys2Proof.Machine.execKeClose s
  | .relayCheck relay aux t10us => Sys2Proof.Machine.execRelayCheck relay aux t10us s
  | .relayCutEnd relay => Sys2Proof.Machine.execRelayCutEnd relay s
  | .relayCommand kw ke => Sys2Proof.Machine.execRelayCommand kw ke s
  | .relayHeldRelease relay => Sys2Proof.Machine.execRelayHeldRelease relay s
  | .modOkToggle => Sys2Proof.Machine.execModOkToggle s
  | .uvLoss mv => Sys2Proof.Machine.execUvLoss mv s
  | .uvRestore mv => Sys2Proof.Machine.execUvRestore mv s
  | .tempMeasure tj tcp => Sys2Proof.Machine.execTempMeasure tj tcp s
  | .sensorSupplyTrip sup => Sys2Proof.Machine.execSensorSupplyTrip sup s
  | .sensorSupplyRetry sup fails => Sys2Proof.Machine.execSensorSupplyRetry sup fails s
  | .sensFaultClear mask => Sys2Proof.Machine.execSensFaultClear mask s
  | .cameraSupplyTrip port => Sys2Proof.Machine.execCameraSupplyTrip port s
  | .cameraSupplyRetry port fails => Sys2Proof.Machine.execCameraSupplyRetry port fails s
  | .camFaultClear mask => Sys2Proof.Machine.execCamFaultClear mask s
  | .watchdogExpiry => Sys2Proof.Machine.execWatchdogExpiry s
  | .lockstepMismatch => Sys2Proof.Machine.execLockstepMismatch s
  | .tickEdge x => Sys2Proof.Machine.execTickEdge x s
  | .commit region phase => Sys2Proof.Machine.execCommit region phase s
  | .commitApply region => Sys2Proof.Machine.execCommitApply region s
  | .registerWrite addr value => Sys2Proof.Machine.execRegisterWrite addr value s
  | .chrMt64LoRead m phase => Sys2Proof.Machine.execChrMt64LoRead m phase s
  | .chrTickLoRead m => Sys2Proof.Machine.execChrTickLoRead m s
  | .chrXingRead => Sys2Proof.Machine.execChrXingRead s
  | .snapArm slot t => Sys2Proof.Machine.execSnapArm slot t s
  | .snapFire slot => Sys2Proof.Machine.execSnapFire slot s
  | .ppsEdge input raw => Sys2Proof.Machine.execPpsEdge input raw s
  | .timeOfDay input => Sys2Proof.Machine.execTimeOfDay input s
  | .gptpSync port rx origin => Sys2Proof.Machine.execGptpSync port rx origin s
  | .gptpPdelayReq => Sys2Proof.Machine.execGptpPdelayReq s
  | .gptpReceiptTimeout port => Sys2Proof.Machine.execGptpReceiptTimeout port s
  | .referenceLost => Sys2Proof.Machine.execReferenceLost s
  | .holdoverExpiry => Sys2Proof.Machine.execHoldoverExpiry s
  | .sourceSwitch code => Sys2Proof.Machine.execSourceSwitch code s
  | .mt64Step => Sys2Proof.Machine.execMt64Step s
  | .xingPulse id ack => Sys2Proof.Machine.execXingPulse id ack s
  | .xingAckTimeout id => Sys2Proof.Machine.execXingAckTimeout id s
  | .stamp point stamp => Sys2Proof.Machine.execStamp point stamp s
  | .clockFailure => Sys2Proof.Machine.execClockFailure s
  | .pllPUnlock => Sys2Proof.Machine.execPllPUnlock s
  | .pllCUnlock => Sys2Proof.Machine.execPllCUnlock s
  | .pllCRelock => Sys2Proof.Machine.execPllCRelock s
  | .pllDUnlock => Sys2Proof.Machine.execPllDUnlock s
  | .cPassLaunch => Sys2Proof.Machine.execCPassLaunch s
  | .dSlotTake => Sys2Proof.Machine.execDSlotTake s
  | .dPassLaunch => Sys2Proof.Machine.execDPassLaunch s
  | .passReceive f rttNs => Sys2Proof.Machine.execPassReceive f rttNs s
  | .cSlotCollect => Sys2Proof.Machine.execCSlotCollect s
  | .frameForward st f payload fwd rx => Sys2Proof.Machine.execFrameForward st f payload fwd rx s
  | .stationOutputApply st => Sys2Proof.Machine.execStationOutputApply st s
  | .stationSafe st => Sys2Proof.Machine.execStationSafe st s
  | .noPassTimeout st => Sys2Proof.Machine.execNoPassTimeout st s
  | .stationReset st => Sys2Proof.Machine.execStationReset st s
  | .probe st seq => Sys2Proof.Machine.execProbe st seq s
  | .probeReceive st dir seq turn => Sys2Proof.Machine.execProbeReceive st dir seq turn s
  | .replyReceive st dir t1 t4 turn => Sys2Proof.Machine.execReplyReceive st dir t1 t4 turn s
  | .ringLinkDown dir => Sys2Proof.Machine.execRingLinkDown dir s
  | .inputDead dir => Sys2Proof.Machine.execInputDead dir s
  | .inputAlive dir => Sys2Proof.Machine.execInputAlive dir s
  | .takeover => Sys2Proof.Machine.execTakeover s
  | .ident st reply => Sys2Proof.Machine.execIdent st reply s
  | .identTimeout st => Sys2Proof.Machine.execIdentTimeout st s
  | .loadBegin img => Sys2Proof.Machine.execLoadBegin img s
  | .loadData img => Sys2Proof.Machine.execLoadData img s
  | .loadEnd st => Sys2Proof.Machine.execLoadEnd st s
  | .run st busy => Sys2Proof.Machine.execRun st busy s
  | .snapRead st slot first blocks => Sys2Proof.Machine.execSnapRead st slot first blocks s
  | .stats st => Sys2Proof.Machine.execStats st s
  | .mrdErrARead => Sys2Proof.Machine.execMrdErrARead s
  | .mrdErrBRead => Sys2Proof.Machine.execMrdErrBRead s
  | .computationStart ch ai => Sys2Proof.Machine.execComputationStart ch ai s
  | .computationEnd ch => Sys2Proof.Machine.execComputationEnd ch s
  | .outputApply ch => Sys2Proof.Machine.execOutputApply ch s
  | .overrun ch => Sys2Proof.Machine.execOverrun ch s
  | .channelReset ch => Sys2Proof.Machine.execChannelReset ch s
  | .channelResetEnd ch => Sys2Proof.Machine.execChannelResetEnd ch s
  | .groupReset g => Sys2Proof.Machine.execGroupReset g s
  | .groupResetEnd g => Sys2Proof.Machine.execGroupResetEnd g s
  | .broadcast value word gmask => Sys2Proof.Machine.execBroadcast value word gmask s
  | .broadcastAct => Sys2Proof.Machine.execBroadcastAct s
  | .timetableRebuild g => Sys2Proof.Machine.execTimetableRebuild g s
  | .fallbackCompute g => Sys2Proof.Machine.execFallbackCompute g s
  | .fallbackApply cell => Sys2Proof.Machine.execFallbackApply cell s
  | .autoRequest ch => Sys2Proof.Machine.execAutoRequest ch s
  | .manRequest ch => Sys2Proof.Machine.execManRequest ch s
  | .hlmOvrRead ch => Sys2Proof.Machine.execHlmOvrRead ch s
  | .pwmPeriodStart x => Sys2Proof.Machine.execPwmPeriodStart x s
  | .coilEstimate n mv ua openLoad => Sys2Proof.Machine.execCoilEstimate n mv ua openLoad s
  | .pcOvercurrent n => Sys2Proof.Machine.execPcOvercurrent n s
  | .pcOcClear n => Sys2Proof.Machine.execPcOcClear n s
  | .aiCalibrationDone m ok => Sys2Proof.Machine.execAiCalibrationDone m ok s
  | .aiModulatorTakeover n delta => Sys2Proof.Machine.execAiModulatorTakeover n delta s
  | .aiBurdenDisconnect n => Sys2Proof.Machine.execAiBurdenDisconnect n s
  | .aiBurdenClear n => Sys2Proof.Machine.execAiBurdenClear n s
  | .pulseEdge n stamp => Sys2Proof.Machine.execPulseEdge n stamp s
  | .pulseTimeout n => Sys2Proof.Machine.execPulseTimeout n s
  | .dioEdge n high stamp heldUs => Sys2Proof.Machine.execDioEdge n high stamp heldUs s
  | .dioOvercurrent n => Sys2Proof.Machine.execDioOvercurrent n s
  | .dioOfltClear mask => Sys2Proof.Machine.execDioOfltClear mask s
  | .nmeaSentence input stamp csOk len x => Sys2Proof.Machine.execNmeaSentence input stamp csOk len x s
  | .gnssFixComplete input phase => Sys2Proof.Machine.execGnssFixComplete input phase s
  | .gnssFixTimeout input => Sys2Proof.Machine.execGnssFixTimeout input s
  | .gnssBinaryFrame input phase stamp f => Sys2Proof.Machine.execGnssBinaryFrame input phase stamp f s
  | .sourceTimeout src => Sys2Proof.Machine.execSourceTimeout src s
  | .productCutoff p => Sys2Proof.Machine.execProductCutoff p s
  | .plotterJobComplete tag => Sys2Proof.Machine.execPlotterJobComplete tag s
  | .productRelease p => Sys2Proof.Machine.execProductRelease p s
  | .outputMissed p => Sys2Proof.Machine.execOutputMissed p s
  | .mailboxExpiry word => Sys2Proof.Machine.execMailboxExpiry word s
  | .plotterStop => Sys2Proof.Machine.execPlotterStop s
  | .pltJobsRead => Sys2Proof.Machine.execPltJobsRead s
  | .pltCntMissedRead => Sys2Proof.Machine.execPltCntMissedRead s
  | .pltCntLateRead => Sys2Proof.Machine.execPltCntLateRead s
  | .pltCntDropRead => Sys2Proof.Machine.execPltCntDropRead s
  | .pltCntRevdropRead => Sys2Proof.Machine.execPltCntRevdropRead s
  | .pltVsCntRead => Sys2Proof.Machine.execPltVsCntRead s
  | .pltSrcCntRead src => Sys2Proof.Machine.execPltSrcCntRead src s
  | .trackUpdate done => Sys2Proof.Machine.execTrackUpdate done s
  | .fleetShare => Sys2Proof.Machine.execFleetShare s
  | .fleetMessage f => Sys2Proof.Machine.execFleetMessage f s
  | .fleetFragmentTimeout addr => Sys2Proof.Machine.execFleetFragmentTimeout addr s
  | .machineTrackTimeout src => Sys2Proof.Machine.execMachineTrackTimeout src s
  | .pltTrkCntRead => Sys2Proof.Machine.execPltTrkCntRead s
  | .yieldStep done => Sys2Proof.Machine.execYieldStep done s
  | .tankClose => Sys2Proof.Machine.execTankClose s
  | .tankZero => Sys2Proof.Machine.execTankZero s
  | .tankSpan => Sys2Proof.Machine.execTankSpan s
  | .tankCalComplete => Sys2Proof.Machine.execTankCalComplete s
  | .pltYldCntRead => Sys2Proof.Machine.execPltYldCntRead s
  | .cameraLinkLoss port => Sys2Proof.Machine.execCameraLinkLoss port s
  | .cameraTrained port => Sys2Proof.Machine.execCameraTrained port s
  | .cameraRetrain port => Sys2Proof.Machine.execCameraRetrain port s
  | .frameStart port k stamp => Sys2Proof.Machine.execFrameStart port k stamp s
  | .linePacket port k => Sys2Proof.Machine.execLinePacket port k s
  | .frameEnd port k => Sys2Proof.Machine.execFrameEnd port k s
  | .frameTimeout port => Sys2Proof.Machine.execFrameTimeout port s
  | .cameraTrigger port => Sys2Proof.Machine.execCameraTrigger port s
  | .triggerMissed port => Sys2Proof.Machine.execTriggerMissed port s
  | .blockStart pipe => Sys2Proof.Machine.execBlockStart pipe s
  | .blockComplete pipe phase => Sys2Proof.Machine.execBlockComplete pipe phase s
  | .encodeAccessUnit stream au => Sys2Proof.Machine.execEncodeAccessUnit stream au s
  | .pipelinePause pipe => Sys2Proof.Machine.execPipelinePause pipe s
  | .sxtPortCntRead port => Sys2Proof.Machine.execSxtPortCntRead port s
  | .sxtPortPerrRead port => Sys2Proof.Machine.execSxtPortPerrRead port s
  | .sxtPortHwmRead port => Sys2Proof.Machine.execSxtPortHwmRead port s
  | .sxtEncDropRead stream => Sys2Proof.Machine.execSxtEncDropRead stream s
  | .lookoutJobStart => Sys2Proof.Machine.execLookoutJobStart s
  | .lookoutJobComplete cycles => Sys2Proof.Machine.execLookoutJobComplete cycles s
  | .lookoutJobAbort cycles => Sys2Proof.Machine.execLookoutJobAbort cycles s
  | .lookoutPause => Sys2Proof.Machine.execLookoutPause s
  | .lktCntRead => Sys2Proof.Machine.execLktCntRead s
  | .atomicAdd32 level word half v ue => Sys2Proof.Machine.execAtomicAdd32 level word half v ue s
  | .atomicAdd64 level word v ue => Sys2Proof.Machine.execAtomicAdd64 level word v ue s
  | .atomicSwap32 level word half v ue => Sys2Proof.Machine.execAtomicSwap32 level word half v ue s
  | .atomicSwap64 level word v ue => Sys2Proof.Machine.execAtomicSwap64 level word v ue s
  | .scratchpadError bank row ue rd => Sys2Proof.Machine.execScratchpadError bank row ue rd s
  | .scrubStep bank err => Sys2Proof.Machine.execScrubStep bank err s
  | .rowRemap bank row => Sys2Proof.Machine.execRowRemap bank row s
  | .marchPreserving bank first last => Sys2Proof.Machine.execMarchPreserving bank first last s
  | .marchDestructive bank first last => Sys2Proof.Machine.execMarchDestructive bank first last s
  | .marchEnd fails => Sys2Proof.Machine.execMarchEnd fails s
  | .spdConfRead m => Sys2Proof.Machine.execSpdConfRead m s
  | .spdBankHealthRead bank => Sys2Proof.Machine.execSpdBankHealthRead bank s
  | .dramEccError ue use => Sys2Proof.Machine.execDramEccError ue use s
  | .fabricTimeout cls tag => Sys2Proof.Machine.execFabricTimeout cls tag s
  | .fabStatusRead => Sys2Proof.Machine.execFabStatusRead s
  | .fabErrRead => Sys2Proof.Machine.execFabErrRead s
  | .fabClassRead cls => Sys2Proof.Machine.execFabClassRead cls s
  | .nvmOperationFail mram where_ kind => Sys2Proof.Machine.execNvmOperationFail mram where_ kind s
  | .canRxFrame c f stamp => Sys2Proof.Machine.execCanRxFrame c f stamp s
  | .rxoLockRead c o m => Sys2Proof.Machine.execRxoLockRead c o m s
  | .rxoReleaseRead c o m => Sys2Proof.Machine.execRxoReleaseRead c o m s
  | .rxoLockTimeout c o => Sys2Proof.Machine.execRxoLockTimeout c o s
  | .txobjSubmit c j => Sys2Proof.Machine.execTxobjSubmit c j s
  | .canTxAttemptEnd c r => Sys2Proof.Machine.execCanTxAttemptEnd c r s
  | .txMaxExpiry c => Sys2Proof.Machine.execTxMaxExpiry c s
  | .requeue c => Sys2Proof.Machine.execRequeue c s
  | .txAbort c => Sys2Proof.Machine.execTxAbort c s
  | .busStop c => Sys2Proof.Machine.execBusStop c s
  | .busStart c => Sys2Proof.Machine.execBusStart c s
  | .busRecover c => Sys2Proof.Machine.execBusRecover c s
  | .busOffRecovered c => Sys2Proof.Machine.execBusOffRecovered c s
  | .addressClaim c => Sys2Proof.Machine.execAddressClaim c s
  | .addressClaimWaitEnd c => Sys2Proof.Machine.execAddressClaimWaitEnd c s
  | .dm1Transmit c => Sys2Proof.Machine.execDm1Transmit c s
  | .tpSessionTimeout c peer tx => Sys2Proof.Machine.execTpSessionTimeout c peer tx s
  | .busCnt0Read c => Sys2Proof.Machine.execBusCnt0Read c s
  | .busCnt1Read c => Sys2Proof.Machine.execBusCnt1Read c s
  | .busTxoStatRead c j => Sys2Proof.Machine.execBusTxoStatRead c j s
  | .sliceResidueError g cell pos => Sys2Proof.Machine.execSliceResidueError g cell pos s
  | .ringPortError dir => Sys2Proof.Machine.execRingPortError dir s
  | .soundingStart entry => Sys2Proof.Machine.execSoundingStart entry s
  | .soundingResult entry failed => Sys2Proof.Machine.execSoundingResult entry failed s
  | .sliceRejoin cell pos => Sys2Proof.Machine.execSliceRejoin cell pos s
  | .dataPlaneStall block => Sys2Proof.Machine.execDataPlaneStall block s
  | .logRecordWrite => Sys2Proof.Machine.execLogRecordWrite s
  | .logLostRead => Sys2Proof.Machine.execLogLostRead s
  | .logMergedRead => Sys2Proof.Machine.execLogMergedRead s
  | .repSoundingWest => Sys2Proof.Machine.execRepSoundingWest s
  | .repSoundingEast => Sys2Proof.Machine.execRepSoundingEast s
  | .repSoundingSlice unit => Sys2Proof.Machine.execRepSoundingSlice unit s
  | .deltaCheck => Sys2Proof.Machine.execDeltaCheck s
  | .applyComplete fail => Sys2Proof.Machine.execApplyComplete fail s
  | .stagingExamine => Sys2Proof.Machine.execStagingExamine s
  | .waypointLock => Sys2Proof.Machine.execWaypointLock s
  | .waypointEdge => Sys2Proof.Machine.execWaypointEdge s
  | .settingsWrite r => Sys2Proof.Machine.execSettingsWrite r s
  | .binFrameStart crackOhm crackUa outFault => Sys2Proof.Machine.execBinFrameStart crackOhm crackUa outFault s
  | .binSlot => Sys2Proof.Machine.execBinSlot s
  | .binPumpRetry ok => Sys2Proof.Machine.execBinPumpRetry ok s
  | .binOutFltClear mask => Sys2Proof.Machine.execBinOutFltClear mask s
  | .binCrackClear crack leak => Sys2Proof.Machine.execBinCrackClear crack leak s
  | .binPumpFltClear => Sys2Proof.Machine.execBinPumpFltClear s
  | .statusGet h => Sys2Proof.Machine.execStatusGet h s
  | .statusSub h period life => Sys2Proof.Machine.execStatusSub h period life s
  | .statusPush ip port => Sys2Proof.Machine.execStatusPush ip port s
  | .setpoint h l => Sys2Proof.Machine.execSetpoint h l s
  | .mailbox h l => Sys2Proof.Machine.execMailbox h l s
  | .am h ch req man => Sys2Proof.Machine.execAm h ch req man s
  | .mode h target => Sys2Proof.Machine.execMode h target s
  | .reset h => Sys2Proof.Machine.execReset h s
  | .shutdown h => Sys2Proof.Machine.execShutdown h s
  | .regRead h l => Sys2Proof.Machine.execRegRead h l s
  | .regWrite h l => Sys2Proof.Machine.execRegWrite h l s
  | .logRead h first count => Sys2Proof.Machine.execLogRead h first count s
  | .logWrite h code ps => Sys2Proof.Machine.execLogWrite h code ps s
  | .tileList h first => Sys2Proof.Machine.execTileList h first s
  | .tileRead h te tn off len => Sys2Proof.Machine.execTileRead h te tn off len s
  | .tileAck h te tn rev => Sys2Proof.Machine.execTileAck h te tn rev s
  | .ringRead h ring index off => Sys2Proof.Machine.execRingRead h ring index off s
  | .streamSub h kind n div life => Sys2Proof.Machine.execStreamSub h kind n div life s
  | .streamPush kind n room => Sys2Proof.Machine.execStreamPush kind n room s
  | .subscriptionExpiry => Sys2Proof.Machine.execSubscriptionExpiry s
  | .canTx h c l => Sys2Proof.Machine.execCanTx h c l s
  | .canSub h mask life => Sys2Proof.Machine.execCanSub h mask life s
  | .dtcSet h c codes => Sys2Proof.Machine.execDtcSet h c codes s
  | .setRead h item off => Sys2Proof.Machine.execSetRead h item off s
  | .setWrite h item len off bytes => Sys2Proof.Machine.execSetWrite h item len off bytes s
  | .updBegin h len => Sys2Proof.Machine.execUpdBegin h len s
  | .updData h off bytes => Sys2Proof.Machine.execUpdData h off bytes s
  | .updEnd h => Sys2Proof.Machine.execUpdEnd h s
  | .updAbort h => Sys2Proof.Machine.execUpdAbort h s
  | .updArm h wp => Sys2Proof.Machine.execUpdArm h wp s
  | .updDisarm h => Sys2Proof.Machine.execUpdDisarm h s
  | .updConfirm h => Sys2Proof.Machine.execUpdConfirm h s
  | .updRollback h => Sys2Proof.Machine.execUpdRollback h s
  | .ringReset h mask edge => Sys2Proof.Machine.execRingReset h mask edge s
  | .svcDrive h ch release raw => Sys2Proof.Machine.execSvcDrive h ch release raw s
  | .tokenReq h => Sys2Proof.Machine.execTokenReq h s
  | .tokenGrant h slot life sig => Sys2Proof.Machine.execTokenGrant h slot life sig s
  | .tokenDrop h => Sys2Proof.Machine.execTokenDrop h s
  | .tokenExpiry => Sys2Proof.Machine.execTokenExpiry s
  | .sensorDatagram eth ip dport stamp bytes => Sys2Proof.Machine.execSensorDatagram eth ip dport stamp bytes s
  | .arpRequest eth ip => Sys2Proof.Machine.execArpRequest eth ip s
  | .icmpEcho eth ip bytes => Sys2Proof.Machine.execIcmpEcho eth ip bytes s
  | .hsiCnt0Read => Sys2Proof.Machine.execHsiCnt0Read s
  | .hsiCnt1Read => Sys2Proof.Machine.execHsiCnt1Read s
  | .hsiCnt2Read => Sys2Proof.Machine.execHsiCnt2Read s
  | .holdUpEnd => Sys2Proof.Machine.execHoldUpEnd s
  | .ringLinkUp dir => Sys2Proof.Machine.execRingLinkUp dir s
  | .ethLinkChange n up => Sys2Proof.Machine.execEthLinkChange n up s
  | .canBusError c lec primary => Sys2Proof.Machine.execCanBusError c lec primary s
  | .busIntegrationComplete c => Sys2Proof.Machine.execBusIntegrationComplete c s
  | .gptpAnnounce port prio gm => Sys2Proof.Machine.execGptpAnnounce port prio gm s
  | .gptpPdelayResp port delay => Sys2Proof.Machine.execGptpPdelayResp port delay s
  | .badDatagram src phase bytes => Sys2Proof.Machine.execBadDatagram src phase bytes s

end Sys2Proof.Machine
end

