-- ==== Sys2Proof/Machine/Step.lean ====
section
/-! DEFINITION. The step: take the command at the front of the queue. -/

namespace Sys2Proof.Machine

open Sys2Proof

/-- One step: the command at the front of the queue acts on the state with the rest of the queue; with no command
waiting the block idles. -/
def step (s : State) : Host.Outcome State Fault Refusal :=
  match s.pending with
  | [] => .next s
  | c :: rest => exec c { s with pending := rest }

/-- The state with the command that a table word spells put at the front of the queue. -/
def State.withFetchWord (s : State) (nbits w : Nat) : State :=
  match decodeTableWord nbits w with
  | none => s
  | some c => { s with pending := c :: s.pending }

end Sys2Proof.Machine
end

