-- ==== Sys2Proof/Safety.lean ====
section
/-! DEFINITION. What the statements say of a run: the canonical forms that a state keeps, and what a command leaves as
it was. -/

namespace Sys2Proof.Machine

/-- Offsets of the scratchpad strictly rising, from a lower bound on. -/
def memRises : Nat → List Host.Cell → Bool
  | _, [] => true
  | b, (a, _) :: l => decide (b ≤ a) && memRises (a + 1) l

/-- The canonical form of the scratchpad's bytes: offsets rise and no byte listed is 0. -/
def memWf (l : List Host.Cell) : Bool := memRises 0 l && l.all fun c => decide (c.2 ≠ 0)

/-- The row in the holding buffer holds bytes of its own row alone, in the canonical form. -/
def HeldRow.wf (h : HeldRow) : Bool := memWf h.data && h.data.all fun c => inRow h.bank h.row c.1

/-- The canonical state: the register file lists no field at its reset value and the scratchpad, with the row in the holding
buffer, no byte at 0, each in rising order, so that equal contents are equal data. -/
def State.Canonical (s : State) : Prop :=
  cellsWf s.regs = true ∧ memWf s.spd.mem = true ∧ s.spd.hold.all HeldRow.wf = true

/-- The blocks keep their numbers of instances: discipline sources, ring stations, channels, current outputs, pulse inputs,
modulators, Plotter sources, camera ports, pipelines, coding streams, CAN controllers, cells, handling entries, gPTP
ports, firmware and Almanac banks. -/
def State.Shaped (s : State) : Prop :=
  s.chr.refs.length = 4 ∧ s.mrd.stations.length = 64 ∧ s.hlm.chans.length = 128 ∧ s.dio.pcs.length = 16 ∧
    s.dio.pis.length = 16 ∧ s.dio.aiMod.length = 24 ∧ s.plt.srcs.length = 64 ∧ s.sxt.ports.length = 8 ∧
    s.sxt.pipes.length = 4 ∧ s.sxt.encs.length = 4 ∧ s.bus.length = 6 ∧ s.rep.cells.length = 32 ∧
    s.rep.table.length = 32 ∧ s.hsi.gptp.length = 2 ∧ s.nor.fw.length = 2 ∧ s.nor.alm.length = 2

/-- Every register field and record byte outside `ks` is in `t` as it is in `s`. -/
def SameRegs (ks : List Fld) (s t : State) : Prop := ∀ f : Fld, f.key ∉ ks.map Fld.key → t.get f = s.get f

/-- `t` is `s` but for the register fields `ks`. -/
def OnlyRegs (ks : List Fld) (s t : State) : Prop := SameRegs ks s t ∧ t = { s with regs := t.regs }

/-- `t` is `s` but for the register fields `ks` and what the last read returned. -/
def OnlyRead (ks : List Fld) (s t : State) : Prop :=
  SameRegs ks s t ∧ t = { s with regs := t.regs, rdata := t.rdata }

/-- `t` is `s` but for the register fields `ks`, the Logbook with its count of lost records, and the PWR domain, which
holds events while the Logbook is in reset (R522). -/
def OnlyLogged (ks : List Fld) (s t : State) : Prop :=
  SameRegs (R.LOG_LOST_VALUE :: ks) s t ∧ t = { s with regs := t.regs, log := t.log, pwr := t.pwr }

/-- The event joins the Logbook queue, when the Logbook runs, its mask lets the event through and there is room
(R442, R513, R514). -/
def LogGains (code : Nat) (ps : List Nat) (s t : State) : Prop :=
  s.log.up = true → s.masked code (severity code ps) = false → s.log.queue.length < 256 →
    t.log.queue = s.log.queue ++ [s.mkRec code (severity code ps) ps false false]

/-- As `LogGains`, where later events of the same command may follow the record. -/
def LogNext (code : Nat) (ps : List Nat) (s t : State) : Prop :=
  s.log.up = true → s.masked code (severity code ps) = false → s.log.queue.length < 256 →
    s.log.queue ++ [s.mkRec code (severity code ps) ps false false] <+: t.log.queue

/-- What every entry to RESET leaves (R56, R58, R65, R84): the mode with the one before and the cause, every register
outside the PWR window at its reset value, nothing staged or written and not yet in force, and both relays commanded to
bypass. -/
def ResetEntered (cause : Nat) (s t : State) : Prop :=
  t.mode = mRESET ∧ t.get R.ALM_MODE_PREV = s.mode % 8 ∧ t.get R.ALM_MODE_CAUSE = cause ∧
    (∀ f : Fld, pwrKey f.key = false → f.key ∉ [R.ALM_MODE_MODE, R.ALM_MODE_PREV, R.ALM_MODE_CAUSE].map Fld.key →
      t.get f = resetOf f.key) ∧
    t.tickW = [] ∧ t.staged = [] ∧ t.commits = [] ∧ t.chr.running = false ∧ t.pwr.kw.coil = false ∧
    t.get R.PWR_RELAY_KW_CMD = 0 ∧ t.get R.PWR_RELAY_KE_CMD = 0 ∧ t.pending = s.pending

/-- R493 to R499: a request of a type reaches its meaning: the module answers on the port, the request is no duplicate, the
state and the mode take the type, and the token is there where it is needed. -/
def State.HsiTakes (s : State) (h : HsiHdr) (typ : Nat) (tok : Bool) : Prop :=
  s.hsiUp = true ∧ s.hsiPort h.eth = true ∧ (s.alm.recovery = true → h.eth = 2) ∧ s.dupReply h = none ∧
    s.gateCond typ = none ∧ (tok = true → s.tokenOk h = true)

/-- The state in which a request's meaning acts: at its phase, its host tracked, its token used. -/
def State.heard (s : State) (h : HsiHdr) : State := ((s.atPhase h.phase).seeHost h).useToken h

/-- The reply that a request leaves (R495, R496). -/
def HsiReplied (h : HsiHdr) (typ status cond : Nat) (body : List Nat) (t : State) : Prop :=
  t.hsi.reply = some { typ := typ + 0x8000, seq := h.seq.toNat, status := status, cond := cond, body := body }

/-- A request refused with a condition, with nothing done but its host tracked. -/
def HsiRefused (h : HsiHdr) (typ cond : Nat) (body : List Nat) (s t : State) : Prop :=
  HsiReplied h typ 1 cond body t ∧ SameRegs [] s t ∧ t = { s.atPhase h.phase with regs := t.regs, hsi := t.hsi }

/-- A request answered with OK. -/
def HsiOk (h : HsiHdr) (typ : Nat) (body : List Nat) (t : State) : Prop := HsiReplied h typ 0 0 body t

/-- `t` is `s` at the request's phase but for the register fields `ks` and the service interface's own state. -/
def OnlyHsi (h : HsiHdr) (ks : List Fld) (s t : State) : Prop :=
  SameRegs ks s t ∧ t = { s.atPhase h.phase with regs := t.regs, hsi := t.hsi }

/-- A command stops by no fault and no refusal. -/
def Safe (i : Instr) (s : State) : Prop := ∃ t, exec i s = .next t

end Sys2Proof.Machine
end

