-- ==== Sys2Proof/Certificates/Slice0/Obligations.lean ====
section
/-! DEFINITION. The statements about the model, family by family of the spec's chapters. -/

open Sys2Proof Sys2Proof.Machine

/-! ### The machine -/

/-- With a command at the front of the queue, a step is the command's effect with the rest of the queue; with no command
waiting the block idles (the second clause is the model's choice: DESIGN CHOICE, log entry 1). -/
def Obligations.Steps : Prop :=
  (∀ (c : Instr) (rest : List Instr) (s : State), s.pending = c :: rest → step s = exec c { s with pending := rest }) ∧
  (∀ s : State, s.pending = [] → step s = .next s)

/-- After reset the register file and the scratchpad have their canonical form, and every block its number of instances. -/
def Obligations.ResetInvariant : Prop := State.reset.Canonical ∧ State.reset.Shaped

/-- Every step keeps the canonical form of the register file and of the scratchpad. -/
def Obligations.StepKeepsCanonical : Prop :=
  ∀ s t : State, s.Canonical → step s = .next t → t.Canonical

/-- Every step keeps the number of instances of every block. -/
def Obligations.StepKeepsShape : Prop := ∀ s t : State, s.Shaped → step s = .next t → t.Shaped

/-- After reset the mode is RESET, no command waits, nothing is staged, and the registers read the Reset columns: 0 but
for REP_CFG and ALM_LOAD_REC. -/
def Obligations.ResetValues : Prop :=
  State.reset.mode = mRESET ∧ State.reset.pending = [] ∧ State.reset.commits = [] ∧
    State.reset.get R.REP_CFG_TRANS_WIN = 60 ∧ State.reset.get R.REP_CFG_TRANS_MAX = 3 ∧
    State.reset.get R.REP_CFG_DRAM_UE_MAX = 8 ∧ State.reset.get R.ALM_LOAD_REC_A_REC = 0xFFFF ∧
    State.reset.get R.ALM_LOAD_REC_B_REC = 0xFFFF ∧
    ∀ f : Fld, f.key ∉ [R.REP_CFG_TRANS_WIN, R.REP_CFG_TRANS_MAX, R.REP_CFG_DRAM_UE_MAX, R.ALM_LOAD_REC_A_REC,
      R.ALM_LOAD_REC_B_REC].map Fld.key → State.reset.get f = 0

/-- A masked record of severity 0 leaves the state as it was; a record of severity 1 or above is raised whatever the
mask (R514), and joins the queue while it has room. -/
def Obligations.EventMask : Prop :=
  ∀ (s : State) (code : Nat) (ps : List Nat), s.log.up = true →
    (severity code ps = 0 → bit (s.get (R.LOG_MASK_VALUE (code / 32))) (code % 32) = true → s.raise code ps = s) ∧
    (severity code ps ≠ 0 ∨ bit (s.get (R.LOG_MASK_VALUE (code / 32))) (code % 32) = false →
      s.log.queue.length < 256 →
      ∃ r : LogRec, (s.raise code ps).log.queue = s.log.queue ++ [r] ∧ r.code = code ∧
        r.flags % 8 = severity code ps ∧ r.params = params4 ps ∧ r.mt = s.now ∧
        s.raise code ps = { s with log := (s.raise code ps).log })

/-- A register field reads as what was put in it, in its width; no other field changes (the register file). -/
def Obligations.RegisterFile : Prop :=
  ∀ (s : State) (f g : Fld) (v : Nat),
    (s.put f v).get g = (if g.key = f.key then v % 2 ^ f.w else s.get g) ∧ OnlyRegs [f] s (s.put f v)

/-- LOG_RECORD_WRITE (R445, R446): the next record is merged with the last or written to the next slot, with the next
SEQ, one held in the PWR domain with the MT64 of this moment (R522); the urgent record goes first; LOG_LOST_READ and LOG_MERGED_READ return the count and clear it (R453). -/
def Obligations.LogbookCommands : Prop :=
  (∀ (s : State) (r : LogRec) (rest : List LogRec), s.log.up = true → s.log.urgent = [] → s.log.queue = r :: rest →
    s.log.lostSince = 0 → s.log.merges r = false →
    ∃ t, exec .logRecordWrite s = .next t ∧ OnlyLogged [] s t ∧ t.log.queue = rest ∧
      slotGet s.log.widx t.log.slots =
        { r with seq := nextSeq s.log.lastSeq, mt := if r.held then s.now else r.mt, held := false } ∧
      t.log.widx = (s.log.widx + 1) % 524288 ∧ t.log.lastSeq = nextSeq s.log.lastSeq ∧
      ∀ n, n ≠ s.log.widx → slotGet n t.log.slots = slotGet n s.log.slots) ∧
  (∀ (s : State) (r q : LogRec) (rest : List LogRec), s.log.up = true → s.log.urgent = [] → s.log.queue = r :: rest →
    s.log.lostSince = 0 → s.log.last = some q → q.code = r.code → q.flags = r.flags → q.params = r.params →
    q.rep < 65535 →
    ∃ t, exec .logRecordWrite s = .next t ∧ OnlyLogged [R.LOG_MERGED_VALUE] s t ∧ t.log.queue = rest ∧
      t.log.last = some { q with rep := q.rep + 1 } ∧ t.log.widx = s.log.widx ∧
      slotGet ((s.log.widx + 524287) % 524288) t.log.slots = { q with rep := q.rep + 1 } ∧
      t.get R.LOG_MERGED_VALUE = min (s.get R.LOG_MERGED_VALUE + 1) (2 ^ R.LOG_MERGED_VALUE.w - 1)) ∧
  (∀ (s : State) (r : LogRec) (rest : List LogRec), s.log.up = true → s.log.urgent = r :: rest →
    ∃ t, exec .logRecordWrite s = .next t ∧ t.log.urgent = rest ∧ t.log.queue = s.log.queue) ∧
  (∀ s : State, ∃ t, exec .logLostRead s = .next t ∧ t.rdata = s.get R.LOG_LOST_VALUE ∧ t.get R.LOG_LOST_VALUE = 0 ∧
    OnlyRead [R.LOG_LOST_VALUE] s t) ∧
  (∀ s : State, ∃ t, exec .logMergedRead s = .next t ∧ t.rdata = s.get R.LOG_MERGED_VALUE ∧
    t.get R.LOG_MERGED_VALUE = 0 ∧ OnlyRead [R.LOG_MERGED_VALUE] s t)

/-! ### Connectors, Supply and the Ring Bypass -/

/-- UB_APPLY and UB_LEVEL_CHANGE from −36.0 to 60.0 V (R25, R28, R56, Table 1.10), and what stops them outside. That a UB from
0 to 6.5 V powers the PWR domain is the model's choice (DESIGN CHOICE, log entry `UB applied below 6.5 V`). -/
def Obligations.SupplyLevel : Prop :=
  (∀ (ub : Int) (s : State), s.pwr.powered = false → 0 ≤ ub → ub ≤ 60000 →
    ∃ t, exec (.ubApply ub) s = .next t ∧ t.mode = mRESET ∧ t.pwr.powered = true ∧ t.pwr.ub = ub ∧
      t.get R.PWR_STATUS_UB_WARN = b2n (decide (ub < 9000)) ∧ t.get R.PWR_STATUS_UB_RIDE = b2n (decide (ub < 6500)) ∧
      t.get R.PWR_STATUS_UB_SHED = b2n (decide (ub < 8000)) ∧ t.get R.PWR_CAM_SHED = b2n (decide (ub < 8000)) ∧
      t.get R.PWR_STATUS_UB_OV = b2n (decide (36000 < ub)) ∧
      t.get R.PWR_SUPPLY_UB_MV = 0 ∧ t.get R.PWR_SUPPLY_UV_MV = 0 ∧
      (∀ f : Fld, f.key ∉ [R.PWR_STATUS_UB_WARN, R.PWR_STATUS_UB_RIDE, R.PWR_STATUS_UB_SHED, R.PWR_CAM_SHED,
        R.PWR_STATUS_UB_OV].map Fld.key → t.get f = resetOf f.key) ∧
      t.log.slots = s.log.slots ∧ t.log.relayKw = s.log.relayKw ∧ t.log.relayKe = s.log.relayKe ∧ t.nor = s.nor) ∧
  (∀ (ub : Int) (s : State), s.pwr.powered = false → -36000 ≤ ub → ub < 0 →
    exec (.ubApply ub) s = .next { s with pwr.ub := ub }) ∧
  (∀ (ub : Int) (s : State), s.pwr.powered = false → -36000 ≤ ub → ub ≤ 60000 →
    exec (.ubLevelChange ub) s = .next { s with pwr.ub := ub }) ∧
  (∀ (ub : Int) (s : State), s.pwr.powered = true → -36000 ≤ ub → ub ≤ 60000 →
    ∃ t, exec (.ubLevelChange ub) s = .next t ∧ t.pwr.ub = ub ∧ t.get R.PWR_SUPPLY_UB_MV = ub.toNat ∧
      OnlyLogged [R.PWR_STATUS_UB_WARN, R.PWR_STATUS_UB_RIDE, R.PWR_STATUS_UB_SHED, R.PWR_CAM_SHED,
        R.PWR_STATUS_UB_OV, R.PWR_SUPPLY_UB_MV] s t ∧
      (ubBand ub = ubBand s.pwr.ub → t = { s with regs := t.regs, pwr.ub := ub } ∧ SameRegs [R.PWR_SUPPLY_UB_MV] s t) ∧
      (ubBand ub ≠ ubBand s.pwr.ub →
        (ub < 6500 → t.get R.PWR_STATUS_UB_RIDE = 1) ∧
        (ub < 8000 → t.get R.PWR_STATUS_UB_SHED = 1 ∧ t.get R.PWR_CAM_SHED = 1) ∧
        (ub < 9000 → t.get R.PWR_STATUS_UB_WARN = 1 ∧
          LogGains 120 [if ub < 6500 then 2 else if ub < 8000 then 1 else 0] s t) ∧
        (36000 < ub → t.get R.PWR_STATUS_UB_OV = 1 ∧ LogGains 121 [0] s t))) ∧
  (∀ (ub : Int) (s : State), 60000 < ub ∨ ub < -36000 → exec (.ubLevelChange ub) s = .fault .outsideRating ∧
    (s.pwr.powered = false → exec (.ubApply ub) s = .fault .outsideRating))

/-- The commands that enter RESET for a supply or clock failure (R26, R31, R52, R121): each with its cause; and the end
of the hold-up (R52), with which TERM opens (R401). -/
def Obligations.FailureResets : Prop :=
  (∀ s : State, s.pwr.powered = true → 48000 < s.pwr.ub →
    ∃ t, exec .overvoltageShutdown s = .next t ∧ ResetEntered 0x06 s t ∧ t.nor = s.nor) ∧
  (∀ s : State, s.pwr.powered = true → s.pwr.holdUp = false → s.pwr.ub < 6500 →
    ∃ t, exec .powerFailure s = .next t ∧ ResetEntered 0x00 s t ∧ t.nor = s.nor ∧ t.pwr.holdUp = true ∧ t.log.up = s.log.up ∧
      (s.log.up = true → t.log.queue = s.log.queue ∧ ∃ r : LogRec, t.log.urgent = s.log.urgent ++ [r] ∧
        r.code = 0x0101 ∧ r.mt = s.now)) ∧
  (∀ s : State, s.pwr.powered = true → ∃ t, exec .xrstAssert s = .next t ∧ ResetEntered 0x01 s t ∧ t.nor = s.nor) ∧
  (∀ s : State, ∃ t, exec .clockFailure s = .next t ∧ ResetEntered 0x07 s t ∧ t.nor = s.nor ∧
    t.pwr.clkFails = s.pwr.clock :: s.pwr.clkFails.filter (fun c => decide (s.pwr.clock < c + 600000)) ∧
    (t.pwr.stuck = true ↔ s.pwr.stuck = true ∨ 3 ≤ t.pwr.clkFails.length)) ∧
  (∀ s : State, s.pwr.holdUp = true → s.pwr.ub < 6500 →
    ∃ t, exec .holdUpEnd s = .next t ∧ t.pwr.powered = false ∧ t.pwr.held = [] ∧ t.pwr.kw = { cut := s.pwr.kw.cut } ∧ t.regs = [] ∧
      (∀ c, t.termClosed c = false) ∧
      t.modOk = false ∧ t.log.up = false ∧ t.log.slots = s.log.slots ∧ t.nor = s.nor)

/-- The camera supplies (R25, R29, R43): shedding, the return in ascending order, a trip, its one retry, and the clear of
a latched fault. -/
def Obligations.CameraSupplies : Prop :=
  (∀ s : State, s.pwr.powered = true → 36000 < s.pwr.ub → s.pwr.ub ≤ 48000 →
    ∃ t, exec .cameraShedOvervoltage s = .next t ∧ t.get R.PWR_CAM_SHED = 1 ∧ t.get R.PWR_STATUS_UB_SHED = 1 ∧
      t.camOn = 0 ∧ LogGains 121 [1] s t ∧ OnlyLogged [R.PWR_CAM_SHED, R.PWR_STATUS_UB_SHED] s t) ∧
  (∀ (s : State) (i : Nat), s.pwr.powered = true → 8500 ≤ s.pwr.ub → s.pwr.ub ≤ 36000 → s.get R.PWR_CAM_SHED = 0 →
    firstBit (s.pwr.camWait &&& s.camDue) = some i →
    ∃ t, exec .cameraSupplyReturn s = .next t ∧ t.pwr.camWait = setBit (s.pwr.camWait &&& s.camDue) i false ∧
      t = { s with regs := t.regs, pwr.camWait := t.pwr.camWait } ∧ SameRegs [] s t) ∧
  (∀ s : State, s.pwr.powered = true → 8500 ≤ s.pwr.ub → s.pwr.ub ≤ 36000 → s.get R.PWR_CAM_SHED ≠ 0 →
    ∃ t, exec .cameraSupplyReturn s = .next t ∧ t.get R.PWR_CAM_SHED = 0 ∧
      (∀ i, firstBit s.camDue = some i → t.pwr.camWait = setBit s.camDue i false) ∧
      t = { s with regs := t.regs, pwr.camWait := t.pwr.camWait } ∧ SameRegs [R.PWR_CAM_SHED] s t) ∧
  (∀ (s : State) (p : Fin 8), bit s.camOn p = true →
    ∃ t, exec (.cameraSupplyTrip p) s = .next t ∧ t.pwr.camTrip = setBit s.pwr.camTrip p true ∧ LogGains 124 [p] s t ∧
      OnlyLogged [] s t) ∧
  (∀ (s : State) (p : Fin 8) (fails : Bool), bit s.pwr.camTrip p = true →
    ∃ t, exec (.cameraSupplyRetry p fails) s = .next t ∧ t.pwr.camTrip = setBit s.pwr.camTrip p false ∧
      OnlyLogged [R.PWR_CAM_FLT] s t ∧ (fails = false → t.get R.PWR_CAM_FLT = s.get R.PWR_CAM_FLT) ∧
      (fails = true → t.get R.PWR_CAM_FLT = (s.get R.PWR_CAM_FLT ||| 2 ^ p.val) % 256 ∧ LogGains 124 [p] s t)) ∧
  (∀ (s : State) (m : BitVec 8), ∃ t, exec (.camFaultClear m) s = .next t ∧
    t.get R.PWR_CAM_FLT = clearBits (s.get R.PWR_CAM_FLT) m.toNat % 256 ∧ OnlyRegs [R.PWR_CAM_FLT] s t)

/-- The sensor supplies (R42) and the temperature (R37, Table 1.12). -/
def Obligations.SensorSuppliesAndTemperature : Prop :=
  (∀ (s : State) (p : Fin 8), bit s.sensOn p = true →
    ∃ t, exec (.sensorSupplyTrip p) s = .next t ∧ t.pwr.sensTrip = setBit s.pwr.sensTrip p true ∧
      LogGains 125 [p] s t ∧ OnlyLogged [] s t) ∧
  (∀ (s : State) (p : Fin 8) (fails : Bool), bit s.pwr.sensTrip p = true →
    ∃ t, exec (.sensorSupplyRetry p fails) s = .next t ∧ t.pwr.sensTrip = setBit s.pwr.sensTrip p false ∧
      OnlyLogged [R.PWR_SENS_FLT] s t ∧ (fails = false → t.get R.PWR_SENS_FLT = s.get R.PWR_SENS_FLT) ∧
      (fails = true → t.get R.PWR_SENS_FLT = (s.get R.PWR_SENS_FLT ||| 2 ^ p.val) % 256 ∧ LogGains 125 [p] s t)) ∧
  (∀ (s : State) (m : BitVec 8), ∃ t, exec (.sensFaultClear m) s = .next t ∧
    t.get R.PWR_SENS_FLT = clearBits (s.get R.PWR_SENS_FLT) m.toNat % 256 ∧ OnlyRegs [R.PWR_SENS_FLT] s t) ∧
  (∀ (s : State) (tj tcp : Int), tj < 2000 →
    ∃ t, exec (.tempMeasure tj tcp) s = .next t ∧ t.get R.PWR_TEMP_TJ = ofInt 16 tj ∧
      t.get R.PWR_TEMP_TCP = ofInt 16 tcp ∧
      (tj ≥ 1760 → s.pwr.tWarn = false → t.get R.PWR_STATUS_T_WARN = 1) ∧
      (tj ≥ 1888 → s.pwr.tLimp = false → t.get R.PWR_STATUS_T_LIMP = 1 ∧
        (s.inMode [mSTANDBY, mROAD, mFIELD, mSERVICE] = true → (mLIMP, 0x32) ∈ t.alm.modeReq)) ∧
      (1728 < tj → s.pwr.tLimp = true → s.inMode [mSTANDBY, mROAD, mFIELD, mSERVICE] = true →
        (mLIMP, 0x32) ∈ t.alm.modeReq) ∧
      (tj ≤ 1600 → t.pwr.tWarn = false) ∧ (tj ≤ 1728 → t.pwr.tLimp = false) ∧ (tj ≤ 1840 → t.pwr.tTrip = false)) ∧
  (∀ (s : State) (tj tcp : Int), 2000 ≤ tj → s.pwr.tTrip = false →
    ∃ t, exec (.tempMeasure tj tcp) s = .next t ∧ ResetEntered 0x03 s t ∧ t.pwr.tTrip = true ∧
      t.get R.PWR_STATUS_T_TRIP = 1)

/-- Ignition, shutdown and standstill (R30, R64, R463, R524), MOD_OK in LIMP (R32). -/
def Obligations.IgnitionAndStandstill : Prop :=
  (∀ (s : State) (mv lowMs : Nat), 6000 ≤ mv → s.get R.PWR_STATUS_IGN = 0 →
    ∃ t, exec (.ignChange mv lowMs) s = .next t ∧ t.get R.PWR_STATUS_IGN = 1 ∧
      (s.pwr.pdBegun = false → t.get R.PWR_STATUS_SHUTREQ = 0) ∧
      (s.pwr.pdBegun = true → t.get R.PWR_STATUS_SHUTREQ = s.get R.PWR_STATUS_SHUTREQ) ∧
      OnlyLogged [R.PWR_STATUS_IGN, R.PWR_STATUS_SHUTREQ] s t) ∧
  (∀ (s : State) (mv lowMs : Nat), mv ≤ 3000 → s.get R.PWR_STATUS_IGN ≠ 0 →
    ∃ t, exec (.ignChange mv lowMs) s = .next t ∧ t.get R.PWR_STATUS_IGN = 0 ∧ OnlyRegs [R.PWR_STATUS_IGN] s t) ∧
  (∀ (s : State) (mv lowMs : Nat), 3000 < mv → mv < 6000 → exec (.ignChange mv lowMs) s = .next s) ∧
  (∀ s : State, s.mode = mLIMP → ∃ t, exec .modOkToggle s = .next t ∧ t.pwr.modOkPhase = !s.pwr.modOkPhase ∧
    t = { s with pwr.modOkPhase := t.pwr.modOkPhase }) ∧
  (∀ s : State, s.waitsStill = true → s.standstill = true → s.mode ≠ mLIMP →
    ∃ t, exec .standstillReached s = .next t ∧ t.alm.modeReq = s.alm.modeReq ++ [(mSTANDBY, 0x23)] ∧
      t = { s with alm.modeReq := t.alm.modeReq }) ∧
  (∀ s : State, s.waitsStill = true → s.standstill = true → s.mode = mLIMP → s.upd.lock = true →
    exec .standstillReached s = .next s) ∧
  (∀ s : State, s.waitsStill = true → s.standstill = true → s.mode = mLIMP → s.upd.lock = false →
    ∃ t, exec .standstillReached s = .next t ∧ t.pwr.pdBegun = true ∧ t = { s with pwr.pdBegun := true }) ∧
  (∀ s : State, s.waitsStill = true → s.standstill = false →
    ∃ t, exec .standstillWaitReport s = .next t ∧ LogGains 115 [3] s t ∧ OnlyLogged [] s t)

/-- The bypass relays (R46, R47, R48, R53): a command in SERVICE, one held, one ignored, the auxiliary contact, the end
of a cut window and the delayed close of KE. -/
def Obligations.Relays : Prop :=
  (∀ s : State, s.pwr.keClosing = true →
    ∃ t, exec .keClose s = .next t ∧ t.pwr.keClosing = false ∧ t.pwr.ke.coil = false ∧
      t.get R.PWR_RELAY_KE_CMD = 0 ∧ (s.pwr.ke.coil = true → t.get R.PWR_RELAY_KE_BUSY = 1) ∧
      SameRegs [R.PWR_RELAY_KE_CMD, R.PWR_RELAY_KE_BUSY] s t) ∧
  (∀ (s : State) (r : Fin 2) (aux : Bool) (n : Nat), aux = (s.relay r).coil → b2n aux ≠ s.get (relayPos r) →
    ∃ t, exec (.relayCheck r aux n) s = .next t ∧ t.get (relayPos r) = b2n aux ∧
      t.get (relayTime r) = min n 65535 ∧ t.relayOps r = s.relayOps r + 1 ∧ t.relayOps (otherRelay r) = s.relayOps (otherRelay r) ∧
      OnlyLogged [relayPos r, relayTime r] s t) ∧
  (∀ (s : State) (r : Fin 2) (aux : Bool) (n : Nat), aux ≠ (s.relay r).coil →
    ∃ t, exec (.relayCheck r aux n) s = .next t ∧ t.get (relayFlt r) = 1 ∧
      (t.relay r).failOpen = ((s.relay r).failOpen || (s.relay r).coil) ∧
      OnlyLogged [relayPos r, relayTime r, relayFlt r] s t) ∧
  (∀ (s : State) (r : Fin 2), ∃ t, exec (.relayCutEnd r) s = .next t ∧ t.get (relayBusy r) = 0 ∧
    (t.relay r).cut = false ∧ (t.relay r).cutEnd = some s.pwrNow ∧ (t.relay r).coil = (s.relay r).coil ∧
    (t.relay r).held = (s.relay r).held ∧ t.relay (otherRelay r) = s.relay (otherRelay r) ∧
    SameRegs [relayBusy r, R.MRD_STATUS_INSERT, R.MRD_STATUS_LAUNCH] s t ∧ t = { s with regs := t.regs, pwr := t.pwr } ∧
    (s.get R.MRD_STATUS_INSERT ≠ 1 → s.get R.MRD_STATUS_INSERT ≠ 5 → s.pwr.kw.coil = true → s.pwr.ke.coil = true →
      t.get R.MRD_STATUS_INSERT = 4) ∧
    (s.get R.MRD_STATUS_INSERT ≠ 1 → s.get R.MRD_STATUS_INSERT ≠ 5 → s.pwr.kw.coil = true → s.pwr.ke.coil = false →
      t.get R.MRD_STATUS_INSERT = (if 3 ≤ s.get R.MRD_STATUS_INSERT then 3 else 2)) ∧
    (s.get R.MRD_STATUS_INSERT ≠ 1 → s.get R.MRD_STATUS_INSERT ≠ 5 → s.pwr.kw.coil = false → s.pwr.ke.coil = false →
      t.get R.MRD_STATUS_INSERT = 0 ∧ t.get R.MRD_STATUS_LAUNCH = 0)) ∧
  (∀ (s : State) (kw : Bool), s.mode = mSERVICE → s.get R.PWR_RELAY_KW_CMD ≠ b2n kw → s.pwr.kw.coil ≠ kw →
    s.relayHolds 0 = false → s.pwr.kw.failOpen = false → s.pwr.ke.held = none →
    ∃ t, exec (.relayCommand kw (s.get R.PWR_RELAY_KE_CMD == 1)) s = .next t ∧
      (s.get R.PWR_RELAY_KE_CMD ≤ 1 → t.get R.PWR_RELAY_KW_CMD = b2n kw ∧ t.pwr.kw.coil = kw ∧
        t.get R.PWR_RELAY_KW_BUSY = 1)) ∧
  (∀ (s : State) (kw : Bool), s.mode = mSERVICE → s.get R.PWR_RELAY_KW_CMD ≠ b2n kw → s.relayHolds 0 = true →
    s.get R.PWR_RELAY_KE_CMD ≤ 1 → s.pwr.ke.held = none →
    ∃ t, exec (.relayCommand kw (s.get R.PWR_RELAY_KE_CMD == 1)) s = .next t ∧ t.pwr.kw.held = some kw ∧
      t.pwr.kw.coil = s.pwr.kw.coil ∧ t.get R.PWR_RELAY_KW_CMD = b2n kw ∧ t.get R.PWR_RELAY_HELD = 1 ∧
      SameRegs [R.PWR_RELAY_HELD, R.PWR_RELAY_KW_CMD] s t) ∧
  (∀ (s : State) (kw ke : Bool), s.mode ≠ mSERVICE →
    (b2n kw ≠ s.get R.PWR_RELAY_KW_CMD ∨ b2n ke ≠ s.get R.PWR_RELAY_KE_CMD) →
    ∃ t, exec (.relayCommand kw ke) s = .next t ∧ t.get R.PWR_RELAY_IGNORED = 1 ∧ OnlyRegs [R.PWR_RELAY_IGNORED] s t) ∧
  (∀ (s : State) (r : Fin 2), s.mode ≠ mSERVICE → exec (.relayHeldRelease r) s = .next s) ∧
  (∀ (s : State) (r : Fin 2) (pos : Bool), s.mode = mSERVICE → (s.relay r).held = some pos → s.relayHolds r = false →
    (s.relay r).coil ≠ pos → (pos = true → (s.relay r).failOpen = false) →
    ∃ t, exec (.relayHeldRelease r) s = .next t ∧ (t.relay r).coil = pos ∧ (t.relay r).held = none ∧
      t.get (relayCmd r) = b2n pos ∧ t.get (relayBusy r) = 1 ∧ SameRegs [relayCmd r, relayBusy r] s t)

/-- The management plane's failures (R59): LIMP is requested with cause 0x31, or RESET is entered with cause 0x08. -/
def Obligations.ManagementFailure : Prop :=
  (∀ s : State, s.inMode [mSTANDBY, mROAD, mFIELD, mSERVICE] = true → s.alm.mgmtFailed = false →
    (∃ t, exec .watchdogExpiry s = .next t ∧ t.alm.modeReq = s.alm.modeReq ++ [(mLIMP, 0x31)] ∧
      t.get R.CHR_DISC_STATE = 3 ∧ t.alm.mgmtFailed = true) ∧
    ∃ t, exec .lockstepMismatch s = .next t ∧ t.alm.modeReq = s.alm.modeReq ++ [(mLIMP, 0x31)] ∧
      t.get R.CHR_DISC_STATE = 3 ∧ t.alm.mgmtFailed = true) ∧
  (∀ s : State, s.inMode [mLOAD, mPROVE] = true →
    (∃ t, exec .lockstepMismatch s = .next t ∧ ResetEntered 0x08 s t) ∧
    (∃ t, exec .pllPUnlock s = .next t ∧ ResetEntered 0x08 s t)) ∧
  (∀ s : State, s.mode = mPROVE → ∃ t, exec .watchdogExpiry s = .next t ∧ ResetEntered 0x08 s t) ∧
  (∀ s : State, s.inMode [mLOAD, mPROVE] = false →
    ∃ t, exec .pllPUnlock s = .next t ∧ t.get R.CHR_CLKSTAT_LOCK_P = 0 ∧ t.alm.pilotUp = false ∧ LogGains 1 [1] s t ∧
      SameRegs [R.LOG_LOST_VALUE, R.CHR_CLKSTAT_LOCK_P] s t)

/-! ### Time, discipline and crossings -/

/-- Reads of the Chronometer (R123, R114): the low word is returned and the high word latched for the master alone;
CHR_XING.LOST clears. -/
def Obligations.ChronometerReads : Prop :=
  (∀ (s : State) (m : Nat) (p : Fin 10000), ∃ t, exec (.chrMt64LoRead m p) s = .next t ∧
    t.rdata = (if s.chr.running then s.chr.base + 8 * p.val else 0) % 2 ^ 32 ∧
    (t.latch m).1 = (if s.chr.running then s.chr.base + 8 * p.val else 0) / 2 ^ 32 % 2 ^ 32 ∧
    (t.latch m).2 = (s.latch m).2 ∧ (∀ n, n ≠ m → t.latch n = s.latch n) ∧
    t = { s with chr.latches := t.chr.latches, chr.phase := p.val, rdata := t.rdata }) ∧
  (∀ (s : State) (m : Nat), ∃ t, exec (.chrTickLoRead m) s = .next t ∧ t.rdata = s.chr.tick % 2 ^ 32 ∧
    (t.latch m).2 = s.chr.tick / 2 ^ 32 % 2 ^ 16 ∧ (t.latch m).1 = (s.latch m).1 ∧
    (∀ n, n ≠ m → t.latch n = s.latch n) ∧ t = { s with chr.latches := t.chr.latches, rdata := t.rdata }) ∧
  (∀ s : State, ∃ t, exec .chrXingRead s = .next t ∧
    t.rdata = 2 ^ 16 * s.get R.CHR_XING_LAST_ID + s.get R.CHR_XING_LOST ∧ t.get R.CHR_XING_LOST = 0 ∧
    OnlyRead [R.CHR_XING_LOST] s t)

/-- Snapshots (R102): a slot is armed, refused as busy or as too late, and fires at the edge whose tick count it names, with MT64 of the edge. -/
def Obligations.Snapshots : Prop :=
  (∀ (s : State) (k : Fin 4) (n : BitVec 48), (s.chr.snaps.getD k {}).armed = false → s.chr.tick + 2 ≤ n.toNat →
    ∃ t, exec (.snapArm k n) s = .next t ∧ t.get R.CHR_SNAP_CTL_RESULT = 1 ∧
      t.chr.snaps = s.chr.snaps.set k { armed := true, t := n.toNat } ∧
      t.get R.CHR_SNAP_STAT_ARMED = setBit (s.get R.CHR_SNAP_STAT_ARMED) k true % 16) ∧
  (∀ (s : State) (k : Fin 4) (n : BitVec 48), (s.chr.snaps.getD k {}).armed = true →
    ∃ t, exec (.snapArm k n) s = .next t ∧ t.get R.CHR_SNAP_CTL_RESULT = 4 ∧ t = { s with regs := t.regs }) ∧
  (∀ (s : State) (k : Fin 4) (n : BitVec 48), (s.chr.snaps.getD k {}).armed = false → n.toNat < s.chr.tick + 2 →
    ∃ t, exec (.snapArm k n) s = .next t ∧ t.get R.CHR_SNAP_CTL_RESULT = 3 ∧ t.chr = s.chr ∧
      LogGains 11 [k, n.toNat] s t) ∧
  (∀ (s : State) (k : Fin 4), (s.chr.snaps.getD k {}).armed = true → (s.chr.snaps.getD k {}).t = s.chr.tick →
    ∃ t, exec (.snapFire k) s = .next t ∧ t.get R.CHR_SNAP_CTL_RESULT = 2 ∧
      t.get R.CHR_SNAP_STAT_FIRED = (s.get R.CHR_SNAP_STAT_FIRED ||| 2 ^ k.val) % 16 ∧
      t.chr.snaps = s.chr.snaps.set k { armed := false, t := s.chr.tick, mt := s.chr.base } ∧
      (∃ b, t.hlm.snaps.find? (fun q => q.1 == k.val) = some (k.val, b)) ∧
      OnlyRegs [R.CHR_SNAP_CTL_RESULT, R.CHR_SNAP_STAT_FIRED, R.CHR_SNAP_STAT_ARMED]
        { s with chr := t.chr, hlm := t.hlm } t)

/-- Stamp queues (R95) and class P crossings (R114, R118). -/
def Obligations.StampsAndCrossings : Prop :=
  (∀ (s : State) (p : Fin 66) (n : Nat), s.chr.running = true →
    ∃ t, exec (.stamp p n) s = .next t ∧
      ((s.stampQ p).stamps.length < 8 → (t.stampQ p).stamps = (s.stampQ p).stamps ++ [n] ∧
        t = { s with chr.stamps := t.chr.stamps }) ∧
      (8 ≤ (s.stampQ p).stamps.length → (t.stampQ p).stamps = (s.stampQ p).stamps ∧
        (t.stampQ p).lost = (s.stampQ p).lost + 1 ∧ LogGains 12 [p, (s.stampQ p).lost + 1] s t) ∧
      ∀ q, q ≠ p.val → t.stampQ q = s.stampQ q) ∧
  (∀ (s : State) (id : BitVec 16), ∃ t, exec (.xingPulse id false) s = .next t ∧
    t = { s with chr.xings := t.chr.xings } ∧ (∀ n, n ≠ id.toNat → t.xing n = s.xing n) ∧
    t.xing id.toNat =
      (if (s.xing id.toNat).busy = false then { s.xing id.toNat with busy := true }
       else if (s.xing id.toNat).pend < 15 then { s.xing id.toNat with pend := (s.xing id.toNat).pend + 1 }
       else { s.xing id.toNat with lost := (s.xing id.toNat).lost + 1 })) ∧
  (∀ (s : State) (id : BitVec 16), (s.xing id.toNat).pend = 0 →
    ∃ t, exec (.xingPulse id true) s = .next t ∧ t.xing id.toNat = { s.xing id.toNat with busy := false } ∧
      t = { s with chr.xings := t.chr.xings }) ∧
  (∀ (s : State) (id : BitVec 16), 0 < (s.xing id.toNat).pend →
    ∃ t, exec (.xingPulse id true) s = .next t ∧ (t.xing id.toNat).pend = (s.xing id.toNat).pend - 1 ∧
      (t.xing id.toNat).busy = (s.xing id.toNat).busy ∧
      ((s.xing id.toNat).pend = 1 → (s.xing id.toNat).lost ≠ 0 → (t.xing id.toNat).lost = 0 ∧
        t.get R.CHR_XING_LOST = min (s.get R.CHR_XING_LOST + (s.xing id.toNat).lost) 65535 ∧
        t.get R.CHR_XING_LAST_ID = id.toNat ∧ LogGains 9 [id.toNat, (s.xing id.toNat).lost] s t)) ∧
  (∀ (s : State) (id : BitVec 16), ∃ t, exec (.xingAckTimeout id) s = .next t ∧
    t.xing id.toNat = { id := id.toNat } ∧ LogNext 10 [id.toNat] s t)

/-- The reference events of the discipline (R104, R105, R110, R270): a PPS edge too early is rejected with EV005 and ends its
source's run, one in time becomes the source's last edge; a time of day names an edge; a Sync is a reference event; a
path delay is taken over, with the stamps of its exchange, unless one of them is missing (R95). -/
def Obligations.ReferenceEvents : Prop :=
  (∀ (s : State) (k : Fin 2) (raw : Nat), s.takesRef (k.val + 1) = true → (s.ref (k.val + 1)).edge = none →
    s.mode ≠ mLIMP →
    ∃ t, exec (.ppsEdge k (some raw)) s = .next t ∧ t.chr.refs = s.chr.refs.modify k.val (fun r => { r with
      edge := some (raw - ppsDelay (s.get (if k = 0 then R.CHR_PPS_DLY_PPS0 else R.CHR_PPS_DLY_PPS1))),
      sec := none, named := false, tickAt := s.chr.tick, corrAt := s.chr.corrSum })) ∧
  (∀ (s : State) (k : Fin 2) (raw e : Nat), s.takesRef (k.val + 1) = true → (s.ref (k.val + 1)).edge = some e →
    raw - ppsDelay (s.get (if k = 0 then R.CHR_PPS_DLY_PPS0 else R.CHR_PPS_DLY_PPS1)) + 8000 < e + second →
    ∃ t, exec (.ppsEdge k (some raw)) s = .next t ∧ (t.ref (k.val + 1)).good = 0 ∧
      LogNext 5 [k, 0] (s.atPhase (raw / 8)) t) ∧
  (∀ (s : State) (k : Fin 2) (raw e : Nat), s.takesRef (k.val + 1) = true → (s.ref (k.val + 1)).edge = some e →
    raw - ppsDelay (s.get (if k = 0 then R.CHR_PPS_DLY_PPS0 else R.CHR_PPS_DLY_PPS1)) = e + second →
    ∃ t, exec (.ppsEdge k (some raw)) s = .next t ∧ (t.ref (k.val + 1)).edge = some (e + second)) ∧
  (∀ (s : State) (k : Fin 2) (sec a e : Nat), s.plt.tods.find? (fun x => x.1 == k.val) = some (k.val, sec, a) →
    s.takesRef (k.val + 1) = true → (s.ref (k.val + 1)).edge = some e → (s.ref (k.val + 1)).named = false → e ≤ a →
    a ≤ e + 720000000 →
    ∃ t, exec (.timeOfDay k) s = .next t ∧ (t.ref (k.val + 1)).sec = some sec ∧ (t.ref (k.val + 1)).named = true ∧
      (t.ref (k.val + 1)).good = (s.ref (k.val + 1)).good + 1) ∧
  (∀ (s : State) (k : Fin 2) (rx origin : Nat), s.takesRef (k.val + 3) = true → s.gptpMode k ≠ 0 →
    (s.gptpPort k).master = false → s.Shaped →
    ∃ t, exec (.gptpSync k (some rx) origin) s = .next t ∧ (t.ref (k.val + 3)).edge = some rx ∧
      (t.ref (k.val + 3)).sec = some ((origin * 4 + 2) / 5) ∧
      (t.ref (k.val + 3)).good = (s.ref (k.val + 3)).good + 1) ∧
  (∀ (s : State) (k : Fin 2) (x : PdelayIn), s.gptpMode k ≠ 0 → x.tx ≠ none → x.rx ≠ none → s.Shaped →
    ∃ t, exec (.gptpPdelayResp k x) s = .next t ∧ (t.ref (k.val + 3)).delay = x.delay ∧
      (t.stampQ (ptEth k 1)).stamps = (s.stampQ (ptEth k 1)).stamps.tail ∧
      (t.stampQ (ptEth k 0)).stamps = (s.stampQ (ptEth k 0)).stamps.tail ∧
      t = { s with chr.refs := t.chr.refs, chr.stamps := t.chr.stamps } ∧
      ∀ c, c ≠ k.val + 3 → c ≠ 0 → t.ref c = s.ref c) ∧
  (∀ (s : State) (k : Fin 2) (x : PdelayIn), s.gptpMode k = 0 ∨ x.tx = none ∨ x.rx = none →
    ∃ t, exec (.gptpPdelayResp k x) s = .next t ∧ t = { s with chr.stamps := t.chr.stamps }) ∧
  (∀ (s : State) (k : Fin 2), exec (.ppsEdge k none) s = .next (s.atPhase s.chr.phase)) ∧
  (∀ (s : State) (k : Fin 2) (origin : Nat), exec (.gptpSync k none origin) s = .next s)

/-- The states of the discipline (R103, R106, R107, Table 3.5): the loss of the reference, the end of HOLDOVER, the change
to a preferred source, and the step of MT64. From a correction wanted within ±120 ppm, CHR_RATE moves at an edge by at most
200 ppm per second (R108). -/
def Obligations.DisciplineStates : Prop :=
  (∀ s : State, s.get R.CHR_DISC_STATE = 2 → s.get R.CHR_DISC_SOURCE ≠ 0 →
    (∀ c ∈ s.srcOrder, c ≠ s.get R.CHR_DISC_SOURCE → s.qualified c = false) →
    ∃ t, exec .referenceLost s = .next t ∧ t.get R.CHR_DISC_STATE = 3 ∧ t.chr.holdTick = s.chr.tick ∧
      (t.ref (s.get R.CHR_DISC_SOURCE)).good = 0 ∧ LogNext 3 [3, s.get R.CHR_DISC_SOURCE] s t) ∧
  (∀ s : State, s.get R.CHR_DISC_STATE = 3 → 10000 * s.get R.CHR_REF_HOLDOVER_S ≤ s.chr.tick - s.chr.holdTick →
    ∃ t, exec .holdoverExpiry s = .next t ∧ t.get R.CHR_DISC_STATE = 0 ∧ t.get R.CHR_DISC_SOURCE = 0 ∧
      t.chr.rateWant = 0 ∧ t.get R.CHR_RATE_VALUE = s.get R.CHR_RATE_VALUE ∧ LogNext 3 [0, s.get R.CHR_DISC_SOURCE] s t) ∧
  (∀ (s : State) (c : Fin 5) (n : Nat), s.takesRef c = true →
    c.val ∈ s.srcOrder.takeWhile (fun d => decide (d ≠ s.get R.CHR_DISC_SOURCE)) → s.qualified c = true →
    (s.ref c).qualTick = some n → n + 600000 ≤ s.chr.tick →
    (s.get R.CHR_DISC_STATE = 1 ∨ s.get R.CHR_DISC_STATE = 2) →
    ∃ t, exec (.sourceSwitch c) s = .next t ∧ t.get R.CHR_DISC_SOURCE = c.val ∧ t.get R.CHR_DISC_STATE = 1) ∧
  (∀ (s : State) (n : Int), s.chr.step = some (s.chr.tick, n) → s.quiet = true →
    ∃ t, exec .mt64Step s = .next t ∧ t.chr.base = ofInt 64 ((s.chr.base : Int) + 80000 * n) ∧
      t.chr.tick = s.chr.tick ∧ t.chr.step = none ∧ t.get R.CHR_DISC_STEPPED = 1 ∧
      t.get R.CHR_DISC_STEP_PENDING = 0 ∧
      LogGains 4 [ofInt 64 (80000 * n), ofInt 64 (80000 * n) / 2 ^ 32, s.chr.tick] { s with chr := t.chr } t) ∧
  (∀ s : State, s.chr.rateWant.natAbs ≤ (ppm 120).natAbs →
    10000 * (toInt 32 (s.rateEdge.get R.CHR_RATE_VALUE) - toInt 32 (s.get R.CHR_RATE_VALUE)).natAbs ≤ (ppm 200).natAbs ∧
      s.rateEdge.chr.rateWant = s.chr.rateWant)

/-- IEEE 802.1AS (R510): what the ports send, the loss of the grandmaster, and an Announce heard. -/
def Obligations.GptpPorts : Prop :=
  (∀ s : State, ∃ t, exec .gptpPdelayReq s = .next t ∧ t = { s with freeCtr := s.freeCtr + 1, hsi.net := t.hsi.net } ∧
    ∀ p : Fin 2, ((p.val, 2, []) ∈ t.hsi.net ↔ s.gptpMode p ≠ 0)) ∧
  (∀ (s : State) (p : Fin 2), s.gptpMode p ≠ 0 → (s.gptpPort p).master = false → s.Shaped →
    ∃ t, exec (.gptpReceiptTimeout p) s = .next t ∧ (t.gptpPort p).gm = none ∧
      (t.ref (p.val + 3)).edge = none ∧ (t.ref (p.val + 3)).good = 0 ∧ t.freeCtr = s.freeCtr + 1 ∧
      LogNext 6 [p, (Config.freeValue 32 s.freeCtr).toNat] s t) ∧
  (∀ (s : State) (p : Fin 2) (v : List Nat) (gm : BitVec 64), s.gptpMode p = 1 → s.Shaped →
    ∃ t, exec (.gptpAnnounce p v gm) s = .next t ∧ t.gptpPort p = { gm := some gm.toNat, master := false } ∧
      ((s.gptpPort p).gm = none ∨ (s.gptpPort p).gm = some gm.toNat → t = { s with hsi.gptp := t.hsi.gptp }) ∧
      (∀ g, (s.gptpPort p).gm = some g → g ≠ gm.toNat →
        LogGains 6 [p, (Config.freeValue 32 s.freeCtr).toNat] s t))

/-! ### Registers, commits and the tick -/

/-- COMMIT (R82, R83): accepted up to phase 98.00 µs for the next edge, later for the one after; refused for a region that is
pending, and for one that is not assigned. COMMIT_APPLY: at its edge the values staged for a region act together: each
field takes the last value staged for it, the staging copies and the pending bit go, and no field that was not staged
changes; then the region's owner acts on them (`State.committed`), which for the groups of Helm, vehicle state, sources, tracks,
Lookout, the CAN controllers and the Binnacle changes no register. Before its edge, and for a region with no commit pending,
nothing happens. TICK_EDGE leaves no commit that is due (R203). -/
def Obligations.Commits : Prop :=
  (∀ (s : State) (r : BitVec 8) (p : Fin 10000), r.toNat ∈ regions → (∀ c ∈ s.commits, c.1 ≠ r.toNat) →
    ∃ t, exec (.commit r p) s = .next t ∧ t.get R.ALM_COMMIT_RESULT = 1 ∧ t.get R.ALM_COMMIT_REGION = r.toNat ∧
      t.commits = s.commits ++ [(r.toNat, if p.val ≤ 9800 then s.chr.tick + 1 else s.chr.tick + 2)] ∧
      OnlyRegs [R.ALM_COMMIT_REGION, R.ALM_COMMIT_RESULT] { s with commits := t.commits, chr.phase := p.val } t) ∧
  (∀ (s : State) (r : BitVec 8) (p : Fin 10000) (e : Nat), r.toNat ∈ regions → (r.toNat, e) ∈ s.commits →
    ∃ t, exec (.commit r p) s = .next t ∧ t.get R.ALM_COMMIT_RESULT = 3 ∧ t.commits = s.commits ∧
      t.staged = s.staged ∧ LogGains 115 [1] (s.atPhase p) t) ∧
  (∀ (s : State) (r : BitVec 8) (p : Fin 10000), r.toNat ∉ regions →
    ∃ t, exec (.commit r p) s = .next t ∧ t.get R.ALM_COMMIT_RESULT = 4 ∧ t.commits = s.commits) ∧
  (∀ (s : State) (r : BitVec 8) (e : Nat), (r.toNat, e) ∈ s.commits → e ≤ s.chr.tick →
    ∃ u t : State, exec (.commitApply r) s = .next t ∧
      t = u.committed s r.toNat (s.staged.filter fun y => y.1 == r.toNat) ∧ t.get R.ALM_COMMIT_RESULT = 2 ∧
      (∀ c, c ∈ t.commits ↔ c ∈ s.commits ∧ c.1 ≠ r.toNat) ∧ (∀ x, x ∈ t.staged ↔ x ∈ s.staged ∧ x.1 ≠ r.toNat) ∧
      u = { s with regs := u.regs, staged := u.staged, commits := u.commits } ∧
      (∀ (f : Fld) (x : Nat × Nat × Nat), f.key ≠ R.ALM_COMMIT_RESULT.key →
        (s.staged.filter fun y => y.1 == r.toNat && y.2.1 == f.key).getLast? = some x → u.get f = x.2.2) ∧
      (∀ f : Fld, f.key ≠ R.ALM_COMMIT_RESULT.key → (∀ y ∈ s.staged, y.1 = r.toNat → y.2.1 ≠ f.key) →
        u.get f = s.get f) ∧
      (r.toNat < 8 → t = { u with hlm.chans := t.hlm.chans }) ∧
      (r.toNat ∈ [0x20, 0x21, 0x22, 0x34, 0x50] → t = u) ∧
      (r.toNat ∈ [0x40, 0x41, 0x42, 0x43, 0x44, 0x45] → t = { u with bus := t.bus })) ∧
  (∀ (s : State) (r : BitVec 8), (∀ e, (r.toNat, e) ∈ s.commits → s.chr.tick < e) → exec (.commitApply r) s = .next s) ∧
  (∀ (s : State) (x : TickIn), s.chr.running = true →
    ∃ t, exec (.tickEdge x) s = .next t ∧ ∀ c ∈ t.commits, c ∈ s.commits ∧ t.chr.tick < c.2)

/-- REGISTER_WRITE stops where a reserved bit is written as 1 (R13), and has no effect while the module is held in RESET and
at an address that holds no register. -/
def Obligations.RegisterWriteBounds : Prop :=
  (∀ (s : State) (a : Nat) (v : BitVec 32) (g : Target), s.mode ≠ mRESET → s.target a = some g →
    g.reserved v.toNat ≠ 0 → exec (.registerWrite a v) s = .fault .reservedFieldWritten) ∧
  (∀ (s : State) (a : Nat) (v : BitVec 32), s.mode = mRESET ∨ s.target a = none →
    exec (.registerWrite a v) s = .next s)

/-- REGISTER_WRITE (R81, R83, R202). Of a word of a record window: COMMIT fields are staged, or refused with STAGE_LOCKED
while their region's commit is pending; HALT fields of a block that is not idle are refused with LATE; neither changes the
value in force. Of a register with one field: a LIVE field holds the value at once, a TICK field's waits for the edge. A staged value
waits for the commit of its region (R82). -/
def Obligations.RegisterWrites : Prop :=
  (∀ (s : State) (a off i : Nat) (w : Win) (v : BitVec 32), s.mode ≠ mRESET → s.mode ≠ mLIMP → a % 4 = 0 →
    s.winAt a = some (w, i, off) → (s.winTarget w i off).reserved v.toNat = 0 → w.halt = [] →
    (∀ c ∈ s.commits, c.1 ≠ s.recRegion w.type i) →
    ∃ t, exec (.registerWrite a v) s = .next t ∧ t = { s with staged := t.staged } ∧
      ∀ k ∈ [0, 1, 2, 3], inSpans w.rsvd (off + k) = false →
        bits v.toNat (8 * k) 8 ≠ s.seen (recByte w.type i (off + k)) →
        (s.recRegion w.type i, (recByte w.type i (off + k)).key, bits v.toNat (8 * k) 8) ∈ t.staged) ∧
  (∀ (s : State) (a off i e : Nat) (w : Win) (v : BitVec 32), s.mode ≠ mRESET → s.mode ≠ mLIMP → a % 4 = 0 →
    s.winAt a = some (w, i, off) → (s.winTarget w i off).reserved v.toNat = 0 → w.halt = [] →
    (s.recRegion w.type i, e) ∈ s.commits →
    (∃ k ∈ [0, 1, 2, 3], inSpans w.rsvd (off + k) = false ∧
      bits v.toNat (8 * k) 8 ≠ s.seen (recByte w.type i (off + k))) →
    ∃ t, exec (.registerWrite a v) s = .next t ∧ t.staged = s.staged ∧ t.get R.ALM_CHG_STATUS_STAGE_LOCKED = 1 ∧
      LogGains 115 [2] s t ∧ OnlyLogged [R.ALM_CHG_STATUS_STAGE_LOCKED, R.ALM_CHG_STATUS_STAGE_REGION] s t) ∧
  (∀ (s : State) (a off i : Nat) (w : Win) (v : BitVec 32), s.mode ≠ mRESET → s.mode ≠ mLIMP → a % 4 = 0 →
    s.winAt a = some (w, i, off) → (s.winTarget w i off).reserved v.toNat = 0 → s.recIdle w.type i = false →
    (∀ k ∈ [0, 1, 2, 3], inSpans w.halt (off + k) = true) →
    (∃ k ∈ [0, 1, 2, 3], inSpans w.rsvd (off + k) = false ∧
      bits v.toNat (8 * k) 8 ≠ s.get (recByte w.type i (off + k))) →
    ∃ t, exec (.registerWrite a v) s = .next t ∧ t.get R.ALM_CHG_STATUS_LATE = 1 ∧ LogGains 115 [0] s t ∧
      OnlyLogged [R.ALM_CHG_STATUS_LATE, R.ALM_CHG_STATUS_LATE_BLK] s t) ∧
  (∀ (s : State) (a d : Nat) (ix : List Nat) (v : BitVec 32) (g : Target) (f : RField), s.mode ≠ mRESET →
    s.mode ≠ mLIMP → s.target a = some g → g.reserved v.toNat = 0 → g.reg = some (d, ix) → g.fields = [f] →
    f.acc = .rw → s.noMan g f = false → s.ownWrite d (ix.headD 0) v.toNat = none → bit v.toNat 31 = false →
    d ≠ R.LKT_CTL_PAUSE.reg →
    (f.cls = .live → ∃ t, exec (.registerWrite a v) s = .next t ∧
      t.get f.fld = bits v.toNat f.lo f.fld.w ∧ OnlyRegs [f.fld] s t) ∧
    (f.cls = .tick → bits v.toNat f.lo f.fld.w ≠ s.seen f.fld → ∃ t, exec (.registerWrite a v) s = .next t ∧
      (f.fld.key, bits v.toNat f.lo f.fld.w) ∈ t.tickW ∧ t.seen f.fld = bits v.toNat f.lo f.fld.w ∧
      t = { s with tickW := t.tickW })) ∧
  (∀ (s : State) (r : BitVec 8) (p : Fin 10000), r.toNat ∈ regions → (∀ c ∈ s.commits, c.1 ≠ r.toNat) →
    ∃ t e, exec (.commit r p) s = .next t ∧ (r.toNat, e) ∈ t.commits ∧ s.chr.tick < e ∧ t.staged = s.staged ∧
      t.get R.ALM_COMMIT_RESULT = 1) ∧
  (∀ (s : State) (r : BitVec 8) (e : Nat) (f : Fld) (x : Nat × Nat × Nat), (r.toNat, e) ∈ s.commits → e ≤ s.chr.tick →
    r.toNat < 8 → f.key ≠ R.ALM_COMMIT_RESULT.key →
    (s.staged.filter fun y => y.1 == r.toNat && y.2.1 == f.key).getLast? = some x →
    ∃ t, exec (.commitApply r) s = .next t ∧ t.get f = x.2.2 ∧ t.get R.ALM_COMMIT_RESULT = 2)

/-- TICK_EDGE (R97, R98, R100): while the Chronometer runs, the tick count and MT64 advance by one tick and the phase is
0; before its release nothing happens. -/
def Obligations.TickEdgeTime : Prop :=
  (∀ (s : State) (x : TickIn), s.chr.running = true →
    ∃ t, exec (.tickEdge x) s = .next t ∧ t.chr.tick = (s.chr.tick + 1) % 2 ^ 48 ∧
      t.chr.base = (s.chr.base + 80000) % 2 ^ 64 ∧ t.chr.phase = 0 ∧ t.tickW = [] ∧ t.pending = s.pending) ∧
  (∀ (s : State) (x : TickIn), s.chr.running = false → exec (.tickEdge x) s = .next s)

/-- The change of mode at the edge (R58, R59, R62, R63): the target, the mode before and the cause; LIMP goes before every
other request; STANDBY and SERVICE set LIMP_SET; no request leads out of LIMP. -/
def Obligations.ModeChange : Prop :=
  (∀ (s : State) (m cause : Nat), nextMode s.alm.modeReq = some (m, cause) → s.get R.UPD_STAT_STATE ≠ 5 → m < 8 →
    cause < 256 → m ≠ s.mode → s.mode < 8 → s.mode ≠ mLIMP →
    s.modeEdge.alm.modeReq = [] ∧ s.modeEdge.mode = m ∧ s.modeEdge.get R.ALM_MODE_PREV = s.mode ∧
      s.modeEdge.get R.ALM_MODE_CAUSE = cause ∧
      (m = mLIMP → s.modeEdge.staged = [] ∧ s.modeEdge.commits = [] ∧
        s.modeEdge.get R.ALM_MODE_LIMP_SET = b2n (decide (s.mode = mSTANDBY ∨ s.mode = mSERVICE)))) ∧
  (∀ s : State, s.mode = mLIMP → s.modeEdge = { s with alm.modeReq := [] })

/-! ### Modes at the start, field update and settings -/

/-- RESET_RELEASE (R24, R58, R65, R448, R520): with the condition of the RESET's cause met, LOAD begins: the clocks run from
tick 0, the Logbook is up with its START record, and SSEL gives the role. -/
def Obligations.ResetRelease : Prop :=
  (∀ (s : State) (r : ReleaseIn), s.mayRelease r = true →
    ∃ t, exec (.resetRelease r) s = .next t ∧ t.mode = mLOAD ∧ t.get R.ALM_MODE_PREV = mRESET ∧
      t.get R.ALM_MODE_CAUSE = 0x10 ∧ t.chr.running = true ∧ t.chr.tick = 0 ∧ t.chr.base = 0 ∧ t.log.up = true ∧
      t.log.starts = s.log.starts + 1 ∧ t.pwr.held = [] ∧ t.pwr.ssel = sselOf r.sselMv ∧
      t.get R.MRD_STATUS_ROLE = b2n (sselOf r.sselMv == 1) ∧ t.get R.CHR_CLKSTAT_LOCK_T = 1 ∧
      ∃ q ∈ t.log.queue, q.code = 0x0100 ∧ q.params.getD 0 0 = s.pwr.rstCause % 2 ^ 32) ∧
  (∀ (s : State) (r : ReleaseIn), s.mayRelease r = false → exec (.resetRelease r) s = .next s)

/-- LOAD_COMPLETE and PROVE_COMPLETE (R67, R68, R70, R71, R80): the mode each asks for, with its cause. -/
def Obligations.StartOutcome : Prop :=
  (∀ (s u : State) (r : LoadIn) (fw b : Nat), s.mode = mLOAD → s.alm.recovery = false → s.alm.modeReq = [] →
    s.chooseBanks r = (u, some (fw, some b)) →
    ∃ t, exec (.loadComplete r) s = .next t ∧ t.alm.modeReq = [(mPROVE, 0x11)] ∧
      t.get R.ALM_LOAD_ALM_BANK = b % 2 ∧ t.mode = mLOAD) ∧
  (∀ (s u : State) (r : LoadIn) (fw : Nat), s.mode = mLOAD → s.alm.recovery = false → s.alm.modeReq = [] →
    s.chooseBanks r = (u, some (fw, none)) →
    ∃ t, exec (.loadComplete r) s = .next t ∧ t.alm.modeReq = [(mSERVICE, 0x13)] ∧
      t.get R.ALM_START_STANDBY_MS = min r.ms 65535) ∧
  (∀ (s u : State) (r : LoadIn), s.mode = mLOAD → s.alm.recovery = false → s.alm.modeReq = [] →
    s.chooseBanks r = (u, none) → exec (.loadComplete r) s = .next { u with alm.recovery := true }) ∧
  (∀ (s : State) (r : ProveIn), s.mode = mPROVE → s.alm.modeReq = [] → r.chronOk = true → r.lockstepOk = true →
    r.dramOk = true → r.eccOk = true → r.otherError = false → s.alm.proveErr = false → r.badRows = [] → r.badSlices = [] →
    s.cfg 0x0C01 0 8 1 = 1 →
    ∃ t, exec (.proveComplete r) s = .next t ∧ t.alm.modeReq = [(mSTANDBY, 0x12)] ∧
      t.alm.trained = (r.trainedW && r.trainedE) ∧ t.get R.ALM_START_PROVE_MS = min r.proveMs 65535) ∧
  (∀ (s : State) (r : ProveIn), s.mode = mPROVE → s.alm.modeReq = [] →
    (r.chronOk = false ∨ r.lockstepOk = false ∨ r.dramOk = false ∨ r.eccOk = false ∨ r.otherError = true ∨
      s.alm.proveErr = true) →
    ∃ t, exec (.proveComplete r) s = .next t ∧ t.alm.modeReq = [(mSERVICE, 0x14)])

/-- SHUTDOWN_REQUEST and POWER_DOWN (R64, Table 2.4, R463), SETTINGS_WRITE (R471), which writes no frame
above 64 KiB. -/
def Obligations.ShutdownAndSettings : Prop :=
  (∀ s : State, s.pwr.powered = true → s.get R.PWR_STATUS_IGN = 0 → s.get R.PWR_STATUS_SHUTREQ = 0 →
    ∃ t, exec .shutdownRequest s = .next t ∧ t.get R.PWR_STATUS_SHUTREQ = 1 ∧ t.pwr.shutSrc = 0 ∧
      (s.inMode [mROAD, mFIELD, mLIMP] = true → t.pwr.pdBegun = s.pwr.pdBegun) ∧
      (s.inMode [mROAD, mFIELD, mLIMP] = false → s.upd.lock = true → t.pwr.pdBegun = s.pwr.pdBegun) ∧
      (s.inMode [mROAD, mFIELD, mLIMP] = false → s.upd.lock = false → t.pwr.pdBegun = true) ∧
      SameRegs [R.PWR_STATUS_SHUTREQ] s t) ∧
  (∀ s : State, s.pwr.pdBegun = true →
    ∃ t, exec .powerDown s = .next t ∧ ResetEntered 0x05 s t ∧ t.get R.PWR_STATUS_SHUTREQ = 0 ∧
      (s.pwr.holdUp = false → s.log.up = true → t.log.queue = []) ∧ (s.log.up = true → t.nor.fw = s.nor.fw ∧ t.nor.alm = s.nor.alm)) ∧
  (∀ (s : State) (f : SetFrame) (rest : List SetFrame), s.upd.queue = f :: rest →
    (65536 < f.length → ∃ t, exec (.settingsWrite .done) s = .next t ∧ t.upd.queue = rest ∧ t.nor = s.nor ∧
      t.upd.cur = s.upd.cur ∧ LogGains 119 [1, s.get R.UPD_SET_GEN] s t) ∧
    (f.length ≤ 65536 → ∃ t, exec (.settingsWrite .done) s = .next t ∧ t.upd.queue = rest ∧
      (∀ (p : Nat) (g : SetFrame), s.nor.newest = some (p, g) →
        t.upd.cur = { f with gen := (g.gen + 1) % 2 ^ 32 } ∧ t.get R.UPD_SET_GEN = (g.gen + 1) % 2 ^ 32 ∧
        t.nor.sets.getD p [] = s.nor.sets.getD p []) ∧
      (s.nor.newest = none → t.upd.cur = { f with gen := 1 })) ∧
    (∃ t, exec (.settingsWrite .failed) s = .next t ∧ t.upd.queue = rest ∧ t.nor = s.nor ∧ t.upd.cur = s.upd.cur ∧
      LogGains 119 [1, s.get R.UPD_SET_GEN] s t) ∧
    ∃ t, exec (.settingsWrite .cut) s = .next t ∧ t.upd.queue = rest ∧ t.nor.torn = true ∧ t.upd.cur = s.upd.cur ∧
      (∀ (p : Nat) (g : SetFrame), s.nor.newest = some (p, g) → t.nor.sets.getD p [] = s.nor.sets.getD p []))

/-- The update's own progress (R456 to R460, R470): the check of the staged delta, the end of its application, and the
examination of staging at STANDBY. -/
def Obligations.UpdateProgress : Prop :=
  (∀ s : State, s.get R.UPD_STAT_STATE = 2 → s.updRuns = true →
    ∃ t, exec .deltaCheck s = .next t ∧ t.nor.staging = s.nor.staging ∧
      OnlyLogged [R.UPD_STAT_STATE, R.UPD_STAT_RESULT] { s with nor := t.nor, freeCtr := t.freeCtr } t ∧
      (∀ k ∈ [0, 1], t.bank k (s.upd.cur.active k) = s.bank k (s.upd.cur.active k)) ∧
      (s.deltaCode s.upd.got ≠ 0 →
        t.get R.UPD_STAT_STATE = 0 ∧ t.get R.UPD_STAT_RESULT = s.deltaCode s.upd.got ∧ t.nor = s.nor) ∧
      (s.deltaCode s.upd.got = 0 → s.alm.recovery = false →
        t.get R.UPD_STAT_STATE = 3 ∧ t.get R.UPD_STAT_RESULT = 0) ∧
      (s.deltaCode s.upd.got = 0 → s.alm.recovery = true →
        t.get R.UPD_STAT_STATE =
          if bit (s.delta 0xD 1) 0 = true ∧ s.deltaFull = true then 3 else 0)) ∧
  (∀ (s : State) (fail : Bool), s.get R.UPD_STAT_STATE = 3 → s.updRuns = true →
    ∃ t, exec (.applyComplete fail) s = .next t ∧ t.get R.UPD_STAT_STATE ≠ 3 ∧
      (fail = true → t.get R.UPD_STAT_STATE = 0 ∧ t.get R.UPD_STAT_RESULT = 0x18) ∧
      (fail = false → s.deltaImages = none →
        t.get R.UPD_STAT_STATE = 0 ∧ t.get R.UPD_STAT_RESULT = 0x15 ∧ t.nor = s.nor) ∧
      (∀ fw alm : Option (List Nat), fail = false → s.deltaImages = some (fw, alm) → s.Shaped →
        s.targetCode fw alm ≠ 0 → t.get R.UPD_STAT_STATE = 0 ∧ t.get R.UPD_STAT_RESULT = s.targetCode fw alm) ∧
      (∀ fw alm : Option (List Nat), fail = false → s.deltaImages = some (fw, alm) → s.Shaped →
        s.targetCode fw alm = 0 → s.alm.recovery = false →
        t.get R.UPD_STAT_STATE = 4 ∧ t.nor.staging = s.nor.staging ∧
        (∀ x, fw = some x → t.bank 0 (1 - s.upd.cur.active 0) = x) ∧
        (∀ x, alm = some x → t.bank 1 (1 - s.upd.cur.active 1) = x) ∧
        t.bank 0 (s.upd.cur.active 0) = s.bank 0 (s.upd.cur.active 0) ∧
        t.bank 1 (s.upd.cur.active 1) = s.bank 1 (s.upd.cur.active 1)) ∧
      (∀ fw alm : Option (List Nat), fail = false → s.deltaImages = some (fw, alm) → s.Shaped →
        s.targetCode fw alm = 0 → s.alm.recovery = true → ResetEntered 0x02 s t)) ∧
  (∀ s : State, s.mode = mSTANDBY → s.get R.UPD_STAT_STATE = 0 → s.upd.exam = true →
    ∃ t, exec .stagingExamine s = .next t ∧ t.upd.exam = false ∧ t.get R.UPD_STAT_STAGED = b2n s.deltaWhole ∧
      t.nor.staging = s.nor.staging ∧
      ((s.deltaWhole && bit s.usable (s.delta 0xC 1) && imgSigned (s.delta 0xC 1) s.nor.staging &&
          s.delta 0x10 8 != s.upd.cur.uid) = false → t.get R.UPD_STAT_STATE = 0 ∧ t.nor = s.nor) ∧
      ((s.deltaWhole && bit s.usable (s.delta 0xC 1) && imgSigned (s.delta 0xC 1) s.nor.staging &&
          s.delta 0x10 8 != s.upd.cur.uid) = true →
        t.get R.UPD_STAT_STATE = (if s.deltaCode s.nor.staging.length ≠ 0 then 0 else if s.banksMatch then 4 else 3) ∧
        t.get R.UPD_STAT_RESULT = s.deltaCode s.nor.staging.length)) ∧
  (∀ s : State, s.mode ≠ mSTANDBY ∨ s.get R.UPD_STAT_STATE ≠ 0 ∨ s.upd.exam = false →
    exec .stagingExamine s = .next s)

/-- The waypoint (R463, R464, R465): the lock, the activation at the edge AT in STANDBY and SERVICE, DUE in the other modes; a
module on the ring that does not launch acts only if the last announcement block that it heard carried the waypoint. -/
def Obligations.Waypoint : Prop :=
  (∀ (s : State) (a : Nat), s.upd.at_ = some a → s.get R.UPD_STAT_STATE = 5 → a ≤ s.chr.tick + 16 → s.chr.tick < a →
    exec .waypointLock s = .next { s with upd.lock := true }) ∧
  (∀ s : State, s.upd.at_ = some s.chr.tick → s.get R.UPD_STAT_STATE = 5 →
    (s.launching = true ∨ s.inserted = false ∨ ((s.station s.me).annWp.type = 3 ∧ (s.station s.me).annWp.tick = s.chr.tick)) →
    (s.alm.modeWas = mSTANDBY ∨ s.alm.modeWas = mSERVICE) →
    ∃ t, exec .waypointEdge s = .next t ∧ ResetEntered 0x04 s t ∧ t.nor = s.nor) ∧
  (∀ s : State, s.upd.at_ = some s.chr.tick → s.get R.UPD_STAT_STATE = 5 → s.alm.modeWas ≠ mSTANDBY →
    (s.launching = true ∨ s.inserted = false ∨ ((s.station s.me).annWp.type = 3 ∧ (s.station s.me).annWp.tick = s.chr.tick)) →
    s.alm.modeWas ≠ mSERVICE → s.mode ≠ mSTANDBY →
    ∃ t, exec .waypointEdge s = .next t ∧ t.get R.UPD_STAT_STATE = 6 ∧ t.upd.at_ = none ∧ t.upd.lock = false ∧
      t.mode = s.mode) ∧
  (∀ s : State, s.upd.at_ = some s.chr.tick → s.get R.UPD_STAT_STATE = 5 → s.launching = false → s.inserted = true →
    ((s.station s.me).annWp.type ≠ 3 ∨ (s.station s.me).annWp.tick ≠ s.chr.tick) →
    exec .waypointEdge s = .next { s with upd.lock := false })

/-! ### The Meridian ring -/

/-- Insertion (R46, R48, R153), which opens KE in STANDBY alone and not within 5 ms of KW's cut window, and a link that comes up
(R126). -/
def Obligations.RingInsertion : Prop :=
  (∀ s : State, s.get R.MRD_STATUS_INSERT = 2 →
    (s.me = 0 → ∃ t, exec (.listenEnd none) s = .next t ∧ t.get R.MRD_STATUS_LAUNCH = 1 ∧
      t.mrd.launchFrom = s.chr.tick + 1 ∧ OnlyRegs [R.MRD_STATUS_LAUNCH] { s with mrd.launchFrom := s.chr.tick + 1 } t) ∧
    (s.me ≠ 0 → exec (.listenEnd none) s = .next s) ∧ exec (.listenEnd (some 0)) s = .next s ∧
    ∃ t, exec (.listenEnd (some 1)) s = .next t ∧ t.mrd.standby = true ∧
      OnlyRegs [R.ALM_MODE_RING_READY] { s with mrd.standby := true } t) ∧
  (∀ s : State, s.get R.MRD_STATUS_INSERT = 2 → s.cutNear 0 500000 = false → 8 ≤ s.mrd.good.1 → s.mode = mSTANDBY →
    ∃ t, exec .cwInsertionComplete s = .next t ∧ t.get R.MRD_STATUS_INSERT = 3 ∧
      (s.pwr.ke.failOpen = false → t.pwr.ke.coil = true ∧ t.get R.PWR_RELAY_KE_CMD = 1) ∧
      SameRegs [R.MRD_STATUS_INSERT, R.PWR_RELAY_KE_CMD, R.PWR_RELAY_KE_BUSY] s t) ∧
  (∀ s : State, s.get R.MRD_STATUS_INSERT = 2 → s.mode ≠ mSTANDBY → exec .cwInsertionComplete s = .next s) ∧
  (∀ s : State, s.cutNear 0 500000 = true →
    exec .cwInsertionComplete s = .next s ∧ exec .cwInsertionTimeout s = .next s) ∧
  (∀ s : State, s.get R.MRD_STATUS_INSERT = 2 → s.cutNear 0 500000 = false →
    ∃ t, exec .cwInsertionTimeout s = .next t ∧ LogGains 25 [] s t ∧
      (s.mode ≠ mSTANDBY → t.pwr.ke = s.pwr.ke ∧ t.get R.MRD_STATUS_INSERT = 2) ∧
      (s.mode = mSTANDBY → t.get R.MRD_STATUS_INSERT = 3 ∧ (s.pwr.ke.failOpen = false → t.pwr.ke.coil = true))) ∧
  (∀ (s : State) (d : Fin 2), ∃ t, exec (.ringLinkUp d) s = .next t ∧ t.mrd.linkUp = setBit s.mrd.linkUp d true ∧
    t.mrd.stations = s.mrd.stations.modify s.me (fun x => if x.state = 0 then { x with state := 1 } else x) ∧
    t = { s with mrd.linkUp := t.mrd.linkUp, mrd.stations := t.mrd.stations })

/-- The passes that the launcher sends (R47, R128, R131, R135, R136, R153, R178): both directions, or CW alone while KE is
closed, none that a relay cuts; the C-slots empty, the D-slots as they were taken; every header with its CRC. -/
def Obligations.RingLaunch : Prop :=
  (∀ s : State, s.launchesNow = true →
    ∃ t, exec .cPassLaunch s = .next t ∧
      t.mrd.tx.map (fun x => x.2.dir) = (if s.pwr.ke.coil then [0, 1] else [0]).filter (fun d => !s.dirCut d) ∧
      (∀ x ∈ t.mrd.tx, x.1 = s.me ∧ x.2.ftype = 1 ∧ x.2.origin = s.me ∧ x.2.tick = s.chr.tick ∧ x.2.hcrcOk = true ∧
        x.2.mtLaunch = (s.chr.base + 800) % 2 ^ 64 ∧ x.2.mail = s.mailOf { addr := s.mrd.mailAddr } [] ∧
        x.2.nslot = s.cSlots.length ∧
        x.2.slots = s.cSlots.map (fun p => RingSlot.seal ⟨p.1, 1, 0, List.replicate p.2 0, 0⟩)) ∧
      t = { s with chr.phase := 100, mrd.tx := t.mrd.tx }) ∧
  (∀ s : State, s.launchesNow = true →
    ∃ t m, exec .dPassLaunch s = .next t ∧ m = (s.mrd.mail.head?).getD (s.mailOf {} []) ∧
      t.mrd.tx.map (fun x => x.2.dir) = (if s.pwr.ke.coil then [0, 1] else [0]).filter (fun d => !s.dirCut d) ∧
      (∀ x ∈ t.mrd.tx, x.2.ftype = 2 ∧ x.2.ann = s.annNow ∧ x.2.annOk = true ∧ x.2.hcrcOk = true ∧ x.2.mail = m ∧
        x.2.mtLaunch = (s.chr.base + 48000) % 2 ^ 64 ∧
        x.2.slots = s.mrd.dTaken.map (fun p => RingSlot.seal ⟨p.1, 2, b2n p.2.valid, p.2.payload, 0⟩)) ∧
      t.mrd.mail = s.mrd.mail.tail ∧
      t.mrd.mailAddr = (if m.op = 0 ∨ m.bcast = true then 0 else m.addr)) ∧
  (∀ s : State, s.launchesNow = false →
    exec .cPassLaunch s = .next { s with chr.phase := 100, mrd.tx := [] } ∧
    exec .dPassLaunch s = .next { s with chr.phase := 6000, mrd.tx := [] }) ∧
  (∀ s : State, ∃ t, exec .dSlotTake s = .next t ∧ t.mrd.dSpoilt = [] ∧
    t.mrd.dTaken = s.dSlots.map (fun p => (p.1, DSlot.mk (s.dPayload p.1 p.2)
      (!s.mrd.dSpoilt.contains p.1 && !s.stationFailed p.1))) ∧
    t = { s with chr.phase := 5900, mrd.dTaken := t.mrd.dTaken, mrd.dSpoilt := [] })

/-- The copies that return (R150, R158, R437): a bad header is counted and nothing of it is used; a good C-pass of the tick adds
its copies, one that comes later or at an input held dead none; at 99.00 µs two equal good copies, or one, make a station's input valid, and none or two different make it
invalid. -/
def Obligations.RingCollection : Prop :=
  (∀ (s : State) (f : RingFrame) (n : Nat), s.inserted = true → s.dirCut (frameInput f) = false →
    bit s.mrd.heldDead (frameInput f) = false → f.ftype = 1 ∨ f.ftype = 2 → f.hcrcOk = false →
    ∃ t, exec (.passReceive f n) s = .next t ∧ t.mrd.copies = s.mrd.copies ∧
      t.get R.MRD_ERR_A_HCRC = min (s.get R.MRD_ERR_A_HCRC + 1) (2 ^ R.MRD_ERR_A_HCRC.w - 1) ∧
      t.mrd.bad = dirInc s.mrd.bad (frameInput f) ∧ OnlyRegs [R.MRD_ERR_A_HCRC] { s with mrd := t.mrd } t) ∧
  (∀ (s : State) (f : RingFrame) (n : Nat), s.inserted = true → s.dirCut (frameInput f) = false →
    bit s.mrd.heldDead (frameInput f) = false → f.ftype = 1 → f.hcrcOk = true → f.tick = s.chr.tick →
    ∃ t, exec (.passReceive f n) s = .next t ∧
      t.mrd.copies = (if s.chr.phase < 9900 then s.mrd.copies ++ f.slots.map (fun x => (f.dir, x)) else s.mrd.copies)) ∧
  (∀ (s : State) (f : RingFrame) (n : Nat), s.dirCut (frameInput f) = true ∨ bit s.mrd.heldDead (frameInput f) = true →
    exec (.passReceive f n) s = .next s) ∧
  (∀ (s : State) (a : Nat), s.inserted = true → a ∈ s.cSlots.map (fun p => p.1) → a ≠ s.me → a ≠ s.launcher →
    ∃ t, exec .cSlotCollect s = .next t ∧ t.mrd.copies = [] ∧
      (s.goodCopies a = [] → t.mrd.inNext.find? (fun p => p.1 == a) = some (a, {})) ∧
      (∀ c cs, s.goodCopies a = c :: cs → (∀ d ∈ cs, d = c) →
        t.mrd.inNext.find? (fun p => p.1 == a) =
          some (a, { valid := true, status := c.status, payload := c.payload })) ∧
      (∀ c cs, s.goodCopies a = c :: cs → (∃ d ∈ cs, d ≠ c) →
        t.mrd.inNext.find? (fun p => p.1 == a) = some (a, {})))

/-- A frame at a station (R47, R138 to R141, R144, R159): what goes on, the slot the station fills, the slot it reads; a bad
header is counted and goes on; the launcher ends its pass, and a relay's cut window or an input held dead ends a frame; a
bypassed module's relays pass a frame on as it is (R49). -/
def Obligations.RingForwarding : Prop :=
  (∀ (s : State) (st : Fin 64) (f : RingFrame) (p : NodeSample) (fwd : Nat) (rx : Option Nat), s.Shaped → st.val ≠ s.ringPlace →
    f.ftype = 1 ∨ f.ftype = 2 → f.hcrcOk = true →
    ∃ t g rest, exec (.frameForward st f p fwd rx) s = .next t ∧ t.mrd.tx = (st.val, g) :: rest ∧
      g.hops = (f.hops + 1) % 256 ∧ g.hcrcOk = true ∧
      g.acc = (f.acc + (linkDelay ((s.station st).delays (frameInput f))).getD 0 + fwd) % 2 ^ 32 ∧
      g.slots.map (fun x => x.addr) = f.slots.map (fun x => x.addr) ∧
      (t.station st).lastPass = s.chr.tick ∧ 2 ≤ (t.station st).state ∧
      (f.ftype = 1 → f.wrap = false → ∀ x ∈ g.slots, x.addr = st.val → x.kind = 1 →
        x.crcOk = true ∧ bit x.status 0 = true) ∧
      (∀ x, f.ftype = 2 → f.slots.find? (fun y => y.addr == st.val && y.kind == 2) = some x → x.crcOk = true →
        (f.dir = 0 → (t.station st).dCw = some (f.tick, bit x.status 0, x.payload)) ∧
        (f.dir ≠ 0 → (t.station st).dCcw = some (f.tick, bit x.status 0, x.payload))) ∧
      ∀ a, a ≠ st.val → t.station a = s.station a) ∧
  (∀ (s : State) (st : Fin 64) (f : RingFrame) (p : NodeSample) (fwd : Nat) (rx : Option Nat), s.Shaped → st.val ≠ s.ringPlace →
    f.ftype = 1 ∨ f.ftype = 2 → f.hcrcOk = false →
    ∃ t, exec (.frameForward st f p fwd rx) s = .next t ∧ t.mrd.tx = [(st.val, f)] ∧
      (t.station st).cntHcrc = dirInc (s.station st).cntHcrc (frameInput f)) ∧
  (∀ (s : State) (st : Fin 64) (f : RingFrame) (p : NodeSample) (fwd : Nat) (rx : Option Nat), st.val = s.ringPlace →
    s.launching = true ∨ s.dirCut (frameInput f) = true ∨
      (s.inserted = true ∧ bit s.mrd.heldDead (frameInput f) = true) →
    exec (.frameForward st f p fwd rx) s =
      .next { s.tookStamp (ptRing 0 (frameInput f)) rx with mrd.tx := [] }) ∧
  (∀ (s : State) (st : Fin 64) (f : RingFrame) (p : NodeSample) (fwd : Nat) (rx : Option Nat), st.val = s.ringPlace →
    s.inserted = false → s.dirCut (frameInput f) = false →
    exec (.frameForward st f p fwd rx) s =
      .next { s.tookStamp (ptRing 0 (frameInput f)) rx with mrd.tx := [(st.val, f)] })

/-- A station's outputs and states (R141, R142, R144, R167): usable data are applied, their want is counted and leads to
SAFE, eight ticks without a pass to LISTEN, and the RESET announcement to LOADING. -/
def Obligations.RingStations : Prop :=
  (∀ (s : State) (st : Fin 64) (p : List Nat), s.Shaped → 0 < s.chr.tick →
    ((s.station st).state = 4 ∨ (s.station st).state = 5) →
    ((s.station st).usable (s.chr.tick - 1) = [p] ∨ (s.station st).usable (s.chr.tick - 1) = [p, p]) →
    ∃ t, exec (.stationOutputApply st) s = .next t ∧ (t.station st).outputs = p ∧ (t.station st).outSafe = false ∧
      (t.station st).hold = 0 ∧ (t.station st).state = 4 ∧ t = { s with mrd.stations := t.mrd.stations }) ∧
  (∀ (s : State) (st : Fin 64), s.Shaped → (s.chr.tick = 0 ∨ (s.station st).usable (s.chr.tick - 1) = []) →
    ∃ t, exec (.stationOutputApply st) s = .next t ∧ (t.station st).outputs = (s.station st).outputs ∧
      (t.station st).hold = (s.station st).hold + 1 ∧ t = { s with mrd.stations := t.mrd.stations }) ∧
  (∀ (s : State) (st : Fin 64), s.Shaped → (s.station st).state = 4 → s.cfg 0x0201 st 0x12 1 ≤ (s.station st).hold →
    ∃ t, exec (.stationSafe st) s = .next t ∧ (t.station st).state = 5 ∧ (t.station st).outSafe = true ∧
      t = { s with mrd.stations := t.mrd.stations }) ∧
  (∀ (s : State) (st : Fin 64), s.Shaped → (s.station st).state ≠ 0 → (s.station st).lastPass + 8 ≤ s.chr.tick →
    ∃ t, exec (.noPassTimeout st) s = .next t ∧ (t.station st).state = 1 ∧ (t.station st).timeOk = false ∧
      (t.station st).outSafe = true ∧ t = { s with mrd.stations := t.mrd.stations }) ∧
  (∀ (s : State) (st : Fin 64), s.Shaped → (s.station st).state ≠ 0 → (s.station st).annReset.type = 4 →
    (s.station st).annReset.tick = s.chr.tick → bit (s.station st).annReset.arg st = true →
    ∃ t, exec (.stationReset st) s = .next t ∧ (t.station st).state = 3 ∧ (t.station st).needLoad = true ∧
      (t.station st).outSafe = true ∧ (t.station st).buf = [] ∧ st.val ∉ t.mrd.loadFailed ∧
      st.val ∉ t.mrd.loaded ∧ (s.mastering = true → s.cfg 0x0201 st 0x13 1 ≠ 0xFF → st.val ∈ t.mrd.reload) ∧
      t = { s with mrd.stations := t.mrd.stations, mrd.loadFailed := t.mrd.loadFailed, mrd.loadTries := t.mrd.loadTries
                   mrd.loaded := t.mrd.loaded, mrd.reload := t.mrd.reload })

/-- Link measurement (R137, R145): probes, their replies, and an exchange that joins the mean or lies too far from it; breaks
(R158, R437), the takeover (R163) and the error counters (R169). -/
def Obligations.RingMeasurementAndBreaks : Prop :=
  (∀ (s : State) (st : Fin 64) (q : BitVec 8), (s.station st).state ≠ 0 →
    ∃ t, exec (.probe st q) s = .next t ∧
      t.mrd.probes = [(st.val, 0, ProbeFrame.seal { ftype := 0x10, seq := q.toNat }),
        (st.val, 1, ProbeFrame.seal { ftype := 0x10, seq := q.toNat })]) ∧
  (∀ (s : State) (st : Fin 64) (d : Fin 2) (f : ProbeFrame) (n : Nat), (s.station st).state ≠ 0 → f.ftype = 0x10 →
    ∃ t, exec (.probeReceive st d f n) s = .next t ∧
      t.mrd.probes =
        (if f.crcOk then [(st.val, d.val, ProbeFrame.seal { ftype := 0x11, seq := f.seq, turn := n })] else []) ∧
      t = { s with mrd.probes := t.mrd.probes }) ∧
  (∀ (s : State) (st : Fin 64) (d : Fin 2) (f : ProbeFrame) (t1 t4 : Nat), s.Shaped → f.ftype = 0x11 → f.crcOk = true →
    (s.station st).probeSeq = some f.seq → linkDelay ((s.station st).delays d) = none →
    ∃ t, exec (.replyReceive st d (some t1) (some t4) f) s = .next t ∧
      (t.station st).delays d = ((t4 - t1 - f.turn) / 2 :: (s.station st).delays d).take 1024) ∧
  (∀ (s : State) (st : Fin 64) (d : Fin 2) (f : ProbeFrame) (t1 t4 m : Nat), s.Shaped → f.ftype = 0x11 → f.crcOk = true →
    (s.station st).probeSeq = some f.seq → linkDelay ((s.station st).delays d) = some m →
    m + 32 < (t4 - t1 - f.turn) / 2 →
    ∃ t, exec (.replyReceive st d (some t1) (some t4) f) s = .next t ∧
      (t.station st).delays d = (s.station st).delays d ∧ (t.station st).cntProbe = (s.station st).cntProbe + 1) ∧
  (∀ (s : State) (st : Fin 64) (d : Fin 2) (f : ProbeFrame) (t1 t4 : Option Nat), t1 = none ∨ t4 = none →
    ∃ t, exec (.replyReceive st d t1 t4 f) s = .next t ∧ t = { s with chr.stamps := t.chr.stamps }) ∧
  (∀ (s : State) (d : Fin 2), ∃ t, exec (.ringLinkDown d) s = .next t ∧ t.get (deadFld d) ≠ 0 ∧
    t.mrd.linkUp = setBit s.mrd.linkUp d false ∧ (s.get (deadFld d) = 0 → LogNext 19 [d, 0] s t)) ∧
  (∀ (s : State) (d : Fin 2), 4 ≤ dirGet s.mrd.miss d → s.get (deadFld d) = 0 →
    ∃ t, exec (.inputDead d) s = .next t ∧ t.get (deadFld d) = 1 ∧ LogGains 19 [d, 0] s t) ∧
  (∀ (s : State) (d : Fin 2), s.get (deadFld d) ≠ 0 → bit s.mrd.heldDead d = false → 8 ≤ dirGet s.mrd.good d →
    ∃ t, exec (.inputAlive d) s = .next t ∧ t.get (deadFld d) = 0 ∧ LogGains 19 [d, 1] s t ∧
      OnlyLogged [deadFld d] s t) ∧
  (∀ s : State, s.mayTakeOver = true →
    ∃ t, exec .takeover s = .next t ∧ t.get R.MRD_STATUS_LAUNCH = 1 ∧ t.mrd.launchFrom = s.chr.tick + 1 ∧ LogNext 26 [s.chr.tick + 1] s t) ∧
  (∀ s : State, ∃ t, exec .mrdErrARead s = .next t ∧
    t.rdata = 65536 * s.get R.MRD_ERR_A_HCRC + s.get R.MRD_ERR_A_SLOTCRC ∧ t.get R.MRD_ERR_A_HCRC = 0 ∧
    t.get R.MRD_ERR_A_SLOTCRC = 0 ∧ OnlyRead [R.MRD_ERR_A_HCRC, R.MRD_ERR_A_SLOTCRC] s t) ∧
  (∀ s : State, ∃ t, exec .mrdErrBRead s = .next t ∧
    t.rdata = 65536 * s.get R.MRD_ERR_B_MISMATCH + s.get R.MRD_ERR_B_MISSING ∧ t.get R.MRD_ERR_B_MISMATCH = 0 ∧
    t.get R.MRD_ERR_B_MISSING = 0 ∧ OnlyRead [R.MRD_ERR_B_MISMATCH, R.MRD_ERR_B_MISSING] s t)

/-- The master's requests by mail (R154 to R157, R166): the topology check, the loading of node images, RUN, and what it
reads of the stations; a station that is OFF, in LISTEN or in SYNC answers nothing (Table 4.8). -/
def Obligations.RingMailCommands : Prop :=
  (∀ (s : State) (st : Fin 64) (r : IdentReply), s.mastering = true → s.me = 0 → s.has 0x0201 st = true →
    ∃ t m, exec (.ident st r) s = .next t ∧ t.mrd.mail = s.mrd.mail ++ [m] ∧ m.addr = st.val ∧ m.op = 1 ∧
      m.crcOk = true ∧ (st.val, r) ∈ t.mrd.ident ∧
      (s.identFault st r = none → t.regs = s.regs) ∧
      (∀ n, s.identFault st r = some n → bit (t.get (R.MRD_MISM_BITS (st / 32))) (st % 32) = true ∧
        LogGains 23 [st, n] s t)) ∧
  (∀ (s : State) (st : Fin 64), s.mastering = true → s.me = 0 → s.has 0x0201 st = true →
    (∀ p ∈ s.mrd.ident, p.1 ≠ st.val) →
    ∃ t, exec (.identTimeout st) s = .next t ∧ bit (t.get (R.MRD_MISM_BITS (st / 32))) (st % 32) = true ∧
      LogGains 23 [st, 0] s t) ∧
  (∀ (s : State) (img entry : Nat) (bytes digest : List Nat), s.mastering = true → s.Shaped →
    s.nodeImage img = some (bytes, entry, digest) → (∀ a ∈ s.mrd.reload, s.cfg 0x0201 a 0x13 1 ≠ img) →
    64 ≤ s.get R.MRD_CFG_MAIL_LEN → bytes.length < 2 ^ 32 → entry < 2 ^ 32 → digest.length = 32 →
    ∃ t m, exec (.loadBegin img) s = .next t ∧ t.mrd.mail = s.mrd.mail ++ [m] ∧ m.addr = img ∧ m.bcast = true ∧ m.op = 2 ∧
      (img, none, 0) ∈ t.mrd.loads ∧
      ∀ a ∈ s.assigned img, 2 ≤ (s.station a).state → (t.station a).buf = [] ∧
        (t.station a).imgLen = bytes.length ∧ (t.station a).entry = entry ∧ (t.station a).needLoad = true ∧
        (t.station a).digest = digest ∧ (t.station a).state = 3) ∧
  (∀ (s : State) (img entry off : Nat) (bytes digest : List Nat), s.mastering = true → s.Shaped →
    s.nodeImage img = some (bytes, entry, digest) → 64 ≤ s.get R.MRD_CFG_MAIL_LEN → off ≤ bytes.length → off < 2 ^ 32 →
    s.mrd.loads.find? (fun l => l.1 == img) = some (img, none, off) →
    ∃ t m, exec (.loadData img) s = .next t ∧ t.mrd.mail = s.mrd.mail ++ [m] ∧ m.op = 3 ∧
      ∀ a ∈ s.assigned img, (s.station a).state = 3 → (s.station a).buf.length = off →
        (s.station a).imgLen = bytes.length →
        (t.station a).buf = (s.station a).buf ++ (bytes.drop off).take (s.get R.MRD_CFG_MAIL_LEN - 8)) ∧
  (∀ (s : State) (st : Fin 64), s.mastering = true → s.Shaped → (s.station st).state = 3 → st.val ≠ s.me →
    ∃ t m, exec (.loadEnd st) s = .next t ∧ t.mrd.mail = s.mrd.mail ++ [m] ∧ m.addr = st.val ∧ m.op = 4 ∧
      ((s.station st).imageDigest = (s.station st).digest → t.mrd.loadFailed = s.mrd.loadFailed ∧
        ∀ p ∈ t.mrd.loadTries, p.1 ≠ st.val) ∧
      ((s.station st).imageDigest ≠ (s.station st).digest →
        s.mrd.loadTries.find? (fun p => p.1 == st.val) = some (st.val, 2) →
        st.val ∈ t.mrd.loadFailed ∧ LogGains 22 [st, 3] s t) ∧
      ((s.station st).imageDigest ≠ (s.station st).digest → (∀ p ∈ s.mrd.loadTries, p.1 ≠ st.val) →
        st.val ∈ t.mrd.reload ∧ (st.val, 1) ∈ t.mrd.loadTries)) ∧
  (∀ (s : State) (st : Fin 64), s.mastering = true → s.Shaped → (s.station st).state = 3 → st.val ≠ s.me →
    (s.station st).imageDigest = (s.station st).digest → (s.station st).buf ≠ [] →
    ∃ t m, exec (.run st false) s = .next t ∧ (t.station st).needLoad = false ∧
      (t.station st).state = (if (s.station st).timeOk then 4 else 2) ∧
      ((s.station st).timeOk = true → st.val ∈ t.mrd.loaded) ∧
      t.mrd.mail = s.mrd.mail ++ [m] ∧ m.addr = st.val ∧ m.op = 5) ∧
  (∀ (s : State) (st : Fin 64) (k : Fin 4) (n : Nat) (busy : Bool), s.mastering = true → s.Shaped →
    64 ≤ s.get R.MRD_CFG_MAIL_LEN → n < 256 → (s.chr.snaps.getD k {}).t < 2 ^ 48 → 3 ≤ (s.station st).state →
    ∃ t m, exec (.snapRead st k n busy) s = .next t ∧ t.mrd.mail = s.mrd.mail ++ [m] ∧ m.addr = st.val ∧ m.op = 6 ∧
      (busy = true → t.mrd.snapRead = s.mrd.snapRead) ∧
      (∀ b, busy = false →
        (s.station st).snapBlocks (s.chr.snaps.getD k {}).t n (s.get R.MRD_CFG_MAIL_LEN) = some b →
        (st.val, k.val, n, b) ∈ t.mrd.snapRead)) ∧
  (∀ (s : State) (st : Fin 64), s.mastering = true → s.Shaped → 64 ≤ s.get R.MRD_CFG_MAIL_LEN →
    3 ≤ (s.station st).state →
    ∃ t m l, exec (.stats st) s = .next t ∧ t.mrd.mail = s.mrd.mail ++ [m] ∧ m.op = 7 ∧ (st.val, l) ∈ t.mrd.stats ∧
      l.length = 16 ∧ l.take 6 = [(s.station st).cntHcrc.1, (s.station st).cntHcrc.2, (s.station st).cntSlot,
        (s.station st).cntMiss, (s.station st).cntDiff, (s.station st).cntProbe].map (· % 2 ^ 32)) ∧
  (∀ (s : State) (st : Fin 64) (k : Fin 4) (n : Nat) (busy : Bool), s.mastering = true → s.Shaped →
    (s.station st).state < 3 → st.val ≠ s.me →
    (∃ t, exec (.stats st) s = .next t ∧ t.mrd.stats = s.mrd.stats) ∧
    ∃ t, exec (.snapRead st k n busy) s = .next t ∧ t.mrd.snapRead = s.mrd.snapRead)

/-! ### Helm -/

/-- A computation of a channel (R172, R177, R182, R184, R194, R232): it starts on the cell its timetable gives, where that is
free, with the values read; at its end the count rises and, where its inputs are valid, RUN has a result formed from uo, within OUT_MIN and OUT_MAX without
the slew limiter, while an invalid input leaves RUN; a window that ends too early is counted, the third in a row stops the
law, toward SAFE from whatever state (R233), as is one that has not started. The sink does not move. -/
def Obligations.HelmComputations : Prop :=
  (∀ (s : State) (ch : Fin 128) (ai : List AiSample) (x n : Nat), s.Shaped → s.jobDue ch = true →
    s.slot ch = some (x, n) → s.cellFree (ch / 16) x = true → (s.chan ch).ranAt ≠ some s.chr.tick →
    bits (s.hctl ch 0x14 4) 28 4 = 0 → s.hctl ch 0x0E 1 ≠ 2 →
    ∃ t, exec (.computationStart ch ai) s = .next t ∧
      t.chan ch =
        { s.chan ch with run := some (s.readInputs ch ai), cell := x, ranAt := some s.chr.tick, manBad := [] } ∧
      t = { s with hlm.chans := t.hlm.chans } ∧ ∀ c, c ≠ ch.val → t.chan c = s.chan c) ∧
  (∀ (s : State) (ch : Fin 128) (ai : List AiSample),
    s.jobDue ch = false ∨ s.slot ch = none ∨ (s.chan ch).ranAt = some s.chr.tick →
    exec (.computationStart ch ai) s = .next s) ∧
  (∀ (s : State) (ch : Fin 128) (vals : List (Int × Bool)), s.Shaped → (s.chan ch).run = some vals →
    (∀ c ∈ s.hlm.arith, c ≠ ch.val) → (∀ b ∈ s.hlm.badIn, b.1 ≠ ch.val) →
    ∃ t, exec (.computationEnd ch) s = .next t ∧ (t.chan ch).run = none ∧
      t.get (R.HLM_CHCNT_VALUE ch) = (s.get (R.HLM_CHCNT_VALUE ch) + 1) % 2 ^ 32 ∧
      t.get (R.HLM_OVR_CONSEC ch) = 0 ∧ t.applied ch = s.applied ch ∧
      (∀ c : Nat, c < 128 → c ≠ ch.val → t.chState c = s.chState c ∧ t.applied c = s.applied c) ∧
      t.dio = s.dio ∧ t.mrd = s.mrd ∧ t.spd = s.spd ∧
      ((∀ v ∈ vals, v.2 = true) →
        t.get (R.HLM_CHST_INVCNT ch) = 0 ∧ t.get (R.HLM_CHST_IN_INVALID ch) = 0 ∧
        (s.chState ch = 2 → t.chState ch = 2 ∧
          (t.chan ch).result = some (s.scaleOut ch (toInt 32 (t.get (R.HLM_CHU_VALUE ch)))) ∧
          (s.opt ch 1 = false → s.chanI ch 0x60 4 ≤ s.chanI ch 0x64 4 →
            s.chanI ch 0x60 4 ≤ toInt 32 (t.get (R.HLM_CHU_VALUE ch)) ∧
            toInt 32 (t.get (R.HLM_CHU_VALUE ch)) ≤ s.chanI ch 0x64 4))) ∧
      ((∃ v ∈ vals, v.2 = false) →
        t.get (R.HLM_CHST_INVCNT ch) = min (s.get (R.HLM_CHST_INVCNT ch) + 1) 255 ∧
        t.get (R.HLM_CHST_IN_INVALID ch) = 1 ∧ (t.chan ch).result = none ∧
        (s.chState ch = 2 → t.chState ch =
          (if s.chanB ch 0x2D 1 ≤ min (s.get (R.HLM_CHST_INVCNT ch) + 1) 255 then 6 else 3)))) ∧
  (∀ (s : State) (ch : Fin 128), s.Shaped →
    (s.chan ch).run.isSome = true ∨ (s.jobDue ch = true ∧ (s.chan ch).ranAt ≠ some s.chr.tick) →
    ∃ t, exec (.overrun ch) s = .next t ∧ (t.chan ch).run = none ∧ (t.chan ch).result = none ∧
      t.get (R.HLM_OVR_CONSEC ch) = min (s.get (R.HLM_OVR_CONSEC ch) + 1) 255 ∧
      t.get (R.HLM_OVR_TOTAL ch) = min (s.get (R.HLM_OVR_TOTAL ch) + 1) 65535 ∧
      LogNext (32 + 2 * (ch / 16)) [ch, 0x10, min (s.get (R.HLM_OVR_CONSEC ch) + 1) 255] s t ∧
      (s.chState ch = 2 → min (s.get (R.HLM_OVR_CONSEC ch) + 1) 255 < 3 → t.chState ch = 3) ∧
      (3 ≤ min (s.get (R.HLM_OVR_CONSEC ch) + 1) 255 → (s.chan ch).why ≠ 2 → (s.chan ch).why ≠ 4 →
        (t.chan ch).why = 2 ∧
        (s.sinkOff ch = false → t.chState ch = 6 ∧ (t.chan ch).target = 4 ∧ t.get (R.HLM_HOV_CAUSE ch) = 1)) ∧
      t.applied ch = s.applied ch ∧ t.dio = s.dio ∧ t.mrd = s.mrd ∧ t.spd = s.spd ∧
      ∀ c, c ≠ ch.val → t.chan c = s.chan c) ∧
  (∀ (s : State) (ch : Fin 128), (s.chan ch).run = none → exec (.computationEnd ch) s = .next s ∧
    (s.jobDue ch = false ∨ (s.chan ch).ranAt = some s.chr.tick → exec (.overrun ch) s = .next s)) ∧
  (∀ (s : State) (ch : Fin 128), ∃ t, exec (.hlmOvrRead ch) s = .next t ∧
    t.rdata = 65536 * s.get (R.HLM_OVR_TOTAL ch) + s.get (R.HLM_OVR_CONSEC ch) ∧ t.get (R.HLM_OVR_TOTAL ch) = 0 ∧
    OnlyRead [R.HLM_OVR_TOTAL ch] s t)

/-- The output instant (R176, R218, R221, R234): in RUN the result reaches the sink, in HOLD the sink keeps its value, in
STOPPED and SAFE it holds SAFE_RAW, a switched-off sink holds 0; a hand-over to SAFE_RAW moves by one step of R218 or
arrives. A channel not due keeps everything, and before STANDBY nothing is driven (R61). At a
reset the sink takes SAFE_RAW at once, and keeps it at the reset's end (R207, R208). -/
def Obligations.HelmOutputs : Prop :=
  (∀ (s : State) (ch : Fin 128), s.outputsOn = false ∨ s.chanOn ch = false ∨ s.dueNow ch = false →
    exec (.outputApply ch) s = .next s) ∧
  (∀ (s : State) (ch : Fin 128), s.Shaped → s.outputsOn = true → s.chanOn ch = true → s.dueNow ch = true →
    ∃ t, exec (.outputApply ch) s = .next t ∧ (t.chan ch).result = none ∧
      (s.sinkOff ch = true → t.get (R.HLM_CHRAW_VALUE ch) = 0) ∧
      (s.sinkOff ch = false → (s.chan ch).svc = none →
        (s.chState ch = 2 → s.inMan ch = false → ∀ v, (s.chan ch).result = some v →
          t.get (R.HLM_CHRAW_VALUE ch) = ofInt 32 v ∧
          (bits (s.chanB ch 0x1C 4) 28 4 = 1 →
            (t.dio.pcs.getD (bits (s.chanB ch 0x1C 4) 0 4) {}).val = v) ∧
          (bits (s.chanB ch 0x1C 4) 28 4 = 2 →
            bit (t.get R.DIO_OUT_STATE) (bits (s.chanB ch 0x1C 4) 0 4) =
              (v != 0 && s.dioOut (bits (s.chanB ch 0x1C 4) 0 4)))) ∧
        (s.chState ch = 2 → s.inMan ch = true → t.get (R.HLM_CHRAW_VALUE ch) = ofInt 32 (s.manRaw ch)) ∧
        (s.chState ch = 3 → t.get (R.HLM_CHRAW_VALUE ch) = s.get (R.HLM_CHRAW_VALUE ch)) ∧
        (s.chState ch ∈ [1, 4, 5] → t.get (R.HLM_CHRAW_VALUE ch) = ofInt 32 (s.safeRaw ch)) ∧
        (s.chState ch = 6 → (s.chan ch).paused = true →
          t.get (R.HLM_CHRAW_VALUE ch) = s.get (R.HLM_CHRAW_VALUE ch) ∧ t.chState ch = 6) ∧
        (s.chState ch = 6 → (s.chan ch).paused = false → s.get (R.HLM_HOV_CAUSE ch) = 1 → (s.chan ch).target ≠ 2 →
          bits (s.chanB ch 0x1C 4) 28 4 ≠ 2 →
          (t.applied ch = s.safeRaw ch ∧ t.get (R.HLM_HOV_ACTIVE ch) = 0 ∧ t.chState ch = (s.chan ch).target % 8) ∨
          (t.chState ch = 6 ∧ (s.hctl ch 0x08 4 : Int) < (s.safeRaw ch - s.applied ch).natAbs ∧
            ((s.applied ch < s.safeRaw ch ∧
                t.applied ch = s.applied ch + hoStep (s.hctl ch 0x04 4) (s.kNow ch)) ∨
              (s.safeRaw ch < s.applied ch ∧
                t.applied ch = s.applied ch - hoStep (s.hctl ch 0x04 4) (s.kNow ch)))))) ∧
      (∀ c : Nat, c < 128 → c ≠ ch.val → t.chan c = s.chan c ∧ t.chState c = s.chState c ∧ t.applied c = s.applied c) ∧
      (∀ f : Fld, f.key ∉ [R.HLM_CHRAW_VALUE ch, R.HLM_CHST_STATE ch, R.HLM_HOV_ACTIVE ch, R.HLM_HOVD_VALUE ch,
        R.DIO_OUT_STATE, R.LOG_LOST_VALUE].map Fld.key → t.get f = s.get f) ∧
      ((s.chan ch).back = false → t.log = s.log)) ∧
  (∀ (s : State) (ch : Fin 128) (n : Nat), s.Shaped → (ch.val, n) ∈ s.hlm.rstReq → n < s.chr.tick →
    s.chanOn ch = true → s.get (R.HLM_GSTAT_RESETTING (ch / 16)) = 0 →
    ∃ t, exec (.channelReset ch) s = .next t ∧ t.chState ch = 5 ∧
      t.get (R.HLM_CHRAW_VALUE ch) = (if s.sinkOff ch then 0 else ofInt 32 (s.safeRaw ch))) ∧
  (∀ (s : State) (ch : Fin 128) (n : Nat), s.Shaped → (ch.val, n) ∈ s.hlm.rstEnd → n ≤ s.chr.tick →
    ∃ t, exec (.channelResetEnd ch) s = .next t ∧ t.chState ch ≠ 5 ∧ t.applied ch = s.applied ch) ∧
  (∀ (s : State) (g : Fin 8) (n : Nat), s.Shaped → (g.val, n) ∈ s.hlm.grpReq → n < s.chr.tick →
    ∃ t, exec (.groupReset g) s = .next t ∧ ∀ c ∈ s.groupChans g, t.chState c = 5 ∧
      t.get (R.HLM_CHRAW_VALUE c) = (if s.sinkOff c then 0 else ofInt 32 (s.safeRaw c))) ∧
  (∀ (s : State) (g : Fin 8) (n : Nat), s.Shaped → (g.val, n) ∈ s.hlm.grpEnd → n ≤ s.chr.tick →
    ∃ t, exec (.groupResetEnd g) s = .next t ∧ ∀ c ∈ s.groupChans g, t.chState c ≠ 5 ∧ t.applied c = s.applied c)

/-- Resets and broadcasts (R101, R205, R207, R208): a request written before this tick's edge acts and holds for one tick, a
group's for two, and covers the requests for its channels; at the end each channel goes on as its sink, a service drive, the
ladder and the mode let it; a broadcast word is in force from the edge after its delivery, the later of two deliveries stays. -/
def Obligations.HelmResetsAndBroadcasts : Prop :=
  (∀ (s : State) (ch : Fin 128) (n : Nat), s.Shaped → (ch.val, n) ∈ s.hlm.rstReq → n < s.chr.tick →
    s.chanOn ch = true → s.get (R.HLM_GSTAT_RESETTING (ch / 16)) = 0 →
    ∃ t, exec (.channelReset ch) s = .next t ∧ t.chState ch = 5 ∧ (ch.val, s.chr.tick + 1) ∈ t.hlm.rstEnd ∧
      t.get (R.HLM_CHRAW_VALUE ch) = (if s.sinkOff ch then 0 else ofInt 32 (s.safeRaw ch)) ∧
      t.get (R.HLM_OVR_CONSEC ch) = 0 ∧ t.get (R.HLM_CHST_INVCNT ch) = 0 ∧ (∀ r ∈ t.hlm.rstReq, r.1 ≠ ch.val) ∧
      bit (t.get (R.HLM_GRST_CH (ch / 16))) (ch % 16) = false ∧ (t.chan ch).fresh = true ∧ (t.chan ch).run = none ∧
      LogGains (32 + 2 * (ch / 16)) [ch, 3, s.chr.tick % 2 ^ 32] s t ∧
      ∀ c : Nat, c < 128 → c ≠ ch.val → t.chan c = s.chan c ∧ t.chState c = s.chState c) ∧
  (∀ (s : State) (ch : Fin 128) (n : Nat), (ch.val, n) ∈ s.hlm.rstReq → n < s.chr.tick →
    s.chanOn ch = false ∨ s.get (R.HLM_GSTAT_RESETTING (ch / 16)) ≠ 0 →
    ∃ t, exec (.channelReset ch) s = .next t ∧ bit (t.get (R.HLM_GRST_CH (ch / 16))) (ch % 16) = false ∧
      (∀ r ∈ t.hlm.rstReq, r.1 ≠ ch.val) ∧
      OnlyRegs [R.HLM_GRST_CH (ch / 16)] { s with hlm.rstReq := t.hlm.rstReq } t) ∧
  (∀ (s : State) (ch : Fin 128), (∀ r ∈ s.hlm.rstReq, r.1 = ch.val → s.chr.tick ≤ r.2) →
    exec (.channelReset ch) s = .next s) ∧
  (∀ (s : State) (ch : Fin 128) (n : Nat), s.Shaped → (ch.val, n) ∈ s.hlm.rstEnd → n ≤ s.chr.tick →
    ∃ t, exec (.channelResetEnd ch) s = .next t ∧ (∀ r ∈ t.hlm.rstEnd, r.1 ≠ ch.val) ∧ t.applied ch = s.applied ch ∧
      (s.sinkOff ch = true → t.chState ch = 4) ∧
      (s.sinkOff ch = false → (s.chan ch).svc ≠ none →
        t.chState ch = 6 ∧ (t.chan ch).target = 1 ∧ t.get (R.HLM_HOV_CAUSE ch) = 3) ∧
      (s.sinkOff ch = false → (s.chan ch).svc = none → (s.chan ch).removed = true → t.chState ch = 4) ∧
      (s.sinkOff ch = false → (s.chan ch).svc = none → (s.chan ch).removed = false →
        (s.lawAllowed ch = true → s.ttBlocked (ch / 16) = false →
          t.chState ch = 6 ∧ (t.chan ch).target = 2 ∧ t.get (R.HLM_HOV_ACTIVE ch) = 1 ∧ t.get (R.HLM_HOV_CAUSE ch) = 0) ∧
        (s.lawAllowed ch = false ∨ s.ttBlocked (ch / 16) = true → t.chState ch = 1)) ∧
      ∀ c : Nat, c < 128 → c ≠ ch.val → t.chan c = s.chan c ∧ t.chState c = s.chState c) ∧
  (∀ (s : State) (ch : Fin 128), (∀ r ∈ s.hlm.rstEnd, r.1 = ch.val → s.chr.tick < r.2) →
    exec (.channelResetEnd ch) s = .next s) ∧
  (∀ (s : State) (g : Fin 8), s.Shaped → (∃ n, (g.val, n) ∈ s.hlm.grpReq ∧ n < s.chr.tick) ∨ g.val ∈ s.hlm.grpRst →
    ∃ t, exec (.groupReset g) s = .next t ∧ t.get (R.HLM_GSTAT_RESETTING g) = 1 ∧ t.get (R.HLM_GRST_GROUP g) = 0 ∧
      (g.val, s.chr.tick + 2) ∈ t.hlm.grpEnd ∧ (∀ r ∈ t.hlm.grpReq, r.1 ≠ g.val) ∧ g.val ∉ t.hlm.grpRst ∧
      (∀ r ∈ t.hlm.rstReq, r.1 / 16 = g.val → s.chr.tick ≤ r.2) ∧
      (∀ c ∈ s.groupChans g, t.chState c = 5 ∧
        t.get (R.HLM_CHRAW_VALUE c) = (if s.sinkOff c then 0 else ofInt 32 (s.safeRaw c))) ∧
      (∀ c : Nat, c < 128 → c / 16 ≠ g.val → t.chState c = s.chState c) ∧
      ((∀ x ∈ s.chr.xings, x.lost = 0) → LogGains (33 + 2 * g) [0, s.chr.tick % 2 ^ 32] s t)) ∧
  (∀ (s : State) (g : Fin 8), (∀ r ∈ s.hlm.grpReq, r.1 = g.val → s.chr.tick ≤ r.2) → g.val ∉ s.hlm.grpRst →
    exec (.groupReset g) s = .next s) ∧
  (∀ (s : State) (g : Fin 8) (n : Nat), s.Shaped → (g.val, n) ∈ s.hlm.grpEnd → n ≤ s.chr.tick →
    ∃ t, exec (.groupResetEnd g) s = .next t ∧ t.get (R.HLM_GSTAT_RESETTING g) = 0 ∧
      (∀ r ∈ t.hlm.grpEnd, r.1 ≠ g.val) ∧
      (∀ c ∈ s.groupChans g, t.applied c = s.applied c ∧ (s.sinkOff c = true → t.chState c = 4) ∧
        (s.sinkOff c = false → (s.chan c).svc ≠ none → t.chState c = 6 ∧ (t.chan c).target = 1) ∧
        (s.sinkOff c = false → (s.chan c).svc = none → (s.chan c).removed = true → t.chState c = 4) ∧
        (s.sinkOff c = false → (s.chan c).svc = none → (s.chan c).removed = false →
          (s.lawAllowed c = true → s.ttBlocked g = false → t.chState c = 6 ∧ (t.chan c).target = 2) ∧
          (s.lawAllowed c = false ∨ s.ttBlocked g = true → t.chState c = 1))) ∧
      ∀ c : Nat, c < 128 → c / 16 ≠ g.val → t.chState c = s.chState c) ∧
  (∀ (s : State) (g : Fin 8), (∀ r ∈ s.hlm.grpEnd, r.1 = g.val → s.chr.tick < r.2) →
    exec (.groupResetEnd g) s = .next s) ∧
  (∀ (s : State) (v : BitVec 32) (w : Fin 16) (m : BitVec 8),
    ∃ t, exec (.broadcast v w m) s = .next t ∧ t.get R.HLM_BC_VAL_VALUE = v.toNat ∧
      t.get R.HLM_BC_CTL_GMASK = m.toNat ∧ t.get R.HLM_BC_CTL_WORD = w ∧
      (∀ g : Fin 8, (g.val, w.val, v.toNat, s.bcTick m.toNat) ∈ t.hlm.bcPend ↔
        bit m.toNat g = true ∨ (g.val, w.val, v.toNat, s.bcTick m.toNat) ∈ s.hlm.bcPend) ∧
      (s.chr.phase ≤ 9988 → s.bcTick m.toNat = s.chr.tick) ∧
      OnlyRegs [R.HLM_BC_VAL_VALUE, R.HLM_BC_CTL_GMASK, R.HLM_BC_CTL_WORD] { s with hlm.bcPend := t.hlm.bcPend } t) ∧
  (∀ (s : State) (g : Fin 8) (w : Fin 16) (v : BitVec 32) (n : Nat) (l : List (Nat × Nat × Nat × Nat)), n < s.chr.tick →
    s.hlm.bcPend = l ++ [(g.val, w.val, v.toNat, n)] →
    ∃ t, exec .broadcastAct s = .next t ∧ t.get (R.HLM_BCW_VALUE g w) = v.toNat ∧
      t.hlm.bcPend = l.filter (fun b => decide (s.chr.tick ≤ b.2.2.2)) ∧
      OnlyRegs (s.hlm.bcPend.map fun b => R.HLM_BCW_VALUE b.1 b.2.1) { s with hlm.bcPend := t.hlm.bcPend } t) ∧
  (∀ s : State, (∀ b ∈ s.hlm.bcPend, s.chr.tick ≤ b.2.2.2) → exec .broadcastAct s = .next s)

/-- AUTO and MAN (R224, R225), timetables (R202) and fallbacks (R235 to R237): a request for AUTO is refused with its reason
or hands over with cause 2, one for MAN with cause 3; a rebuild takes up the records' K and TOFF or reports its code; a
fallback is computed, and comes into force when its cell is due. A broadcast waits for its edge and acts there (R205). -/
def Obligations.HelmRequestsAndTimetables : Prop :=
  (∀ (s : State) (ch : Fin 128), (ch.val, 0) ∈ s.hlm.amReq →
    (∀ r, s.autoRefusal ch = some r →
      ∃ t, exec (.autoRequest ch) s = .next t ∧ t.get (R.HLM_AM_REFUSED ch) = 1 ∧ t.get (R.HLM_AM_REASON ch) = r ∧
        t.get (R.HLM_AM_REQ ch) = 1 ∧ t.inMan ch = s.inMan ch ∧ t.chState ch = s.chState ch ∧
        LogGains (32 + 2 * (ch / 16)) [ch, 0x14, r] s t) ∧
    (s.autoRefusal ch = none → s.inMan ch = true → s.helmsman ch = true →
      ∃ t, exec (.autoRequest ch) s = .next t ∧ t.inMan ch = false ∧ t.get (R.HLM_HOV_CAUSE ch) = 4 ∧
        t.chState ch = s.chState ch ∧ t.hlm.chans = s.hlm.chans) ∧
    (s.autoRefusal ch = none → s.inMan ch = true → s.helmsman ch = false → s.toLaw ch = true →
      ∃ t, exec (.autoRequest ch) s = .next t ∧ t.inMan ch = false ∧ t.chState ch = 6 ∧
        t.get (R.HLM_HOV_CAUSE ch) = 2 ∧ t.get (R.HLM_HOV_TICKS ch) = 0 ∧
        LogGains (32 + 2 * (ch / 16)) [ch, 0x12, 2] s t)) ∧
  (∀ (s : State) (ch : Fin 128), (ch.val, 1) ∈ s.hlm.amReq → s.inMan ch = false → s.toLaw ch = true →
    ∃ t, exec (.manRequest ch) s = .next t ∧ t.inMan ch = true ∧ t.chState ch = 6 ∧
      t.get (R.HLM_HOV_CAUSE ch) = 3 ∧ LogGains (32 + 2 * (ch / 16)) [ch, 0x12, 3] s t) ∧
  (∀ (s : State) (ch : Fin 128), (∀ r ∈ s.hlm.amReq, r.1 ≠ ch.val) →
    exec (.autoRequest ch) s = .next s ∧ exec (.manRequest ch) s = .next s) ∧
  (∀ (s : State) (g : Fin 8), s.get (R.HLM_GSTAT_TT_STALE g) ≠ 0 →
    ∃ t, exec (.timetableRebuild g) s = .next t ∧ t.get (R.HLM_GSTAT_TT_STALE g) = 0 ∧
      (s.rebuildCode g = 0 → t.get (R.HLM_GSTAT_TT_FAIL g) = 0 ∧ t.get (R.HLM_FB_READY g) = 0 ∧
        LogGains (33 + 2 * g) [1, 0] s t ∧ g.val ∈ t.hlm.ttNew ∧
        ∀ c ∈ s.groupChans g, (s.chan c).shed = false →
          t.kNow c = s.chanB c 2 1 % 8 ∧ t.toffNow c = s.chanB c 3 1 % 128) ∧
      (s.rebuildCode g ≠ 0 → t.get (R.HLM_GSTAT_TT_FAIL g) = 1 ∧
        t.get (R.HLM_GSTAT_TT_CODE g) = s.rebuildCode g % 256 ∧ LogGains (33 + 2 * g) [2, s.rebuildCode g] s t ∧
        OnlyLogged [R.HLM_GSTAT_TT_STALE g, R.HLM_GSTAT_TT_FAIL g, R.HLM_GSTAT_TT_CODE g] s t)) ∧
  (∀ (s : State) (g : Fin 8), s.get (R.HLM_GSTAT_TT_STALE g) = 0 → exec (.timetableRebuild g) s = .next s) ∧
  (∀ (s : State) (g : Fin 8), s.alm.pilotUp = true → s.alm.mgmtFailed = false → s.mode ≠ mLIMP →
    ∃ t, exec (.fallbackCompute g) s = .next t ∧ t.get (R.HLM_FB_READY g) = s.get (R.HLM_FB_NOSPARE g) % 16 ∧
      (∀ x : Fin 4, bit (s.get (R.HLM_FB_NOSPARE g)) x = true → ∃ f ∈ t.hlm.fbs, f.cell = 4 * g + x) ∧
      LogGains (33 + 2 * g) [0x13, s.get (R.HLM_FB_NOSPARE g) % 16] s t ∧
      OnlyLogged [R.HLM_FB_READY g] { s with hlm.fbs := t.hlm.fbs } t) ∧
  (∀ (s : State) (x : Fin 32) (f : Fallback), x.val ∈ s.hlm.fbDue → s.Shaped →
    bit (s.get (R.HLM_FB_READY (x / 4))) (x % 4) = true → s.hlm.fbs.find? (fun f => f.cell == x.val) = some f →
    ∃ t, exec (.fallbackApply x) s = .next t ∧ t.get (R.HLM_GSTAT_DEGRADED (x / 4)) = 1 ∧
      t.get R.ALM_MODE_DEGRADED = 1 ∧ t.get (R.HLM_FB_READY (x / 4)) = 0 ∧ x.val ∉ t.hlm.fbDue ∧
      LogNext (33 + 2 * (x / 4)) [0x10, x % 4] s t ∧ ∀ c ∈ f.removed, c < 128 → (t.chan c).removed = true) ∧
  (∀ (s : State) (x : Fin 32), x.val ∈ s.hlm.fbDue → x.val ∉ s.hlm.fbTold →
    bit (s.get (R.HLM_FB_READY (x / 4))) (x % 4) = false →
    ∃ t, exec (.fallbackApply x) s = .next t ∧ x.val ∈ t.hlm.fbTold ∧ x.val ∈ t.hlm.fbDue ∧
      LogGains (33 + 2 * (x / 4)) [0x14, x % 4] s t ∧ OnlyLogged [] { s with hlm.fbTold := t.hlm.fbTold } t) ∧
  (∀ (s : State) (v : BitVec 32) (w : Fin 16) (m : BitVec 8) (g : Fin 8), bit m.toNat g = true →
    ∃ t, exec (.broadcast v w m) s = .next t ∧ (g.val, w.val, v.toNat, s.bcTick m.toNat) ∈ t.hlm.bcPend) ∧
  (∀ (s : State) (g : Fin 8) (w : Fin 16) (v : BitVec 32) (n : Nat), n < s.chr.tick →
    s.hlm.bcPend = [(g.val, w.val, v.toNat, n)] →
    ∃ t, exec .broadcastAct s = .next t ∧ t.get (R.HLM_BCW_VALUE g w) = v.toNat ∧ t.hlm.bcPend = [])

/-! ### Direct I/O -/

/-- Current outputs (R241 to R244, R234, R34): at a cycle of R241 the regulator takes the corrected value with the dither, or 0
while off; the coil
estimate; overcurrent and the loss of UV put the outputs to 0 and their channels into SAFE, and the clear or the return of
UV lets them back. -/
def Obligations.CurrentOutputs : Prop :=
  (∀ (s : State) (x : PwmStart) (p : Pc), s.Shaped → s.has 0x1100 x.n = true → p = s.dio.pcs.getD x.n {} →
    (10000 * s.chr.tick + x.phase) % (s.pwmNow x.n).1 = (s.pwmNow x.n).2 →
    ∃ t, exec (.pwmPeriodStart x) s = .next t ∧
      (s.pcOff x.n = true → (t.dio.pcs.getD x.n {}).taken = 0 ∧ (t.dio.pcs.getD x.n {}).ref = 0) ∧
      (s.pcOff x.n = false → p.dithPer = 0 →
        t.get (R.DIO_PC_STAT_BAND x.n) = p.bandDue % 8 ∧
        (t.dio.pcs.getD x.n {}).taken = s.correct x.n p.bandDue p.val) ∧
      (s.pcOff x.n = false → p.dithT + p.period < p.dithPer →
        t.get (R.DIO_PC_STAT_BAND x.n) = s.get (R.DIO_PC_STAT_BAND x.n) % 8 ∧
        (t.dio.pcs.getD x.n {}).taken = s.correct x.n (s.get (R.DIO_PC_STAT_BAND x.n)) p.val ∧
        (t.dio.pcs.getD x.n {}).ref = max 0 (s.correct x.n (s.get (R.DIO_PC_STAT_BAND x.n)) p.val +
          dither p.dithAmp p.dithPer ((p.dithT + p.period : Nat) : Int)) ∧
        (t.dio.pcs.getD x.n {}).dithAmp = p.dithAmp ∧ (t.dio.pcs.getD x.n {}).dithT = p.dithT + p.period) ∧
      (t.dio.pcs.getD x.n {}).period = s.pccfg x.n 0 2 ∧
      (∀ m, m ≠ x.n.val → t.dio.pcs.getD m {} = s.dio.pcs.getD m {}) ∧
      OnlyRegs [R.DIO_PC_STAT_BAND x.n] { s with dio.pcs := t.dio.pcs, chr.phase := x.phase } t) ∧
  (∀ (s : State) (x : PwmStart), (10000 * s.chr.tick + x.phase) % (s.pwmNow x.n).1 ≠ (s.pwmNow x.n).2 →
    exec (.pwmPeriodStart x) s = .next (s.atPhase x.phase)) ∧
  (∀ (s : State) (n : Fin 16) (mv ua : Nat) (o : Bool), s.Shaped → s.has 0x1100 n = true → 50000 ≤ ua →
    ∃ t r, exec (.coilEstimate n mv ua o) s = .next t ∧ r = (roundDiv ((mv : Int) * 1000000) ua).toNat ∧
      t.get (R.DIO_PC_R_VALUE n) = min r (2 ^ 32 - 1) ∧ t.get (R.DIO_PC_T_TCOIL n) = ofInt 16 (s.coilTemp n r) ∧
      t.get (R.DIO_PC_STAT_OPEN n) = b2n (o || decide (200000 < min r (2 ^ 32 - 1))) ∧
      OnlyLogged [R.DIO_PC_R_VALUE n, R.DIO_PC_T_TCOIL n, R.DIO_PC_STAT_OPEN n] { s with dio.pcs := t.dio.pcs } t) ∧
  (∀ (s : State) (n : Fin 16) (mv ua : Nat) (o : Bool), s.has 0x1100 n = true → ua < 50000 →
    ∃ t, exec (.coilEstimate n mv ua o) s = .next t ∧ (o = true → t.get (R.DIO_PC_STAT_OPEN n) = 1) ∧
      OnlyLogged [R.DIO_PC_STAT_OPEN n] { s with dio.pcs := t.dio.pcs } t) ∧
  (∀ (s : State) (n : Fin 16), s.Shaped →
    ∃ t, exec (.pcOvercurrent n) s = .next t ∧ t.get (R.DIO_PC_STAT_OC n) = 1 ∧ (t.dio.pcs.getD n {}).val = 0 ∧
      (t.dio.pcs.getD n {}).taken = 0 ∧
      ∀ c ∈ s.driversOf (0x10000000 + n), t.get (R.HLM_CHRAW_VALUE c) = 0 ∧
        (t.chan c).why = (if (s.chan c).why = 2 then 2 else 3) ∧ (s.chState c = 5 → t.chState c = 5) ∧
        (s.chState c ≠ 5 → 2 ≤ s.chState c ∨ mSTANDBY ≤ s.mode → t.chState c = 4)) ∧
  (∀ (s : State) (n : Fin 16), s.get (R.DIO_PC_STAT_OC n) ≠ 0 →
    ∃ t, exec (.pcOcClear n) s = .next t ∧ t.get (R.DIO_PC_STAT_OC n) = 0 ∧
      (s.get (R.DIO_PC_STAT_FAULTY n) = 0 → s.get (R.DIO_PC_STAT_SUPPLY_LOST n) = 0 → s.pwr.uvLost = false →
        ∀ c ∈ s.driversOf (0x10000000 + n), s.chState c = 4 → (s.chan c).why = 3 → s.lawRuns c = true →
          t.chState c = 6 ∧ t.get (R.HLM_HOV_CAUSE c) = 6)) ∧
  (∀ (s : State) (mv : Nat), s.Shaped → s.pwr.uvLost = false → mv < 8000 →
    ∃ t, exec (.uvLoss mv) s = .next t ∧ t.pwr.uvLost = true ∧ t.pwr.uv = mv ∧ t.get R.PWR_STATUS_UV_LOSS = 1 ∧
      t.get R.PWR_SUPPLY_UV_MV = mv ∧
      LogNext 122 [] s t ∧
      ∀ n : Fin 16, t.get (R.DIO_PC_STAT_SUPPLY_LOST n) = 1 ∧ (t.dio.pcs.getD n {}).val = 0 ∧
        (t.dio.pcs.getD n {}).taken = 0 ∧
        ∀ c ∈ s.driversOf (0x10000000 + n), s.chState c ≠ 5 → 2 ≤ s.chState c ∨ mSTANDBY ≤ s.mode → t.chState c = 4) ∧
  (∀ (s : State) (mv : Nat), s.pwr.uvLost = true → 9000 ≤ mv →
    ∃ t, exec (.uvRestore mv) s = .next t ∧ t.pwr.uvLost = false ∧ t.pwr.uv = mv ∧
      t.get R.PWR_SUPPLY_UV_MV = mv % 65536 ∧
      ∀ n : Fin 16, t.get (R.DIO_PC_STAT_SUPPLY_LOST n) = 0) ∧
  (∀ (s : State) (mv : Nat), (s.pwr.uvLost = true ∨ 8000 ≤ mv → exec (.uvLoss mv) s = .next s) ∧
    (s.pwr.uvLost = false ∨ mv < 9000 → exec (.uvRestore mv) s = .next s))

/-- Analogue, pulse and digital I/O (R246, R247, R249 to R251, R116, R234): burdens, calibration and the change of modulators, pulse
counts, which take in later the edges that a crossing hid, and rates, digital inputs with their filter, and the overcurrent of a digital output with its clear. -/
def Obligations.DirectInputsAndOutputs : Prop :=
  (∀ (s : State) (n : Fin 24),
    (s.has 0x1101 n = true → s.cfg 0x1101 n 0 1 = 2 →
      ∃ t, exec (.aiBurdenDisconnect n) s = .next t ∧ t.get (R.DIO_AI_STAT_BURDEN n) = 1 ∧
        t.get (R.DIO_AI_STAT_FAULTY n) = 1 ∧ OnlyRegs [R.DIO_AI_STAT_BURDEN n, R.DIO_AI_STAT_FAULTY n] s t) ∧
    ∃ t, exec (.aiBurdenClear n) s = .next t ∧ t.get (R.DIO_AI_STAT_BURDEN n) = 0 ∧
      OnlyRegs [R.DIO_AI_STAT_BURDEN n] s t) ∧
  (∀ (s : State) (m : Fin 26), m.val ∈ s.dio.calib →
    exec (.aiCalibrationDone m true) s = .next { s with
      dio.calib := s.dio.calib.filter (· != m.val), dio.ready := s.dio.ready ++ [m.val] } ∧
    exec (.aiCalibrationDone m false) s = .next { s with
      dio.calib := s.dio.calib.filter (· != m.val), dio.retired := s.dio.retired ++ [m.val] }) ∧
  (∀ (s : State) (n : Fin 24) (d : Int) (m : Nat) (rest : List Nat), s.Shaped → s.dio.ready = m :: rest →
    s.has 0x1101 n = false ∨ bit (s.cfg 0x1101 n 2 1) 0 = true →
    ∃ t, exec (.aiModulatorTakeover n d) s = .next t ∧ t.dio.aiMod.getD n none = some m ∧ t.dio.ready = rest ∧
      (∀ o, s.dio.aiMod.getD n none = some o → o ∈ t.dio.calib) ∧
      t.get (R.DIO_AI_STAT_CAL_DELTA n) = ofInt 24 d ∧ (m ∉ s.dio.retired → t.noMod n = false) ∧
      OnlyRegs [R.DIO_AI_STAT_CAL_DELTA n] { s with dio := t.dio } t) ∧
  (∀ (s : State) (n : Fin 16) (x : PulseIn), s.inMode [mRESET, mLOAD] = true → exec (.pulseEdge n x) s = .next s) ∧
  (∀ (s : State) (n : Fin 16) (stamp : Nat), s.Shaped → s.inMode [mRESET, mLOAD] = false →
    ∃ t, exec (.pulseEdge n ⟨some stamp, false⟩) s = .next t ∧
      t.get (R.DIO_PI_CNT_VALUE n) =
        (s.get (R.DIO_PI_CNT_VALUE n) + (s.dio.pis.getD n {}).behind + 1) % 2 ^ 32 ∧ (t.dio.pis.getD n {}).behind = 0 ∧
      (t.dio.pis.getD n {}).n = (s.dio.pis.getD n {}).n + 1 ∧ (t.dio.pis.getD n {}).last = stamp ∧
      (t.dio.pis.getD n {}).idle = 0 ∧
      OnlyRegs [R.DIO_PI_CNT_VALUE n] { s with dio.pis := t.dio.pis, chr.stamps := t.chr.stamps } t) ∧
  (∀ (s : State) (n : Fin 16) (x : Option Nat), s.Shaped → s.inMode [mRESET, mLOAD] = false →
    ∃ t, exec (.pulseEdge n ⟨x, true⟩) s = .next t ∧
      t.get (R.DIO_PI_CNT_VALUE n) = s.get (R.DIO_PI_CNT_VALUE n) ∧ LogGains 13 [0xC000 + n] s t ∧
      (t.dio.pis.getD n {}).behind = (s.dio.pis.getD n {}).behind + 1 ∧
      (t.dio.pis.getD n {}).n = (s.dio.pis.getD n {}).n + 1 ∧ (t.dio.pis.getD n {}).idle = 0) ∧
  (∀ (s : State) (n : Fin 16), s.has 0x1102 n = true → s.cfg 0x1102 n 3 1 = 1 →
    (s.cfg 0x1102 n 6 2 ≤ (s.dio.pis.getD n {}).idle →
      ∃ t, exec (.pulseTimeout n) s = .next t ∧ t.get (R.DIO_PI_RATE_VALUE n) = 0 ∧
        OnlyRegs [R.DIO_PI_RATE_VALUE n] s t) ∧
    ((s.dio.pis.getD n {}).idle < s.cfg 0x1102 n 6 2 → exec (.pulseTimeout n) s = .next s)) ∧
  (∀ (s : State) (n : Fin 16) (h : Bool) (stamp us flt : Nat), s.dioOut n = false →
    flt = (if s.has 0x1103 n then s.cfg 0x1103 n 1 1 else 0) →
    ∃ t, exec (.dioEdge n h (some stamp) us) s = .next t ∧ (n.val, stamp) ∈ t.dio.edge ∧
      (flt ≤ us → t.dio.deb = s.dio.deb ++
        [(n.val, h, (10000 * (s.chr.tick : Int) + ((stamp : Int) - s.chr.base) / 8).toNat + 100 * flt)]) ∧
      (us < flt → t.dio.deb = s.dio.deb) ∧
      t = { s with dio.edge := t.dio.edge, dio.deb := t.dio.deb, chr.stamps := t.chr.stamps }) ∧
  (∀ (s : State) (n : Fin 16) (h : Bool) (us : Nat), s.dioOut n = false →
    ∃ t, exec (.dioEdge n h none us) s = .next t ∧ (∃ x, (n.val, x) ∈ t.dio.edge) ∧
      t = { s with dio.edge := t.dio.edge, dio.deb := t.dio.deb, freeCtr := s.freeCtr + 1 }) ∧
  (∀ (s : State) (i : TickIn),
    (s.dioEdge i).get R.DIO_IN_LEVEL = s.dioLevel (10000 * s.chr.tick) % 65536 ∧
      ∀ d ∈ (s.dioEdge i).dio.deb, 10000 * s.chr.tick < d.2.2) ∧
  (∀ (s : State) (n : Fin 16), s.Shaped → ∃ t, exec (.dioOvercurrent n) s = .next t ∧
    bit (t.get R.DIO_OFLT_OC) n = true ∧ bit (t.get R.DIO_OUT_STATE) n = false ∧
    ∀ c ∈ s.driversOf (0x20000000 + n), t.get (R.HLM_CHRAW_VALUE c) = 0 ∧
      (s.chState c ≠ 5 → 2 ≤ s.chState c ∨ mSTANDBY ≤ s.mode → t.chState c = 4)) ∧
  (∀ (s : State) (m : BitVec 16), ∃ t, exec (.dioOfltClear m) s = .next t ∧
    t.get R.DIO_OFLT_OC = clearBits (s.get R.DIO_OFLT_OC) m.toNat % 65536 ∧
    ∀ n : Fin 16, bit m.toNat n = true → bit (s.get R.DIO_OFLT_OC) n = true →
      ∀ c ∈ s.driversOf (0x20000000 + n), s.chState c = 4 → (s.chan c).why = 3 → s.lawRuns c = true →
        t.chState c = 6 ∧ t.get (R.HLM_HOV_CAUSE c) = 6)

/-! ### The Plotter -/

/-- GNSS input and sources (R260, R264, R268, R269): a faulty sentence or frame is discarded with its reason; a sentence opens
or joins a fix; a complete fix and a good frame reach their source; an incomplete fix is given up; a silent source
unlocks. -/
def Obligations.PlotterSources : Prop :=
  (∀ (s : State) (n : Fin 2) (st : Option Nat) (ok : Bool) (len : Nat) (x : Nmea) (i : Nat),
    s.gnssSrc n 0 = some i →
    (ok = false ∨ 82 < len →
      ∃ t, exec (.nmeaSentence n st ok len x) s = .next t ∧
        t.get (R.PLT_SRC_CNT_DISC i) = min (s.get (R.PLT_SRC_CNT_DISC i) + 1) 65535 ∧
        LogGains 54 [i, if ok then 4 else 2] s t ∧
        OnlyLogged [R.PLT_SRC_CNT_DISC i] { s with chr.stamps := t.chr.stamps } t) ∧
    (ok = true → len ≤ 82 → s.plt.fixes.length = 2 → ∀ tod, nmeaTod x = some tod →
      (s.plt.fixes.getD n none = none →
        ∃ t, exec (.nmeaSentence n st ok len x) s = .next t ∧
          t.plt.fixes.getD n none = some (Fix.take ⟨tod, st, none, none, none, none, none⟩ x) ∧
          t = { s with chr.stamps := t.chr.stamps, plt.fixes := t.plt.fixes }) ∧
      (∀ f, s.plt.fixes.getD n none = some f → f.tod = tod →
        ∃ t, exec (.nmeaSentence n st ok len x) s = .next t ∧ t.plt.fixes.getD n none = some (f.take x) ∧
          t = { s with chr.stamps := t.chr.stamps, plt.fixes := t.plt.fixes }))) ∧
  (∀ (s : State) (n : Fin 2) (ph : Fin 10000) (f : Fix) (i : Nat), s.Shaped → s.plt.fixes.length = 2 →
    s.plt.fixes.getD n none = some f → s.gnssSrc n 0 = some i →
    (f.full = false → exec (.gnssFixComplete n ph) s = .next s) ∧
    (f.full = true → ∀ d, f.days = some d →
      ∃ t, exec (.gnssFixComplete n ph) s = .next t ∧ t.plt.fixes.getD n none = none ∧
        (f.stamp = none → LogGains 54 [i, 0] (s.atPhase ph) t ∧
          t.get (R.PLT_SRC_CNT_DISC i) = min (s.get (R.PLT_SRC_CNT_DISC i) + 1) 65535) ∧
        (∀ a, f.stamp = some a → (s.src i).raw = none →
          (t.src i).idle = 0 ∧ t.get (R.PLT_SRC_CNT_DISC i) = s.get (R.PLT_SRC_CNT_DISC i))) ∧
    ∃ t, exec (.gnssFixTimeout n) s = .next t ∧ t.plt.fixes.getD n none = none ∧ LogGains 54 [i, 3] s t ∧
      t.get (R.PLT_SRC_CNT_DISC i) = min (s.get (R.PLT_SRC_CNT_DISC i) + 1) 65535 ∧
      OnlyLogged [R.PLT_SRC_CNT_DISC i] { s with plt.fixes := t.plt.fixes } t) ∧
  (∀ (s : State) (n : Fin 2) (ph : Fin 10000), s.plt.fixes.getD n none = none →
    exec (.gnssFixComplete n ph) s = .next s ∧ exec (.gnssFixTimeout n) s = .next s) ∧
  (∀ (s : State) (n : Fin 2) (ph : Fin 10000) (st : Option Nat) (b : List Nat) (i : Nat), s.Shaped →
    s.gnssSrc n 1 = some i →
    (natAt b 0 2 ≠ 0x4753 →
      exec (.gnssBinaryFrame n ph st b) s = .next (s.tookStamp (ptGnss n) st)) ∧
    (natAt b 0 2 = 0x4753 → natAt b 0x40 4 ≠ crc32 (b.take 0x40) →
      ∃ t, exec (.gnssBinaryFrame n ph st b) s = .next t ∧ LogGains 54 [i, 2] s t ∧
        t.get (R.PLT_SRC_CNT_DISC i) = min (s.get (R.PLT_SRC_CNT_DISC i) + 1) 65535 ∧
        OnlyLogged [R.PLT_SRC_CNT_DISC i] { s with chr.stamps := t.chr.stamps } t) ∧
    (natAt b 0 2 = 0x4753 → natAt b 0x40 4 = crc32 (b.take 0x40) → natAt b 2 1 ≠ 1 ∨ natAt b 3 1 ≠ 60 →
      ∃ t, exec (.gnssBinaryFrame n ph st b) s = .next t ∧ LogGains 54 [i, 4] s t ∧
        t.get (R.PLT_SRC_CNT_DISC i) = min (s.get (R.PLT_SRC_CNT_DISC i) + 1) 65535 ∧
        OnlyLogged [R.PLT_SRC_CNT_DISC i] { s with chr.stamps := t.chr.stamps } t) ∧
    (natAt b 0 2 = 0x4753 → natAt b 0x40 4 = crc32 (b.take 0x40) → natAt b 2 1 = 1 → natAt b 3 1 = 60 →
      ∃ t, exec (.gnssBinaryFrame n ph st b) s = .next t ∧
        (st = none → LogGains 54 [i, 0] (s.atPhase ph) t) ∧
        (st ≠ none → (s.src i).raw = none →
          (t.src i).idle = 0 ∧ t.get (R.PLT_SRC_CNT_DISC i) = s.get (R.PLT_SRC_CNT_DISC i)))) ∧
  (∀ (s : State) (i : Fin 64), s.Shaped → s.isFree i = true → s.srcState i = 2 →
    (s.srcB i 0x24 2 ≤ (s.src i).idle →
      ∃ t, exec (.sourceTimeout i) s = .next t ∧ t.srcState i = 3 ∧ t.get (R.PLT_SRC_STAT_REASON i) = 2 ∧
        (t.src i).first = true ∧ (t.src i).hist = (s.src i).hist ∧ LogGains 48 [i, 2] s t ∧
        t.get (R.PLT_SRC_RATE_VALUE i) = 0 ∧
        OnlyLogged [R.PLT_SRC_RATE_VALUE i, R.PLT_SRC_STAT_STATE i, R.PLT_SRC_STAT_REASON i] { s with plt.srcs := t.plt.srcs } t) ∧
    ((s.src i).idle < s.srcB i 0x24 2 → exec (.sourceTimeout i) s = .next s)) ∧
  (∀ (s : State) (i : Fin 64), ∃ t, exec (.pltSrcCntRead i) s = .next t ∧
    t.rdata = 65536 * s.get (R.PLT_SRC_CNT_QUAR i) + s.get (R.PLT_SRC_CNT_DISC i) ∧
    t.get (R.PLT_SRC_CNT_QUAR i) = 0 ∧ t.get (R.PLT_SRC_CNT_DISC i) = 0 ∧
    OnlyRead [R.PLT_SRC_CNT_QUAR i, R.PLT_SRC_CNT_DISC i] s t)

/-- Products (R271, R276, R277, R280, R289): the job of an output is admitted at its cut-off under a tag of its own, completes
into the reorder buffer, is released at the edge into its queue; a primary late at 99.00 µs is counted; the stop and the
counters. -/
def Obligations.PlotterProducts : Prop :=
  (∀ (s : State) (p : Fin 16) (n : Nat), s.plt.up = true → s.has 0x0401 p = true → s.get R.PLT_CTL_STOP = 0 →
    s.prodB p 3 1 ≤ s.chr.tick + 1 → n = s.chr.tick + 1 - s.prodB p 3 1 → n % 2 ^ s.prodB p 1 1 = s.prodB p 2 1 →
    s.plt.cuts.getD p none ≠ some s.chr.tick → s.plt.jobs.length < 512 → s.plt.waiting = [] →
    ∃ (t : State) (j : PJob), exec (.productCutoff p) s = .next t ∧ j ∈ t.plt.jobs ∧ j.prod = p ∧ j.out = n ∧
      j.kind = 0 ∧ j.made = s.chr.tick ∧ (∀ k ∈ s.plt.jobs, k.tag ≠ j.tag) ∧
      s.plt.jobs.map (fun k => k.tag) ++ [j.tag] <+: t.plt.jobs.map (fun k => k.tag) ∧
      t.get R.PLT_JOBS_INFLIGHT = t.plt.jobs.length % 1024 ∧
      (s.prodB p 0 1 ≠ 0 → j.data = s.alignRec p n false s.chr.tick)) ∧
  (∀ (s : State) (p : Fin 16), s.plt.up = false ∨ s.get R.PLT_CTL_STOP ≠ 0 →
    exec (.productCutoff p) s = .next s) ∧
  (∀ (s u : State) (tag : Nat) (j : PJob), u = s.stageCuts → u.takenJob tag = some j → u.plt.waiting = [] →
    ∃ t, exec (.plotterJobComplete tag) s = .next t ∧
      t.plt.jobs.map (fun k => k.tag) = (u.plt.jobs.map (fun k => k.tag)).filter (fun x => x != tag) ∧
      (j.kind = 2 → t.plt.vs.replayed = true ∧
        t.get R.PLT_VS_CNT_REPLAYS = min (u.get R.PLT_VS_CNT_REPLAYS + 1) 65535) ∧
      (j.kind ∈ [0, 1] → j.missed = false → t.plt.rob = u.plt.rob ++ [{ j with done := some s.chr.tick }]) ∧
      (j.kind = 3 → t.plt.trk.fin = some j.out) ∧ (j.kind = 4 → t.plt.yld.fin = some j.out) ∧
      (j.kind = 5 → ∀ c ∈ t.plt.yld.closing, c.no ≠ j.out)) ∧
  (∀ (s : State) (tag : Nat), s.stageCuts.takenJob tag = none →
    exec (.plotterJobComplete tag) s = .next s.stageCuts) ∧
  (∀ (s : State) (p : Fin 16) (j : PJob), s.plt.up = true → s.plt.rob = [j] → s.releasable p j = true → j.kind = 0 →
    ∃ (t : State) (bs : List Nat), exec (.productRelease p) s = .next t ∧ t.plt.rob = [] ∧
      t.get (R.PLT_P_WIDX_VALUE p) = (s.get (R.PLT_P_WIDX_VALUE p) + 1) % 2 ^ 32 ∧
      t.get (R.PLT_P_LAST_REV p) = b2n j.missed ∧ t.get (R.PLT_P_LAST_SEQ p) = s.plt.seqs.getD p 0 % 65536 ∧
      t.rings.lookup (p * 2 ^ 32 + s.get (R.PLT_P_WIDX_VALUE p) % 2 ^ s.prodB p 8 1) = some bs ∧
      bs.take 8 = leBytes 8 (ofInt 64 (s.tickMt j.out - s.stepsAfter j.out)) ∧ bs.drop 32 = j.data.body ∧
      (t.lastOut p j.out).map (fun o => o.rev) = some (b2n j.missed)) ∧
  (∀ (s : State) (p : Fin 16), (∀ j ∈ s.plt.rob, s.releasable p j = false) →
    ∃ t, exec (.productRelease p) s = .next t ∧ t.plt.rob = s.plt.rob ∧ t.rings = s.rings ∧
      t.get (R.PLT_P_WIDX_VALUE p) = s.get (R.PLT_P_WIDX_VALUE p)) ∧
  (∀ (s : State) (p : Fin 16) (j : PJob), j ∈ s.plt.jobs ++ s.plt.waiting ++ s.plt.failed → j.prod = p → j.kind = 0 →
    j.missed = false → j.out = s.chr.tick + 1 - s.prodB p 3 1 →
    ∃ t, exec (.outputMissed p) s = .next t ∧
      t.get R.PLT_CNT_MISSED_VALUE = min (s.get R.PLT_CNT_MISSED_VALUE + 1) (2 ^ 32 - 1) ∧
      (j ∈ s.plt.jobs → { j with missed := true } ∈ t.plt.jobs) ∧
      (j ∈ s.plt.waiting → { j with missed := true } ∈ t.plt.waiting) ∧ j ∉ t.plt.failed ∧
      t.plt.jobs.length = s.plt.jobs.length ∧ t.plt.waiting.length = s.plt.waiting.length ∧
      LogGains 51 [p, j.out % 2 ^ 32] (s.atPhase 9900) t ∧
      OnlyLogged [R.PLT_CNT_MISSED_VALUE] { s with chr.phase := 9900, plt.jobs := t.plt.jobs, plt.waiting := t.plt.waiting,
                                                   plt.failed := t.plt.failed } t) ∧
  (∀ s : State, s.mode = mSERVICE → s.plt.up = true →
    ∃ t, exec .plotterStop s = .next t ∧ t.get R.PLT_CTL_STOP = 1 ∧ t.plt.rob = s.plt.rob ∧ t.rings = s.rings ∧
      t.get R.PLT_STATUS_IDLE = b2n (t.plt.jobs.isEmpty && t.plt.rob.isEmpty)) ∧
  (∀ s : State, s.mode ≠ mSERVICE → exec .plotterStop s = .next s) ∧
  (∀ s : State,
    (∃ t u, u = s.stageCuts ∧ exec .pltJobsRead s = .next t ∧
      t.rdata = 65536 * u.get R.PLT_JOBS_HWM + u.get R.PLT_JOBS_INFLIGHT ∧
      t.get R.PLT_JOBS_HWM = u.get R.PLT_JOBS_INFLIGHT % 1024 ∧ OnlyRead [R.PLT_JOBS_HWM] u t) ∧
    (∃ t, exec .pltCntMissedRead s = .next t ∧ t.rdata = s.get R.PLT_CNT_MISSED_VALUE ∧
      t.get R.PLT_CNT_MISSED_VALUE = 0 ∧ OnlyRead [R.PLT_CNT_MISSED_VALUE] s t) ∧
    (∃ t, exec .pltCntLateRead s = .next t ∧ t.rdata = s.get R.PLT_CNT_LATE_VALUE ∧
      t.get R.PLT_CNT_LATE_VALUE = 0 ∧ OnlyRead [R.PLT_CNT_LATE_VALUE] s t) ∧
    (∃ t, exec .pltCntDropRead s = .next t ∧ t.rdata = s.get R.PLT_CNT_DROP_VALUE ∧
      t.get R.PLT_CNT_DROP_VALUE = 0 ∧ OnlyRead [R.PLT_CNT_DROP_VALUE] s t) ∧
    (∃ t, exec .pltCntRevdropRead s = .next t ∧ t.rdata = s.get R.PLT_CNT_REVDROP_VALUE ∧
      t.get R.PLT_CNT_REVDROP_VALUE = 0 ∧ OnlyRead [R.PLT_CNT_REVDROP_VALUE] s t) ∧
    ∃ t, exec .pltVsCntRead s = .next t ∧
      t.rdata = 65536 * s.get R.PLT_VS_CNT_GATED + s.get R.PLT_VS_CNT_REPLAYS ∧ t.get R.PLT_VS_CNT_GATED = 0 ∧
      t.get R.PLT_VS_CNT_REPLAYS = 0 ∧ OnlyRead [R.PLT_VS_CNT_GATED, R.PLT_VS_CNT_REPLAYS] s t)

/-- Tracks and the fleet (R294, R304 to R306, R508): an update writes its list into the other buffer and releases it, or is
missed; the module shares every SHARE_T ticks at most 64 entries, its own first; a fleet message is counted as unknown or twice, or heard; a
silent peer's track is deleted. -/
def Obligations.TracksAndFleet : Prop :=
  (∀ (s : State) (n : Nat) (done : Bool), s.plt.up = true → s.has 0x0410 0 = true → s.get R.PLT_CTL_STOP = 0 →
    s.cfg 0x0410 0 2 1 ≤ s.chr.tick → n = s.chr.tick - s.cfg 0x0410 0 2 1 →
    n % 2 ^ s.cfg 0x0410 0 0 1 = s.cfg 0x0410 0 1 1 → s.plt.trk.last ≠ some n →
    ∃ t, exec (.trackUpdate done) s = .next t ∧ t.plt.trk.last = some n ∧
      (done = false → s.plt.trk.fin ≠ some n → t.plt.trk.tracks = s.plt.trk.tracks ∧ t.plt.trk.meas = s.plt.trk.meas ∧ t.rings = s.rings ∧
        t.get R.PLT_CNT_MISSED_VALUE = min (s.get R.PLT_CNT_MISSED_VALUE + 1) (2 ^ 32 - 1)) ∧
      (done = true ∨ s.plt.trk.fin = some n → t.get R.PLT_TRK_BUF_HI_CUR = (1 - s.get R.PLT_TRK_BUF_HI_CUR) % 2 ∧
        t.plt.trk.seq = (s.plt.trk.seq + 1) % 65535 ∧ t.get R.PLT_TRK_STAT_USED = min 256 t.plt.trk.tracks.length ∧ t.plt.trk.oos = 0 ∧
        (∃ (bs : List Nat) (l : List Track), t.rings.lookup ((0x12 + (1 - s.get R.PLT_TRK_BUF_HI_CUR)) * 2 ^ 32) = some bs ∧
          bs.take 8 = leBytes 8 (ofInt 64 (s.tickMt n - s.stepsAfter n)) ∧ natAt bs 14 2 = (l.take 256).length ∧
          t.plt.trk.tracks = (l.take 256).filter Track.live ++ l.drop 256) ∧
        ∀ k, k ≠ (0x12 + (1 - s.get R.PLT_TRK_BUF_HI_CUR)) * 2 ^ 32 → t.rings.lookup k = s.rings.lookup k)) ∧
  (∀ (s : State) (done : Bool), s.plt.up = false ∨ s.has 0x0410 0 = false ∨ s.get R.PLT_CTL_STOP ≠ 0 →
    exec (.trackUpdate done) s = .next s) ∧
  (∀ s : State, s.plt.up = true → s.has 0x0412 0 = true → s.cfg 0x0412 0 0 2 ≠ 0 →
    (∀ x, s.plt.trk.sharedAt = some x → x + s.cfg 0x0412 0 0 2 ≤ s.chr.tick) →
    ∃ t, exec .fleetShare s = .next t ∧ t.plt.trk.shared.length ≤ 64 ∧
      t.plt.trk.shared.head? = some (s.shareBytes s.selfTrack (s.tickMt (s.plt.trk.listed.getD s.chr.tick))) ∧
      t = { s with plt.trk.shared := t.plt.trk.shared, plt.trk.sharedAt := some s.chr.tick }) ∧
  (∀ s : State, s.cfg 0x0412 0 0 2 = 0 ∨
      (∃ x, s.plt.trk.sharedAt = some x ∧ s.chr.tick < x + s.cfg 0x0412 0 0 2) → exec .fleetShare s = .next s) ∧
  (∀ (s : State) (f : FleetMsg), s.Shaped →
    (s.peerKnown f.addr.toNat = false →
      ∃ t, exec (.fleetMessage f) s = .next t ∧
        t.get R.HSI_CNT1_FLEET_DROP = min (s.get R.HSI_CNT1_FLEET_DROP + 1) 65535 ∧
        OnlyRegs [R.HSI_CNT1_FLEET_DROP] { s with chr.stamps := t.chr.stamps } t) ∧
    (s.peerKnown f.addr.toNat = true → (f.addr.toNat, f.seq) ∈ s.hsi.fleetSeq →
      ∃ t, exec (.fleetMessage f) s = .next t ∧
        t.get R.HSI_CNT1_FLEET_DUP = min (s.get R.HSI_CNT1_FLEET_DUP + 1) 65535 ∧
        OnlyRegs [R.HSI_CNT1_FLEET_DUP] { s with chr.stamps := t.chr.stamps } t) ∧
    (s.peerKnown f.addr.toNat = true → (f.addr.toNat, f.seq) ∉ s.hsi.fleetSeq →
      ∃ t, exec (.fleetMessage f) s = .next t ∧ (f.addr.toNat, f.seq) ∈ t.hsi.fleetSeq ∧
        (∀ i ∈ s.peerSrcs f.addr.toNat, (t.src i).peerTai = f.tai) ∧
        t.get R.HSI_CNT1_FLEET_DROP = s.get R.HSI_CNT1_FLEET_DROP ∧
        t.get R.HSI_CNT1_FLEET_DUP = s.get R.HSI_CNT1_FLEET_DUP)) ∧
  (∀ (s : State) (a : BitVec 32), ∃ t, exec (.fleetFragmentTimeout a) s = .next t ∧
    t.get R.HSI_CNT1_FLEET_DROP = min (s.get R.HSI_CNT1_FLEET_DROP + 1) 65535 ∧
    OnlyRegs [R.HSI_CNT1_FLEET_DROP] s t) ∧
  (∀ (s : State) (i : Fin 64) (k : Track), k ∈ s.plt.trk.tracks → k.kind = 5 → k.peer = i → k.live = true →
    s.cfg 0x0412 0 6 2 ≤ k.quiet →
    ∃ t, exec (.machineTrackTimeout i) s = .next t ∧ LogGains 57 [i, 1] s t ∧ k.delete 2 ∈ t.plt.trk.tracks ∧
      t.plt.trk.tracks.length = s.plt.trk.tracks.length ∧
      (∀ m ∈ s.plt.trk.tracks, m.kind ≠ 5 ∨ m.peer ≠ i.val → m ∈ t.plt.trk.tracks) ∧
      OnlyLogged [] { s with plt.trk.tracks := t.plt.trk.tracks } t) ∧
  (∀ s : State, ∃ t, exec .pltTrkCntRead s = .next t ∧
    t.rdata = 65536 * s.get R.PLT_TRK_CNT_REFUSED + s.get R.PLT_TRK_CNT_OOS ∧ t.get R.PLT_TRK_CNT_REFUSED = 0 ∧
    t.get R.PLT_TRK_CNT_OOS = 0 ∧ OnlyRead [R.PLT_TRK_CNT_REFUSED, R.PLT_TRK_CNT_OOS] s t)

/-- Yield mapping and the tank (R307, R316, R319, R323, R327): a step records its tank values and, as unloading starts, counts
the load up; a step not done is missed; the tank commands answer by mode, load, mass and tilt; the calibration ends after
T_AVG. -/
def Obligations.YieldAndTank : Prop :=
  (∀ (s : State) (n : Nat) (done : Bool), s.plt.up = true → s.has 0x0420 0 = true → s.get R.PLT_CTL_STOP = 0 →
    s.yB 2 1 ≤ s.chr.tick → n = s.chr.tick - s.yB 2 1 → n % 2 ^ s.yB 0 1 = s.yB 1 1 → s.plt.yld.last ≠ some n →
    ∃ t, exec (.yieldStep done) s = .next t ∧ t.plt.yld.last = some n ∧
      (done = false → s.plt.yld.fin ≠ some n → t.get R.PLT_CNT_MISSED_VALUE = min (s.get R.PLT_CNT_MISSED_VALUE + 1) (2 ^ 32 - 1) ∧
        t.plt.yld.segs = s.plt.yld.segs ∧ t.plt.yld.steps = s.plt.yld.steps) ∧
      (done = true ∨ s.plt.yld.fin = some n → ∀ w, w = s.mbx (s.tB 0x1C 4 % 2 ^ 20) →
        t.get R.PLT_YLD_STAT_UNLOADING = b2n (!w.valid || w.val != 0) ∧
        t.plt.yld.unloading = (!w.valid || w.val != 0) ∧
        (∃ x ∈ t.plt.yld.steps, x.tv = s.tickMt n ∧ x.unloading = (!w.valid || w.val != 0)) ∧
        ((!w.valid || w.val != 0) = true → s.plt.yld.unloading = false →
          t.plt.yld.loadNo = (s.plt.yld.loadNo + 1) % 65536 ∧
          t.get R.PLT_YLD_STAT_LOAD = (s.plt.yld.loadNo + 1) % 65536 ∧ t.get R.PLT_YLD_STAT_LOAD_OPEN = 1) ∧
        ((!w.valid || w.val != 0) = false ∨ s.plt.yld.unloading = true → t.plt.yld.loadNo = s.plt.yld.loadNo))) ∧
  (∀ (s : State) (done : Bool), s.plt.up = false ∨ s.has 0x0420 0 = false ∨ s.get R.PLT_CTL_STOP ≠ 0 →
    exec (.yieldStep done) s = .next s) ∧
  (∀ s : State, ∃ t, exec .tankClose s = .next t ∧ t.get R.PLT_TANK_CTL_OP = 0 ∧
    (s.mode ∉ [mSTANDBY, mROAD, mFIELD, mSERVICE] → t.get R.PLT_TANK_CTL_RESULT = 2 ∧
      OnlyRegs [R.PLT_TANK_CTL_OP, R.PLT_TANK_CTL_RESULT] s t) ∧
    (s.mode ∈ [mSTANDBY, mROAD, mFIELD, mSERVICE] → s.plt.yld.load = none → t.get R.PLT_TANK_CTL_RESULT = 4 ∧
      OnlyRegs [R.PLT_TANK_CTL_OP, R.PLT_TANK_CTL_RESULT] s t) ∧
    (s.mode ∈ [mSTANDBY, mROAD, mFIELD, mSERVICE] → s.plt.yld.load ≠ none → t.get R.PLT_TANK_CTL_RESULT = 1 ∧
      t.plt.yld.load = none ∧ t.get R.PLT_YLD_STAT_LOAD_OPEN = 0 ∧
      t.get R.PLT_LOADQ_WIDX_VALUE = (s.get R.PLT_LOADQ_WIDX_VALUE + 1) % 2 ^ 32 ∧
      ∃ bs, t.rings.lookup (0x11 * 2 ^ 32 + s.get R.PLT_LOADQ_WIDX_VALUE % 64) = some bs)) ∧
  (∀ (s : State) (op : Fin 3) (c : Instr), (op.val = 1 ∧ c = .tankZero) ∨ (op.val = 2 ∧ c = .tankSpan) →
    ∃ t, exec c s = .next t ∧ t.get R.PLT_TANK_CTL_OP = op ∧
      OnlyRegs [R.PLT_TANK_CTL_OP, R.PLT_TANK_CTL_RESULT] { s with plt.yld.calOp := t.plt.yld.calOp } t ∧
      (s.mode ≠ mSERVICE → t.get R.PLT_TANK_CTL_RESULT = 2 ∧ t.plt.yld.calOp = s.plt.yld.calOp) ∧
      (∀ x m q, s.mode = mSERVICE → s.plt.yld.steps.getLast? = some x → x.m = some m → s.plt.poses.head? = some q →
        q.w.getD 9 0 = 0 → s.level q.w = true →
        t.get R.PLT_TANK_CTL_RESULT = 0 ∧ t.plt.yld.calOp = some (op.val, (s.chr.base : Int)))) ∧
  (∀ s : State, s.plt.yld.calOp = none → exec .tankCalComplete s = .next s) ∧
  (∀ (s : State) (op : Nat) (b : Int) (xs : List YStep), s.plt.yld.calOp = some (op, b) →
    b + msMt (s.tB 0x24 2) ≤ s.chr.base → xs = s.stepsIn b (b + msMt (s.tB 0x24 2)) →
    ∃ t, exec .tankCalComplete s = .next t ∧ t.plt.yld.calOp = none ∧
      ((xs = [] ∨ ∃ x ∈ xs, x.m = none) → t.get R.PLT_TANK_CTL_RESULT = 4 ∧
        OnlyRegs [R.PLT_TANK_CTL_RESULT] { s with plt.yld.calOp := none } t) ∧
      (xs ≠ [] → (∀ x ∈ xs, x.m ≠ none) → t.get R.PLT_TANK_CTL_RESULT = 1 ∧
        (s.has 0x0421 0 = true → t.upd.queue.length = s.upd.queue.length + 1))) ∧
  (∀ s : State, ∃ t, exec .pltYldCntRead s = .next t ∧
    t.rdata = 65536 * s.get R.PLT_YLD_CNT_TDROP + s.get R.PLT_YLD_CNT_WREJ ∧ t.get R.PLT_YLD_CNT_TDROP = 0 ∧
    t.get R.PLT_YLD_CNT_WREJ = 0 ∧ OnlyRead [R.PLT_YLD_CNT_TDROP, R.PLT_YLD_CNT_WREJ] s t)

/-! ### Sextant and Lookout -/

/-- Camera ports (R330 to R337, R340, R366): the link's states; triggers; a frame opens, takes its lines, and closes SHORT when
lines are missing; headers and lines in error are counted. -/
def Obligations.CameraPorts : Prop :=
  (∀ (s : State) (p : Fin 8), s.Shaped →
    (s.portState p = 2 → ∃ t, exec (.cameraLinkLoss p) s = .next t ∧ t.get (R.SXT_PORT_STAT_STATE p) = 3 ∧
      (t.sxPort p).openFrame = none ∧ ((s.sxPort p).openFrame = none → LogNext 64 [p, 0] s t) ∧
      (s.served p = true → (t.sxPort p).lost = true)) ∧
    (s.portState p ≠ 2 → exec (.cameraLinkLoss p) s = .next s) ∧
    (s.portState p = 1 → ∃ t, exec (.cameraTrained p) s = .next t ∧ t.get (R.SXT_PORT_STAT_STATE p) = 2 ∧
      t.get (R.SXT_PORT_STAT_GEAR p) = s.sxB p 3 1 % 4 ∧ LogNext 64 [p, 1] s t ∧ (t.sxPort p).lost = false ∧
      OnlyLogged [R.SXT_PORT_STAT_STATE p, R.SXT_PORT_STAT_GEAR p] { s with sxt.ports := t.sxt.ports } t) ∧
    (s.portState p ≠ 1 → exec (.cameraTrained p) s = .next s) ∧
    (s.portState p = 3 → ∃ t, exec (.cameraRetrain p) s = .next t ∧ t.get (R.SXT_PORT_STAT_STATE p) = 1 ∧
      OnlyRegs [R.SXT_PORT_STAT_STATE p] s t) ∧
    (s.portState p ≠ 3 → exec (.cameraRetrain p) s = .next s)) ∧
  (∀ (s : State) (p : Fin 8), s.Shaped → s.has 0x0500 p = true → bit (s.sxB p 0 1) 0 = true → s.portState p = 2 →
    s.chr.tick % max 1 (s.sxB p 8 2) = s.sxB p 0x0A 2 →
    ∃ t, exec (.cameraTrigger p) s = .next t ∧ (t.sxPort p).trigs =
        (s.sxPort p).trigs ++ [((s.atPhase (s.sxB p 0x0C 2)).now, s.chr.tick)] ∧
      t = { s with chr.phase := t.chr.phase, sxt.ports := t.sxt.ports }) ∧
  (∀ (s : State) (p : Fin 8) (e n : Nat) (rest : List (Nat × Nat)), s.Shaped → (s.sxPort p).trigs = (e, n) :: rest →
    (s.now ≤ e + 800 * s.sxB p 0x10 2 → exec (.triggerMissed p) s = .next s) ∧
    (e + 800 * s.sxB p 0x10 2 < s.now → ∃ t, exec (.triggerMissed p) s = .next t ∧ (t.sxPort p).trigs = rest ∧
      t.get (R.SXT_PORT_CNT_MISSED p) = min (s.get (R.SXT_PORT_CNT_MISSED p) + 1) 255 ∧
      LogGains 69 [p, n % 2 ^ 32] s t ∧ OnlyLogged [R.SXT_PORT_CNT_MISSED p] { s with sxt.ports := t.sxt.ports } t)) ∧
  (∀ (s : State) (p : Fin 8) (k : FrameStartPkt) (st : Option Nat), s.Shaped → s.portState p = 2 →
    s.has 0x0500 p = true → (s.sxPort p).openFrame = none → k.hdrOk = true → k.vc = s.sxB p 2 1 →
    (s.get (R.SXT_PIPE_CTL_PAUSE (p / 2)) = 0 → bit (s.sxB p 0 1) 0 = false →
      ∃ t f, exec (.frameStart p k st) s = .next t ∧ (t.sxPort p).frames = (s.sxPort p).frames ++ [f] ∧
        (t.sxPort p).openFrame = some f ∧ f.fs = st ∧ f.no = k.no.toNat ∧ f.lines = [] ∧
        f.flags = (if st = none then 16 else 0) ∧ (t.sxPort p).lastFs = st) ∧
    (s.get (R.SXT_PIPE_CTL_PAUSE (p / 2)) ≠ 0 →
      ∃ t, exec (.frameStart p k st) s = .next t ∧ (t.sxPort p).frames = (s.sxPort p).frames ∧
        (t.sxPort p).skip = true)) ∧
  (∀ (s : State) (p : Fin 8) (k : FrameStartPkt) (e : FrameEndPkt) (st : Option Nat), s.portState p = 2 →
    s.has 0x0500 p = true →
    (k.hdrOk = false ∨ k.vc ≠ s.sxB p 2 1 → ∃ t, exec (.frameStart p k st) s = .next t ∧
      t.get (R.SXT_PORT_PERR_HDR p) = min (s.get (R.SXT_PORT_PERR_HDR p) + 1) 65535 ∧
      OnlyRegs [R.SXT_PORT_PERR_HDR p] { s with chr.stamps := t.chr.stamps } t) ∧
    (e.hdrOk = false ∨ e.vc ≠ s.sxB p 2 1 → ∃ t, exec (.frameEnd p e) s = .next t ∧
      t.get (R.SXT_PORT_PERR_HDR p) = min (s.get (R.SXT_PORT_PERR_HDR p) + 1) 65535 ∧
      OnlyRegs [R.SXT_PORT_PERR_HDR p] { s with chr.stamps := t.chr.stamps } t)) ∧
  (∀ (s : State) (p : Fin 8) (k : LinePkt), s.Shaped → s.portState p = 2 → s.has 0x0500 p = true → k.dt ≠ 0x12 →
    (k.hdrOk = false ∨ k.vc ≠ s.sxB p 2 1 ∨ k.dt ≠ s.sxB p 1 1 →
      ∃ t, exec (.linePacket p k) s = .next t ∧
        t.get (R.SXT_PORT_PERR_HDR p) = min (s.get (R.SXT_PORT_PERR_HDR p) + 1) 65535 ∧
        OnlyRegs [R.SXT_PORT_PERR_HDR p] { s with sxt.ports := t.sxt.ports } t) ∧
    (∀ f, k.hdrOk = true → k.vc = s.sxB p 2 1 → k.dt = s.sxB p 1 1 → (s.sxPort p).openFrame = some f →
      (s.sxB p 6 2 ≤ f.lines.length → k.fifoFull = false →
        ∃ t, exec (.linePacket p k) s = .next t ∧
          (t.sxPort p).openFrame = some { f with surplus := f.surplus + 1 } ∧
          t = { s with sxt.ports := t.sxt.ports }) ∧
      (f.lines.length < s.sxB p 6 2 → k.fifoFull = false → (s.sxPort p).fill < s.sxB p 0x14 2 →
        ∃ t g, exec (.linePacket p k) s = .next t ∧ (t.sxPort p).openFrame = some g ∧
          (k.crcOk = true → (unpackRaw k.dt k.data).length = s.sxB p 4 2 →
              g = { f with lines := f.lines ++ [unpackRaw k.dt k.data] } ∧
            t.get (R.SXT_PORT_PERR_LINE p) = s.get (R.SXT_PORT_PERR_LINE p)) ∧
          (k.crcOk = false ∨ (unpackRaw k.dt k.data).length ≠ s.sxB p 4 2 → g.lines.length = f.lines.length + 1 ∧
            g.errs = f.errs + 1 ∧
            t.get (R.SXT_PORT_PERR_LINE p) = min (s.get (R.SXT_PORT_PERR_LINE p) + 1) 65535) ∧
          OnlyRegs [R.SXT_PORT_PERR_LINE p, R.SXT_PORT_HWM_VALUE p] { s with sxt.ports := t.sxt.ports } t))) ∧
  (∀ (s : State) (p : Fin 8) (k : FrameEndPkt), s.Shaped → s.portState p = 2 → s.has 0x0500 p = true →
    k.hdrOk = true → k.vc = s.sxB p 2 1 →
    (∀ f, (s.sxPort p).openFrame = some f →
      ∃ t, exec (.frameEnd p k) s = .next t ∧ (t.sxPort p).openFrame = none ∧
        t.get (R.SXT_PORT_LAST_VLINES p) = f.lines.length % 65536 ∧
        (f.lines.length < s.sxB p 6 2 → bit (t.get (R.SXT_PORT_LAST_FLAGS p)) 0 = true ∧
          t.get (R.SXT_PORT_CNT_SHORT p) = min (s.get (R.SXT_PORT_CNT_SHORT p) + 1) 255)) ∧
    ((s.sxPort p).openFrame = none → (s.sxPort p).skip = false →
      ∃ t, exec (.frameEnd p k) s = .next t ∧
        t.get (R.SXT_PORT_PERR_HDR p) = min (s.get (R.SXT_PORT_PERR_HDR p) + 1) 65535 ∧
        OnlyRegs [R.SXT_PORT_PERR_HDR p] { s with chr.stamps := t.chr.stamps } t)) ∧
  (∀ (s : State) (p : Fin 8), s.Shaped →
    (∀ f, (s.sxPort p).openFrame = some f →
      ∃ t, exec (.frameTimeout p) s = .next t ∧ (t.sxPort p).openFrame = none ∧
        bit (t.get (R.SXT_PORT_LAST_FLAGS p)) 0 = true ∧
        t.get (R.SXT_PORT_CNT_SHORT p) = min (s.get (R.SXT_PORT_CNT_SHORT p) + 1) 255) ∧
    ((s.sxPort p).openFrame = none → exec (.frameTimeout p) s = .next s)) ∧
  (∀ (s : State) (p : Fin 8),
    (∃ t, exec (.sxtPortCntRead p) s = .next t ∧
      t.rdata = 16777216 * s.get (R.SXT_PORT_CNT_TRUNC p) + 65536 * s.get (R.SXT_PORT_CNT_LONG p) +
        256 * s.get (R.SXT_PORT_CNT_SHORT p) + s.get (R.SXT_PORT_CNT_MISSED p) ∧
      (∀ f ∈ [R.SXT_PORT_CNT_TRUNC p, R.SXT_PORT_CNT_LONG p, R.SXT_PORT_CNT_SHORT p, R.SXT_PORT_CNT_MISSED p],
        t.get f = 0) ∧
      OnlyRead [R.SXT_PORT_CNT_TRUNC p, R.SXT_PORT_CNT_LONG p, R.SXT_PORT_CNT_SHORT p, R.SXT_PORT_CNT_MISSED p] s t) ∧
    (∃ t, exec (.sxtPortPerrRead p) s = .next t ∧
      t.rdata = 65536 * s.get (R.SXT_PORT_PERR_HDR p) + s.get (R.SXT_PORT_PERR_LINE p) ∧
      t.get (R.SXT_PORT_PERR_HDR p) = 0 ∧ t.get (R.SXT_PORT_PERR_LINE p) = 0 ∧
      OnlyRead [R.SXT_PORT_PERR_HDR p, R.SXT_PORT_PERR_LINE p] s t) ∧
    ∃ t, exec (.sxtPortHwmRead p) s = .next t ∧ t.rdata = s.get (R.SXT_PORT_HWM_VALUE p) ∧
      t.get (R.SXT_PORT_HWM_VALUE p) = (s.sxPort p).fill % 2 ^ 32 ∧ OnlyRead [R.SXT_PORT_HWM_VALUE p] s t)

/-- Pipelines, the encoder and Lookout (R338, R341, R354, R360, R364, R366): blocks run one at a time and the last writes the
frame's statistics; an access unit is written when there is room, or dropped with an IDR due; Lookout takes the oldest
job, and writes the record of a finished or aborted one. -/
def Obligations.PipelinesAndLookout : Prop :=
  (∀ (s : State) (k : Fin 4), s.Shaped → s.sxt.up = true → (s.sxt.pipes.getD k {}).run = none →
    (∀ n, s.chooseBlock k = some n →
      ∃ t, exec (.blockStart k) s = .next t ∧ (t.sxt.pipes.getD k {}).run = some n ∧
        t.get (R.SXT_PIPE_STAT_BUSY k) = 1 ∧ t.get (R.SXT_PIPE_STAT_CUR k) = n % 2 ∧
        OnlyRegs [R.SXT_PIPE_STAT_IDLE k, R.SXT_PIPE_STAT_BUSY k, R.SXT_PIPE_STAT_CUR k]
          { s with sxt.ports := t.sxt.ports, sxt.pipes := t.sxt.pipes } t) ∧
    (s.chooseBlock k = none → exec (.blockStart k) s = .next s)) ∧
  (∀ (s : State) (k : Fin 4) (ph : Fin 10000) (n : Nat) (f : SxFrame) (rest : List SxFrame), s.Shaped → n < 8 →
    (s.sxt.pipes.getD k {}).run = some n → (s.sxPort n).frames = f :: rest →
    ∃ t, exec (.blockComplete k ph) s = .next t ∧ t.sxt.pipes.getD k {} = ⟨none, some n⟩ ∧
      (16 * (f.blocks + 1) < s.sxB n 6 2 → (t.sxPort n).frames = (s.blockDone n f).1 :: rest ∧
        t.rings = s.rings) ∧
      (s.sxB n 6 2 ≤ 16 * (f.blocks + 1) → (t.sxPort n).frames = rest ∧
        ∃ bs, t.rings.lookup ((0x40 + 4 * n + 3) * 2 ^ 32 +
          (s.sxPort n).slot.getD 3 0 % max 1 (s.pipeB (n / 2) 3 1 / 16)) = some bs)) ∧
  (∀ (s : State) (k : Fin 4) (ph : Fin 10000), (s.sxt.pipes.getD k {}).run = none →
    exec (.blockComplete k ph) s = .next s) ∧
  (∀ (s : State) (i : Fin 4) (au : List Nat) (x : SxPic) (rest : List SxPic) (u : Nat),
    s.Shaped → (s.sxt.encs.getD i {}).queue = x :: rest →
    u = (s.get (R.SXT_ENC_WR_VALUE i) + 2 ^ 32 - s.get (R.SXT_ENC_RD_VALUE i)) % 2 ^ 32 + 32 + ((seiStamp x.fs).length + au.length) →
    ∃ t, exec (.encodeAccessUnit i au) s = .next t ∧ (t.sxt.encs.getD i {}).queue = rest ∧
      (u ≤ 2 ^ s.codecB i 9 1 →
        t.get (R.SXT_ENC_WR_VALUE i) = (s.get (R.SXT_ENC_WR_VALUE i) + (32 + ((seiStamp x.fs).length + au.length))) % 2 ^ 32 ∧
        t.get (R.SXT_ENC_STAT_IDR_PEND i) = 0 ∧
        (∃ d, d.length = 32 ∧ (t.sxt.encs.getD i {}).buf = (s.sxt.encs.getD i {}).buf ++ d ++ (seiStamp x.fs ++ au)) ∧
        (t.sxt.encs.getD i {}).ref = x.data ∧
        OnlyRegs [R.SXT_ENC_WR_VALUE i, R.SXT_ENC_STAT_IDR_PEND i] { s with sxt.encs := t.sxt.encs } t) ∧
      (2 ^ s.codecB i 9 1 < u →
        t.get (R.SXT_ENC_DROP_VALUE i) = min (s.get (R.SXT_ENC_DROP_VALUE i) + 1) (2 ^ 32 - 1) ∧
        t.get (R.SXT_ENC_STAT_IDR_PEND i) = 1 ∧ LogGains 71 [i, 1] s t ∧
        OnlyLogged [R.SXT_ENC_DROP_VALUE i, R.SXT_ENC_STAT_IDR_PEND i] { s with sxt.encs := t.sxt.encs } t)) ∧
  (∀ (s : State) (k : Fin 4),
    (∃ t, exec (.pipelinePause k) s = .next t ∧ t.get (R.SXT_PIPE_CTL_PAUSE k) = 1 ∧
      OnlyRegs [R.SXT_PIPE_CTL_PAUSE k] s t) ∧
    ∃ t, exec (.sxtEncDropRead k) s = .next t ∧ t.rdata = s.get (R.SXT_ENC_DROP_VALUE k) ∧
      t.get (R.SXT_ENC_DROP_VALUE k) = 0 ∧ OnlyRead [R.SXT_ENC_DROP_VALUE k] s t) ∧
  (∀ s : State, s.lkt.run = none → s.lkt.waiting ≠ [] →
    ∃ t j, exec .lookoutJobStart s = .next t ∧ t.lkt.run = some j ∧ j ∈ s.lkt.waiting ∧ t.get R.LKT_STAT_BUSY = 1 ∧
      (∀ k ∈ s.lkt.waiting, j.order < k.order ∨ (j.order = k.order ∧ j.bind ≤ k.bind)) ∧
      t.lkt.waiting = s.lkt.waiting.filter (fun k => k != j)) ∧
  (∀ s : State, s.lkt.run ≠ none ∨ s.lkt.waiting = [] → exec .lookoutJobStart s = .next s) ∧
  (∀ (s : State) (c : BitVec 32) (j : LktJob) (n : Nat), s.lkt.run = some j →
    n = s.cfg 0x0600 (s.bindB j.bind 0 1) 0x10 4 → n ≤ c.toNat → 20 * c.toNat ≤ 21 * n →
    ∃ t, exec (.lookoutJobComplete c) s = .next t ∧ t.lkt.run = none ∧
      t.get R.LKT_RUNS_VALUE = (s.get R.LKT_RUNS_VALUE + 1) % 2 ^ 32 ∧
      t.get R.LKT_RING_WIDX_VALUE = (s.get R.LKT_RING_WIDX_VALUE + 1) % 2 ^ 32 ∧
      t.get (R.LKT_BIND_LAST_FRAME_NO j.bind) = j.no % 65536 ∧ t.get (R.LKT_BIND_CYC_VALUE j.bind) = c.toNat ∧
      t.lkt.seq = (s.lkt.seq + 1) % 65536 ∧
      ∃ bs, t.rings.lookup (0x14 * 2 ^ 32 + s.get R.LKT_RING_WIDX_VALUE % 256) = some bs ∧ bs.take 8 = leBytes 8 j.fs) ∧
  (∀ (s : State) (c : BitVec 32) (j : LktJob), s.lkt.run = some j →
    (c.toNat < s.cfg 0x0600 (s.bindB j.bind 0 1) 0x10 4 → exec (.lookoutJobComplete c) s = .next s) ∧
    (c.toNat < 800 * s.bindB j.bind 6 2 → exec (.lookoutJobAbort c) s = .next s)) ∧
  (∀ (s : State) (c : BitVec 32) (j : LktJob), s.lkt.run = some j → 800 * s.bindB j.bind 6 2 ≤ c.toNat →
    ∃ t, exec (.lookoutJobAbort c) s = .next t ∧ t.lkt.run = none ∧
      t.get R.LKT_CNT_ABORT = min (s.get R.LKT_CNT_ABORT + 1) 65535 ∧
      t.get (R.LKT_BIND_LAST_COUNT j.bind) = 0 ∧ t.get R.LKT_RUNS_VALUE = s.get R.LKT_RUNS_VALUE ∧
      LogGains 75 [j.bind, c.toNat] s t) ∧
  (∀ (s : State) (c : BitVec 32), s.lkt.run = none →
    exec (.lookoutJobComplete c) s = .next s ∧ exec (.lookoutJobAbort c) s = .next s) ∧
  (∀ s : State,
    (∃ t, exec .lookoutPause s = .next t ∧ t.get R.LKT_CTL_PAUSE = 1 ∧ OnlyRegs [R.LKT_CTL_PAUSE] s t) ∧
    ∃ t, exec .lktCntRead s = .next t ∧ t.rdata = 65536 * s.get R.LKT_CNT_ABORT + s.get R.LKT_CNT_SKIP ∧
      t.get R.LKT_CNT_ABORT = 0 ∧ t.get R.LKT_CNT_SKIP = 0 ∧ OnlyRead [R.LKT_CNT_ABORT, R.LKT_CNT_SKIP] s t)

/-! ### The scratchpad and the fabric -/

/-- Atomics (R375, R376): on an allowed word the old value returns and the new one stands in its bytes alone; with an
uncorrectable read nothing is written; elsewhere nothing happens. -/
def Obligations.Atomics : Prop :=
  (∀ (s : State) (lvl : Fin 7) (w : Nat) (h : Fin 2) (v : BitVec 32), atomicAllowed lvl (halfAddr w h) = true →
    (∃ t, exec (.atomicAdd32 lvl w h v false) s = .next t ∧ t.rdata = s.spdRead (halfAddr w h) 4 ∧
      t.spdRead (halfAddr w h) 4 = (s.spdRead (halfAddr w h) 4 + v.toNat) % 2 ^ 32 ∧
      (∀ p, p < s.spdPhys (halfAddr w h) ∨ s.spdPhys (halfAddr w h) + 4 ≤ p → t.spdAt p = s.spdAt p) ∧
      t = { s with rdata := t.rdata, spd.mem := t.spd.mem, spd.hold := t.spd.hold, spd.flips := t.spd.flips,
                   spd.ended := s.spd.ended.set lvl false }) ∧
    (∃ t, exec (.atomicSwap32 lvl w h v false) s = .next t ∧ t.rdata = s.spdRead (halfAddr w h) 4 ∧
      t.spdRead (halfAddr w h) 4 = v.toNat ∧
      (∀ p, p < s.spdPhys (halfAddr w h) ∨ s.spdPhys (halfAddr w h) + 4 ≤ p → t.spdAt p = s.spdAt p) ∧
      t = { s with rdata := t.rdata, spd.mem := t.spd.mem, spd.hold := t.spd.hold, spd.flips := t.spd.flips,
                   spd.ended := s.spd.ended.set lvl false }) ∧
    ∀ c ∈ [Instr.atomicAdd32 lvl w h v true, Instr.atomicSwap32 lvl w h v true], ∃ t, exec c s = .next t ∧
      (∀ p, t.spdAt p = s.spdAt p) ∧ t.rdata = s.rdata ∧ t.spd.ended = s.spd.ended.set lvl true ∧
      t.get (R.SPD_BANK_HEALTH_UE (spdBank (halfAddr w h))) =
        min (s.get (R.SPD_BANK_HEALTH_UE (spdBank (halfAddr w h))) + 1) 255) ∧
  (∀ (s : State) (lvl : Fin 7) (w : Nat) (v : BitVec 64), atomicAllowed lvl (8 * w) = true →
    (∃ t, exec (.atomicAdd64 lvl w v false) s = .next t ∧ t.rdata = s.spdRead (8 * w) 8 ∧
      t.spdRead (8 * w) 8 = (s.spdRead (8 * w) 8 + v.toNat) % 2 ^ 64 ∧
      (∀ p, p < s.spdPhys (8 * w) ∨ s.spdPhys (8 * w) + 8 ≤ p → t.spdAt p = s.spdAt p) ∧
      t = { s with rdata := t.rdata, spd.mem := t.spd.mem, spd.hold := t.spd.hold, spd.flips := t.spd.flips,
                   spd.ended := s.spd.ended.set lvl false }) ∧
    (∃ t, exec (.atomicSwap64 lvl w v false) s = .next t ∧ t.rdata = s.spdRead (8 * w) 8 ∧
      t.spdRead (8 * w) 8 = v.toNat ∧
      (∀ p, p < s.spdPhys (8 * w) ∨ s.spdPhys (8 * w) + 8 ≤ p → t.spdAt p = s.spdAt p) ∧
      t = { s with rdata := t.rdata, spd.mem := t.spd.mem, spd.hold := t.spd.hold, spd.flips := t.spd.flips,
                   spd.ended := s.spd.ended.set lvl false }) ∧
    ∀ c ∈ [Instr.atomicAdd64 lvl w v true, Instr.atomicSwap64 lvl w v true], ∃ t, exec c s = .next t ∧
      (∀ p, t.spdAt p = s.spdAt p) ∧ t.rdata = s.rdata ∧ t.spd.ended = s.spd.ended.set lvl true ∧
      t.get (R.SPD_BANK_HEALTH_UE (spdBank (8 * w))) =
        min (s.get (R.SPD_BANK_HEALTH_UE (spdBank (8 * w))) + 1) 255) ∧
  (∀ (s : State) (lvl : Fin 7) (w : Nat) (h : Fin 2) (v : BitVec 32) (x : BitVec 64) (ue : Bool),
    (atomicAllowed lvl (halfAddr w h) = false →
      exec (.atomicAdd32 lvl w h v ue) s = .next s ∧ exec (.atomicSwap32 lvl w h v ue) s = .next s) ∧
    (atomicAllowed lvl (8 * w) = false →
      exec (.atomicAdd64 lvl w x ue) s = .next s ∧ exec (.atomicSwap64 lvl w x ue) s = .next s))

/-- Errors, scrubbing, remaps, march runs, mailbox expiry and counters of the scratchpad (R374, R377 to R380, R382, R385, R396,
Table 10.3). -/
def Obligations.ScratchpadUpkeep : Prop :=
  (∀ (s : State) (b : Fin 32) (r : Fin 160) (rd : SpdReader), ∃ t u, exec (.scratchpadError b r false rd) s = .next t ∧
    exec (.scratchpadError b r true rd) s = .next u ∧
    t.get (R.SPD_BANK_HEALTH_CE b) = min (s.get (R.SPD_BANK_HEALTH_CE b) + 1) 255 ∧
    u.get (R.SPD_BANK_HEALTH_UE b) = min (s.get (R.SPD_BANK_HEALTH_UE b) + 1) 255 ∧
    (s.alm.standbySeen = false → LogGains 80 [b, r] s t ∧ LogNext 81 [b, r, readerLevel rd] s u) ∧
    (∀ c, rd = .helmState c → c ∈ u.hlm.arith) ∧ (∀ c k, rd = .helmInput c k → (c, k) ∈ u.hlm.badIn) ∧
    (∀ a, rd = .dSlot a → a ∈ u.mrd.dSpoilt) ∧ (∀ w, rd = .mailbox w → u.mbx w = {}) ∧
    (∀ tag j, rd = .plotter tag → s.takenJob tag = some j → j.kind = 0 → j ∈ u.plt.failed) ∧
    (∀ k, rd = .sextant k → (u.sxt.pipes.getD k {}).run = none) ∧ (rd = .lookout → u.lkt.run = none) ∧
    (rd = .pilot → u.spd.ended = s.spd.ended.set 5 true) ∧ (rd = .debug → u.spd.ended = s.spd.ended.set 6 true) ∧
    t.spd = s.spd ∧ ∀ p, u.spdAt p = s.spdAt p) ∧
  (∀ (s : State) (b : Fin 32), s.spd.scrubPos.length = 32 →
    (s.spd.scrubPos.getD b 0 + 1 < 40960 → ∃ t, exec (.scrubStep b none) s = .next t ∧
      t.spd.scrubPos.getD b 0 = s.spd.scrubPos.getD b 0 + 1 ∧ t = { s with spd.scrubPos := t.spd.scrubPos }) ∧
    (40960 ≤ s.spd.scrubPos.getD b 0 + 1 → setBit s.spd.scrubDone b true = 2 ^ 32 - 1 →
      ∃ t, exec (.scrubStep b none) s = .next t ∧ t.spd.scrubPos.getD b 0 = 0 ∧ t.spd.scrubDone = 0 ∧
        t.get R.SPD_SCRUB_PASSES = (s.get R.SPD_SCRUB_PASSES + 1) % 2 ^ 32) ∧
    ∃ t, exec (.scrubStep b (some true)) s = .next t ∧
      t.get (R.SPD_BANK_HEALTH_UE b) = min (s.get (R.SPD_BANK_HEALTH_UE b) + 1) 255) ∧
  (∀ (s : State) (b : Fin 32) (r : Fin 160) (sp : Nat), r.val < 128 →
    s.spd.copying.find? (fun m => m.1 == b.val && m.2.1 == r.val) = some (b.val, r.val, sp) →
    ∃ t, exec (.rowRemap b r) s = .next t ∧ t.spd.remaps = s.spd.remaps ++ [(b.val, r.val, sp)] ∧
      (∀ m ∈ t.spd.copying, ¬(m.1 = b.val ∧ m.2.1 = r.val)) ∧
      (sp ≠ r.val → s.Canonical → ∀ k, k < 2048 →
        spdByte (rowPlace b sp + k) t.spd.mem = spdByte (rowPlace b r + k) s.spd.mem) ∧
      LogGains 82 [b, r, t.get (R.SPD_BANK_HEALTH_SPARE_LEFT b)] s t) ∧
  (∀ (s : State) (b : Fin 32) (f l : Fin 160) (d : Bool),
    ∃ t, exec (if d then .marchDestructive b f l else .marchPreserving b f l) s = .next t ∧
      t.get R.SPD_MARCH_CTL_BANK = b ∧ t.get R.SPD_MARCH_CTL_FIRST = f ∧ t.get R.SPD_MARCH_CTL_LAST = l ∧
      (s.spd.march ≠ none ∨ s.rowUnderTest = true → t.get R.SPD_MARCH_CTL_RESULT = 5 ∧ t.spd = s.spd) ∧
      (s.spd.march = none → s.rowUnderTest = false → s.mode = mLIMP ∨ (d = true ∧ s.mode ≠ mSERVICE) →
        t.get R.SPD_MARCH_CTL_RESULT = 4 ∧ t.spd = s.spd) ∧
      (s.spd.march = none → s.rowUnderTest = false → s.mode ≠ mLIMP → (d = true → s.mode = mSERVICE) →
        t.get R.SPD_MARCH_CTL_RESULT = 1 ∧ t.spd.march = some ⟨d, b, f, l⟩ ∧
        (s.Canonical → ∀ p, t.spdAt p = s.spdAt p))) ∧
  (∀ (s : State) (m : March) (fails : List (Nat × Nat)) (n : Nat), s.spd.march = some m →
    n = (fails.map (fun x => x.2)).sum → (s.rowUnderTest = true → exec (.marchEnd fails) s = .next s) ∧
    (s.rowUnderTest = false → ∃ t, exec (.marchEnd fails) s = .next t ∧ t.spd.march = none ∧
      t.get R.SPD_MARCH_CTL_RESULT = (if n = 0 then 2 else 3) ∧ t.get R.SPD_MARCH_RES_FAILS = min n 65535 ∧
      LogGains 84 [m.bank, if n = 0 then 2 else 3, n] s t ∧
      (m.destructive = false → t.spd.mbx = s.spd.mbx ∧ t.spd.hold = none ∧
        (s.Canonical → ∀ p, t.spdAt p = s.spdAt p)) ∧
      (m.destructive = true → m.bank / 4 ∈ t.hlm.grpRst ∧ ∀ p, spdByte p t.spd.mem =
        (if rowPlace m.bank m.first ≤ p ∧ p < rowPlace m.bank (m.last + 1) then 0 else spdByte p s.spd.mem)))) ∧
  (∀ (s : State) (w : BitVec 16) (n : Nat), (s.mbx w.toNat).expires = some n →
    (n ≤ s.chr.tick → ∃ t, exec (.mailboxExpiry w) s = .next t ∧ (t.mbx w.toNat).valid = false ∧
      (t.mbx w.toNat).val = (s.mbx w.toNat).val ∧ (∀ i, i ≠ w.toNat → t.mbx i = s.mbx i) ∧
      t = { s with spd.mbx := t.spd.mbx }) ∧
    (s.chr.tick < n → exec (.mailboxExpiry w) s = .next s)) ∧
  (∀ (s : State) (m : Fin 8), exec (.spdConfRead m) s = .next (if m.val = 0 then { s with rdata := 0 }
    else { s with rdata := s.spd.conf.getD m 0, spd.conf := s.spd.conf.set m 0 })) ∧
  (∀ (s : State) (b : Fin 32), ∃ t, exec (.spdBankHealthRead b) s = .next t ∧
    t.rdata = 16777216 * s.get (R.SPD_BANK_HEALTH_CE b) + 65536 * s.get (R.SPD_BANK_HEALTH_SPARE_LEFT b) +
      256 * s.get (R.SPD_BANK_HEALTH_UNREPAIRED b) + s.get (R.SPD_BANK_HEALTH_UE b) ∧
    t.get (R.SPD_BANK_HEALTH_CE b) = 0 ∧ t.get (R.SPD_BANK_HEALTH_UE b) = 0 ∧
    OnlyRead [R.SPD_BANK_HEALTH_CE b, R.SPD_BANK_HEALTH_UE b] s t)

/-- The fabric, the data-plane failure and non-volatile memory (R389, R392, R393, R395, R397, R441, Table 10.6): errors are
counted and raised, a failure after STANDBY sets its cause and asks for LIMP, and the counters stay within their
bounds. -/
def Obligations.FabricAndDataPlane : Prop :=
  (∀ (s : State) (use : DramUse) (a : Nat), use.addr = a →
    (∃ t, exec (.dramEccError false use) s = .next t ∧ t.get R.FAB_ERR_CE = min (s.get R.FAB_ERR_CE + 1) 65535 ∧
      LogGains 85 [0, bits a 6 32, bits a 38 2] s t ∧ OnlyLogged [R.FAB_ERR_CE] s t) ∧
    ∃ t, exec (.dramEccError true use) s = .next t ∧ t.get R.FAB_ERR_UE = min (s.get R.FAB_ERR_UE + 1) 65535 ∧
      LogNext 85 [1, bits a 6 32, bits a 38 2] s t ∧
      (s.alm.standbySeen = true →
        s.get R.REP_CFG_DRAM_UE_MAX ≤ (s.rep.dramUe.filter fun n => decide (s.now < n + oneSecond)).length + 1 →
        ¬(2 ∈ s.rep.dpActive ∧
          s.get R.REP_CFG_DRAM_UE_MAX ≤ (s.rep.dramUe.filter fun n => decide (s.now < n + oneSecond)).length) →
        t.get R.REP_STAT_DP_FAIL = 1 ∧ t.get R.REP_STAT_DP_CAUSE = 2) ∧
      (2 ∈ s.rep.dpActive →
        s.get R.REP_CFG_DRAM_UE_MAX ≤ (s.rep.dramUe.filter fun n => decide (s.now < n + oneSecond)).length →
        t.get R.REP_STAT_DP_FAIL = s.get R.REP_STAT_DP_FAIL ∧ t.get R.REP_STAT_DP_CAUSE = s.get R.REP_STAT_DP_CAUSE)) ∧
  (∀ (s : State) (c : Fin 5) (tag : Nat) (b : Fin 3), ∃ t u v, exec (.fabricTimeout c tag) s = .next t ∧
    exec .pllDUnlock s = .next u ∧ exec (.dataPlaneStall b) s = .next v ∧ LogNext 86 [c, tag % 512] s t ∧
    u.get R.CHR_CLKSTAT_LOCK_D = 0 ∧ (s.get R.CHR_CLKSTAT_LOCK_D = 0 → u = s) ∧
    (s.get R.CHR_CLKSTAT_LOCK_D ≠ 0 → LogNext 1 [3] s u) ∧
    (s.blockStalls b = false → v = s) ∧ (s.blockStalls b = true → (v.blockQuiet b).2 = true) ∧
    (s.alm.standbySeen = true →
      (∀ x ∈ [(t, 1, true), (u, 0, s.flag R.CHR_CLKSTAT_LOCK_D), (v, 3 + b.val, s.blockStalls b)], x.2.2 = true →
        x.1.get R.REP_STAT_DP_FAIL = 1 ∧ x.1.get R.REP_STAT_DP_CAUSE = x.2.1 ∧ (s.mode ∈ [mSTANDBY, mROAD, mFIELD, mSERVICE] → (mLIMP, 0x30) ∈ x.1.alm.modeReq)) ∧
      (s.blockStalls b = true → LogGains 107 [3 + b] s v)) ∧
    (s.alm.standbySeen = false → v.log = s.log ∧ v.regs = s.regs ∧ OnlyLogged [] s t ∧ OnlyLogged [R.CHR_CLKSTAT_LOCK_D] s u)) ∧
  (∀ (s : State) (w k : Nat) (m : Bool), ∃ t, exec (.nvmOperationFail m w k) s = .next t ∧
    (m = true → t.get R.LOG_STAT_MRAM_FAIL = 1 ∧ OnlyLogged [R.LOG_STAT_MRAM_FAIL] s t) ∧ LogNext 87 [b2n m, w, k] s t ∧
    (m = false → t.get R.LOG_STAT_MRAM_FAIL = s.get R.LOG_STAT_MRAM_FAIL ∧
      (s.get R.UPD_STAT_STATE ∉ [1, 2, 3] → OnlyLogged [] s t) ∧
      (s.get R.UPD_STAT_STATE ∈ [1, 2] → w = 7 → t.get R.UPD_STAT_STATE = 0 ∧ t.get R.UPD_STAT_RESULT = 0x18))) ∧
  (∀ s : State, ∃ t, exec .fabStatusRead s = .next t ∧ s.inflight ≤ 512 ∧
    t.rdata = 65536 * max s.inflight (s.spd.hwm.getD 0 0) + s.inflight ∧
    t = { s with rdata := t.rdata, spd.hwm := s.spd.hwm.set 0 s.inflight }) ∧
  (∀ s : State, ∃ t, exec .fabErrRead s = .next t ∧ t.rdata = 65536 * s.get R.FAB_ERR_CE + s.get R.FAB_ERR_UE ∧
    t.get R.FAB_ERR_CE = 0 ∧ t.get R.FAB_ERR_UE = 0 ∧ OnlyRead [R.FAB_ERR_CE, R.FAB_ERR_UE] s t) ∧
  (∀ (s : State) (c : Fin 5), ∃ t, exec (.fabClassRead c) s = .next t ∧ s.tagsNow c ≤ classTags c ∧
    t.rdata = 16777216 * max (s.tagsNow c) (s.spd.hwm.getD (c + 1) 0) + (Config.bandwidth c s.chr.tick).toNat ∧
    t = { s with rdata := t.rdata, spd.hwm := s.spd.hwm.set (c + 1) (s.tagsNow c) })

/-! ### Soundings and repair -/

/-- Errors on slices and ring inputs, and Soundings (R426, R428 to R431, R433 to R437): an error opens an entry and takes its
unit out of use, a repeat is counted; a Sounding starts when its engine is free, or a port's is deferred; its result
retires or returns the unit, and a slice rejoins at the edge. -/
def Obligations.Soundings : Prop :=
  (∀ (s : State) (g : Fin 8) (y : Fin 4) (p : Fin 5) (c u : Nat), c = 4 * g.val + y.val → u = sliceUnit c p → s.Shaped →
    s.alm.standbySeen = true → p.val ∉ (s.cell c).isolated → p.val ∉ (s.cell c).retired →
    (p.val = 4 → (s.cell c).isolated ≠ [] ∨ (s.cell c).retired ≠ []) →
    (∀ x, s.entryOf u = none → s.rep.table.getD x none = none → x < 32 →
      ∃ t e, exec (.sliceResidueError g y p) s = .next t ∧ t.entryOf u = some e ∧ e.2.sev = 2 ∧ e.2.rep = 0 ∧
        p.val ∈ (t.cell c).isolated ∧ LogNext 100 [u, g] s t ∧
        (∀ n, n < 16 → (s.chan (16 * g + n)).run ≠ none → (s.chan (16 * g + n)).cell = y.val →
          16 * g.val + n ∈ t.hlm.arith)) ∧
    (∀ i e, s.entryOf u = some (i, e) → 2 ≤ e.sev →
      ∃ t, exec (.sliceResidueError g y p) s = .next t ∧
        t.rep.table = s.rep.table.set i (some { e with rep := min 255 (e.rep + 1) }) ∧ t.rep.cells = s.rep.cells ∧
        LogNext 100 [u, g] s t)) ∧
  (∀ (s : State) (g : Fin 8) (y : Fin 4) (p : Fin 5) (c : Nat), c = 4 * g.val + y.val →
    p.val ∈ (s.cell c).isolated ∨ p.val ∈ (s.cell c).retired →
    exec (.sliceResidueError g y p) s = .next s) ∧
  (∀ (s : State) (d : Fin 2), (s.inputDead (1 - d) = true → exec (.ringPortError d) s = .next s) ∧
    (∀ x, s.inputDead (1 - d) = false → s.Shaped → s.alm.standbySeen = true → d.val ∉ s.rep.retiredPorts →
      s.entryOf (portUnit d) = none → s.rep.table.getD x none = none → x < 32 →
      ∃ t e, exec (.ringPortError d) s = .next t ∧ t.entryOf (portUnit d) = some e ∧
        e.2.state ≠ 1 ∧ t.inputDead d = s.inputDead d ∧ LogNext 108 [portUnit d, 1] s t)) ∧
  (∀ (s : State) (i : Fin 32) (e : HEntry), s.rep.table.getD i none = some e → e.state ≠ 1 →
    (unitType e.unit ≠ 2 → unitType e.unit ≠ 3 → s.engineFor i e.unit = true →
      exec (.soundingStart i) s = .next { s with rep.table := s.rep.table.set i (some { e with state := 1 }) }) ∧
    (unitType e.unit = 2 → s.engineFor i e.unit = true →
      ∃ t h, exec (.soundingStart i) s = .next t ∧ t.rep.table = s.rep.table.set i (some { e with state := 1 }) ∧
        t.spd.hold = some h ∧ h.bank = unitBank e.unit ∧ h.row = unitRow e.unit ∧
        (s.Canonical → ∀ p, t.spdAt p = s.spdAt p)) ∧
    (unitType e.unit ≠ 3 → s.engineFor i e.unit = false → exec (.soundingStart i) s = .next s) ∧
    (unitType e.unit = 3 → s.Shaped → s.deferReason (unitDir e.unit) = none → s.engineFor i e.unit = true →
      ∃ t, exec (.soundingStart i) s = .next t ∧ t.rep.table = s.rep.table.set i (some { e with state := 1 }) ∧
        bit t.mrd.heldDead (unitDir e.unit) = true ∧ t.inputDead (unitDir e.unit) = true) ∧
    (∀ r, unitType e.unit = 3 → e.state ≠ 2 → s.deferReason (unitDir e.unit) = some r →
      ∃ t, exec (.soundingStart i) s = .next t ∧ t.rep.table = s.rep.table.set i (some { e with state := 2 }) ∧
        LogGains 103 [e.unit, r] s t ∧ OnlyLogged [] { s with rep.table := t.rep.table } t)) ∧
  (∀ (s : State) (i : Fin 32), s.rep.table.getD i none = none →
    ∀ b, exec (.soundingStart i) s = .next s ∧ exec (.soundingResult i b) s = .next s) ∧
  (∀ (s : State) (i : Fin 32) (f : Bool) (e : HEntry) (n : Nat), s.Shaped → s.rep.table.getD i none = some e →
    e.state = 1 → n = s.resultReason e f →
    ∃ t, exec (.soundingResult i f) s = .next t ∧ t.rep.table.getD i none = none ∧ i.val ∉ t.rep.order ∧
      (unitType e.unit ≠ 2 → LogNext 101 [e.unit, b2n (decide (n < 3)), e.rep, n] s t) ∧
      (unitType e.unit = 2 → f = false → LogNext 84 [unitBank e.unit, 2, 0] s t ∧ t.get R.SPD_MARCH_RES_FAILS = 0) ∧
      (unitType e.unit = 2 → t.spd.hold = none ∧ (s.Canonical → ∀ p, t.spdAt p = s.spdAt p)) ∧
      (f = true → n = 0) ∧
      (unitType e.unit = 1 → n = 3 → (unitPos e.unit, s.chr.tick) ∈ (t.cell (unitCell e.unit)).rejoin) ∧
      (unitType e.unit = 1 → n ≠ 3 → unitPos e.unit ∈ (t.cell (unitCell e.unit)).retired ∧
        ((s.cell (unitCell e.unit)).retired = [] → t.get (R.HLM_FB_READY (unitCell e.unit / 4)) = 0) ∧
        ((s.cell (unitCell e.unit)).retired ≠ [] → unitCell e.unit ∈ t.hlm.fbDue)) ∧
      (unitType e.unit = 2 → n ≠ 3 → unitRow e.unit < 128 → ∀ sp rest, s.freeSpares (unitBank e.unit) = sp :: rest →
        (unitBank e.unit, unitRow e.unit, sp) ∈ t.spd.copying) ∧
      (unitType e.unit = 3 → n = 3 → bit t.mrd.heldDead (unitDir e.unit) = false) ∧
      (unitType e.unit = 3 → n ≠ 3 → unitDir e.unit ∈ t.rep.retiredPorts)) ∧
  (∀ (s : State) (c : Fin 32) (p : Fin 5), s.Shaped →
    (s.mayRejoin c p = true → ∃ t, exec (.sliceRejoin c p) s = .next t ∧ p.val ∉ (t.cell c).isolated ∧
      (∀ r ∈ (t.cell c).rejoin, r.1 ≠ p.val) ∧ OnlyRegs [R.HLM_GRES_SL_SPARE (c / 4), R.HLM_FB_A (c / 4), R.HLM_FB_NOSPARE (c / 4)]
        { s with rep.cells := t.rep.cells } t) ∧
    (s.mayRejoin c p = false → exec (.sliceRejoin c p) s = .next s)) ∧
  (∀ (s : State) (d : Fin 2) (c : Instr), (d.val = 0 ∧ c = .repSoundingWest) ∨ (d.val = 1 ∧ c = .repSoundingEast) →
    ∃ t, exec c s = .next t ∧ t.get R.REP_CMD_OP = d ∧
      (s.mode ≠ mSERVICE → t.get R.REP_CMD_RESULT = 2 ∧ OnlyRegs [R.REP_CMD_OP, R.REP_CMD_RESULT] s t) ∧
      (s.mode = mSERVICE → (s.entryOf (portUnit d)).isSome = true → t.get R.REP_CMD_RESULT = 3) ∧
      (∀ x, s.mode = mSERVICE → s.Shaped → s.entryOf (portUnit d) = none → d.val ∉ s.rep.retiredPorts →
        s.deferReason d = none → s.rep.table.getD x none = none → x < 32 →
        t.get R.REP_CMD_RESULT = 1 ∧ (t.entryOf (portUnit d)).isSome = true)) ∧
  (∀ (s : State) (u : BitVec 32), ∃ t, exec (.repSoundingSlice u) s = .next t ∧ t.get R.REP_CMDUNIT_UNIT = u.toNat ∧
    (s.mode ≠ mSERVICE → t.get R.REP_CMD_RESULT = 2) ∧
    (s.mode = mSERVICE → isSliceUnit u.toNat = false → t.get R.REP_CMD_RESULT = 5) ∧
    (s.mode = mSERVICE → isSliceUnit u.toNat = true → unitPos u.toNat ∈ (s.cell (unitCell u.toNat)).retired →
      t.get R.REP_CMD_RESULT = 3) ∧
    (∀ x, s.mode = mSERVICE → s.Shaped → isSliceUnit u.toNat = true → unitPos u.toNat ∉ (s.cell (unitCell u.toNat)).retired →
      unitPos u.toNat ∉ (s.cell (unitCell u.toNat)).isolated → s.rep.table.getD x none = none → x < 32 →
      t.get R.REP_CMD_RESULT = 1 ∧ unitPos u.toNat ∈ (t.cell (unitCell u.toNat)).isolated))

/-! ### CAN and ISOBUS -/

/-- CAN: errors, bus-off and clock loss, reception, receive objects with their lock, and counters (R402, R406 to R411, R417, R419,
R424). -/
def Obligations.CanReception : Prop :=
  (∀ (s : State) (c : Fin 6) (lec : Fin 7) (p : Bool) (r : Nat), s.busStopped c = false →
    s.get (R.BUS_STAT_ESTATE c) < 2 → r = s.get (R.BUS_ERRC_REC c) + (if p then 8 else 1) →
    ∃ t, exec (.canBusError c lec p) s = .next t ∧ t.get (R.BUS_ERRC_LEC c) = lec ∧
      t.get (R.BUS_ERRC_REC c) = min 255 r ∧ t.get (R.BUS_STAT_ESTATE c) =
        (if 255 < (s.busOf c).tec then 2 else if 127 < (s.busOf c).tec ∨ 127 < r then 1 else 0) ∧
      (s.get (R.BUS_STAT_ESTATE c) = 0 → (s.busOf c).tec ≤ 127 → 127 < r → LogGains (88 + c) [0, 0] s t)) ∧
  (∀ (s : State) (c : Fin 6), s.busStopped c = true → ∀ l p,
    exec (.canBusError c l p) s = .next s ∧ exec (.busIntegrationComplete c) s = .next s ∧
      exec (.busOffRecovered c) s = .next s) ∧
  (∀ (s : State) (c : Fin 6), s.busStopped c = false →
    (s.get (R.BUS_STAT_ESTATE c) = 3 → ∃ t, exec (.busIntegrationComplete c) s = .next t ∧
      t.get (R.BUS_STAT_ESTATE c) = (if 127 < (s.busOf c).tec ∨ 127 < s.get (R.BUS_ERRC_REC c) then 1 else 0) ∧
      OnlyRegs [R.BUS_STAT_ESTATE c] s t) ∧
    (s.get (R.BUS_STAT_ESTATE c) = 2 →
      bit (s.busB c 0 1) 2 = true ∨ s.mode = mLIMP ∨ s.get (R.BUS_CTL_RECOVER c) ≠ 0 → s.Shaped →
      ∃ t, exec (.busOffRecovered c) s = .next t ∧ t.get (R.BUS_STAT_ESTATE c) = 0 ∧
        t.get (R.BUS_ERRC_TEC c) = 0 ∧ t.get (R.BUS_ERRC_REC c) = 0 ∧ t.get (R.BUS_CTL_RECOVER c) = 0 ∧
        (t.busOf c).tec = 0 ∧ LogGains (88 + c) [3, 0] s t)) ∧
  (∀ (s : State) (c : Fin 6),
    (s.get (R.BUS_STAT_ESTATE c) = 2 → ∃ t, exec (.busRecover c) s = .next t ∧ t.get (R.BUS_CTL_RECOVER c) = 1 ∧
      OnlyRegs [R.BUS_CTL_RECOVER c] s t) ∧
    (s.get (R.BUS_STAT_ESTATE c) ≠ 2 → exec (.busRecover c) s = .next s)) ∧
  (∀ (s : State) (c : Fin 6) (f : CanFrame) (st : Option Nat), s.Shaped → s.busStopped c = false →
    s.get (R.BUS_STAT_ESTATE c) < 2 →
    (c.val < 2 → f.fdf = true → ∃ t, exec (.canRxFrame c f st) s = .next t ∧ t.get (R.BUS_ERRC_LEC c) = 2 ∧
      t.get (R.BUS_ERRC_REC c) = min 255 (s.get (R.BUS_ERRC_REC c) + 1) ∧ (t.busOf c).rx = (s.busOf c).rx) ∧
    (2 ≤ c.val ∨ f.fdf = false →
      ∀ v, v = s.whenBegun c st →
      (f.remote = true ∨ v.rxMatch c f = none → ∃ t, exec (.canRxFrame c f st) s = .next t ∧
        t.get (R.BUS_CNT0_UNMATCHED c) = min (s.get (R.BUS_CNT0_UNMATCHED c) + 1) 65535 ∧
        (t.busOf c).rx = (s.busOf c).rx) ∧
      (∀ o, f.remote = false → v.rxMatch c f = some o → s.has 0x0901 (256 * c + o) = true →
        s.mode ≠ mLIMP ∨ bit (v.rxB c o 9 1) 0 = true ∨ begunBefore st (s.busOf c).limpAt = true →
        ∃ t m, exec (.canRxFrame c f st) s = .next t ∧ m.frame.id = f.id ∧ m.stamp = st ∧
          m.frame.data = f.data.take (v.rxB c o 8 1) ∧
          ((s.rxObj c o).lock = none → (t.rxObj c o).msg = some m ∧ (t.rxObj c o).new = true ∧
            (t.rxObj c o).lost = ((s.rxObj c o).lost || (s.rxObj c o).new)) ∧
          (∀ x, (s.rxObj c o).lock = some x → (t.rxObj c o).msg = (s.rxObj c o).msg ∧
            (t.rxObj c o).shadow = some m ∧ (t.rxObj c o).lock = some x) ∧
          ∀ k, k ≠ o → t.rxObj c k = s.rxObj c k))) ∧
  (∀ (s : State) (c : Fin 6) (f : CanFrame) (st : Option Nat), s.busHeld c = true ∨ 2 ≤ s.get (R.BUS_STAT_ESTATE c) ∨
      (s.busStopped c = true ∧ begunBefore st (s.busOf c).stopAt = false) →
    exec (.canRxFrame c f st) s = .next (s.tookStamp (ptBus c 0) st)) ∧
  (∀ (s : State) (c : Fin 6) (o : Fin 256) (m : Nat), s.Shaped →
    (∃ t, exec (.rxoLockRead c o m) s = .next t ∧ t.rdata = (s.rxObj c o).word0 ∧
      (t.rxObj c o).lock = some ((s.rxObj c o).lock.getD m) ∧ (t.rxObj c o).msg = (s.rxObj c o).msg ∧
      t = { s with rdata := t.rdata, bus := t.bus }) ∧
    ∃ t, exec (.rxoReleaseRead c o m) s = .next t ∧ t.rdata = (s.rxObj c o).word (3 + s.rxB c o 8 1 / 4) ∧
      ((s.rxObj c o).lock = some m → (t.rxObj c o).lock = none ∧
        ((s.rxObj c o).shadow = none → (t.rxObj c o).new = false ∧ (t.rxObj c o).msg = (s.rxObj c o).msg) ∧
        (∀ x, (s.rxObj c o).shadow = some x → (t.rxObj c o).new = true ∧ (t.rxObj c o).msg = some x)) ∧
      ((s.rxObj c o).lock ≠ some m → t.bus = s.bus) ∧ t = { s with rdata := t.rdata, bus := t.bus }) ∧
  (∀ (s : State) (c : Fin 6) (o : Fin 256), s.Shaped →
    ((s.rxObj c o).lock ≠ none → ∃ t, exec (.rxoLockTimeout c o) s = .next t ∧ (t.rxObj c o).lock = none ∧
      (t.rxObj c o).lockTo = true ∧ LogGains (88 + c) [5, o] s t ∧ OnlyLogged [] { s with bus := t.bus } t) ∧
    ((s.rxObj c o).lock = none → exec (.rxoLockTimeout c o) s = .next s)) ∧
  (∀ (s : State) (c : Fin 6),
    (s.mode ∈ [mSTANDBY, mSERVICE] →
      (∃ t, exec (.busStop c) s = .next t ∧ t.get (R.BUS_CTL_STOP c) = 1 ∧
        OnlyRegs [R.BUS_CTL_STOP c] { s with bus := t.bus } t ∧
        (s.Shaped → s.get (R.BUS_CTL_STOP c) = 0 → (t.busOf c).stopAt = some s.now)) ∧
      ∃ t, exec (.busStart c) s = .next t ∧ t.get (R.BUS_CTL_STOP c) = 0 ∧
        (s.get (R.BUS_CTL_STOP c) ≠ 0 → s.get (R.BUS_STAT_ESTATE c) ≠ 2 → t.get (R.BUS_STAT_ESTATE c) = 3) ∧
        (s.get (R.BUS_STAT_ESTATE c) = 2 → t.get (R.BUS_STAT_ESTATE c) = 2) ∧
        OnlyRegs [R.BUS_CTL_STOP c, R.BUS_STAT_ESTATE c] { s with bus := t.bus } t) ∧
    (s.mode ∉ [mSTANDBY, mSERVICE] → exec (.busStop c) s = .next s ∧ exec (.busStart c) s = .next s)) ∧
  (∀ s : State, s.Shaped →
    (s.get R.CHR_CLKSTAT_LOCK_C ≠ 0 → ∃ t, exec .pllCUnlock s = .next t ∧ t.get R.CHR_CLKSTAT_LOCK_C = 0 ∧
      LogNext 1 [2] s t ∧
      ∀ c : Fin 6, t.get (R.BUS_STAT_CLK_LOST c) = 1 ∧ (t.busOf c).queue = [] ∧ t.get (R.BUS_STAT_TXQ c) = 0) ∧
    (s.get R.CHR_CLKSTAT_LOCK_C = 0 → exec .pllCUnlock s = .next s)) ∧
  (∀ s : State, s.Shaped →
    (s.get R.CHR_CLKSTAT_LOCK_C = 0 → ∃ t, exec .pllCRelock s = .next t ∧ t.get R.CHR_CLKSTAT_LOCK_C = 1 ∧
      ∀ c : Fin 6, t.get (R.BUS_STAT_CLK_LOST c) = 0 ∧ t.get (R.BUS_STAT_ESTATE c) = 3 ∧
        t.get (R.BUS_ERRC_TEC c) = 0 ∧ t.get (R.BUS_ERRC_REC c) = 0 ∧ (t.busOf c).tec = 0) ∧
    (s.get R.CHR_CLKSTAT_LOCK_C ≠ 0 → exec .pllCRelock s = .next s)) ∧
  (∀ (s : State) (c : Fin 6) (j : Fin 32),
    (∃ t, exec (.busCnt0Read c) s = .next t ∧
      t.rdata = 65536 * s.get (R.BUS_CNT0_UNMATCHED c) + s.get (R.BUS_CNT0_LOST c) ∧
      t.get (R.BUS_CNT0_UNMATCHED c) = 0 ∧ t.get (R.BUS_CNT0_LOST c) = 0 ∧
      OnlyRead [R.BUS_CNT0_UNMATCHED c, R.BUS_CNT0_LOST c] s t) ∧
    (∃ t, exec (.busCnt1Read c) s = .next t ∧
      t.rdata = 65536 * s.get (R.BUS_CNT1_TXDROP c) + s.get (R.BUS_CNT1_FWDROP c) ∧
      t.get (R.BUS_CNT1_TXDROP c) = 0 ∧ t.get (R.BUS_CNT1_FWDROP c) = 0 ∧
      OnlyRead [R.BUS_CNT1_TXDROP c, R.BUS_CNT1_FWDROP c] s t) ∧
    ∃ t, exec (.busTxoStatRead c j) s = .next t ∧
      t.rdata = 65536 * s.get (R.BUS_TXO_STAT_STALE c j) + s.get (R.BUS_TXO_STAT_SKIP c j) ∧
      t.get (R.BUS_TXO_STAT_STALE c j) = 0 ∧ t.get (R.BUS_TXO_STAT_SKIP c j) = 0 ∧
      OnlyRead [R.BUS_TXO_STAT_STALE c j, R.BUS_TXO_STAT_SKIP c j] s t)

/-- The transmit queue, transmit objects and the ISO 11783 functions (R412 to R416, R418 to R420): how attempts end, waiting
entries leave, commands reorder by key; an object submits its words or is stale; an address is claimed and held; DM1
goes out; a session that waits too long is aborted. -/
def Obligations.CanTransmission : Prop :=
  (∀ (s : State) (c : Fin 6) (e : TxEntry) (q : List TxEntry), s.Shaped → (s.busOf c).queue = e :: q →
    s.get (R.BUS_STAT_ESTATE c) < 2 → s.busStopped c = false → s.busSilent c = false →
    (∃ t, exec (.canTxAttemptEnd c .started) s = .next t ∧ (t.busOf c).queue = { e with sending := true } :: q ∧
      OnlyRegs [R.BUS_STAT_TXQ c] { s with bus := t.bus } t) ∧
    (s.mode ≠ mLIMP → (s.busOf c).after = none →
      (∃ t, exec (.canTxAttemptEnd c .lost) s = .next t ∧ (t.busOf c).queue = { e with sending := false } :: q ∧
        OnlyRegs [R.BUS_STAT_TXQ c] { s with bus := t.bus } t) ∧
      ∀ lec ex k, k = (if ex = true ∧ (lec = 1 ∨ (lec = 3 ∧ s.get (R.BUS_STAT_ESTATE c) = 1)) then 0 else 8) →
        ∃ t, exec (.canTxAttemptEnd c (.failed lec ex)) s = .next t ∧
        (t.busOf c).queue = { e with sending := false } :: q ∧ (t.busOf c).tec = (s.busOf c).tec + k ∧
        t.get (R.BUS_ERRC_LEC c) = lec % 8 ∧ t.get (R.BUS_ERRC_TEC c) = min 255 ((s.busOf c).tec + k)) ∧
    ∀ st, ∃ t, exec (.canTxAttemptEnd c (.sent st)) s = .next t ∧ (t.busOf c).queue = q ∧
      t.get (R.BUS_STAT_TXQ c) = q.length % 64 ∧ (t.busOf c).tec = (s.busOf c).tec - 1 ∧
      (e.src = 2 ∨ e.src = 3 → t.get (R.BUS_TXDONE_TAG c) = e.tag % 65536 ∧
        ∀ a, st = some a → t.get (R.BUS_TXSTAMP_VALUE c 0) = a % 2 ^ 32 ∧
          t.get (R.BUS_TXSTAMP_VALUE c 1) = a / 2 ^ 32 % 2 ^ 32)) ∧
  (∀ (s : State) (c : Fin 6) (r : TxEnd), (s.busOf c).queue = [] → (∀ st, r ≠ .sent st) →
    exec (.canTxAttemptEnd c r) s = .next s) ∧
  (∀ (s : State) (c : Fin 6) (p : TxEntry → Bool), s.Shaped → (∀ e, p e = (!e.sending && s.busB c 0x0C 2 != 0 &&
      decide (e.arrived + 10 * s.busB c 0x0C 2 ≤ s.chr.tick))) →
    (∀ i e, (s.busOf c).queue.findIdx? p = some i → (s.busOf c).queue[i]? = some e →
      ∃ t, exec (.txMaxExpiry c) s = .next t ∧ (t.busOf c).queue = (s.busOf c).queue.eraseIdx i ∧
        t.get (R.BUS_CNT1_TXDROP c) = min (s.get (R.BUS_CNT1_TXDROP c) + 1) 65535 ∧
        LogGains (88 + c) [6, e.obj.getD e.tag] s t ∧
        OnlyLogged [R.BUS_STAT_TXQ c, R.BUS_CNT1_TXDROP c] { s with bus := t.bus } t) ∧
    ((s.busOf c).queue.findIdx? p = none → exec (.txMaxExpiry c) s = .next s)) ∧
  (∀ (s : State) (c : Fin 6) (abort : Bool) (k : Option Nat), s.Shaped →
    k = (s.busOf c).queue.findIdx? (fun e => decide (canKey e.frame ≤ s.get (R.BUS_TXKEY_KEY c))) →
    ∃ t, exec (if abort then .txAbort c else .requeue c) s = .next t ∧ t.get (R.BUS_TXCMD_OP c) = b2n abort ∧
      OnlyRegs [R.BUS_TXCMD_OP c, R.BUS_TXCMD_MOVED c, R.BUS_TXCMD_RESULT c, R.BUS_STAT_TXQ c]
        { s with bus := t.bus } t ∧
      (s.mode = mLIMP → t.get (R.BUS_TXCMD_RESULT c) = 3 ∧ t.bus = s.bus) ∧
      (s.mode ≠ mLIMP → k = none → t.get (R.BUS_TXCMD_RESULT c) = 2 ∧ t.bus = s.bus) ∧
      (∀ i, s.mode ≠ mLIMP → k = some i → (∀ e ∈ (s.busOf c).queue, e.sending = false) →
        t.get (R.BUS_TXCMD_RESULT c) = 1 ∧ t.get (R.BUS_TXCMD_MOVED c) = i % 64 ∧
        (t.busOf c).queue = (s.busOf c).queue.drop i ++ (if abort then [] else (s.busOf c).queue.take i))) ∧
  (∀ (s : State) (c : Fin 6) (j : Fin 32) (ws : List Mbx), s.Shaped → s.has 0x0902 (32 * c + j) = true →
    bit (s.txB c j 5 1) 2 = true → s.busStopped c = false → s.busSilent c = false →
    s.mode ≠ mLIMP ∨ bit (s.txB c j 5 1) 0 = true → s.chr.tick % max 1 (s.txB c j 6 2) = s.txB c j 8 2 →
    (s.busOf c).acted.getD j none ≠ some s.chr.tick →
    ws = (List.range ((s.txB c j 4 1 + 3) / 4)).map (fun k => s.mbx (s.txB c j 0x0C 4 % 2 ^ 20 + k)) →
    ((∃ m ∈ ws, m.valid = false) → ∃ t, exec (.txobjSubmit c j) s = .next t ∧
      t.get (R.BUS_TXO_STAT_STALE c j) = min (s.get (R.BUS_TXO_STAT_STALE c j) + 1) 65535 ∧
      (t.busOf c).queue = (s.busOf c).queue ∧ j.val ∈ (t.busOf c).stale ∧
      (j.val ∉ (s.busOf c).stale → LogGains (88 + c) [7, j] s t)) ∧
    (∀ f, (∀ m ∈ ws, m.valid = true) → bit (s.txB c j 5 1) 1 = false →
      f = frameOfWords (s.txB c j 0 4) (s.txB c j 4 1) (ws.flatMap fun m => leBytes 4 m.val) →
      ((s.busOf c).queue.length < 32 → s.carries c f = true → ∃ t e, exec (.txobjSubmit c j) s = .next t ∧
        (t.busOf c).queue = queueIn e (s.busOf c).queue ∧ e.src = 1 ∧ e.obj = some j.val ∧ e.frame = f ∧
        e.frame.id = s.txB c j 0 4 % 2 ^ 29 ∧ e.arrived = s.chr.tick ∧ e.sending = false ∧
        j.val ∉ (t.busOf c).stale) ∧
      (32 ≤ (s.busOf c).queue.length ∨ s.carries c f = false → ∃ t, exec (.txobjSubmit c j) s = .next t ∧
        (t.busOf c).queue = (s.busOf c).queue ∧
        t.get (R.BUS_TXO_STAT_SKIP c j) = min (s.get (R.BUS_TXO_STAT_SKIP c j) + 1) 65535 ∧
        t.get (R.BUS_CNT1_TXDROP c) = min (s.get (R.BUS_CNT1_TXDROP c) + 1) 65535))) ∧
  (∀ (s : State) (c : Fin 6) (j : Fin 32), s.has 0x0902 (32 * c + j) = false ∨ s.busStopped c = true ∨
      s.chr.tick % max 1 (s.txB c j 6 2) ≠ s.txB c j 8 2 ∨ (s.busOf c).acted.getD j none = some s.chr.tick →
    exec (.txobjSubmit c j) s = .next s) ∧
  (∀ (s : State) (c : Fin 2) (a : Nat), s.Shaped →
    (s.isoUp c = true → (s.iso c).addr = none → (s.iso c).claim = none → (s.iso c).cannot = false →
      a = s.cfg 0x0903 c 8 1 → (s.busOf c).queue.length < 32 → ∃ t e, exec (.addressClaim c) s = .next t ∧ (t.iso c).claim = some a ∧ (t.iso c).addr = none ∧
        (t.busOf c).queue = (s.busOf c).queue ++ [e] ∧ e.frame.id = 0x18EEFF00 + a ∧
        e.frame.data = leBytes 8 (s.isoName c) ∧ e.src = 2) ∧
    (s.isoUp c = false ∨ (s.iso c).addr ≠ none ∨ (s.iso c).claim ≠ none → exec (.addressClaim c) s = .next s) ∧
    (s.isoUp c = true → (s.iso c).claim = some a → s.chr.tick < (s.iso c).claimAt + 2500 →
      exec (.addressClaimWaitEnd c) s = .next s) ∧
    (s.isoUp c = true → (s.iso c).claim = some a → (s.iso c).claimAt + 2500 ≤ s.chr.tick →
      ∃ t, exec (.addressClaimWaitEnd c) s = .next t ∧ (t.iso c).addr = some a ∧ (t.iso c).claim = none ∧
        LogGains 96 [c, 0, a] s t ∧ OnlyLogged [] { s with bus := t.bus } t) ∧
    ((s.iso c).claim = none → exec (.addressClaimWaitEnd c) s = .next s)) ∧
  (∀ (s : State) (c : Fin 2) (a : Nat), s.Shaped → s.isoUp c = true → bit (s.cfg 0x0903 c 9 1) 1 = true →
    (s.iso c).addr = some a →
    ((∃ k, (s.iso c).dm1At = some k ∧ s.chr.tick < k + 10000) → exec (.dm1Transmit c) s = .next s) ∧
    ((∀ k, (s.iso c).dm1At = some k → k + 10000 ≤ s.chr.tick) →
    (∀ d, (s.iso c).active = [d] → (s.busOf c).queue.length < 32 →
      ∃ t e, exec (.dm1Transmit c) s = .next t ∧ (t.busOf c).queue = (s.busOf c).queue ++ [e] ∧
        e.frame.id = 0x18FECA00 + a ∧ e.frame.data.length = 8 ∧ e.frame.data.drop 6 = [255, 255] ∧
        (t.iso c).changed = false) ∧
    (∀ d1 d2 l, (s.iso c).active = d1 :: d2 :: l → l.length ≤ 400 →
      ((s.iso c).sessions.filter (fun x => x.tx)).length < 4 →
      ∃ t x, exec (.dm1Transmit c) s = .next t ∧ (t.iso c).sessions = (s.iso c).sessions ++ [x] ∧ x.tx = true ∧
        x.bcast = true ∧ x.pgn = 0xFECA ∧ x.size = 10 + 4 * l.length) ∧
    ((s.iso c).active = [] → (s.iso c).changed = false → exec (.dm1Transmit c) s = .next s))) ∧
  (∀ (s : State) (c : Fin 2) (p : BitVec 8) (tx : Bool), s.Shaped →
    (s.isoRuns c = false → exec (.tpSessionTimeout c p tx) s = .next s) ∧
    (∀ x, s.isoRuns c = true → (s.iso c).sessions.find? (fun t => t.tx == tx && t.peer == p.toNat) = some x →
      ∃ t, exec (.tpSessionTimeout c p tx) s = .next t ∧
        (t.iso c).sessions = (s.iso c).sessions.filter (fun y => y != x) ∧ LogNext 97 [c, x.pgn, 3] s t) ∧
    ((s.iso c).sessions.find? (fun t => t.tx == tx && t.peer == p.toNat) = none →
      exec (.tpSessionTimeout c p tx) s = .next s))

/-! ### The Binnacle -/

/-- Frames and slots, crack and pump supervision, outputs, the thermistor and what clears their flags (R478 to R481, R485,
R488, R489): a frame starts where the last one ends and takes band, page and BLANKED; its eight slots hold the levels of
Table 14.2; a crack loop or a VLCD out of range is latched. -/
def Obligations.Binnacle : Prop :=
  (∀ (s : State) (ohm ua : Nat) (m : BitVec 10), s.binPage ≠ 0 → (∀ e, s.bin.frameEnd = some e → e ≤ s.chr.tick) →
    ∃ t, exec (.binFrameStart ohm ua m) s = .next t ∧
      t.get R.BIN_STAT_BAND = s.bandWanted % 8 ∧ t.get R.BIN_STAT_PAGE = s.binPage ∧ t.get R.BIN_STAT_BAND_PEND = 0 ∧
      t.get R.BIN_FRAME_START = s.chr.tick % 2 ^ 32 ∧ t.bin.slot = 0 ∧
      t.bin.len = s.bcfg (0x22 + s.bandWanted) 1 ∧ t.bin.frameEnd = some (s.chr.tick + t.bin.len) ∧
      t.bin.vlcd = s.bcfg (0x12 + 2 * s.bandWanted) 2 ∧
      (s.bcfg 0x2B 1 ≠ 1 → t.get R.BIN_STAT_BLANKED = 0) ∧
      (s.bcfg 0x2B 1 = 1 → s.get R.BIN_STAT_CRACK ≠ 0 ∨ s.get R.BIN_STAT_CRACK_LEAK ≠ 0 →
        t.get R.BIN_STAT_BLANKED = 1) ∧
      (s.bcfg 0x2C 2 < ohm → 2 ≤ s.bin.crackN → t.get R.BIN_STAT_CRACK ≠ 0) ∧
      (ohm ≤ s.bcfg 0x2C 2 ∨ s.bin.crackN < 2 → t.get R.BIN_STAT_CRACK = s.get R.BIN_STAT_CRACK) ∧
      (ua < 900 ∨ 1100 < ua → t.get R.BIN_STAT_CRACK_LEAK ≠ 0) ∧
      (900 ≤ ua → ua ≤ 1100 → t.get R.BIN_STAT_CRACK_LEAK = s.get R.BIN_STAT_CRACK_LEAK) ∧
      (s.bin.frameEnd ≠ none → s.bin.pump = 0 → 1 ≤ s.bin.vlcdN →
        s.bin.vlcd < 10 * ((s.get R.BIN_GLASS_VLCD_MV : Int) - s.bin.vlcd).natAbs →
        t.bin.pump = 1 ∧ t.get R.BIN_STAT_PUMP_FLT = 1 ∧ LogNext 127 [3, 0] (s.atPhase 0) t) ∧
      (∀ n : Fin 10, bit (t.get R.BIN_STAT_OUT_FLT) n =
        (bit (s.get R.BIN_STAT_OUT_FLT) n || (m.getLsbD n && decide (0 < s.bin.ma.getD n 0)))) ∧
      (s.bin.ma.length = 10 → ∀ n : Fin 10,
        t.bin.ma.getD n 0 = if t.outOn n s.chr.tick then min (t.outWant n) (outMax n) else 0) ∧
      OnlyLogged [R.BIN_STAT_BAND, R.BIN_STAT_PAGE, R.BIN_STAT_BAND_PEND, R.BIN_FRAME_START, R.BIN_STAT_BLANKED,
        R.BIN_STAT_CRACK, R.BIN_STAT_CRACK_LEAK, R.BIN_STAT_PUMP_FLT, R.BIN_STAT_OUT_FLT, R.BIN_STAT_COMP_LIM]
        { s.atPhase 0 with bin := t.bin } t) ∧
  (∀ (s : State) (ohm ua : Nat) (m : BitVec 10), s.binPage = 0 ∨ (∃ e, s.bin.frameEnd = some e ∧ s.chr.tick < e) →
    exec (.binFrameStart ohm ua m) s = .next s) ∧
  (∀ (s : State) (n e : Nat), n = s.bin.slot + 1 → n < 8 → s.bin.frameEnd = some e →
    e + n * (s.bin.len / 8) ≤ s.chr.tick + s.bin.len →
    ∃ t, exec .binSlot s = .next t ∧ t = { s.atPhase 0 with bin := { s.bin with slot := n, com := t.bin.com, seg := t.bin.seg } } ∧
      (s.get R.BIN_STAT_PAGE = 0 ∨ s.get R.BIN_STAT_BLANKED ≠ 0 ∨ s.bin.pump ≠ 0 ∨ s.bin.com = [0, 0, 0, 0] →
        t.bin.com = [0, 0, 0, 0] ∧ t.bin.seg = List.replicate 48 0) ∧
      (s.get R.BIN_STAT_PAGE ≠ 0 → s.get R.BIN_STAT_BLANKED = 0 → s.bin.pump = 0 → s.bin.com ≠ [0, 0, 0, 0] →
        (∀ k : Fin 4, t.bin.com[k.val]? = some (if k.val = n % 4 then (if n < 4 then 3 else 0) else if n < 4 then 1 else 2)) ∧
        ∀ k : Fin 48, t.bin.seg[k.val]? = some (if s.bin.shown.testBit (48 * (n % 4) + k) then (if n < 4 then 0 else 3)
          else if n < 4 then 2 else 1))) ∧
  (∀ s : State, s.bin.frameEnd = none ∨ 7 ≤ s.bin.slot ∨
      (∃ e, s.bin.frameEnd = some e ∧ s.chr.tick + s.bin.len < e + (s.bin.slot + 1) * (s.bin.len / 8)) → exec .binSlot s = .next s) ∧
  (∀ s : State,
    (s.chr.tick < s.bin.pumpAt + 10000 → ∀ ok, exec (.binPumpRetry ok) s = .next s) ∧
    (s.bin.pump = 1 → s.bin.pumpAt + 10000 ≤ s.chr.tick → exec (.binPumpRetry true) s = .next { s with bin := { s.bin with pump := 0 } } ∧
      ∃ t, exec (.binPumpRetry false) s = .next t ∧ t.bin.pump = 2 ∧ LogGains 127 [3, 1] s t ∧
        OnlyLogged [] { s with bin := t.bin } t) ∧
    (s.bin.pump ≠ 1 → ∀ ok, exec (.binPumpRetry ok) s = .next s)) ∧
  (∀ (s : State) (m : BitVec 10) (crack leak : Bool),
    (∃ t, exec (.binOutFltClear m) s = .next t ∧ OnlyRegs [R.BIN_STAT_OUT_FLT] s t ∧
      ∀ n : Fin 10, bit (t.get R.BIN_STAT_OUT_FLT) n = (bit (s.get R.BIN_STAT_OUT_FLT) n && !m.getLsbD n)) ∧
    (∃ t, exec (.binCrackClear crack leak) s = .next t ∧ OnlyRegs [R.BIN_STAT_CRACK, R.BIN_STAT_CRACK_LEAK] s t ∧
      t.get R.BIN_STAT_CRACK = (if crack then 0 else s.get R.BIN_STAT_CRACK) ∧
      t.get R.BIN_STAT_CRACK_LEAK = (if leak then 0 else s.get R.BIN_STAT_CRACK_LEAK)) ∧
    ∃ t, exec .binPumpFltClear s = .next t ∧ t.get R.BIN_STAT_PUMP_FLT = 0 ∧ t.bin.pump = 0 ∧
      OnlyRegs [R.BIN_STAT_PUMP_FLT] { s with bin := t.bin } t) ∧
  (∀ (s : State) (ohm : Nat),
    (ohm < 100 ∨ 1000000 < ohm → (s.ntcSample ohm).get R.BIN_STAT_NTC_FLT ≠ 0 ∧ (s.ntcSample ohm).bin.ntcGood = 0 ∧
      (s.ntcSample ohm).bin.glass = s.bin.glass ∧
      (s.get R.BIN_STAT_NTC_FLT = 0 → LogGains 127 [2, 0] s (s.ntcSample ohm))) ∧
    (100 ≤ ohm → ohm ≤ 1000000 →
      (s.bin.ntcGood < 15 → (s.ntcSample ohm).get R.BIN_STAT_NTC_FLT = s.get R.BIN_STAT_NTC_FLT) ∧
      (15 ≤ s.bin.ntcGood → (s.ntcSample ohm).get R.BIN_STAT_NTC_FLT = 0) ∧
      (s.ntcSample ohm).bin.glass.length = min 16 (s.bin.glass.length + 1)))
/-! ### The Host Service Interface -/

/-- How a request is answered (R493 to R499): not at all on a port that is not served, with the stored reply when it is a
duplicate, refused by state, mode or token, or by its meaning; STATUS_GET and its subscriptions; discarded and unknown
datagrams; sensor datagrams, ARP, ICMP, links and the counters (R494, R506, R509, R512). -/
def Obligations.HsiRequests : Prop :=
  (∀ (s : State) (h : HsiHdr) (typ : Nat) (tok : Bool) (act : State → Ans),
    (s.hsiUp = false ∨ s.hsiPort h.eth = false ∨ (s.alm.recovery = true ∧ h.eth ≠ 2) →
      s.request h typ tok act = .next (s.atPhase h.phase)) ∧
    (s.hsiUp = true → s.hsiPort h.eth = true → (s.alm.recovery = true → h.eth = 2) →
      (∀ r, s.dupReply h = some r → ∃ t, s.request h typ tok act = .next t ∧ t.hsi.reply = some r ∧
        t.get R.HSI_CNT0_DUP = min (s.get R.HSI_CNT0_DUP + 1) 65535 ∧
        t.hsi.hosts = (s.hsi.hosts.map fun x => if isHost h.ip.toNat h.port.toNat x then { x with seen := s.chr.tick } else x) ∧
        t.hsi.token = (s.useToken h).hsi.token ∧ OnlyHsi h [R.HSI_CNT0_DUP] s t) ∧
      (s.dupReply h = none →
        (∀ c, s.gateCond typ = some c → ∃ t, s.request h typ tok act = .next t ∧ HsiRefused h typ c [] s t) ∧
        (s.gateCond typ = none → tok = true → s.tokenOk h = false →
          ∃ t, s.request h typ tok act = .next t ∧ HsiRefused h typ 4 [] s t))) ∧
    (s.HsiTakes h typ tok → ∀ a, act (s.heard h) = a →
      (a.undef = true → s.request h typ tok act = .fault .reservedFieldWritten) ∧
      (a.undef = false → ∃ t, s.request h typ tok act = .next t ∧ HsiReplied h typ a.status a.cond a.body t ∧
        t = { a.st with hsi := t.hsi }))) ∧
  (∀ (s : State) (h : HsiHdr), s.HsiTakes h 0x0001 false → ∃ t, exec (.statusGet h) s = .next t ∧
    HsiOk h 0x0001 ((s.heard h).statusBody h.ip.toNat h.port.toNat) t ∧
    ((s.heard h).statusBody h.ip.toNat h.port.toNat).take 9 = "SC128-HM1".toList.map Char.toNat ∧ OnlyHsi h [] s t ∧
    ∃ x ∈ t.hsi.hosts, x.ip = h.ip.toNat ∧ x.port = h.port.toNat ∧ x.last = s.chr.tick ∧ x.reply = t.hsi.reply) ∧
  (∀ (s : State) (h : HsiHdr) (p l : Nat), s.HsiTakes h 0x0002 false →
    (1 ≤ p → p ≤ 10000 → 1 ≤ l → l ≤ 60 → ∃ t, exec (.statusSub h p l) s = .next t ∧ HsiOk h 0x0002 [] t ∧
      OnlyHsi h [] s t ∧ t.hsi.subs = (s.hsi.subs.filter fun x =>
        !(x.kind == 0 && x.n == 0 && x.ip == h.ip.toNat && x.port == h.port.toNat)) ++
        [{ kind := 0, n := 0, eth := h.eth, ip := h.ip.toNat, port := h.port.toNat, div := p, start := s.chr.tick
           stop := s.chr.tick + 10000 * l }]) ∧
    (p < 1 ∨ 10000 < p ∨ l < 1 ∨ 60 < l → ∃ t, exec (.statusSub h p l) s = .next t ∧ HsiRefused h 0x0002 12 [] s t ∧
      t.hsi.subs = s.hsi.subs)) ∧
  (∀ (s : State) (ip : BitVec 32) (port : BitVec 16),
    (s.hsiUp = true → (∃ b ∈ s.hsi.subs, b.kind = 0 ∧ b.ip = ip.toNat ∧ b.port = port.toNat ∧ b.start < s.chr.tick ∧
        s.chr.tick ≤ b.stop ∧ (s.chr.tick - b.start) % b.div = 0) →
      exec (.statusPush ip port) s =
        .next { s with hsi.pushes := s.hsi.pushes ++ [(0x0002, s.statusBody ip.toNat port.toNat)] }) ∧
    (s.hsiUp = false ∨ (∀ b ∈ s.hsi.subs, b.ip ≠ ip.toNat ∨ b.port ≠ port.toNat) →
      exec (.statusPush ip port) s = .next s)) ∧
  (∀ s : State, ∃ t, exec .subscriptionExpiry s = .next t ∧
    t = { s with hsi.subs := t.hsi.subs, hsi.canSub := t.hsi.canSub } ∧
    (∀ b, b ∈ t.hsi.subs ↔ b ∈ s.hsi.subs ∧ s.chr.tick < b.stop) ∧
    ∀ x, x ∈ t.hsi.canSub ↔ x ∈ s.hsi.canSub ∧ s.chr.tick < x.2.2) ∧
  (∀ (s : State) (src : HsiFrom) (phase : Fin 10000) (bytes : List Byte) (bs : List Nat) (h : HsiHdr),
      bs = bytes.map (·.toNat) → h = hsiHdrOf src phase bs →
    (hsiBad bs = true → s.hsiUp = true → s.hsiPort src.eth = true →
      ∃ t, exec (.badDatagram src phase bytes) s = .next t ∧
        t.get R.HSI_CNT0_BAD = min (s.get R.HSI_CNT0_BAD + 1) 65535 ∧ OnlyRegs [R.HSI_CNT0_BAD] s t) ∧
    (natAt bs 0 2 ≠ 0x5348 ∨ natAt bs 2 1 ≠ 1 ∨ bs.length ≠ natAt bs 6 2 + 24 ∨ 1444 < natAt bs 6 2 ∨
      natAt bs (20 + natAt bs 6 2) 4 ≠ crc32 (bs.take (20 + natAt bs 6 2)) → hsiBad bs = true) ∧
    (hsiBad bs = false → natAt bs 4 2 ∉ hsiTypes → s.HsiTakes h (natAt bs 4 2) false →
      ∃ t, exec (.badDatagram src phase bytes) s = .next t ∧
        HsiReplied h (natAt bs 4 2) 3 0 [] t ∧ OnlyHsi h [] s t)) ∧
  (∀ (s : State) (eth : Fin 3) (ip : BitVec 32) (port : BitVec 16) (st : Option Nat) (bs : List Nat) (u : State),
    u = s.tookStamp (ptEth eth 0) st →
    (eth = 2 ∨ s.sources.filter (fun i => s.srcB i 0 1 == 7 && s.sensTakes eth ip.toNat port.toNat (s.srcB i 2 2)) = [] →
      exec (.sensorDatagram eth ip port st bs) s = .next u) ∧
    (∀ i, eth ≠ 2 →
      u.sources.filter (fun i => u.srcB i 0 1 == 7 && u.sensTakes eth ip.toNat port.toNat (u.srcB i 2 2)) = [i] →
      (bs.length < max (u.srcB i 0x28 2 + u.srcB i 5 1 / 8) (u.srcB i 0x2A 2 + 4 * u.srcB i 0x2C 1) → u.plt.up = true →
        ∃ t, exec (.sensorDatagram eth ip port st bs) s = .next t ∧
          t.get (R.PLT_SRC_CNT_DISC i) = min (s.get (R.PLT_SRC_CNT_DISC i) + 1) (2 ^ (R.PLT_SRC_CNT_DISC i).w - 1) ∧
          LogGains 54 [i, 4] u t ∧ OnlyLogged [R.PLT_SRC_CNT_DISC i] u t) ∧
      (max (u.srcB i 0x28 2 + u.srcB i 5 1 / 8) (u.srcB i 0x2A 2 + 4 * u.srcB i 0x2C 1) ≤ bs.length →
        exec (.sensorDatagram eth ip port st bs) s = .next (u.ingestFree i (imgNat bs (u.srcB i 0x28 2) (u.srcB i 5 1 / 8)) st
          ((List.range (u.srcB i 0x2C 1)).map fun k => toInt 32 (imgNat bs (u.srcB i 0x2A 2 + 4 * k) 4)))))) ∧
  (∀ (s : State) (eth : Fin 3) (ip : BitVec 32) (bs : List Nat),
    (s.hsiUp = true →
      (s.portIp eth = some ip.toNat → exec (.arpRequest eth ip) s =
        .next { s with hsi.net := [(eth.val, 0, (leBytes 6 (Config.mac eth).toNat).reverse ++ ipOctets ip.toNat)] }) ∧
      (s.portIp eth ≠ none →
        exec (.icmpEcho eth ip bs) s = .next { s with hsi.net := [(eth.val, 1, ipOctets ip.toNat ++ bs)] })) ∧
    (s.hsiUp = false ∨ s.portIp eth ≠ some ip.toNat → exec (.arpRequest eth ip) s = .next s) ∧
    (s.hsiUp = false ∨ s.portIp eth = none → exec (.icmpEcho eth ip bs) s = .next s)) ∧
  (∀ (s : State) (n : Fin 3),
    (∃ t, exec (.ethLinkChange n true) s = .next t ∧ bit (t.get R.HSI_STAT_LINK) n = true ∧
      OnlyRegs [R.HSI_STAT_LINK] s t) ∧
    ∃ t, exec (.ethLinkChange n false) s = .next t ∧ bit (t.get R.HSI_STAT_LINK) n = false ∧
      ∀ k : Fin 3, k ≠ n → bit (t.get R.HSI_STAT_LINK) k = bit (s.get R.HSI_STAT_LINK) k) ∧
  (∀ s : State,
    (∃ t, exec .hsiCnt0Read s = .next t ∧ t.rdata = 65536 * s.get R.HSI_CNT0_BAD + s.get R.HSI_CNT0_DUP ∧
      t.get R.HSI_CNT0_BAD = 0 ∧ t.get R.HSI_CNT0_DUP = 0 ∧ OnlyRead [R.HSI_CNT0_BAD, R.HSI_CNT0_DUP] s t) ∧
    (∃ t, exec .hsiCnt1Read s = .next t ∧ t.rdata = 65536 * s.get R.HSI_CNT1_FLEET_DUP + s.get R.HSI_CNT1_FLEET_DROP ∧
      t.get R.HSI_CNT1_FLEET_DUP = 0 ∧ t.get R.HSI_CNT1_FLEET_DROP = 0 ∧
      OnlyRead [R.HSI_CNT1_FLEET_DUP, R.HSI_CNT1_FLEET_DROP] s t) ∧
    ∃ t, exec .hsiCnt2Read s = .next t ∧ t.rdata = s.get R.HSI_CNT2_STREAM_DROP ∧
      t.get R.HSI_CNT2_STREAM_DROP = 0 ∧ OnlyRead [R.HSI_CNT2_STREAM_DROP] s t)

/-- What hosts command (R60, R64, R224, R383, R497, R498, R500, R502, R507): set-points, mailbox words and manual values at
the coming edge, modes, reset and shutdown, CAN frames, trouble codes, ring resets, service drives and tokens; with the
condition that refuses each. -/
def Obligations.HsiCommands : Prop :=
  (∀ (s : State) (h : HsiHdr) (l : List (Nat × BitVec 32)), s.HsiTakes h 0x0010 false →
    (s.mode ≠ mSERVICE → l ≠ [] → l.length ≤ 32 → (∀ e ∈ l, e.1 < 128) →
      ∃ t, exec (.setpoint h l) s = .next t ∧ HsiOk h 0x0010 (leBytes 4 (s.chr.tick + 1)) t ∧
        (∀ l₁ ch v l₂, l = l₁ ++ (ch, v) :: l₂ → (∀ e ∈ l₂, e.1 ≠ ch) → t.seen (R.HLM_SP_VALUE ch) = v.toNat) ∧
        OnlyHsi h [] { s with tickW := t.tickW } t) ∧
    (s.mode = mSERVICE → ∃ t, exec (.setpoint h l) s = .next t ∧ HsiRefused h 0x0010 7 [] s t) ∧
    (s.mode ≠ mSERVICE → l = [] ∨ 32 < l.length ∨ (∃ e ∈ l, 128 ≤ e.1) →
      ∃ t, exec (.setpoint h l) s = .next t ∧ HsiRefused h 0x0010 12 [] s t)) ∧
  (∀ (s : State) (h : HsiHdr) (l : List (Nat × BitVec 32 × Nat × Nat)), s.HsiTakes h 0x0011 false → l ≠ [] →
    l.length ≤ 32 → (∀ e ∈ l, e.1 < 65536 ∧ e.2.2.1 < 2 ∧ e.2.2.2 < 256) →
    ((∀ e ∈ l, s.driven e.1 = false) → ∃ t, exec (.mailbox h l) s = .next t ∧
      HsiOk h 0x0011 (List.replicate l.length 1) t ∧
      t.spd.mbxW = s.spd.mbxW ++ l.map (fun e => ⟨e.1, e.2.1.toNat, e.2.2.1 == 1, e.2.2.2⟩) ∧
      OnlyHsi h [] { s with spd := t.spd } t) ∧
    ((∃ e ∈ l, s.driven e.1 = true) → ∃ t, exec (.mailbox h l) s = .next t ∧ HsiRefused h 0x0011 13 [] s t)) ∧
  (∀ (s : State) (h : HsiHdr) (ch req : Nat) (man : BitVec 32), s.HsiTakes h 0x0012 false →
    (ch < 128 → req < 2 → ∃ t, exec (.am h ch req man) s = .next t ∧ HsiOk h 0x0012 (leBytes 4 (s.chr.tick + 1)) t ∧
      t.seen (R.HLM_MAN_VALUE ch) = man.toNat ∧
      t.seen (R.HLM_AM_REQ ch) = (if s.hctl ch 0x0E 1 = 0 then s.seen (R.HLM_AM_REQ ch) else req) ∧
      OnlyHsi h [] { s with tickW := t.tickW } t) ∧
    (128 ≤ ch ∨ 2 ≤ req → ∃ t, exec (.am h ch req man) s = .next t ∧ HsiRefused h 0x0012 12 [] s t)) ∧
  (∀ (s : State) (h : HsiHdr) (g : Nat), s.HsiTakes h 0x0013 false →
    (∀ cause, (s.mode = mSTANDBY ∧ (g = mROAD ∨ g = mFIELD) ∧ s.get R.UPD_STAT_MIXED = 0 ∧ s.upd.lock = false ∧
          s.get R.ALM_MODE_RING_READY ≠ 0 ∧ cause = 0x20) ∨
        (((s.mode = mROAD ∧ g = mFIELD) ∨ (s.mode = mFIELD ∧ g = mROAD)) ∧ s.get R.ALM_MODE_RING_READY ≠ 0 ∧
          cause = 0x20) ∨
        ((s.mode = mROAD ∨ s.mode = mFIELD) ∧ g = mSTANDBY ∧ s.standstill = true ∧ cause = 0x20) ∨
        (s.mode = mSTANDBY ∧ g = mSERVICE ∧ s.tokenOk h = true ∧ cause = 0x21) ∨
        (s.mode = mSERVICE ∧ g = mSTANDBY ∧ s.tokenOk h = true ∧ cause = 0x22) ∨
        ((s.mode = mSTANDBY ∨ s.mode = mROAD ∨ s.mode = mFIELD) ∧ g = mLIMP ∧ cause = 0x34) →
      ∃ t, exec (.mode h g) s = .next t ∧ HsiOk h 0x0013 (leBytes 4 (s.chr.tick + 1)) t ∧
        t.alm.modeReq = s.alm.modeReq ++ [(g, cause)] ∧ t.mode = s.mode ∧
        OnlyHsi h [] { s with alm.modeReq := t.alm.modeReq } t) ∧
    (∀ c, (s.mode = mSTANDBY ∧ (g = mROAD ∨ g = mFIELD) ∧ s.get R.UPD_STAT_MIXED ≠ 0 ∧ c = 6) ∨
        (s.mode = mSTANDBY ∧ (g = mROAD ∨ g = mFIELD) ∧ s.get R.UPD_STAT_MIXED = 0 ∧ s.upd.lock = true ∧ c = 5) ∨
        (s.mode = mSTANDBY ∧ (g = mROAD ∨ g = mFIELD) ∧ s.get R.UPD_STAT_MIXED = 0 ∧ s.upd.lock = false ∧
          s.get R.ALM_MODE_RING_READY = 0 ∧ c = 2) ∨
        (s.mode = mSERVICE ∧ (g = mROAD ∨ g = mFIELD) ∧ s.upd.lock = true ∧ c = 5) ∨
        (((s.mode = mROAD ∧ g = mFIELD) ∨ (s.mode = mFIELD ∧ g = mROAD)) ∧ s.get R.ALM_MODE_RING_READY = 0 ∧ c = 2) ∨
        ((s.mode = mROAD ∨ s.mode = mFIELD) ∧ g = mSTANDBY ∧ s.standstill = false ∧ c = 3) ∨
        (((s.mode = mSTANDBY ∧ g = mSERVICE) ∨ (s.mode = mSERVICE ∧ g = mSTANDBY)) ∧ s.tokenOk h = false ∧ c = 4) ∨
        (s.mode = mLIMP ∧ 3 ≤ g ∧ g ≤ 7 ∧ c = 1) ∨ ((g < 3 ∨ 7 < g) ∧ c = 12) →
      ∃ t, exec (.mode h g) s = .next t ∧ HsiRefused h 0x0013 c [] s t)) ∧
  (∀ (s : State) (h : HsiHdr), s.HsiTakes h 0x0014 true →
    ∃ t, exec (.reset h) s = .next t ∧ HsiOk h 0x0014 [] t ∧ ResetEntered 0x02 s t ∧ t.nor = s.nor) ∧
  (∀ (s : State) (h : HsiHdr), s.HsiTakes h 0x0015 false →
    ∃ t, exec (.shutdown h) s = .next t ∧ HsiOk h 0x0015 [] t ∧ t.get R.PWR_STATUS_SHUTREQ = 1 ∧ t.pwr.shutSrc = 1 ∧
      (s.inMode [mROAD, mFIELD, mLIMP] = true → t.pwr.pdBegun = s.pwr.pdBegun) ∧
      (s.inMode [mROAD, mFIELD, mLIMP] = false → s.upd.lock = true → t.pwr.pdBegun = s.pwr.pdBegun) ∧
      (s.inMode [mROAD, mFIELD, mLIMP] = false → s.upd.lock = false → t.pwr.pdBegun = true) ∧
      OnlyHsi h [R.PWR_STATUS_SHUTREQ] { s with pwr := t.pwr } t) ∧
  (∀ (s : State) (h : HsiHdr) (c : Fin 6) (l : List (List (BitVec 32))), s.Shaped → s.HsiTakes h 0x0060 false →
    (l ≠ [] → l.length ≤ 16 → ∃ t rs, exec (.canTx h c l) s = .next t ∧ HsiOk h 0x0060 rs t ∧ rs.length = l.length ∧
      (s.mode = mLIMP ∨ s.busStopped c = true → rs = List.replicate l.length 3 ∧ t.bus = s.bus) ∧
      ∀ e f, l = [e] → s.mode ≠ mLIMP → s.busStopped c = false →
        f = frameOfWords (e.getD 0 0).toNat ((e.getD 1 0).toNat % 256)
          ((List.range 16).flatMap fun k => leBytes 4 (e.getD (2 + k) 0).toNat) →
        ((s.busOf c).queue.length < 32 → s.carries c f = true → rs = [1] ∧
          ∃ x, (t.busOf c).queue = (s.busOf c).queue ++ [x] ∧ x.src = 3 ∧ x.frame = f ∧
          x.frame.id = (e.getD 0 0).toNat % 2 ^ 29 ∧ x.tag = (e.getD 1 0).toNat / 65536 ∧ x.arrived = s.chr.tick) ∧
        (32 ≤ (s.busOf c).queue.length ∨ s.carries c f = false → rs = [2] ∧ t.bus = s.bus)) ∧
    (l = [] ∨ 16 < l.length → ∃ t, exec (.canTx h c l) s = .next t ∧ HsiRefused h 0x0060 12 [] s t)) ∧
  (∀ (s : State) (h : HsiHdr) (mask life : Nat), s.HsiTakes h 0x0061 false →
    ∃ t, exec (.canSub h mask life) s = .next t ∧ HsiOk h 0x0061 [] t ∧ OnlyHsi h [] s t ∧
      (h.ip.toNat * 65536 + h.port.toNat, mask, s.chr.tick + 10000 * life) ∈ t.hsi.canSub ∧
      ∀ x, x.1 ≠ h.ip.toNat * 65536 + h.port.toNat → (x ∈ t.hsi.canSub ↔ x ∈ s.hsi.canSub)) ∧
  (∀ (s : State) (h : HsiHdr) (c : Nat) (l : List (BitVec 32)), s.Shaped → s.HsiTakes h 0x0062 false →
    (c < 2 → l.length ≤ 32 → ∃ t, exec (.dtcSet h c l) s = .next t ∧ HsiOk h 0x0062 [] t ∧
      (t.iso c).active = l.map (·.toNat) ∧ ((t.iso c).changed = true ↔ (s.iso c).changed = true ∨
        (s.iso c).active ≠ l.map (·.toNat)) ∧
      (∀ d, d ∈ (s.iso c).active → d ∉ l.map (·.toNat) → d ∈ (t.iso c).prev) ∧ (t.iso c).addr = (s.iso c).addr ∧
      OnlyHsi h [] { s with bus := t.bus } t) ∧
    (2 ≤ c ∨ 32 < l.length → ∃ t, exec (.dtcSet h c l) s = .next t ∧ HsiRefused h 0x0062 12 [] s t)) ∧
  (∀ (s : State) (h : HsiHdr) (mask : BitVec 64) (edge : Nat), s.HsiTakes h 0x0090 true → s.mrd.ann.length = 8 →
    s.alm.mgmtFailed = false → s.followsRing = false →
    (mask.getLsbD 0 = false → s.chr.tick + 4 ≤ edge → ∃ t, exec (.ringReset h mask edge) s = .next t ∧
      HsiOk h 0x0090 [] t ∧ (t.mrd.ann.getD 6 {}).type = 4 ∧ (t.mrd.ann.getD 6 {}).tick = edge ∧
      (t.mrd.ann.getD 6 {}).arg = mask.toNat ∧ OnlyHsi h [] { s with mrd := t.mrd } t) ∧
    (mask.getLsbD 0 = true → ∃ t, exec (.ringReset h mask edge) s = .next t ∧ HsiRefused h 0x0090 12 [] s t) ∧
    (mask.getLsbD 0 = false → edge < s.chr.tick + 4 →
      ∃ t, exec (.ringReset h mask edge) s = .next t ∧ HsiRefused h 0x0090 11 [] s t)) ∧
  (∀ (s : State) (h : HsiHdr) (ch : Nat) (rel : Bool) (raw : BitVec 32), s.Shaped → s.HsiTakes h 0x0091 true →
    (s.mode ≠ mSERVICE → ∃ t, exec (.svcDrive h ch rel raw) s = .next t ∧ HsiRefused h 0x0091 7 [] s t) ∧
    (s.mode = mSERVICE → 128 ≤ ch ∨ s.chanOn ch = false ∨ s.chanB ch 0x1C 4 = 0 →
      ∃ t, exec (.svcDrive h ch rel raw) s = .next t ∧ HsiRefused h 0x0091 12 [] s t) ∧
    (s.mode = mSERVICE → ch < 128 → s.chanOn ch = true → s.chanB ch 0x1C 4 ≠ 0 → s.sinkOff ch = false → s.chState ch ≠ 5 →
      (s.chan ch).removed = false →
      (∃ t, exec (.svcDrive h ch false raw) s = .next t ∧ HsiOk h 0x0091 [] t ∧
        (t.chan ch).svc = some (satSink (s.chanB ch 0x1C 4) raw.toInt) ∧ t.chState ch = 6 ∧
        t.get (R.HLM_HOV_CAUSE ch) = 3 ∧ (s.chState ch ≠ 6 → (t.chan ch).target = s.chState ch)) ∧
      ((s.chan ch).svc ≠ none → ∃ t, exec (.svcDrive h ch true raw) s = .next t ∧ HsiOk h 0x0091 [] t ∧
        (t.chan ch).svc = none ∧ t.chState ch = 6 ∧ (t.chan ch).target = (if s.lawAllowed ch = true ∧ s.ttBlocked (ch / 16) = false then 2 else 1)))) ∧
  (∀ (s : State) (h : HsiHdr), s.HsiTakes h 0x00F0 false →
    ∃ t n, exec (.tokenReq h) s = .next t ∧ HsiOk h 0x00F0 n t ∧ n.length = 16 ∧
      (t.hostOf h).bind (·.nonce) = some (n, s.chr.tick) ∧ t.hsi.token.isSome = s.hsi.token.isSome ∧
      OnlyHsi h [] { s with freeCtr := s.freeCtr + 1 } t) ∧
  (∀ (s : State) (h : HsiHdr) (slot life : Nat) (sig : List Byte) (n : List Nat) (k : Nat), s.HsiTakes h 0x00F1 false →
    (slot ≤ 3 → 60 ≤ life → life ≤ s.tokenMax → (s.hostOf h).bind (·.nonce) = some (n, k) → s.chr.tick < k + 100000 →
      (bit s.usable slot = true → Config.ecdsaOk slot (s.grantText n life h) sig = true →
        ∃ t v, exec (.tokenGrant h slot life sig) s = .next t ∧
          t.hsi.token = some ⟨v, h.ip.toNat, h.port.toNat, s.chr.tick + 10000 * life, s.chr.tick⟩ ∧
          HsiOk h 0x00F1 (leBytes 8 v ++ leBytes 8 ((s.atPhase h.phase).now + 800000000 * life)) t ∧
          (t.hostOf h).bind (·.nonce) = none ∧ OnlyHsi h [] { s with freeCtr := s.freeCtr + 1 } t) ∧
      (bit s.usable slot = false ∨ Config.ecdsaOk slot (s.grantText n life h) sig = false →
        ∃ t, exec (.tokenGrant h slot life sig) s = .next t ∧ HsiRefused h 0x00F1 4 [] s t)) ∧
    (3 < slot ∨ life < 60 ∨ s.tokenMax < life →
      ∃ t, exec (.tokenGrant h slot life sig) s = .next t ∧ HsiRefused h 0x00F1 12 [] s t) ∧
    (slot ≤ 3 → 60 ≤ life → life ≤ s.tokenMax → (s.hostOf h).bind (·.nonce) = none →
      ∃ t, exec (.tokenGrant h slot life sig) s = .next t ∧ HsiRefused h 0x00F1 4 [] s t)) ∧
  (∀ (s : State) (h : HsiHdr), s.HsiTakes h 0x00F2 true →
    ∃ t, exec (.tokenDrop h) s = .next t ∧ HsiOk h 0x00F2 [] t ∧ t.hsi.token = none ∧
      t.alm.modeReq = s.alm.modeReq ++ (if s.mode = mSERVICE then [(mSTANDBY, 0x22)] else []) ∧
      OnlyHsi h [] { s with alm.modeReq := t.alm.modeReq } t) ∧
  (∀ s : State,
    (∀ k, s.hsi.token = some k →
      (k.expiry ≤ s.chr.tick ∨ k.used + 600000 ≤ s.chr.tick → ∃ t, exec .tokenExpiry s = .next t ∧ t.hsi.token = none ∧
        t.alm.modeReq = s.alm.modeReq ++ (if s.mode = mSERVICE then [(mSTANDBY, 0x22)] else []) ∧
        t = { s with hsi.token := none, alm.modeReq := t.alm.modeReq }) ∧
      (s.chr.tick < k.expiry → s.chr.tick < k.used + 600000 → exec .tokenExpiry s = .next s)) ∧
    (s.hsi.token = none → exec .tokenExpiry s = .next s))

/-- What hosts read and write (R459, R461 to R463, R469, R471, R499 to R501, R503 to R506): registers, Logbook, tiles,
rings, streams, settings and updates. -/
def Obligations.HsiData : Prop :=
  (∀ (s : State) (h : HsiHdr) (l : List Nat), s.HsiTakes h 0x0020 false →
    (l ≠ [] → l.length ≤ 64 → (∀ a ∈ l, a % 4 = 0 ∧ a < 2 ^ 40) → ∃ t bs, exec (.regRead h l) s = .next t ∧
      HsiOk h 0x0020 bs t ∧ bs.length = 4 * l.length ∧
      ∀ a, l = [a] → bs = leBytes 4 ((s.heard h).regRead hsiMaster a).rdata ∧
        t = { (s.heard h).regRead hsiMaster a with hsi := t.hsi }) ∧
    (l = [] ∨ 64 < l.length ∨ (∃ a ∈ l, a % 4 ≠ 0 ∨ 2 ^ 40 ≤ a) →
      ∃ t, exec (.regRead h l) s = .next t ∧ HsiRefused h 0x0020 12 [] s t)) ∧
  (∀ (s : State) (h : HsiHdr) (l : List (Nat × BitVec 32)), s.HsiTakes h 0x0021 true →
    (l ≠ [] → l.length ≤ 64 → (∀ e ∈ l, e.1 % 4 = 0 ∧ e.1 < 2 ^ 40) →
      (∀ u codes, (s.heard h).regWrites l = (u, codes, none, false) → ∃ t, exec (.regWrite h l) s = .next t ∧
        HsiOk h 0x0021 codes t ∧ codes.length = l.length ∧ t = { u with hsi := t.hsi }) ∧
      (∀ u codes r, (s.heard h).regWrites l = (u, codes, some r, false) → ∃ t, exec (.regWrite h l) s = .next t ∧
        HsiReplied h 0x0021 1 14 [r] t ∧ t = { u with hsi := t.hsi }) ∧
      (∀ a v u, l = [(a, v)] → (s.heard h).regWrite a v.toNat = .next u → u.goRefused a v.toNat = none →
        ∃ t, exec (.regWrite h l) s = .next t ∧ HsiOk h 0x0021 [b2n (!s.writable a)] t ∧ t = { u with hsi := t.hsi }) ∧
      (∀ a v, l = [(a, v)] → (∀ u, (s.heard h).regWrite a v.toNat ≠ .next u) →
        exec (.regWrite h l) s = .fault .reservedFieldWritten)) ∧
    (l = [] ∨ 64 < l.length ∨ (∃ e ∈ l, e.1 % 4 ≠ 0 ∨ 2 ^ 40 ≤ e.1) →
      ∃ t, exec (.regWrite h l) s = .next t ∧ HsiRefused h 0x0021 12 [] s t)) ∧
  (∀ (s : State) (h : HsiHdr) (a n : Nat), s.HsiTakes h 0x0030 false →
    (a < 524288 → 1 ≤ n → n ≤ 44 → ∃ t bs, exec (.logRead h a n) s = .next t ∧
      HsiOk h 0x0030 (leBytes 4 a ++ leBytes 2 n ++ [0, 0] ++ bs) t ∧ bs.length = 32 * n ∧ OnlyHsi h [] s t ∧
      ∀ k r, k < n → slotGet ((a + k) % 524288) s.log.slots = r →
        (bs.drop (32 * k)).take 32 = if r.seq = 0 then List.replicate 32 0 else r.bytes) ∧
    (524288 ≤ a ∨ n < 1 ∨ 44 < n → ∃ t, exec (.logRead h a n) s = .next t ∧ HsiRefused h 0x0030 12 [] s t)) ∧
  (∀ (s : State) (h : HsiHdr) (code : Nat) (ps : List (BitVec 32)), s.HsiTakes h 0x0031 false →
    (0x0200 ≤ code → code ≤ 0x02FF → (s.hsi.logTicks.filter fun t => decide (s.chr.tick < t + 10000)).length < 10 →
      ∃ t, exec (.logWrite h code ps) s = .next t ∧ HsiOk h 0x0031 [] t ∧
        (s.log.queue.length < 256 → t.log.queue = s.log.queue ++
          [(s.atPhase h.phase).mkRec code 0 (ps.map (·.toNat)) false true]) ∧
        (256 ≤ s.log.queue.length → t.log.queue = s.log.queue ∧ t.log.lostSince = s.log.lostSince + 1) ∧
        OnlyHsi h [R.LOG_LOST_VALUE] { s with log := t.log } t) ∧
    (0x0200 ≤ code → code ≤ 0x02FF → 10 ≤ (s.hsi.logTicks.filter fun t => decide (s.chr.tick < t + 10000)).length →
      ∃ t, exec (.logWrite h code ps) s = .next t ∧ HsiReplied h 0x0031 4 0 [] t ∧ OnlyHsi h [] s t) ∧
    (code < 0x0200 ∨ 0x02FF < code → ∃ t, exec (.logWrite h code ps) s = .next t ∧ HsiRefused h 0x0031 12 [] s t)) ∧
  (∀ (s : State) (h : HsiHdr) (k : Nat), s.HsiTakes h 0x0040 false →
    ∃ t, exec (.tileList h k) s = .next t ∧ OnlyHsi h [] s t ∧ HsiOk h 0x0040
      (((((s.plt.yld.tiles.drop k).filterMap id).filter (·.dirty)).take 80).flatMap fun t =>
        leBytes 4 (ofInt 32 t.te) ++ leBytes 4 (ofInt 32 t.tn) ++ leBytes 4 t.rev ++ [0, 0, 0, 0]) t) ∧
  (∀ (s : State) (h : HsiHdr) (te tn : Int) (off len rev : Nat) (x : Tile), s.tileAt te tn = some x →
    (s.HsiTakes h 0x0041 false →
      (len ≤ 1408 → off + len ≤ 1048640 → ∃ t bs, exec (.tileRead h te tn off len) s = .next t ∧
        HsiOk h 0x0041 (leBytes 4 x.rev ++ bs) t ∧ bs.length = len ∧
        (∀ k, k < len → bs.getD k 0 = s.tileByte x (off + k)) ∧ OnlyHsi h [] s t) ∧
      (1408 < len ∨ 1048640 < off + len →
        ∃ t, exec (.tileRead h te tn off len) s = .next t ∧ HsiRefused h 0x0041 12 [] s t)) ∧
    (s.HsiTakes h 0x0042 false →
      (x.rev % 2 ^ 32 = rev → ∃ t, exec (.tileAck h te tn rev) s = .next t ∧ HsiOk h 0x0042 [] t ∧
        t.tileAt te tn = some { x with dirty := false } ∧ OnlyHsi h [R.PLT_TILES_USED, R.PLT_TILES_DIRTY]
          { s with plt := t.plt } t) ∧
      (x.rev % 2 ^ 32 ≠ rev → ∃ t, exec (.tileAck h te tn rev) s = .next t ∧ HsiRefused h 0x0042 10 [] s t))) ∧
  (∀ (s : State) (h : HsiHdr) (te tn : Int) (off len rev : Nat), s.tileAt te tn = none →
    (s.HsiTakes h 0x0041 false → ∃ t, exec (.tileRead h te tn off len) s = .next t ∧ HsiRefused h 0x0041 12 [] s t) ∧
    (s.HsiTakes h 0x0042 false → ∃ t, exec (.tileAck h te tn rev) s = .next t ∧ HsiRefused h 0x0042 12 [] s t)) ∧
  (∀ (s : State) (h : HsiHdr) (r i off w n : Nat), s.HsiTakes h 0x0043 false →
    (r < 16 → s.has 0x0401 r = true → w = s.get (R.PLT_P_WIDX_VALUE r) → n = 2 ^ s.prodB r 8 1 →
      (1 ≤ (w + 2 ^ 32 - i) % 2 ^ 32 → (w + 2 ^ 32 - i) % 2 ^ 32 ≤ (w + 2 ^ 32 - s.ringOldest r n w) % 2 ^ 32 →
        ∃ t, exec (.ringRead h r i off) s = .next t ∧ HsiOk h 0x0043 (s.ringSlot r (i % n)) t ∧ OnlyHsi h [] s t) ∧
      ((w + 2 ^ 32 - i) % 2 ^ 32 = 0 ∨ (w + 2 ^ 32 - s.ringOldest r n w) % 2 ^ 32 < (w + 2 ^ 32 - i) % 2 ^ 32 →
        ∃ t, exec (.ringRead h r i off) s = .next t ∧
          HsiRefused h 0x0043 12 (leBytes 4 (s.ringOldest r n w)) s t)) ∧
    (r < 16 → s.has 0x0401 r = false → ∃ t, exec (.ringRead h r i off) s = .next t ∧ HsiRefused h 0x0043 12 [] s t) ∧
    (∃ t, exec (.ringRead h 18 i off) s = .next t ∧ OnlyHsi h [] s t ∧
      ∀ bs, s.ringSlot (0x12 + s.get R.PLT_TRK_BUF_HI_CUR) 0 = bs →
        HsiOk h 0x0043 ((bs.drop 0x0C).take 2 ++ (bs.drop off).take 1408) t) ∧
    (∀ k n w, (r = 16 ∧ k = 0x10 ∧ n = 2 ^ s.cfg 0x0420 0 0x3A 1 ∧ w = s.get R.PLT_CELLQ_WIDX_VALUE) ∨
        (r = 17 ∧ k = 0x11 ∧ n = 64 ∧ w = s.get R.PLT_LOADQ_WIDX_VALUE) →
      (∀ bs, s.ringRecords k n w i 22 = some bs →
        ∃ t, exec (.ringRead h r i off) s = .next t ∧ HsiOk h 0x0043 bs t ∧ OnlyHsi h [] s t) ∧
      (s.ringRecords k n w i 22 = none → ∃ t, exec (.ringRead h r i off) s = .next t ∧
        HsiRefused h 0x0043 12 (leBytes 4 (s.ringOldest k n w)) s t)) ∧
    (∀ w, w = s.get R.LKT_RING_WIDX_VALUE →
      (∀ bs, s.ringRecords 0x14 256 w i 1 = some bs → ∃ t, exec (.ringRead h 19 i off) s = .next t ∧
        HsiOk h 0x0043 ((bs.drop off).take 1408) t ∧ OnlyHsi h [] s t) ∧
      (s.ringRecords 0x14 256 w i 1 = none → ∃ t, exec (.ringRead h 19 i off) s = .next t ∧
        HsiRefused h 0x0043 12 (leBytes 4 (s.ringOldest 0x14 256 w)) s t)) ∧
    (20 ≤ r → ∃ t, exec (.ringRead h r i off) s = .next t ∧ HsiRefused h 0x0043 12 [] s t)) ∧
  (∀ (s : State) (h : HsiHdr) (kind n d life : Nat), s.HsiTakes h 0x0050 false →
    (kind ≤ 1 → n < (if kind = 0 then 8 else 4) → 1 ≤ d → d ≤ 16 → 1 ≤ life →
      (∃ b ∈ s.hsi.subs, b.kind = kind + 1 ∧ b.n = n ∧ s.chr.tick < b.stop ∧
          (b.ip ≠ h.ip.toNat ∨ b.port ≠ h.port.toNat)) →
      ∃ t, exec (.streamSub h kind n d life) s = .next t ∧ HsiReplied h 0x0050 4 0 [] t ∧ OnlyHsi h [] s t) ∧
    (1 < kind ∨ (if kind = 0 then 8 else 4) ≤ n ∨ d < 1 ∨ 16 < d ∨ life < 1 →
      ∃ t, exec (.streamSub h kind n d life) s = .next t ∧ HsiRefused h 0x0050 12 [] s t) ∧
    (kind ≤ 1 → n < (if kind = 0 then 8 else 4) → 1 ≤ d → d ≤ 16 → 1 ≤ life → s.hsi.subs = [] →
      s.streamRate (kind + 1) n d ≤ 800000000 →
      ∃ t b, exec (.streamSub h kind n d life) s = .next t ∧ HsiOk h 0x0050 [] t ∧ t.hsi.subs = [b] ∧
        b.kind = kind + 1 ∧ b.n = n ∧ b.eth = h.eth.val ∧ b.ip = h.ip.toNat ∧ b.port = h.port.toNat ∧ b.div = d ∧
        b.stop = s.chr.tick + 10000 * life ∧ OnlyHsi h [] s t) ∧
    (kind ≤ 1 → n < (if kind = 0 then 8 else 4) → 1 ≤ d → d ≤ 16 → 1 ≤ life → s.hsi.subs = [] →
      800000000 < s.streamRate (kind + 1) n d →
      ∃ t, exec (.streamSub h kind n d life) s = .next t ∧ HsiRefused h 0x0050 12 [] s t)) ∧
  (∀ (s : State) (n : Fin 8) (room : Bool) (b : HsiSub) (k : Fin 2),
    s.hsi.subs.find? (fun b => b.kind == k.val + 1 && b.n == n.val && decide (s.chr.tick < b.stop)) = some b →
    s.hsiUp = true →
    (k = 1 → ∀ buf, (s.sxt.encs.getD n {}).buf = buf →
      (∃ t, exec (.streamPush k n false) s = .next t ∧
        t.get R.HSI_CNT2_STREAM_DROP = min (s.get R.HSI_CNT2_STREAM_DROP + (chunks 1408 buf.length buf).length) (2 ^ 32 - 1) ∧
        OnlyRegs [R.HSI_CNT2_STREAM_DROP] s t) ∧
      (buf ≠ [] → buf.length ≤ 1408 → s.Shaped → n.val < 4 → ∃ t, exec (.streamPush k n true) s = .next t ∧
        t.hsi.pushes = s.hsi.pushes ++ [(0x0050, leBytes 4 (s.get (R.SXT_ENC_RD_VALUE n)) ++ buf)] ∧
        t.get (R.SXT_ENC_RD_VALUE n) = (s.get (R.SXT_ENC_RD_VALUE n) + buf.length) % 2 ^ 32)) ∧
    (k = 0 → ((State.sxPort s n).widx.getD 1 0 + 2 ^ 32 - b.frames) % 2 ^ 32 < b.div →
      exec (.streamPush k n room) s = .next s) ∧
    (k = 0 → b.div ≤ ((State.sxPort s n).widx.getD 1 0 + 2 ^ 32 - b.frames) % 2 ^ 32 →
      ∃ t, exec (.streamPush k n room) s = .next t ∧ (room = false → t.hsi.pushes = s.hsi.pushes) ∧
        SameRegs [R.HSI_CNT2_STREAM_DROP] s t ∧ (room = true → SameRegs [] s t) ∧
        { b with frames := (b.frames + b.div) % 2 ^ 32 } ∈ t.hsi.subs)) ∧
  (∀ (s : State) (n : Fin 8) (room : Bool) (k : Fin 2),
    s.hsi.subs.find? (fun b => b.kind == k.val + 1 && b.n == n.val && decide (s.chr.tick < b.stop)) = none →
    exec (.streamPush k n room) s = .next s) ∧
  (∀ (s : State) (h : HsiHdr) (item off : Nat) (b : List Nat), s.HsiTakes h 0x0070 false →
    b = (blockOf item s.lastFrame.blocks).getD [] →
    (0x0100 ≤ item → item ≤ 0x01FF → off ≤ b.length → ∃ t, exec (.setRead h item off) s = .next t ∧
      HsiOk h 0x0070 (leBytes 4 b.length ++ (b.drop off).take 1408) t ∧ OnlyHsi h [] s t) ∧
    (item < 0x0100 ∨ 0x01FF < item ∨ b.length < off →
      ∃ t, exec (.setRead h item off) s = .next t ∧ HsiRefused h 0x0070 12 [] s t)) ∧
  (∀ (s : State) (h : HsiHdr) (item len off : Nat) (bs : List Nat), s.HsiTakes h 0x0071 false →
    (item < 0x0100 ∨ 0x01FF < item ∨ 4096 < len ∨ len < off + bs.length ∨ 24576 < s.itemBytes item + len →
      ∃ t, exec (.setWrite h item len off bs) s = .next t ∧ HsiRefused h 0x0071 12 [] s t) ∧
    (0x0100 ≤ item → item ≤ 0x01FF → len ≤ 4096 → bs.length ≤ len → s.itemBytes item + len ≤ 24576 →
      (∀ k, s.hsi.setTick = some k → s.chr.tick < k + 100000 → ∃ t, exec (.setWrite h item len 0 bs) s = .next t ∧
        HsiReplied h 0x0071 4 0 [] t ∧ OnlyHsi h [] s t) ∧
      ((∀ k, s.hsi.setTick = some k → k + 100000 ≤ s.chr.tick) →
        (bs.length = len → ∃ t, exec (.setWrite h item len 0 bs) s = .next t ∧ HsiOk h 0x0071 [] t ∧
          t.hsi.setTick = some s.chr.tick ∧ t.upd.queue.length = s.upd.queue.length + 1 ∧
          (s.upd.rolled = false → blockOf item t.lastFrame.blocks = some bs) ∧
          (s.upd.rolled = true → t.lastFrame.blocks = s.lastFrame.blocks) ∧
          (∀ j, j ≠ item → blockOf j t.lastFrame.blocks = blockOf j s.lastFrame.blocks) ∧
          OnlyHsi h [] { s with upd := t.upd } t) ∧
        (bs.length < len → ∃ t, exec (.setWrite h item len 0 bs) s = .next t ∧ HsiOk h 0x0071 [] t ∧
          t.upd.queue = s.upd.queue ∧ (item, bs) ∈ t.upd.items))) ∧
    (∀ e, 0x0100 ≤ item → item ≤ 0x01FF → len ≤ 4096 → off ≠ 0 → off + bs.length ≤ len →
      s.itemBytes item + len ≤ 24576 → (∀ k, s.hsi.setTick = some k → k + 100000 ≤ s.chr.tick) →
      s.upd.items.find? (fun e => e.1 == item) = some e →
      (e.2.length ≠ off → ∃ t, exec (.setWrite h item len off bs) s = .next t ∧
        HsiRefused h 0x0071 9 (leBytes 4 e.2.length) s t) ∧
      (e.2.length = off → off + bs.length = len → ∃ t, exec (.setWrite h item len off bs) s = .next t ∧
        HsiOk h 0x0071 [] t ∧ (s.upd.rolled = false → blockOf item t.lastFrame.blocks = some (e.2 ++ bs)) ∧
        t.upd.queue.length = s.upd.queue.length + 1) ∧
      (e.2.length = off → off + bs.length < len → ∃ t, exec (.setWrite h item len off bs) s = .next t ∧
        HsiOk h 0x0071 [] t ∧ (item, e.2 ++ bs) ∈ t.upd.items ∧ t.upd.queue = s.upd.queue))) ∧
  (∀ (s : State) (h : HsiHdr) (len : Nat), s.HsiTakes h 0x0080 true →
    (len ≤ 50331648 → s.get R.UPD_STAT_STATE = 0 → s.updRuns = true → ∃ t, exec (.updBegin h len) s = .next t ∧
      HsiOk h 0x0080 [] t ∧ t.get R.UPD_STAT_STATE = 1 ∧ t.get R.UPD_STAT_RESULT = 0 ∧ t.get R.UPD_STAT_STAGED = 0 ∧
      t.get R.UPD_PROG_RX_KIB = 0 ∧ t.nor = { s.nor with staging := [] } ∧
      t.upd = { s.upd with len := len, got := 0 }) ∧
    (len ≤ 50331648 → s.get R.UPD_STAT_STATE ≠ 0 ∨ s.updRuns = false → ∃ t, exec (.updBegin h len) s = .next t ∧
      HsiReplied h 0x0080 4 0 [] t ∧ OnlyHsi h [] s t) ∧
    (50331648 < len → ∃ t, exec (.updBegin h len) s = .next t ∧ HsiRefused h 0x0080 12 [] s t)) ∧
  (∀ (s : State) (h : HsiHdr) (off : Nat) (bs : List Nat), s.HsiTakes h 0x0081 true →
    (s.get R.UPD_STAT_STATE = 1 → off = s.upd.got → bs.length ≤ 1408 → off + bs.length ≤ s.upd.len →
      ∃ t, exec (.updData h off bs) s = .next t ∧ HsiOk h 0x0081 [] t ∧ t.nor.staging = s.nor.staging ++ bs ∧
        t.upd.got = off + bs.length ∧ t.get R.UPD_PROG_RX_KIB = (off + bs.length) / 1024 % 65536 ∧
        OnlyHsi h [R.UPD_PROG_RX_KIB] { s with nor := t.nor, upd := t.upd } t) ∧
    (s.get R.UPD_STAT_STATE ≠ 1 ∨ off ≠ s.upd.got → ∃ t, exec (.updData h off bs) s = .next t ∧
      HsiRefused h 0x0081 9 (leBytes 4 s.upd.got) s t)) ∧
  (∀ (s : State) (h : HsiHdr), s.HsiTakes h 0x0082 true →
    (s.get R.UPD_STAT_STATE = 1 → ∃ t, exec (.updEnd h) s = .next t ∧ HsiOk h 0x0082 [] t ∧
      t.get R.UPD_STAT_STATE = 2 ∧ t.get (R.UPD_UID_VALUE 0) = s.delta 0x10 4 % 2 ^ 32 ∧
      t.get (R.UPD_UID_VALUE 1) = s.delta 0x14 4 % 2 ^ 32 ∧ t.nor = s.nor) ∧
    (s.get R.UPD_STAT_STATE ≠ 1 → ∃ t, exec (.updEnd h) s = .next t ∧
      HsiRefused h 0x0082 9 (leBytes 4 s.upd.got) s t)) ∧
  (∀ (s : State) (h : HsiHdr) (wp : BitVec 64) (st : Nat), s.HsiTakes h 0x0083 true → st = s.get R.UPD_STAT_STATE →
    (s.mode ≠ mLIMP → st ≠ 0 → st ≠ 7 → ∃ t, exec (.updAbort h) s = .next t ∧ HsiOk h 0x0083 [1] t ∧
      t.get R.UPD_STAT_STATE = 0 ∧ t.get R.UPD_STAT_RESULT = 0x19 ∧ t.upd.at_ = none ∧
      t.nor.staging = List.replicate (min 65536 s.nor.staging.length) 0xFF ++ s.nor.staging.drop 65536) ∧
    (s.mode = mLIMP → ∃ t, exec (.updAbort h) s = .next t ∧ HsiReplied h 0x0083 1 14 [2] t ∧ t.nor = s.nor ∧
      t.get R.UPD_STAT_STATE = st) ∧
    (s.mode ∈ [mSTANDBY, mROAD, mFIELD, mSERVICE] → st = 4 → (s.atPhase h.phase).now + 5120000 ≤ wp.toNat →
      wp.toNat ≤ (s.atPhase h.phase).now + 483840000000000 →
      ∃ t, exec (.updArm h wp) s = .next t ∧ HsiOk h 0x0083 [1] t ∧ t.get R.UPD_STAT_STATE = 5 ∧
        t.upd.at_ = some (s.waypointEdge wp.toNat) ∧ t.upd.wp = wp.toNat ∧ t.nor = s.nor) ∧
    (s.mode ∈ [mSTANDBY, mROAD, mFIELD, mSERVICE] →
      (st ≠ 4 → ∃ t, exec (.updArm h wp) s = .next t ∧ HsiReplied h 0x0083 1 14 [3] t ∧ t.get R.UPD_STAT_STATE = st) ∧
      (st = 4 → wp.toNat < (s.atPhase h.phase).now + 5120000 ∨ (s.atPhase h.phase).now + 483840000000000 < wp.toNat →
        ∃ t, exec (.updArm h wp) s = .next t ∧ HsiReplied h 0x0083 1 14 [5] t ∧ t.get R.UPD_STAT_STATE = st)) ∧
    (st = 5 ∨ st = 6 → s.upd.lock = false → ∃ t, exec (.updDisarm h) s = .next t ∧ HsiOk h 0x0083 [1] t ∧
      t.get R.UPD_STAT_STATE = 4 ∧ t.upd.at_ = none ∧ t.nor = s.nor) ∧
    (st = 5 ∨ st = 6 → s.upd.lock = true → ∃ t, exec (.updDisarm h) s = .next t ∧ HsiReplied h 0x0083 1 14 [4] t ∧
      t.get R.UPD_STAT_STATE = st ∧ t.upd = s.upd) ∧
    (s.mode ∈ [mSTANDBY, mROAD, mFIELD, mSERVICE] → st = 7 → ∃ t, exec (.updConfirm h) s = .next t ∧
      HsiOk h 0x0083 [1] t ∧ t.get R.UPD_STAT_STATE = 0 ∧ t.get R.UPD_STAT_RESULT = 1 ∧ t.lastFrame.trial = 0 ∧
      t.lastFrame.banks = s.lastFrame.banks ∧ t.lastFrame.frozen = []) ∧
    (s.mode ∈ [mSTANDBY, mSERVICE] → st = 7 → ∃ t, exec (.updRollback h) s = .next t ∧ HsiOk h 0x0083 [1] t ∧
      t.get R.UPD_STAT_STATE = 0 ∧ t.get R.UPD_STAT_RESULT = 0x23 ∧ t.lastFrame.trial = 0 ∧
      t.lastFrame.banks = bits s.lastFrame.banks 2 2 + 4 * bits s.lastFrame.banks 0 2) ∧
    (s.mode ∈ [mROAD, mFIELD, mLIMP] → ∃ t, exec (.updRollback h) s = .next t ∧ HsiReplied h 0x0083 1 14 [2] t ∧
      t.nor = s.nor ∧ t.upd = s.upd))
end

