-- ==== Sys2Proof/Laws/Cells.lean ====
section
/-! SUPPORT. The register file and the scratchpad as sparse lists: a read after a write, and the canonical form. -/

namespace Sys2Proof.Machine

/-! ### Reads after writes -/

theorem cellGet_cellSet (j k v : Nat) (l : List (Nat × Nat)) :
    cellGet j (cellSet k v l) = if j = k then some v else cellGet j l := by
  induction l with
  | nil => simp only [cellSet, cellGet]; split_ifs <;> simp_all
  | cons e l ih =>
    obtain ⟨a, w⟩ := e
    simp only [cellSet]
    by_cases hj : j = k
    · subst hj
      rw [if_pos rfl] at ih ⊢
      split_ifs with h1 h2
      · simp [cellGet]
      · simp [cellGet]
      · simp only [cellGet, if_neg (Ne.symm h2), ih]
    · rw [if_neg hj] at ih ⊢
      split_ifs with h1 h2
      · simp only [cellGet, if_neg (Ne.symm hj)]
      · subst h2; simp [cellGet, Ne.symm hj]
      · simp only [cellGet, ih]

theorem cellGet_cellErase_other {j k : Nat} (h : j ≠ k) (l : List (Nat × Nat)) :
    cellGet j (cellErase k l) = cellGet j l := by
  induction l with
  | nil => rfl
  | cons e l ih =>
    obtain ⟨a, w⟩ := e
    simp only [cellErase]
    split_ifs with h1
    · subst h1; simp only [cellGet, if_neg (Ne.symm h), ih]
    · simp only [cellGet, ih]

theorem cellGet_cellErase_same (k : Nat) (l : List (Nat × Nat)) : cellGet k (cellErase k l) = none := by
  induction l with
  | nil => rfl
  | cons e l ih =>
    obtain ⟨a, w⟩ := e
    simp only [cellErase]
    split_ifs with h1
    · exact ih
    · simp only [cellGet, if_neg h1, ih]

/-- A field reads as the value last stored; every other reads as before. -/
theorem cellGet_cellStore (j k v : Nat) (l : List (Nat × Nat)) :
    (cellGet j (cellStore k v l)).getD (resetOf j) =
      if j = k then v else (cellGet j l).getD (resetOf j) := by
  unfold cellStore
  by_cases hj : j = k
  · subst hj
    rw [if_pos rfl]
    by_cases hv : v = resetOf j
    · rw [if_pos hv, cellGet_cellErase_same]; exact hv.symm
    · rw [if_neg hv, cellGet_cellSet, if_pos rfl]; rfl
  · rw [if_neg hj]
    by_cases hv : v = resetOf k
    · rw [if_pos hv, cellGet_cellErase_other hj]
    · rw [if_neg hv, cellGet_cellSet, if_neg hj]

/-- A field that is stored leaves every other as it was, canonical or not. -/
theorem cellGet_cellStore_other {j k : Nat} (h : j ≠ k) (v : Nat) (l : List (Nat × Nat)) :
    cellGet j (cellStore k v l) = cellGet j l := by
  unfold cellStore
  split_ifs
  · exact cellGet_cellErase_other h l
  · simp [cellGet_cellSet, h]

/-! ### The canonical form -/

theorem cellsRise_mono {b c : Nat} {l : List (Nat × Nat)} (h : cellsRise b l = true) (hc : c ≤ b) :
    cellsRise c l = true := by
  cases l with
  | nil => rfl
  | cons e l =>
    obtain ⟨a, w⟩ := e
    simp only [cellsRise, Bool.and_eq_true, decide_eq_true_eq] at h ⊢
    exact ⟨by omega, h.2⟩

theorem cellsRise_cellSet {b k v : Nat} {l : List (Nat × Nat)} (h : cellsRise b l = true) (hk : b ≤ k) :
    cellsRise b (cellSet k v l) = true := by
  induction l generalizing b with
  | nil => simp [cellSet, cellsRise, hk]
  | cons e l ih =>
    obtain ⟨a, w⟩ := e
    simp only [cellsRise, Bool.and_eq_true, decide_eq_true_eq] at h
    simp only [cellSet]
    split_ifs with h1 h2
    · simp only [cellsRise, Bool.and_eq_true, decide_eq_true_eq]; exact ⟨hk, by omega, h.2⟩
    · subst h2; simp only [cellsRise, Bool.and_eq_true, decide_eq_true_eq]; exact ⟨hk, h.2⟩
    · simp only [cellsRise, Bool.and_eq_true, decide_eq_true_eq]; exact ⟨h.1, ih h.2 (by omega)⟩

theorem cellsRise_cellErase {b k : Nat} {l : List (Nat × Nat)} (h : cellsRise b l = true) :
    cellsRise b (cellErase k l) = true := by
  induction l generalizing b with
  | nil => rfl
  | cons e l ih =>
    obtain ⟨a, w⟩ := e
    simp only [cellsRise, Bool.and_eq_true, decide_eq_true_eq] at h
    simp only [cellErase]
    split_ifs with h1
    · exact cellsRise_mono (ih h.2) (by omega)
    · simp only [cellsRise, Bool.and_eq_true, decide_eq_true_eq]; exact ⟨h.1, ih h.2⟩

theorem cellsRise_filter {b : Nat} {p : Nat × Nat → Bool} {l : List (Nat × Nat)} (h : cellsRise b l = true) :
    cellsRise b (l.filter p) = true := by
  induction l generalizing b with
  | nil => rfl
  | cons e l ih =>
    obtain ⟨a, w⟩ := e
    simp only [cellsRise, Bool.and_eq_true, decide_eq_true_eq] at h
    simp only [List.filter_cons]
    split_ifs with h1
    · simp only [cellsRise, Bool.and_eq_true, decide_eq_true_eq]; exact ⟨h.1, ih h.2⟩
    · exact ih (cellsRise_mono h.2 (by omega))

theorem mem_cellSet {e : Nat × Nat} {k v : Nat} {l : List (Nat × Nat)} (h : e ∈ cellSet k v l) :
    e = (k, v) ∨ e ∈ l := by
  induction l with
  | nil => simpa [cellSet] using h
  | cons a l ih =>
    obtain ⟨a, w⟩ := a
    simp only [cellSet] at h
    split_ifs at h <;> simp only [List.mem_cons] at h ⊢ <;> tauto

theorem mem_cellErase {e : Nat × Nat} {k : Nat} {l : List (Nat × Nat)} (h : e ∈ cellErase k l) : e ∈ l := by
  induction l with
  | nil => simp [cellErase] at h
  | cons a l ih =>
    obtain ⟨a, w⟩ := a
    simp only [cellErase] at h
    split_ifs at h <;> (try simp only [List.mem_cons] at h ⊢) <;> (try simp only [List.mem_cons]) <;> tauto

theorem cellsWf_iff {l : List (Nat × Nat)} :
    cellsWf l = true ↔ cellsRise 0 l = true ∧ ∀ e ∈ l, e.2 ≠ resetOf e.1 := by
  simp [cellsWf]

/-- Storing a field keeps the canonical form. -/
theorem cellsWf_cellStore {l : List (Nat × Nat)} (h : cellsWf l = true) (k v : Nat) :
    cellsWf (cellStore k v l) = true := by
  rw [cellsWf_iff] at h ⊢
  unfold cellStore
  split_ifs with hv
  · exact ⟨cellsRise_cellErase h.1, fun e he => h.2 e (mem_cellErase he)⟩
  · refine ⟨cellsRise_cellSet h.1 (Nat.zero_le k), fun e he => ?_⟩
    rcases mem_cellSet he with rfl | he
    · exact hv
    · exact h.2 e he

/-- Dropping entries keeps the canonical form. -/
theorem cellsWf_filter {l : List (Nat × Nat)} (h : cellsWf l = true) (p : Nat × Nat → Bool) :
    cellsWf (l.filter p) = true := by
  rw [cellsWf_iff] at h ⊢
  exact ⟨cellsRise_filter h.1, fun e he => h.2 e (List.mem_of_mem_filter he)⟩

/-! ### The scratchpad -/

theorem memRises_mono {b c : Nat} {l : List Host.Cell} (h : memRises b l = true) (hc : c ≤ b) : memRises c l = true := by
  cases l with
  | nil => rfl
  | cons e l =>
    obtain ⟨a, w⟩ := e
    simp only [memRises, Bool.and_eq_true, decide_eq_true_eq] at h ⊢
    exact ⟨by omega, h.2⟩

theorem memRises_filter {b : Nat} {p : Host.Cell → Bool} {l : List Host.Cell} (h : memRises b l = true) :
    memRises b (l.filter p) = true := by
  induction l generalizing b with
  | nil => rfl
  | cons e l ih =>
    obtain ⟨a, w⟩ := e
    simp only [memRises, Bool.and_eq_true, decide_eq_true_eq] at h
    simp only [List.filter_cons]
    split_ifs with h1
    · simp only [memRises, Bool.and_eq_true, decide_eq_true_eq]; exact ⟨h.1, ih h.2⟩
    · exact ih (memRises_mono h.2 (by omega))

theorem memRises_spdPut {b k : Nat} {v : BitVec 8} {l : List Host.Cell} (h : memRises b l = true) (hk : b ≤ k) :
    memRises b (spdPut k v l) = true := by
  induction l generalizing b with
  | nil => simp [spdPut, memRises, hk]
  | cons e l ih =>
    obtain ⟨a, w⟩ := e
    simp only [memRises, Bool.and_eq_true, decide_eq_true_eq] at h
    simp only [spdPut]
    split_ifs with h1 h2 <;> simp only [memRises, Bool.and_eq_true, decide_eq_true_eq]
    · exact ⟨hk, by omega, h.2⟩
    · exact ⟨hk, h2 ▸ h.2⟩
    · exact ⟨h.1, ih h.2 (by omega)⟩

theorem memRises_spdStore {b k : Nat} {v : BitVec 8} {l : List Host.Cell} (h : memRises b l = true) (hk : b ≤ k) :
    memRises b (spdStore k v l) = true := by
  unfold spdStore
  split_ifs
  · exact memRises_filter h
  · exact memRises_spdPut h hk

theorem mem_spdPut {e : Host.Cell} {k : Nat} {v : BitVec 8} {l : List Host.Cell} (h : e ∈ spdPut k v l) :
    e = (k, v) ∨ e ∈ l := by
  induction l with
  | nil => simpa [spdPut] using h
  | cons a l ih =>
    obtain ⟨a, w⟩ := a
    simp only [spdPut] at h
    split_ifs at h <;> simp only [List.mem_cons] at h ⊢ <;> tauto

theorem mem_spdStore {e : Host.Cell} {k : Nat} {v : BitVec 8} {l : List Host.Cell} (h : e ∈ spdStore k v l) :
    (e = (k, v) ∧ v ≠ 0) ∨ e ∈ l := by
  unfold spdStore at h
  split_ifs at h with h1
  · exact .inr (List.mem_of_mem_filter h)
  · exact (mem_spdPut h).imp_left fun e => ⟨e, h1⟩

theorem memWf_iff {l : List Host.Cell} : memWf l = true ↔ memRises 0 l = true ∧ ∀ c ∈ l, c.2 ≠ 0 := by
  simp [memWf]

/-- Storing a byte keeps the canonical form of the scratchpad. -/
theorem memWf_spdStore {l : List Host.Cell} (h : memWf l = true) (k : Nat) (v : BitVec 8) :
    memWf (spdStore k v l) = true := by
  rw [memWf_iff] at h ⊢
  refine ⟨memRises_spdStore h.1 (Nat.zero_le k), fun e he => ?_⟩
  rcases mem_spdStore he with ⟨rfl, hv⟩ | he
  · exact hv
  · exact h.2 e he

theorem memWf_filter {l : List Host.Cell} (h : memWf l = true) (p : Host.Cell → Bool) : memWf (l.filter p) = true := by
  rw [memWf_iff] at h ⊢
  exact ⟨memRises_filter h.1, fun e he => h.2 e (List.mem_of_mem_filter he)⟩

theorem spdByte_filter (j k : Nat) (l : List Host.Cell) :
    spdByte j (l.filter fun c => c.1 != k) = if j = k then 0 else spdByte j l := by
  induction l with
  | nil => simp [spdByte]
  | cons e l ih =>
    obtain ⟨a, w⟩ := e
    simp only [List.filter_cons]
    split_ifs with h1 h2 h2
    · simp only [bne_iff_ne, ne_eq] at h1
      simp only [spdByte, ih, if_neg (show ¬ j = a by omega), if_pos h2]
    · simp only [spdByte, ih, if_neg h2]
    · rw [ih, if_pos h2]
    · simp only [bne_iff_ne, ne_eq, not_not] at h1
      rw [ih, if_neg h2, spdByte, if_neg (by omega)]

theorem spdByte_spdPut (j k : Nat) (v : BitVec 8) (l : List Host.Cell) :
    spdByte j (spdPut k v l) = if j = k then v else spdByte j l := by
  induction l with
  | nil => simp [spdPut, spdByte]
  | cons e l ih =>
    obtain ⟨a, w⟩ := e
    simp only [spdPut]
    split_ifs with h1 h2 h2 <;> simp only [spdByte, ih] <;> split_ifs <;> first | rfl | omega

/-- A byte reads as the value last stored; every other reads as before. -/
theorem spdByte_spdStore (j k : Nat) (v : BitVec 8) (l : List Host.Cell) :
    spdByte j (spdStore k v l) = if j = k then v else spdByte j l := by
  unfold spdStore
  split_ifs with h1 h2 h2
  · rw [spdByte_filter, if_pos h2, h1]
  · rw [spdByte_filter, if_neg h2]
  · rw [spdByte_spdPut, if_pos h2]
  · rw [spdByte_spdPut, if_neg h2]

end Sys2Proof.Machine
end

