-- ==== Sys2Proof/Laws/State.lean ====
section
/-! SUPPORT. What each shared update of the state leaves as it was, one lemma per field; and the reads of a register
field after a write. -/

namespace Sys2Proof.Machine

/-! ### put -/

@[simp] theorem State.put_pending (s : State) (f : Fld) (v : Nat) : (s.put f v).pending = s.pending := rfl
@[simp] theorem State.put_tickW (s : State) (f : Fld) (v : Nat) : (s.put f v).tickW = s.tickW := rfl
@[simp] theorem State.put_staged (s : State) (f : Fld) (v : Nat) : (s.put f v).staged = s.staged := rfl
@[simp] theorem State.put_commits (s : State) (f : Fld) (v : Nat) : (s.put f v).commits = s.commits := rfl
@[simp] theorem State.put_freeCtr (s : State) (f : Fld) (v : Nat) : (s.put f v).freeCtr = s.freeCtr := rfl
@[simp] theorem State.put_pwr (s : State) (f : Fld) (v : Nat) : (s.put f v).pwr = s.pwr := rfl
@[simp] theorem State.put_chr (s : State) (f : Fld) (v : Nat) : (s.put f v).chr = s.chr := rfl
@[simp] theorem State.put_log (s : State) (f : Fld) (v : Nat) : (s.put f v).log = s.log := rfl
@[simp] theorem State.put_alm (s : State) (f : Fld) (v : Nat) : (s.put f v).alm = s.alm := rfl
@[simp] theorem State.put_rep (s : State) (f : Fld) (v : Nat) : (s.put f v).rep = s.rep := rfl
@[simp] theorem State.put_spd (s : State) (f : Fld) (v : Nat) : (s.put f v).spd = s.spd := rfl
@[simp] theorem State.put_mrd (s : State) (f : Fld) (v : Nat) : (s.put f v).mrd = s.mrd := rfl
@[simp] theorem State.put_hlm (s : State) (f : Fld) (v : Nat) : (s.put f v).hlm = s.hlm := rfl
@[simp] theorem State.put_dio (s : State) (f : Fld) (v : Nat) : (s.put f v).dio = s.dio := rfl
@[simp] theorem State.put_plt (s : State) (f : Fld) (v : Nat) : (s.put f v).plt = s.plt := rfl
@[simp] theorem State.put_sxt (s : State) (f : Fld) (v : Nat) : (s.put f v).sxt = s.sxt := rfl
@[simp] theorem State.put_lkt (s : State) (f : Fld) (v : Nat) : (s.put f v).lkt = s.lkt := rfl
@[simp] theorem State.put_bus (s : State) (f : Fld) (v : Nat) : (s.put f v).bus = s.bus := rfl
@[simp] theorem State.put_hsi (s : State) (f : Fld) (v : Nat) : (s.put f v).hsi = s.hsi := rfl
@[simp] theorem State.put_nor (s : State) (f : Fld) (v : Nat) : (s.put f v).nor = s.nor := rfl
@[simp] theorem State.put_upd (s : State) (f : Fld) (v : Nat) : (s.put f v).upd = s.upd := rfl
@[simp] theorem State.put_bin (s : State) (f : Fld) (v : Nat) : (s.put f v).bin = s.bin := rfl
@[simp] theorem State.put_rings (s : State) (f : Fld) (v : Nat) : (s.put f v).rings = s.rings := rfl
@[simp] theorem State.put_rdata (s : State) (f : Fld) (v : Nat) : (s.put f v).rdata = s.rdata := rfl

/-! ### putTick -/

@[simp] theorem State.putTick_pending (s : State) (f : Fld) (v : Nat) : (s.putTick f v).pending = s.pending := rfl
@[simp] theorem State.putTick_regs (s : State) (f : Fld) (v : Nat) : (s.putTick f v).regs = s.regs := rfl
@[simp] theorem State.putTick_staged (s : State) (f : Fld) (v : Nat) : (s.putTick f v).staged = s.staged := rfl
@[simp] theorem State.putTick_commits (s : State) (f : Fld) (v : Nat) : (s.putTick f v).commits = s.commits := rfl
@[simp] theorem State.putTick_freeCtr (s : State) (f : Fld) (v : Nat) : (s.putTick f v).freeCtr = s.freeCtr := rfl
@[simp] theorem State.putTick_pwr (s : State) (f : Fld) (v : Nat) : (s.putTick f v).pwr = s.pwr := rfl
@[simp] theorem State.putTick_chr (s : State) (f : Fld) (v : Nat) : (s.putTick f v).chr = s.chr := rfl
@[simp] theorem State.putTick_log (s : State) (f : Fld) (v : Nat) : (s.putTick f v).log = s.log := rfl
@[simp] theorem State.putTick_alm (s : State) (f : Fld) (v : Nat) : (s.putTick f v).alm = s.alm := rfl
@[simp] theorem State.putTick_rep (s : State) (f : Fld) (v : Nat) : (s.putTick f v).rep = s.rep := rfl
@[simp] theorem State.putTick_spd (s : State) (f : Fld) (v : Nat) : (s.putTick f v).spd = s.spd := rfl
@[simp] theorem State.putTick_mrd (s : State) (f : Fld) (v : Nat) : (s.putTick f v).mrd = s.mrd := rfl
@[simp] theorem State.putTick_hlm (s : State) (f : Fld) (v : Nat) : (s.putTick f v).hlm = s.hlm := rfl
@[simp] theorem State.putTick_dio (s : State) (f : Fld) (v : Nat) : (s.putTick f v).dio = s.dio := rfl
@[simp] theorem State.putTick_plt (s : State) (f : Fld) (v : Nat) : (s.putTick f v).plt = s.plt := rfl
@[simp] theorem State.putTick_sxt (s : State) (f : Fld) (v : Nat) : (s.putTick f v).sxt = s.sxt := rfl
@[simp] theorem State.putTick_lkt (s : State) (f : Fld) (v : Nat) : (s.putTick f v).lkt = s.lkt := rfl
@[simp] theorem State.putTick_bus (s : State) (f : Fld) (v : Nat) : (s.putTick f v).bus = s.bus := rfl
@[simp] theorem State.putTick_hsi (s : State) (f : Fld) (v : Nat) : (s.putTick f v).hsi = s.hsi := rfl
@[simp] theorem State.putTick_nor (s : State) (f : Fld) (v : Nat) : (s.putTick f v).nor = s.nor := rfl
@[simp] theorem State.putTick_upd (s : State) (f : Fld) (v : Nat) : (s.putTick f v).upd = s.upd := rfl
@[simp] theorem State.putTick_bin (s : State) (f : Fld) (v : Nat) : (s.putTick f v).bin = s.bin := rfl
@[simp] theorem State.putTick_rings (s : State) (f : Fld) (v : Nat) : (s.putTick f v).rings = s.rings := rfl
@[simp] theorem State.putTick_rdata (s : State) (f : Fld) (v : Nat) : (s.putTick f v).rdata = s.rdata := rfl

/-! ### atPhase -/

@[simp] theorem State.atPhase_pending (s : State) (c : Nat) : (s.atPhase c).pending = s.pending := rfl
@[simp] theorem State.atPhase_regs (s : State) (c : Nat) : (s.atPhase c).regs = s.regs := rfl
@[simp] theorem State.atPhase_tickW (s : State) (c : Nat) : (s.atPhase c).tickW = s.tickW := rfl
@[simp] theorem State.atPhase_staged (s : State) (c : Nat) : (s.atPhase c).staged = s.staged := rfl
@[simp] theorem State.atPhase_commits (s : State) (c : Nat) : (s.atPhase c).commits = s.commits := rfl
@[simp] theorem State.atPhase_freeCtr (s : State) (c : Nat) : (s.atPhase c).freeCtr = s.freeCtr := rfl
@[simp] theorem State.atPhase_pwr (s : State) (c : Nat) : (s.atPhase c).pwr = s.pwr := rfl
@[simp] theorem State.atPhase_log (s : State) (c : Nat) : (s.atPhase c).log = s.log := rfl
@[simp] theorem State.atPhase_alm (s : State) (c : Nat) : (s.atPhase c).alm = s.alm := rfl
@[simp] theorem State.atPhase_rep (s : State) (c : Nat) : (s.atPhase c).rep = s.rep := rfl
@[simp] theorem State.atPhase_spd (s : State) (c : Nat) : (s.atPhase c).spd = s.spd := rfl
@[simp] theorem State.atPhase_mrd (s : State) (c : Nat) : (s.atPhase c).mrd = s.mrd := rfl
@[simp] theorem State.atPhase_hlm (s : State) (c : Nat) : (s.atPhase c).hlm = s.hlm := rfl
@[simp] theorem State.atPhase_dio (s : State) (c : Nat) : (s.atPhase c).dio = s.dio := rfl
@[simp] theorem State.atPhase_plt (s : State) (c : Nat) : (s.atPhase c).plt = s.plt := rfl
@[simp] theorem State.atPhase_sxt (s : State) (c : Nat) : (s.atPhase c).sxt = s.sxt := rfl
@[simp] theorem State.atPhase_lkt (s : State) (c : Nat) : (s.atPhase c).lkt = s.lkt := rfl
@[simp] theorem State.atPhase_bus (s : State) (c : Nat) : (s.atPhase c).bus = s.bus := rfl
@[simp] theorem State.atPhase_hsi (s : State) (c : Nat) : (s.atPhase c).hsi = s.hsi := rfl
@[simp] theorem State.atPhase_nor (s : State) (c : Nat) : (s.atPhase c).nor = s.nor := rfl
@[simp] theorem State.atPhase_upd (s : State) (c : Nat) : (s.atPhase c).upd = s.upd := rfl
@[simp] theorem State.atPhase_bin (s : State) (c : Nat) : (s.atPhase c).bin = s.bin := rfl
@[simp] theorem State.atPhase_rings (s : State) (c : Nat) : (s.atPhase c).rings = s.rings := rfl
@[simp] theorem State.atPhase_rdata (s : State) (c : Nat) : (s.atPhase c).rdata = s.rdata := rfl

/-! ### free -/

@[simp] theorem State.free_pending (s : State) (w : Nat) : ((s.free w).2).pending = s.pending := rfl
@[simp] theorem State.free_regs (s : State) (w : Nat) : ((s.free w).2).regs = s.regs := rfl
@[simp] theorem State.free_tickW (s : State) (w : Nat) : ((s.free w).2).tickW = s.tickW := rfl
@[simp] theorem State.free_staged (s : State) (w : Nat) : ((s.free w).2).staged = s.staged := rfl
@[simp] theorem State.free_commits (s : State) (w : Nat) : ((s.free w).2).commits = s.commits := rfl
@[simp] theorem State.free_pwr (s : State) (w : Nat) : ((s.free w).2).pwr = s.pwr := rfl
@[simp] theorem State.free_chr (s : State) (w : Nat) : ((s.free w).2).chr = s.chr := rfl
@[simp] theorem State.free_log (s : State) (w : Nat) : ((s.free w).2).log = s.log := rfl
@[simp] theorem State.free_alm (s : State) (w : Nat) : ((s.free w).2).alm = s.alm := rfl
@[simp] theorem State.free_rep (s : State) (w : Nat) : ((s.free w).2).rep = s.rep := rfl
@[simp] theorem State.free_spd (s : State) (w : Nat) : ((s.free w).2).spd = s.spd := rfl
@[simp] theorem State.free_mrd (s : State) (w : Nat) : ((s.free w).2).mrd = s.mrd := rfl
@[simp] theorem State.free_hlm (s : State) (w : Nat) : ((s.free w).2).hlm = s.hlm := rfl
@[simp] theorem State.free_dio (s : State) (w : Nat) : ((s.free w).2).dio = s.dio := rfl
@[simp] theorem State.free_plt (s : State) (w : Nat) : ((s.free w).2).plt = s.plt := rfl
@[simp] theorem State.free_sxt (s : State) (w : Nat) : ((s.free w).2).sxt = s.sxt := rfl
@[simp] theorem State.free_lkt (s : State) (w : Nat) : ((s.free w).2).lkt = s.lkt := rfl
@[simp] theorem State.free_bus (s : State) (w : Nat) : ((s.free w).2).bus = s.bus := rfl
@[simp] theorem State.free_hsi (s : State) (w : Nat) : ((s.free w).2).hsi = s.hsi := rfl
@[simp] theorem State.free_nor (s : State) (w : Nat) : ((s.free w).2).nor = s.nor := rfl
@[simp] theorem State.free_upd (s : State) (w : Nat) : ((s.free w).2).upd = s.upd := rfl
@[simp] theorem State.free_bin (s : State) (w : Nat) : ((s.free w).2).bin = s.bin := rfl
@[simp] theorem State.free_rings (s : State) (w : Nat) : ((s.free w).2).rings = s.rings := rfl
@[simp] theorem State.free_rdata (s : State) (w : Nat) : ((s.free w).2).rdata = s.rdata := rfl

/-! ### bump -/

@[simp] theorem State.bump_pending (s : State) (f : Fld) (n : Nat) : (s.bump f n).pending = s.pending := rfl
@[simp] theorem State.bump_tickW (s : State) (f : Fld) (n : Nat) : (s.bump f n).tickW = s.tickW := rfl
@[simp] theorem State.bump_staged (s : State) (f : Fld) (n : Nat) : (s.bump f n).staged = s.staged := rfl
@[simp] theorem State.bump_commits (s : State) (f : Fld) (n : Nat) : (s.bump f n).commits = s.commits := rfl
@[simp] theorem State.bump_freeCtr (s : State) (f : Fld) (n : Nat) : (s.bump f n).freeCtr = s.freeCtr := rfl
@[simp] theorem State.bump_pwr (s : State) (f : Fld) (n : Nat) : (s.bump f n).pwr = s.pwr := rfl
@[simp] theorem State.bump_chr (s : State) (f : Fld) (n : Nat) : (s.bump f n).chr = s.chr := rfl
@[simp] theorem State.bump_log (s : State) (f : Fld) (n : Nat) : (s.bump f n).log = s.log := rfl
@[simp] theorem State.bump_alm (s : State) (f : Fld) (n : Nat) : (s.bump f n).alm = s.alm := rfl
@[simp] theorem State.bump_rep (s : State) (f : Fld) (n : Nat) : (s.bump f n).rep = s.rep := rfl
@[simp] theorem State.bump_spd (s : State) (f : Fld) (n : Nat) : (s.bump f n).spd = s.spd := rfl
@[simp] theorem State.bump_mrd (s : State) (f : Fld) (n : Nat) : (s.bump f n).mrd = s.mrd := rfl
@[simp] theorem State.bump_hlm (s : State) (f : Fld) (n : Nat) : (s.bump f n).hlm = s.hlm := rfl
@[simp] theorem State.bump_dio (s : State) (f : Fld) (n : Nat) : (s.bump f n).dio = s.dio := rfl
@[simp] theorem State.bump_plt (s : State) (f : Fld) (n : Nat) : (s.bump f n).plt = s.plt := rfl
@[simp] theorem State.bump_sxt (s : State) (f : Fld) (n : Nat) : (s.bump f n).sxt = s.sxt := rfl
@[simp] theorem State.bump_lkt (s : State) (f : Fld) (n : Nat) : (s.bump f n).lkt = s.lkt := rfl
@[simp] theorem State.bump_bus (s : State) (f : Fld) (n : Nat) : (s.bump f n).bus = s.bus := rfl
@[simp] theorem State.bump_hsi (s : State) (f : Fld) (n : Nat) : (s.bump f n).hsi = s.hsi := rfl
@[simp] theorem State.bump_nor (s : State) (f : Fld) (n : Nat) : (s.bump f n).nor = s.nor := rfl
@[simp] theorem State.bump_upd (s : State) (f : Fld) (n : Nat) : (s.bump f n).upd = s.upd := rfl
@[simp] theorem State.bump_bin (s : State) (f : Fld) (n : Nat) : (s.bump f n).bin = s.bin := rfl
@[simp] theorem State.bump_rings (s : State) (f : Fld) (n : Nat) : (s.bump f n).rings = s.rings := rfl
@[simp] theorem State.bump_rdata (s : State) (f : Fld) (n : Nat) : (s.bump f n).rdata = s.rdata := rfl

/-! ### orBits -/

@[simp] theorem State.orBits_pending (s : State) (f : Fld) (m : Nat) : (s.orBits f m).pending = s.pending := rfl
@[simp] theorem State.orBits_tickW (s : State) (f : Fld) (m : Nat) : (s.orBits f m).tickW = s.tickW := rfl
@[simp] theorem State.orBits_staged (s : State) (f : Fld) (m : Nat) : (s.orBits f m).staged = s.staged := rfl
@[simp] theorem State.orBits_commits (s : State) (f : Fld) (m : Nat) : (s.orBits f m).commits = s.commits := rfl
@[simp] theorem State.orBits_freeCtr (s : State) (f : Fld) (m : Nat) : (s.orBits f m).freeCtr = s.freeCtr := rfl
@[simp] theorem State.orBits_pwr (s : State) (f : Fld) (m : Nat) : (s.orBits f m).pwr = s.pwr := rfl
@[simp] theorem State.orBits_chr (s : State) (f : Fld) (m : Nat) : (s.orBits f m).chr = s.chr := rfl
@[simp] theorem State.orBits_log (s : State) (f : Fld) (m : Nat) : (s.orBits f m).log = s.log := rfl
@[simp] theorem State.orBits_alm (s : State) (f : Fld) (m : Nat) : (s.orBits f m).alm = s.alm := rfl
@[simp] theorem State.orBits_rep (s : State) (f : Fld) (m : Nat) : (s.orBits f m).rep = s.rep := rfl
@[simp] theorem State.orBits_spd (s : State) (f : Fld) (m : Nat) : (s.orBits f m).spd = s.spd := rfl
@[simp] theorem State.orBits_mrd (s : State) (f : Fld) (m : Nat) : (s.orBits f m).mrd = s.mrd := rfl
@[simp] theorem State.orBits_hlm (s : State) (f : Fld) (m : Nat) : (s.orBits f m).hlm = s.hlm := rfl
@[simp] theorem State.orBits_dio (s : State) (f : Fld) (m : Nat) : (s.orBits f m).dio = s.dio := rfl
@[simp] theorem State.orBits_plt (s : State) (f : Fld) (m : Nat) : (s.orBits f m).plt = s.plt := rfl
@[simp] theorem State.orBits_sxt (s : State) (f : Fld) (m : Nat) : (s.orBits f m).sxt = s.sxt := rfl
@[simp] theorem State.orBits_lkt (s : State) (f : Fld) (m : Nat) : (s.orBits f m).lkt = s.lkt := rfl
@[simp] theorem State.orBits_bus (s : State) (f : Fld) (m : Nat) : (s.orBits f m).bus = s.bus := rfl
@[simp] theorem State.orBits_hsi (s : State) (f : Fld) (m : Nat) : (s.orBits f m).hsi = s.hsi := rfl
@[simp] theorem State.orBits_nor (s : State) (f : Fld) (m : Nat) : (s.orBits f m).nor = s.nor := rfl
@[simp] theorem State.orBits_upd (s : State) (f : Fld) (m : Nat) : (s.orBits f m).upd = s.upd := rfl
@[simp] theorem State.orBits_bin (s : State) (f : Fld) (m : Nat) : (s.orBits f m).bin = s.bin := rfl
@[simp] theorem State.orBits_rings (s : State) (f : Fld) (m : Nat) : (s.orBits f m).rings = s.rings := rfl
@[simp] theorem State.orBits_rdata (s : State) (f : Fld) (m : Nat) : (s.orBits f m).rdata = s.rdata := rfl

/-! ### clrBits -/

@[simp] theorem State.clrBits_pending (s : State) (f : Fld) (m : Nat) : (s.clrBits f m).pending = s.pending := rfl
@[simp] theorem State.clrBits_tickW (s : State) (f : Fld) (m : Nat) : (s.clrBits f m).tickW = s.tickW := rfl
@[simp] theorem State.clrBits_staged (s : State) (f : Fld) (m : Nat) : (s.clrBits f m).staged = s.staged := rfl
@[simp] theorem State.clrBits_commits (s : State) (f : Fld) (m : Nat) : (s.clrBits f m).commits = s.commits := rfl
@[simp] theorem State.clrBits_freeCtr (s : State) (f : Fld) (m : Nat) : (s.clrBits f m).freeCtr = s.freeCtr := rfl
@[simp] theorem State.clrBits_pwr (s : State) (f : Fld) (m : Nat) : (s.clrBits f m).pwr = s.pwr := rfl
@[simp] theorem State.clrBits_chr (s : State) (f : Fld) (m : Nat) : (s.clrBits f m).chr = s.chr := rfl
@[simp] theorem State.clrBits_log (s : State) (f : Fld) (m : Nat) : (s.clrBits f m).log = s.log := rfl
@[simp] theorem State.clrBits_alm (s : State) (f : Fld) (m : Nat) : (s.clrBits f m).alm = s.alm := rfl
@[simp] theorem State.clrBits_rep (s : State) (f : Fld) (m : Nat) : (s.clrBits f m).rep = s.rep := rfl
@[simp] theorem State.clrBits_spd (s : State) (f : Fld) (m : Nat) : (s.clrBits f m).spd = s.spd := rfl
@[simp] theorem State.clrBits_mrd (s : State) (f : Fld) (m : Nat) : (s.clrBits f m).mrd = s.mrd := rfl
@[simp] theorem State.clrBits_hlm (s : State) (f : Fld) (m : Nat) : (s.clrBits f m).hlm = s.hlm := rfl
@[simp] theorem State.clrBits_dio (s : State) (f : Fld) (m : Nat) : (s.clrBits f m).dio = s.dio := rfl
@[simp] theorem State.clrBits_plt (s : State) (f : Fld) (m : Nat) : (s.clrBits f m).plt = s.plt := rfl
@[simp] theorem State.clrBits_sxt (s : State) (f : Fld) (m : Nat) : (s.clrBits f m).sxt = s.sxt := rfl
@[simp] theorem State.clrBits_lkt (s : State) (f : Fld) (m : Nat) : (s.clrBits f m).lkt = s.lkt := rfl
@[simp] theorem State.clrBits_bus (s : State) (f : Fld) (m : Nat) : (s.clrBits f m).bus = s.bus := rfl
@[simp] theorem State.clrBits_hsi (s : State) (f : Fld) (m : Nat) : (s.clrBits f m).hsi = s.hsi := rfl
@[simp] theorem State.clrBits_nor (s : State) (f : Fld) (m : Nat) : (s.clrBits f m).nor = s.nor := rfl
@[simp] theorem State.clrBits_upd (s : State) (f : Fld) (m : Nat) : (s.clrBits f m).upd = s.upd := rfl
@[simp] theorem State.clrBits_bin (s : State) (f : Fld) (m : Nat) : (s.clrBits f m).bin = s.bin := rfl
@[simp] theorem State.clrBits_rings (s : State) (f : Fld) (m : Nat) : (s.clrBits f m).rings = s.rings := rfl
@[simp] theorem State.clrBits_rdata (s : State) (f : Fld) (m : Nat) : (s.clrBits f m).rdata = s.rdata := rfl

/-! ### reqMode -/

@[simp] theorem State.reqMode_pending (s : State) (m c : Nat) : (s.reqMode m c).pending = s.pending := rfl
@[simp] theorem State.reqMode_regs (s : State) (m c : Nat) : (s.reqMode m c).regs = s.regs := rfl
@[simp] theorem State.reqMode_tickW (s : State) (m c : Nat) : (s.reqMode m c).tickW = s.tickW := rfl
@[simp] theorem State.reqMode_staged (s : State) (m c : Nat) : (s.reqMode m c).staged = s.staged := rfl
@[simp] theorem State.reqMode_commits (s : State) (m c : Nat) : (s.reqMode m c).commits = s.commits := rfl
@[simp] theorem State.reqMode_freeCtr (s : State) (m c : Nat) : (s.reqMode m c).freeCtr = s.freeCtr := rfl
@[simp] theorem State.reqMode_pwr (s : State) (m c : Nat) : (s.reqMode m c).pwr = s.pwr := rfl
@[simp] theorem State.reqMode_chr (s : State) (m c : Nat) : (s.reqMode m c).chr = s.chr := rfl
@[simp] theorem State.reqMode_log (s : State) (m c : Nat) : (s.reqMode m c).log = s.log := rfl
@[simp] theorem State.reqMode_rep (s : State) (m c : Nat) : (s.reqMode m c).rep = s.rep := rfl
@[simp] theorem State.reqMode_spd (s : State) (m c : Nat) : (s.reqMode m c).spd = s.spd := rfl
@[simp] theorem State.reqMode_mrd (s : State) (m c : Nat) : (s.reqMode m c).mrd = s.mrd := rfl
@[simp] theorem State.reqMode_hlm (s : State) (m c : Nat) : (s.reqMode m c).hlm = s.hlm := rfl
@[simp] theorem State.reqMode_dio (s : State) (m c : Nat) : (s.reqMode m c).dio = s.dio := rfl
@[simp] theorem State.reqMode_plt (s : State) (m c : Nat) : (s.reqMode m c).plt = s.plt := rfl
@[simp] theorem State.reqMode_sxt (s : State) (m c : Nat) : (s.reqMode m c).sxt = s.sxt := rfl
@[simp] theorem State.reqMode_lkt (s : State) (m c : Nat) : (s.reqMode m c).lkt = s.lkt := rfl
@[simp] theorem State.reqMode_bus (s : State) (m c : Nat) : (s.reqMode m c).bus = s.bus := rfl
@[simp] theorem State.reqMode_hsi (s : State) (m c : Nat) : (s.reqMode m c).hsi = s.hsi := rfl
@[simp] theorem State.reqMode_nor (s : State) (m c : Nat) : (s.reqMode m c).nor = s.nor := rfl
@[simp] theorem State.reqMode_upd (s : State) (m c : Nat) : (s.reqMode m c).upd = s.upd := rfl
@[simp] theorem State.reqMode_bin (s : State) (m c : Nat) : (s.reqMode m c).bin = s.bin := rfl
@[simp] theorem State.reqMode_rings (s : State) (m c : Nat) : (s.reqMode m c).rings = s.rings := rfl
@[simp] theorem State.reqMode_rdata (s : State) (m c : Nat) : (s.reqMode m c).rdata = s.rdata := rfl

/-! ### setStampQ -/

@[simp] theorem State.setStampQ_pending (s : State) (q : StampQ) : (s.setStampQ q).pending = s.pending := rfl
@[simp] theorem State.setStampQ_regs (s : State) (q : StampQ) : (s.setStampQ q).regs = s.regs := rfl
@[simp] theorem State.setStampQ_tickW (s : State) (q : StampQ) : (s.setStampQ q).tickW = s.tickW := rfl
@[simp] theorem State.setStampQ_staged (s : State) (q : StampQ) : (s.setStampQ q).staged = s.staged := rfl
@[simp] theorem State.setStampQ_commits (s : State) (q : StampQ) : (s.setStampQ q).commits = s.commits := rfl
@[simp] theorem State.setStampQ_freeCtr (s : State) (q : StampQ) : (s.setStampQ q).freeCtr = s.freeCtr := rfl
@[simp] theorem State.setStampQ_pwr (s : State) (q : StampQ) : (s.setStampQ q).pwr = s.pwr := rfl
@[simp] theorem State.setStampQ_log (s : State) (q : StampQ) : (s.setStampQ q).log = s.log := rfl
@[simp] theorem State.setStampQ_alm (s : State) (q : StampQ) : (s.setStampQ q).alm = s.alm := rfl
@[simp] theorem State.setStampQ_rep (s : State) (q : StampQ) : (s.setStampQ q).rep = s.rep := rfl
@[simp] theorem State.setStampQ_spd (s : State) (q : StampQ) : (s.setStampQ q).spd = s.spd := rfl
@[simp] theorem State.setStampQ_mrd (s : State) (q : StampQ) : (s.setStampQ q).mrd = s.mrd := rfl
@[simp] theorem State.setStampQ_hlm (s : State) (q : StampQ) : (s.setStampQ q).hlm = s.hlm := rfl
@[simp] theorem State.setStampQ_dio (s : State) (q : StampQ) : (s.setStampQ q).dio = s.dio := rfl
@[simp] theorem State.setStampQ_plt (s : State) (q : StampQ) : (s.setStampQ q).plt = s.plt := rfl
@[simp] theorem State.setStampQ_sxt (s : State) (q : StampQ) : (s.setStampQ q).sxt = s.sxt := rfl
@[simp] theorem State.setStampQ_lkt (s : State) (q : StampQ) : (s.setStampQ q).lkt = s.lkt := rfl
@[simp] theorem State.setStampQ_bus (s : State) (q : StampQ) : (s.setStampQ q).bus = s.bus := rfl
@[simp] theorem State.setStampQ_hsi (s : State) (q : StampQ) : (s.setStampQ q).hsi = s.hsi := rfl
@[simp] theorem State.setStampQ_nor (s : State) (q : StampQ) : (s.setStampQ q).nor = s.nor := rfl
@[simp] theorem State.setStampQ_upd (s : State) (q : StampQ) : (s.setStampQ q).upd = s.upd := rfl
@[simp] theorem State.setStampQ_bin (s : State) (q : StampQ) : (s.setStampQ q).bin = s.bin := rfl
@[simp] theorem State.setStampQ_rings (s : State) (q : StampQ) : (s.setStampQ q).rings = s.rings := rfl
@[simp] theorem State.setStampQ_rdata (s : State) (q : StampQ) : (s.setStampQ q).rdata = s.rdata := rfl

/-! ### setMbx -/

@[simp] theorem State.setMbx_pending (s : State) (i : Nat) (m : Mbx) : (s.setMbx i m).pending = s.pending := rfl
@[simp] theorem State.setMbx_regs (s : State) (i : Nat) (m : Mbx) : (s.setMbx i m).regs = s.regs := rfl
@[simp] theorem State.setMbx_tickW (s : State) (i : Nat) (m : Mbx) : (s.setMbx i m).tickW = s.tickW := rfl
@[simp] theorem State.setMbx_staged (s : State) (i : Nat) (m : Mbx) : (s.setMbx i m).staged = s.staged := rfl
@[simp] theorem State.setMbx_commits (s : State) (i : Nat) (m : Mbx) : (s.setMbx i m).commits = s.commits := rfl
@[simp] theorem State.setMbx_freeCtr (s : State) (i : Nat) (m : Mbx) : (s.setMbx i m).freeCtr = s.freeCtr := rfl
@[simp] theorem State.setMbx_pwr (s : State) (i : Nat) (m : Mbx) : (s.setMbx i m).pwr = s.pwr := rfl
@[simp] theorem State.setMbx_chr (s : State) (i : Nat) (m : Mbx) : (s.setMbx i m).chr = s.chr := rfl
@[simp] theorem State.setMbx_log (s : State) (i : Nat) (m : Mbx) : (s.setMbx i m).log = s.log := rfl
@[simp] theorem State.setMbx_alm (s : State) (i : Nat) (m : Mbx) : (s.setMbx i m).alm = s.alm := rfl
@[simp] theorem State.setMbx_rep (s : State) (i : Nat) (m : Mbx) : (s.setMbx i m).rep = s.rep := rfl
@[simp] theorem State.setMbx_mrd (s : State) (i : Nat) (m : Mbx) : (s.setMbx i m).mrd = s.mrd := rfl
@[simp] theorem State.setMbx_hlm (s : State) (i : Nat) (m : Mbx) : (s.setMbx i m).hlm = s.hlm := rfl
@[simp] theorem State.setMbx_dio (s : State) (i : Nat) (m : Mbx) : (s.setMbx i m).dio = s.dio := rfl
@[simp] theorem State.setMbx_plt (s : State) (i : Nat) (m : Mbx) : (s.setMbx i m).plt = s.plt := rfl
@[simp] theorem State.setMbx_sxt (s : State) (i : Nat) (m : Mbx) : (s.setMbx i m).sxt = s.sxt := rfl
@[simp] theorem State.setMbx_lkt (s : State) (i : Nat) (m : Mbx) : (s.setMbx i m).lkt = s.lkt := rfl
@[simp] theorem State.setMbx_bus (s : State) (i : Nat) (m : Mbx) : (s.setMbx i m).bus = s.bus := rfl
@[simp] theorem State.setMbx_hsi (s : State) (i : Nat) (m : Mbx) : (s.setMbx i m).hsi = s.hsi := rfl
@[simp] theorem State.setMbx_nor (s : State) (i : Nat) (m : Mbx) : (s.setMbx i m).nor = s.nor := rfl
@[simp] theorem State.setMbx_upd (s : State) (i : Nat) (m : Mbx) : (s.setMbx i m).upd = s.upd := rfl
@[simp] theorem State.setMbx_bin (s : State) (i : Nat) (m : Mbx) : (s.setMbx i m).bin = s.bin := rfl
@[simp] theorem State.setMbx_rings (s : State) (i : Nat) (m : Mbx) : (s.setMbx i m).rings = s.rings := rfl
@[simp] theorem State.setMbx_rdata (s : State) (i : Nat) (m : Mbx) : (s.setMbx i m).rdata = s.rdata := rfl

/-! ### setEntry -/

@[simp] theorem State.setEntry_pending (s : State) (i : Nat) (e : Option HEntry) : (s.setEntry i e).pending = s.pending := rfl
@[simp] theorem State.setEntry_regs (s : State) (i : Nat) (e : Option HEntry) : (s.setEntry i e).regs = s.regs := rfl
@[simp] theorem State.setEntry_tickW (s : State) (i : Nat) (e : Option HEntry) : (s.setEntry i e).tickW = s.tickW := rfl
@[simp] theorem State.setEntry_staged (s : State) (i : Nat) (e : Option HEntry) : (s.setEntry i e).staged = s.staged := rfl
@[simp] theorem State.setEntry_commits (s : State) (i : Nat) (e : Option HEntry) : (s.setEntry i e).commits = s.commits := rfl
@[simp] theorem State.setEntry_freeCtr (s : State) (i : Nat) (e : Option HEntry) : (s.setEntry i e).freeCtr = s.freeCtr := rfl
@[simp] theorem State.setEntry_pwr (s : State) (i : Nat) (e : Option HEntry) : (s.setEntry i e).pwr = s.pwr := rfl
@[simp] theorem State.setEntry_chr (s : State) (i : Nat) (e : Option HEntry) : (s.setEntry i e).chr = s.chr := rfl
@[simp] theorem State.setEntry_log (s : State) (i : Nat) (e : Option HEntry) : (s.setEntry i e).log = s.log := rfl
@[simp] theorem State.setEntry_alm (s : State) (i : Nat) (e : Option HEntry) : (s.setEntry i e).alm = s.alm := rfl
@[simp] theorem State.setEntry_spd (s : State) (i : Nat) (e : Option HEntry) : (s.setEntry i e).spd = s.spd := rfl
@[simp] theorem State.setEntry_mrd (s : State) (i : Nat) (e : Option HEntry) : (s.setEntry i e).mrd = s.mrd := rfl
@[simp] theorem State.setEntry_hlm (s : State) (i : Nat) (e : Option HEntry) : (s.setEntry i e).hlm = s.hlm := rfl
@[simp] theorem State.setEntry_dio (s : State) (i : Nat) (e : Option HEntry) : (s.setEntry i e).dio = s.dio := rfl
@[simp] theorem State.setEntry_plt (s : State) (i : Nat) (e : Option HEntry) : (s.setEntry i e).plt = s.plt := rfl
@[simp] theorem State.setEntry_sxt (s : State) (i : Nat) (e : Option HEntry) : (s.setEntry i e).sxt = s.sxt := rfl
@[simp] theorem State.setEntry_lkt (s : State) (i : Nat) (e : Option HEntry) : (s.setEntry i e).lkt = s.lkt := rfl
@[simp] theorem State.setEntry_bus (s : State) (i : Nat) (e : Option HEntry) : (s.setEntry i e).bus = s.bus := rfl
@[simp] theorem State.setEntry_hsi (s : State) (i : Nat) (e : Option HEntry) : (s.setEntry i e).hsi = s.hsi := rfl
@[simp] theorem State.setEntry_nor (s : State) (i : Nat) (e : Option HEntry) : (s.setEntry i e).nor = s.nor := rfl
@[simp] theorem State.setEntry_upd (s : State) (i : Nat) (e : Option HEntry) : (s.setEntry i e).upd = s.upd := rfl
@[simp] theorem State.setEntry_bin (s : State) (i : Nat) (e : Option HEntry) : (s.setEntry i e).bin = s.bin := rfl
@[simp] theorem State.setEntry_rings (s : State) (i : Nat) (e : Option HEntry) : (s.setEntry i e).rings = s.rings := rfl
@[simp] theorem State.setEntry_rdata (s : State) (i : Nat) (e : Option HEntry) : (s.setEntry i e).rdata = s.rdata := rfl

/-! ### modCell -/

@[simp] theorem State.modCell_pending (s : State) (c : Nat) (f : Cell → Cell) : (s.modCell c f).pending = s.pending := rfl
@[simp] theorem State.modCell_regs (s : State) (c : Nat) (f : Cell → Cell) : (s.modCell c f).regs = s.regs := rfl
@[simp] theorem State.modCell_tickW (s : State) (c : Nat) (f : Cell → Cell) : (s.modCell c f).tickW = s.tickW := rfl
@[simp] theorem State.modCell_staged (s : State) (c : Nat) (f : Cell → Cell) : (s.modCell c f).staged = s.staged := rfl
@[simp] theorem State.modCell_commits (s : State) (c : Nat) (f : Cell → Cell) : (s.modCell c f).commits = s.commits := rfl
@[simp] theorem State.modCell_freeCtr (s : State) (c : Nat) (f : Cell → Cell) : (s.modCell c f).freeCtr = s.freeCtr := rfl
@[simp] theorem State.modCell_pwr (s : State) (c : Nat) (f : Cell → Cell) : (s.modCell c f).pwr = s.pwr := rfl
@[simp] theorem State.modCell_chr (s : State) (c : Nat) (f : Cell → Cell) : (s.modCell c f).chr = s.chr := rfl
@[simp] theorem State.modCell_log (s : State) (c : Nat) (f : Cell → Cell) : (s.modCell c f).log = s.log := rfl
@[simp] theorem State.modCell_alm (s : State) (c : Nat) (f : Cell → Cell) : (s.modCell c f).alm = s.alm := rfl
@[simp] theorem State.modCell_spd (s : State) (c : Nat) (f : Cell → Cell) : (s.modCell c f).spd = s.spd := rfl
@[simp] theorem State.modCell_mrd (s : State) (c : Nat) (f : Cell → Cell) : (s.modCell c f).mrd = s.mrd := rfl
@[simp] theorem State.modCell_hlm (s : State) (c : Nat) (f : Cell → Cell) : (s.modCell c f).hlm = s.hlm := rfl
@[simp] theorem State.modCell_dio (s : State) (c : Nat) (f : Cell → Cell) : (s.modCell c f).dio = s.dio := rfl
@[simp] theorem State.modCell_plt (s : State) (c : Nat) (f : Cell → Cell) : (s.modCell c f).plt = s.plt := rfl
@[simp] theorem State.modCell_sxt (s : State) (c : Nat) (f : Cell → Cell) : (s.modCell c f).sxt = s.sxt := rfl
@[simp] theorem State.modCell_lkt (s : State) (c : Nat) (f : Cell → Cell) : (s.modCell c f).lkt = s.lkt := rfl
@[simp] theorem State.modCell_bus (s : State) (c : Nat) (f : Cell → Cell) : (s.modCell c f).bus = s.bus := rfl
@[simp] theorem State.modCell_hsi (s : State) (c : Nat) (f : Cell → Cell) : (s.modCell c f).hsi = s.hsi := rfl
@[simp] theorem State.modCell_nor (s : State) (c : Nat) (f : Cell → Cell) : (s.modCell c f).nor = s.nor := rfl
@[simp] theorem State.modCell_upd (s : State) (c : Nat) (f : Cell → Cell) : (s.modCell c f).upd = s.upd := rfl
@[simp] theorem State.modCell_bin (s : State) (c : Nat) (f : Cell → Cell) : (s.modCell c f).bin = s.bin := rfl
@[simp] theorem State.modCell_rings (s : State) (c : Nat) (f : Cell → Cell) : (s.modCell c f).rings = s.rings := rfl
@[simp] theorem State.modCell_rdata (s : State) (c : Nat) (f : Cell → Cell) : (s.modCell c f).rdata = s.rdata := rfl

/-! ### readClear -/

@[simp] theorem State.readClear_pending (s : State) (f : Fld) : (s.readClear f).pending = s.pending := rfl
@[simp] theorem State.readClear_tickW (s : State) (f : Fld) : (s.readClear f).tickW = s.tickW := rfl
@[simp] theorem State.readClear_staged (s : State) (f : Fld) : (s.readClear f).staged = s.staged := rfl
@[simp] theorem State.readClear_commits (s : State) (f : Fld) : (s.readClear f).commits = s.commits := rfl
@[simp] theorem State.readClear_freeCtr (s : State) (f : Fld) : (s.readClear f).freeCtr = s.freeCtr := rfl
@[simp] theorem State.readClear_pwr (s : State) (f : Fld) : (s.readClear f).pwr = s.pwr := rfl
@[simp] theorem State.readClear_chr (s : State) (f : Fld) : (s.readClear f).chr = s.chr := rfl
@[simp] theorem State.readClear_log (s : State) (f : Fld) : (s.readClear f).log = s.log := rfl
@[simp] theorem State.readClear_alm (s : State) (f : Fld) : (s.readClear f).alm = s.alm := rfl
@[simp] theorem State.readClear_rep (s : State) (f : Fld) : (s.readClear f).rep = s.rep := rfl
@[simp] theorem State.readClear_spd (s : State) (f : Fld) : (s.readClear f).spd = s.spd := rfl
@[simp] theorem State.readClear_mrd (s : State) (f : Fld) : (s.readClear f).mrd = s.mrd := rfl
@[simp] theorem State.readClear_hlm (s : State) (f : Fld) : (s.readClear f).hlm = s.hlm := rfl
@[simp] theorem State.readClear_dio (s : State) (f : Fld) : (s.readClear f).dio = s.dio := rfl
@[simp] theorem State.readClear_plt (s : State) (f : Fld) : (s.readClear f).plt = s.plt := rfl
@[simp] theorem State.readClear_sxt (s : State) (f : Fld) : (s.readClear f).sxt = s.sxt := rfl
@[simp] theorem State.readClear_lkt (s : State) (f : Fld) : (s.readClear f).lkt = s.lkt := rfl
@[simp] theorem State.readClear_bus (s : State) (f : Fld) : (s.readClear f).bus = s.bus := rfl
@[simp] theorem State.readClear_hsi (s : State) (f : Fld) : (s.readClear f).hsi = s.hsi := rfl
@[simp] theorem State.readClear_nor (s : State) (f : Fld) : (s.readClear f).nor = s.nor := rfl
@[simp] theorem State.readClear_upd (s : State) (f : Fld) : (s.readClear f).upd = s.upd := rfl
@[simp] theorem State.readClear_bin (s : State) (f : Fld) : (s.readClear f).bin = s.bin := rfl
@[simp] theorem State.readClear_rings (s : State) (f : Fld) : (s.readClear f).rings = s.rings := rfl

/-! ### puts -/

@[simp] theorem State.puts_pending (s : State) (l : List (Fld × Nat)) : (s.puts l).pending = s.pending := by
  induction l generalizing s with | nil => rfl | cons e l ih => rw [State.puts, ih]; rfl

@[simp] theorem State.puts_tickW (s : State) (l : List (Fld × Nat)) : (s.puts l).tickW = s.tickW := by
  induction l generalizing s with | nil => rfl | cons e l ih => rw [State.puts, ih]; rfl

@[simp] theorem State.puts_staged (s : State) (l : List (Fld × Nat)) : (s.puts l).staged = s.staged := by
  induction l generalizing s with | nil => rfl | cons e l ih => rw [State.puts, ih]; rfl

@[simp] theorem State.puts_commits (s : State) (l : List (Fld × Nat)) : (s.puts l).commits = s.commits := by
  induction l generalizing s with | nil => rfl | cons e l ih => rw [State.puts, ih]; rfl

@[simp] theorem State.puts_freeCtr (s : State) (l : List (Fld × Nat)) : (s.puts l).freeCtr = s.freeCtr := by
  induction l generalizing s with | nil => rfl | cons e l ih => rw [State.puts, ih]; rfl

@[simp] theorem State.puts_pwr (s : State) (l : List (Fld × Nat)) : (s.puts l).pwr = s.pwr := by
  induction l generalizing s with | nil => rfl | cons e l ih => rw [State.puts, ih]; rfl

@[simp] theorem State.puts_chr (s : State) (l : List (Fld × Nat)) : (s.puts l).chr = s.chr := by
  induction l generalizing s with | nil => rfl | cons e l ih => rw [State.puts, ih]; rfl

@[simp] theorem State.puts_log (s : State) (l : List (Fld × Nat)) : (s.puts l).log = s.log := by
  induction l generalizing s with | nil => rfl | cons e l ih => rw [State.puts, ih]; rfl

@[simp] theorem State.puts_alm (s : State) (l : List (Fld × Nat)) : (s.puts l).alm = s.alm := by
  induction l generalizing s with | nil => rfl | cons e l ih => rw [State.puts, ih]; rfl

@[simp] theorem State.puts_rep (s : State) (l : List (Fld × Nat)) : (s.puts l).rep = s.rep := by
  induction l generalizing s with | nil => rfl | cons e l ih => rw [State.puts, ih]; rfl

@[simp] theorem State.puts_spd (s : State) (l : List (Fld × Nat)) : (s.puts l).spd = s.spd := by
  induction l generalizing s with | nil => rfl | cons e l ih => rw [State.puts, ih]; rfl

@[simp] theorem State.puts_mrd (s : State) (l : List (Fld × Nat)) : (s.puts l).mrd = s.mrd := by
  induction l generalizing s with | nil => rfl | cons e l ih => rw [State.puts, ih]; rfl

@[simp] theorem State.puts_hlm (s : State) (l : List (Fld × Nat)) : (s.puts l).hlm = s.hlm := by
  induction l generalizing s with | nil => rfl | cons e l ih => rw [State.puts, ih]; rfl

@[simp] theorem State.puts_dio (s : State) (l : List (Fld × Nat)) : (s.puts l).dio = s.dio := by
  induction l generalizing s with | nil => rfl | cons e l ih => rw [State.puts, ih]; rfl

@[simp] theorem State.puts_plt (s : State) (l : List (Fld × Nat)) : (s.puts l).plt = s.plt := by
  induction l generalizing s with | nil => rfl | cons e l ih => rw [State.puts, ih]; rfl

@[simp] theorem State.puts_sxt (s : State) (l : List (Fld × Nat)) : (s.puts l).sxt = s.sxt := by
  induction l generalizing s with | nil => rfl | cons e l ih => rw [State.puts, ih]; rfl

@[simp] theorem State.puts_lkt (s : State) (l : List (Fld × Nat)) : (s.puts l).lkt = s.lkt := by
  induction l generalizing s with | nil => rfl | cons e l ih => rw [State.puts, ih]; rfl

@[simp] theorem State.puts_bus (s : State) (l : List (Fld × Nat)) : (s.puts l).bus = s.bus := by
  induction l generalizing s with | nil => rfl | cons e l ih => rw [State.puts, ih]; rfl

@[simp] theorem State.puts_hsi (s : State) (l : List (Fld × Nat)) : (s.puts l).hsi = s.hsi := by
  induction l generalizing s with | nil => rfl | cons e l ih => rw [State.puts, ih]; rfl

@[simp] theorem State.puts_nor (s : State) (l : List (Fld × Nat)) : (s.puts l).nor = s.nor := by
  induction l generalizing s with | nil => rfl | cons e l ih => rw [State.puts, ih]; rfl

@[simp] theorem State.puts_upd (s : State) (l : List (Fld × Nat)) : (s.puts l).upd = s.upd := by
  induction l generalizing s with | nil => rfl | cons e l ih => rw [State.puts, ih]; rfl

@[simp] theorem State.puts_bin (s : State) (l : List (Fld × Nat)) : (s.puts l).bin = s.bin := by
  induction l generalizing s with | nil => rfl | cons e l ih => rw [State.puts, ih]; rfl

@[simp] theorem State.puts_rings (s : State) (l : List (Fld × Nat)) : (s.puts l).rings = s.rings := by
  induction l generalizing s with | nil => rfl | cons e l ih => rw [State.puts, ih]; rfl

@[simp] theorem State.puts_rdata (s : State) (l : List (Fld × Nat)) : (s.puts l).rdata = s.rdata := by
  induction l generalizing s with | nil => rfl | cons e l ih => rw [State.puts, ih]; rfl

/-! ### cfgPut -/

@[simp] theorem State.cfgPut_pending (s : State) (t i off : Nat) (l : List Nat) : (s.cfgPut t i off l).pending = s.pending := by
  induction l generalizing s off with
  | nil => rfl
  | cons e l ih => rw [State.cfgPut, ih]; rfl

@[simp] theorem State.cfgPut_tickW (s : State) (t i off : Nat) (l : List Nat) : (s.cfgPut t i off l).tickW = s.tickW := by
  induction l generalizing s off with
  | nil => rfl
  | cons e l ih => rw [State.cfgPut, ih]; rfl

@[simp] theorem State.cfgPut_staged (s : State) (t i off : Nat) (l : List Nat) : (s.cfgPut t i off l).staged = s.staged := by
  induction l generalizing s off with
  | nil => rfl
  | cons e l ih => rw [State.cfgPut, ih]; rfl

@[simp] theorem State.cfgPut_commits (s : State) (t i off : Nat) (l : List Nat) : (s.cfgPut t i off l).commits = s.commits := by
  induction l generalizing s off with
  | nil => rfl
  | cons e l ih => rw [State.cfgPut, ih]; rfl

@[simp] theorem State.cfgPut_freeCtr (s : State) (t i off : Nat) (l : List Nat) : (s.cfgPut t i off l).freeCtr = s.freeCtr := by
  induction l generalizing s off with
  | nil => rfl
  | cons e l ih => rw [State.cfgPut, ih]; rfl

@[simp] theorem State.cfgPut_pwr (s : State) (t i off : Nat) (l : List Nat) : (s.cfgPut t i off l).pwr = s.pwr := by
  induction l generalizing s off with
  | nil => rfl
  | cons e l ih => rw [State.cfgPut, ih]; rfl

@[simp] theorem State.cfgPut_chr (s : State) (t i off : Nat) (l : List Nat) : (s.cfgPut t i off l).chr = s.chr := by
  induction l generalizing s off with
  | nil => rfl
  | cons e l ih => rw [State.cfgPut, ih]; rfl

@[simp] theorem State.cfgPut_log (s : State) (t i off : Nat) (l : List Nat) : (s.cfgPut t i off l).log = s.log := by
  induction l generalizing s off with
  | nil => rfl
  | cons e l ih => rw [State.cfgPut, ih]; rfl

@[simp] theorem State.cfgPut_alm (s : State) (t i off : Nat) (l : List Nat) : (s.cfgPut t i off l).alm = s.alm := by
  induction l generalizing s off with
  | nil => rfl
  | cons e l ih => rw [State.cfgPut, ih]; rfl

@[simp] theorem State.cfgPut_rep (s : State) (t i off : Nat) (l : List Nat) : (s.cfgPut t i off l).rep = s.rep := by
  induction l generalizing s off with
  | nil => rfl
  | cons e l ih => rw [State.cfgPut, ih]; rfl

@[simp] theorem State.cfgPut_spd (s : State) (t i off : Nat) (l : List Nat) : (s.cfgPut t i off l).spd = s.spd := by
  induction l generalizing s off with
  | nil => rfl
  | cons e l ih => rw [State.cfgPut, ih]; rfl

@[simp] theorem State.cfgPut_mrd (s : State) (t i off : Nat) (l : List Nat) : (s.cfgPut t i off l).mrd = s.mrd := by
  induction l generalizing s off with
  | nil => rfl
  | cons e l ih => rw [State.cfgPut, ih]; rfl

@[simp] theorem State.cfgPut_hlm (s : State) (t i off : Nat) (l : List Nat) : (s.cfgPut t i off l).hlm = s.hlm := by
  induction l generalizing s off with
  | nil => rfl
  | cons e l ih => rw [State.cfgPut, ih]; rfl

@[simp] theorem State.cfgPut_dio (s : State) (t i off : Nat) (l : List Nat) : (s.cfgPut t i off l).dio = s.dio := by
  induction l generalizing s off with
  | nil => rfl
  | cons e l ih => rw [State.cfgPut, ih]; rfl

@[simp] theorem State.cfgPut_plt (s : State) (t i off : Nat) (l : List Nat) : (s.cfgPut t i off l).plt = s.plt := by
  induction l generalizing s off with
  | nil => rfl
  | cons e l ih => rw [State.cfgPut, ih]; rfl

@[simp] theorem State.cfgPut_sxt (s : State) (t i off : Nat) (l : List Nat) : (s.cfgPut t i off l).sxt = s.sxt := by
  induction l generalizing s off with
  | nil => rfl
  | cons e l ih => rw [State.cfgPut, ih]; rfl

@[simp] theorem State.cfgPut_lkt (s : State) (t i off : Nat) (l : List Nat) : (s.cfgPut t i off l).lkt = s.lkt := by
  induction l generalizing s off with
  | nil => rfl
  | cons e l ih => rw [State.cfgPut, ih]; rfl

@[simp] theorem State.cfgPut_bus (s : State) (t i off : Nat) (l : List Nat) : (s.cfgPut t i off l).bus = s.bus := by
  induction l generalizing s off with
  | nil => rfl
  | cons e l ih => rw [State.cfgPut, ih]; rfl

@[simp] theorem State.cfgPut_hsi (s : State) (t i off : Nat) (l : List Nat) : (s.cfgPut t i off l).hsi = s.hsi := by
  induction l generalizing s off with
  | nil => rfl
  | cons e l ih => rw [State.cfgPut, ih]; rfl

@[simp] theorem State.cfgPut_nor (s : State) (t i off : Nat) (l : List Nat) : (s.cfgPut t i off l).nor = s.nor := by
  induction l generalizing s off with
  | nil => rfl
  | cons e l ih => rw [State.cfgPut, ih]; rfl

@[simp] theorem State.cfgPut_upd (s : State) (t i off : Nat) (l : List Nat) : (s.cfgPut t i off l).upd = s.upd := by
  induction l generalizing s off with
  | nil => rfl
  | cons e l ih => rw [State.cfgPut, ih]; rfl

@[simp] theorem State.cfgPut_bin (s : State) (t i off : Nat) (l : List Nat) : (s.cfgPut t i off l).bin = s.bin := by
  induction l generalizing s off with
  | nil => rfl
  | cons e l ih => rw [State.cfgPut, ih]; rfl

@[simp] theorem State.cfgPut_rings (s : State) (t i off : Nat) (l : List Nat) : (s.cfgPut t i off l).rings = s.rings := by
  induction l generalizing s off with
  | nil => rfl
  | cons e l ih => rw [State.cfgPut, ih]; rfl

@[simp] theorem State.cfgPut_rdata (s : State) (t i off : Nat) (l : List Nat) : (s.cfgPut t i off l).rdata = s.rdata := by
  induction l generalizing s off with
  | nil => rfl
  | cons e l ih => rw [State.cfgPut, ih]; rfl

/-! ### setRelay -/

@[simp] theorem State.setRelay_pending (s : State) (r : Fin 2) (x : Relay) : (s.setRelay r x).pending = s.pending := by unfold State.setRelay; split <;> rfl

@[simp] theorem State.setRelay_regs (s : State) (r : Fin 2) (x : Relay) : (s.setRelay r x).regs = s.regs := by unfold State.setRelay; split <;> rfl

@[simp] theorem State.setRelay_tickW (s : State) (r : Fin 2) (x : Relay) : (s.setRelay r x).tickW = s.tickW := by unfold State.setRelay; split <;> rfl

@[simp] theorem State.setRelay_staged (s : State) (r : Fin 2) (x : Relay) : (s.setRelay r x).staged = s.staged := by unfold State.setRelay; split <;> rfl

@[simp] theorem State.setRelay_commits (s : State) (r : Fin 2) (x : Relay) : (s.setRelay r x).commits = s.commits := by unfold State.setRelay; split <;> rfl

@[simp] theorem State.setRelay_freeCtr (s : State) (r : Fin 2) (x : Relay) : (s.setRelay r x).freeCtr = s.freeCtr := by unfold State.setRelay; split <;> rfl

@[simp] theorem State.setRelay_chr (s : State) (r : Fin 2) (x : Relay) : (s.setRelay r x).chr = s.chr := by unfold State.setRelay; split <;> rfl

@[simp] theorem State.setRelay_log (s : State) (r : Fin 2) (x : Relay) : (s.setRelay r x).log = s.log := by unfold State.setRelay; split <;> rfl

@[simp] theorem State.setRelay_alm (s : State) (r : Fin 2) (x : Relay) : (s.setRelay r x).alm = s.alm := by unfold State.setRelay; split <;> rfl

@[simp] theorem State.setRelay_rep (s : State) (r : Fin 2) (x : Relay) : (s.setRelay r x).rep = s.rep := by unfold State.setRelay; split <;> rfl

@[simp] theorem State.setRelay_spd (s : State) (r : Fin 2) (x : Relay) : (s.setRelay r x).spd = s.spd := by unfold State.setRelay; split <;> rfl

@[simp] theorem State.setRelay_mrd (s : State) (r : Fin 2) (x : Relay) : (s.setRelay r x).mrd = s.mrd := by unfold State.setRelay; split <;> rfl

@[simp] theorem State.setRelay_hlm (s : State) (r : Fin 2) (x : Relay) : (s.setRelay r x).hlm = s.hlm := by unfold State.setRelay; split <;> rfl

@[simp] theorem State.setRelay_dio (s : State) (r : Fin 2) (x : Relay) : (s.setRelay r x).dio = s.dio := by unfold State.setRelay; split <;> rfl

@[simp] theorem State.setRelay_plt (s : State) (r : Fin 2) (x : Relay) : (s.setRelay r x).plt = s.plt := by unfold State.setRelay; split <;> rfl

@[simp] theorem State.setRelay_sxt (s : State) (r : Fin 2) (x : Relay) : (s.setRelay r x).sxt = s.sxt := by unfold State.setRelay; split <;> rfl

@[simp] theorem State.setRelay_lkt (s : State) (r : Fin 2) (x : Relay) : (s.setRelay r x).lkt = s.lkt := by unfold State.setRelay; split <;> rfl

@[simp] theorem State.setRelay_bus (s : State) (r : Fin 2) (x : Relay) : (s.setRelay r x).bus = s.bus := by unfold State.setRelay; split <;> rfl

@[simp] theorem State.setRelay_hsi (s : State) (r : Fin 2) (x : Relay) : (s.setRelay r x).hsi = s.hsi := by unfold State.setRelay; split <;> rfl

@[simp] theorem State.setRelay_nor (s : State) (r : Fin 2) (x : Relay) : (s.setRelay r x).nor = s.nor := by unfold State.setRelay; split <;> rfl

@[simp] theorem State.setRelay_upd (s : State) (r : Fin 2) (x : Relay) : (s.setRelay r x).upd = s.upd := by unfold State.setRelay; split <;> rfl

@[simp] theorem State.setRelay_bin (s : State) (r : Fin 2) (x : Relay) : (s.setRelay r x).bin = s.bin := by unfold State.setRelay; split <;> rfl

@[simp] theorem State.setRelay_rings (s : State) (r : Fin 2) (x : Relay) : (s.setRelay r x).rings = s.rings := by unfold State.setRelay; split <;> rfl

@[simp] theorem State.setRelay_rdata (s : State) (r : Fin 2) (x : Relay) : (s.setRelay r x).rdata = s.rdata := by unfold State.setRelay; split <;> rfl

/-! ### enqueue -/

@[simp] theorem State.enqueue_pending (s : State) (r : LogRec) : (s.enqueue r).pending = s.pending := by unfold State.enqueue; split <;> rfl

@[simp] theorem State.enqueue_tickW (s : State) (r : LogRec) : (s.enqueue r).tickW = s.tickW := by unfold State.enqueue; split <;> rfl

@[simp] theorem State.enqueue_staged (s : State) (r : LogRec) : (s.enqueue r).staged = s.staged := by unfold State.enqueue; split <;> rfl

@[simp] theorem State.enqueue_commits (s : State) (r : LogRec) : (s.enqueue r).commits = s.commits := by unfold State.enqueue; split <;> rfl

@[simp] theorem State.enqueue_freeCtr (s : State) (r : LogRec) : (s.enqueue r).freeCtr = s.freeCtr := by unfold State.enqueue; split <;> rfl

@[simp] theorem State.enqueue_pwr (s : State) (r : LogRec) : (s.enqueue r).pwr = s.pwr := by unfold State.enqueue; split <;> rfl

@[simp] theorem State.enqueue_chr (s : State) (r : LogRec) : (s.enqueue r).chr = s.chr := by unfold State.enqueue; split <;> rfl

@[simp] theorem State.enqueue_alm (s : State) (r : LogRec) : (s.enqueue r).alm = s.alm := by unfold State.enqueue; split <;> rfl

@[simp] theorem State.enqueue_rep (s : State) (r : LogRec) : (s.enqueue r).rep = s.rep := by unfold State.enqueue; split <;> rfl

@[simp] theorem State.enqueue_spd (s : State) (r : LogRec) : (s.enqueue r).spd = s.spd := by unfold State.enqueue; split <;> rfl

@[simp] theorem State.enqueue_mrd (s : State) (r : LogRec) : (s.enqueue r).mrd = s.mrd := by unfold State.enqueue; split <;> rfl

@[simp] theorem State.enqueue_hlm (s : State) (r : LogRec) : (s.enqueue r).hlm = s.hlm := by unfold State.enqueue; split <;> rfl

@[simp] theorem State.enqueue_dio (s : State) (r : LogRec) : (s.enqueue r).dio = s.dio := by unfold State.enqueue; split <;> rfl

@[simp] theorem State.enqueue_plt (s : State) (r : LogRec) : (s.enqueue r).plt = s.plt := by unfold State.enqueue; split <;> rfl

@[simp] theorem State.enqueue_sxt (s : State) (r : LogRec) : (s.enqueue r).sxt = s.sxt := by unfold State.enqueue; split <;> rfl

@[simp] theorem State.enqueue_lkt (s : State) (r : LogRec) : (s.enqueue r).lkt = s.lkt := by unfold State.enqueue; split <;> rfl

@[simp] theorem State.enqueue_bus (s : State) (r : LogRec) : (s.enqueue r).bus = s.bus := by unfold State.enqueue; split <;> rfl

@[simp] theorem State.enqueue_hsi (s : State) (r : LogRec) : (s.enqueue r).hsi = s.hsi := by unfold State.enqueue; split <;> rfl

@[simp] theorem State.enqueue_nor (s : State) (r : LogRec) : (s.enqueue r).nor = s.nor := by unfold State.enqueue; split <;> rfl

@[simp] theorem State.enqueue_upd (s : State) (r : LogRec) : (s.enqueue r).upd = s.upd := by unfold State.enqueue; split <;> rfl

@[simp] theorem State.enqueue_bin (s : State) (r : LogRec) : (s.enqueue r).bin = s.bin := by unfold State.enqueue; split <;> rfl

@[simp] theorem State.enqueue_rings (s : State) (r : LogRec) : (s.enqueue r).rings = s.rings := by unfold State.enqueue; split <;> rfl

@[simp] theorem State.enqueue_rdata (s : State) (r : LogRec) : (s.enqueue r).rdata = s.rdata := by unfold State.enqueue; split <;> rfl

/-! ### sysRec -/

@[simp] theorem State.sysRec_pending (s : State) (c : Nat) (ps : List Nat) : (s.sysRec c ps).pending = s.pending := by unfold State.sysRec; split <;> simp

@[simp] theorem State.sysRec_tickW (s : State) (c : Nat) (ps : List Nat) : (s.sysRec c ps).tickW = s.tickW := by unfold State.sysRec; split <;> simp

@[simp] theorem State.sysRec_staged (s : State) (c : Nat) (ps : List Nat) : (s.sysRec c ps).staged = s.staged := by unfold State.sysRec; split <;> simp

@[simp] theorem State.sysRec_commits (s : State) (c : Nat) (ps : List Nat) : (s.sysRec c ps).commits = s.commits := by unfold State.sysRec; split <;> simp

@[simp] theorem State.sysRec_freeCtr (s : State) (c : Nat) (ps : List Nat) : (s.sysRec c ps).freeCtr = s.freeCtr := by unfold State.sysRec; split <;> simp

@[simp] theorem State.sysRec_pwr (s : State) (c : Nat) (ps : List Nat) : (s.sysRec c ps).pwr = s.pwr := by unfold State.sysRec; split <;> simp

@[simp] theorem State.sysRec_chr (s : State) (c : Nat) (ps : List Nat) : (s.sysRec c ps).chr = s.chr := by unfold State.sysRec; split <;> simp

@[simp] theorem State.sysRec_alm (s : State) (c : Nat) (ps : List Nat) : (s.sysRec c ps).alm = s.alm := by unfold State.sysRec; split <;> simp

@[simp] theorem State.sysRec_rep (s : State) (c : Nat) (ps : List Nat) : (s.sysRec c ps).rep = s.rep := by unfold State.sysRec; split <;> simp

@[simp] theorem State.sysRec_spd (s : State) (c : Nat) (ps : List Nat) : (s.sysRec c ps).spd = s.spd := by unfold State.sysRec; split <;> simp

@[simp] theorem State.sysRec_mrd (s : State) (c : Nat) (ps : List Nat) : (s.sysRec c ps).mrd = s.mrd := by unfold State.sysRec; split <;> simp

@[simp] theorem State.sysRec_hlm (s : State) (c : Nat) (ps : List Nat) : (s.sysRec c ps).hlm = s.hlm := by unfold State.sysRec; split <;> simp

@[simp] theorem State.sysRec_dio (s : State) (c : Nat) (ps : List Nat) : (s.sysRec c ps).dio = s.dio := by unfold State.sysRec; split <;> simp

@[simp] theorem State.sysRec_plt (s : State) (c : Nat) (ps : List Nat) : (s.sysRec c ps).plt = s.plt := by unfold State.sysRec; split <;> simp

@[simp] theorem State.sysRec_sxt (s : State) (c : Nat) (ps : List Nat) : (s.sysRec c ps).sxt = s.sxt := by unfold State.sysRec; split <;> simp

@[simp] theorem State.sysRec_lkt (s : State) (c : Nat) (ps : List Nat) : (s.sysRec c ps).lkt = s.lkt := by unfold State.sysRec; split <;> simp

@[simp] theorem State.sysRec_bus (s : State) (c : Nat) (ps : List Nat) : (s.sysRec c ps).bus = s.bus := by unfold State.sysRec; split <;> simp

@[simp] theorem State.sysRec_hsi (s : State) (c : Nat) (ps : List Nat) : (s.sysRec c ps).hsi = s.hsi := by unfold State.sysRec; split <;> simp

@[simp] theorem State.sysRec_nor (s : State) (c : Nat) (ps : List Nat) : (s.sysRec c ps).nor = s.nor := by unfold State.sysRec; split <;> simp

@[simp] theorem State.sysRec_upd (s : State) (c : Nat) (ps : List Nat) : (s.sysRec c ps).upd = s.upd := by unfold State.sysRec; split <;> simp

@[simp] theorem State.sysRec_bin (s : State) (c : Nat) (ps : List Nat) : (s.sysRec c ps).bin = s.bin := by unfold State.sysRec; split <;> simp

@[simp] theorem State.sysRec_rings (s : State) (c : Nat) (ps : List Nat) : (s.sysRec c ps).rings = s.rings := by unfold State.sysRec; split <;> simp

@[simp] theorem State.sysRec_rdata (s : State) (c : Nat) (ps : List Nat) : (s.sysRec c ps).rdata = s.rdata := by unfold State.sysRec; split <;> simp

/-! ### urgentRec -/

@[simp] theorem State.urgentRec_pending (s : State) (c : Nat) (ps : List Nat) : (s.urgentRec c ps).pending = s.pending := by unfold State.urgentRec; split <;> rfl

@[simp] theorem State.urgentRec_regs (s : State) (c : Nat) (ps : List Nat) : (s.urgentRec c ps).regs = s.regs := by unfold State.urgentRec; split <;> rfl

@[simp] theorem State.urgentRec_tickW (s : State) (c : Nat) (ps : List Nat) : (s.urgentRec c ps).tickW = s.tickW := by unfold State.urgentRec; split <;> rfl

@[simp] theorem State.urgentRec_staged (s : State) (c : Nat) (ps : List Nat) : (s.urgentRec c ps).staged = s.staged := by unfold State.urgentRec; split <;> rfl

@[simp] theorem State.urgentRec_commits (s : State) (c : Nat) (ps : List Nat) : (s.urgentRec c ps).commits = s.commits := by unfold State.urgentRec; split <;> rfl

@[simp] theorem State.urgentRec_freeCtr (s : State) (c : Nat) (ps : List Nat) : (s.urgentRec c ps).freeCtr = s.freeCtr := by unfold State.urgentRec; split <;> rfl

@[simp] theorem State.urgentRec_pwr (s : State) (c : Nat) (ps : List Nat) : (s.urgentRec c ps).pwr = s.pwr := by unfold State.urgentRec; split <;> rfl

@[simp] theorem State.urgentRec_chr (s : State) (c : Nat) (ps : List Nat) : (s.urgentRec c ps).chr = s.chr := by unfold State.urgentRec; split <;> rfl

@[simp] theorem State.urgentRec_alm (s : State) (c : Nat) (ps : List Nat) : (s.urgentRec c ps).alm = s.alm := by unfold State.urgentRec; split <;> rfl

@[simp] theorem State.urgentRec_rep (s : State) (c : Nat) (ps : List Nat) : (s.urgentRec c ps).rep = s.rep := by unfold State.urgentRec; split <;> rfl

@[simp] theorem State.urgentRec_spd (s : State) (c : Nat) (ps : List Nat) : (s.urgentRec c ps).spd = s.spd := by unfold State.urgentRec; split <;> rfl

@[simp] theorem State.urgentRec_mrd (s : State) (c : Nat) (ps : List Nat) : (s.urgentRec c ps).mrd = s.mrd := by unfold State.urgentRec; split <;> rfl

@[simp] theorem State.urgentRec_hlm (s : State) (c : Nat) (ps : List Nat) : (s.urgentRec c ps).hlm = s.hlm := by unfold State.urgentRec; split <;> rfl

@[simp] theorem State.urgentRec_dio (s : State) (c : Nat) (ps : List Nat) : (s.urgentRec c ps).dio = s.dio := by unfold State.urgentRec; split <;> rfl

@[simp] theorem State.urgentRec_plt (s : State) (c : Nat) (ps : List Nat) : (s.urgentRec c ps).plt = s.plt := by unfold State.urgentRec; split <;> rfl

@[simp] theorem State.urgentRec_sxt (s : State) (c : Nat) (ps : List Nat) : (s.urgentRec c ps).sxt = s.sxt := by unfold State.urgentRec; split <;> rfl

@[simp] theorem State.urgentRec_lkt (s : State) (c : Nat) (ps : List Nat) : (s.urgentRec c ps).lkt = s.lkt := by unfold State.urgentRec; split <;> rfl

@[simp] theorem State.urgentRec_bus (s : State) (c : Nat) (ps : List Nat) : (s.urgentRec c ps).bus = s.bus := by unfold State.urgentRec; split <;> rfl

@[simp] theorem State.urgentRec_hsi (s : State) (c : Nat) (ps : List Nat) : (s.urgentRec c ps).hsi = s.hsi := by unfold State.urgentRec; split <;> rfl

@[simp] theorem State.urgentRec_nor (s : State) (c : Nat) (ps : List Nat) : (s.urgentRec c ps).nor = s.nor := by unfold State.urgentRec; split <;> rfl

@[simp] theorem State.urgentRec_upd (s : State) (c : Nat) (ps : List Nat) : (s.urgentRec c ps).upd = s.upd := by unfold State.urgentRec; split <;> rfl

@[simp] theorem State.urgentRec_bin (s : State) (c : Nat) (ps : List Nat) : (s.urgentRec c ps).bin = s.bin := by unfold State.urgentRec; split <;> rfl

@[simp] theorem State.urgentRec_rings (s : State) (c : Nat) (ps : List Nat) : (s.urgentRec c ps).rings = s.rings := by unfold State.urgentRec; split <;> rfl

@[simp] theorem State.urgentRec_rdata (s : State) (c : Nat) (ps : List Nat) : (s.urgentRec c ps).rdata = s.rdata := by unfold State.urgentRec; split <;> rfl

/-! ### raiseE -/

@[simp] theorem State.raiseE_pending (s : State) (e : Bool) (c : Nat) (ps : List Nat) : (s.raiseE e c ps).pending = s.pending := by unfold State.raiseE; split_ifs <;> simp

@[simp] theorem State.raiseE_tickW (s : State) (e : Bool) (c : Nat) (ps : List Nat) : (s.raiseE e c ps).tickW = s.tickW := by unfold State.raiseE; split_ifs <;> simp

@[simp] theorem State.raiseE_staged (s : State) (e : Bool) (c : Nat) (ps : List Nat) : (s.raiseE e c ps).staged = s.staged := by unfold State.raiseE; split_ifs <;> simp

@[simp] theorem State.raiseE_commits (s : State) (e : Bool) (c : Nat) (ps : List Nat) : (s.raiseE e c ps).commits = s.commits := by unfold State.raiseE; split_ifs <;> simp

@[simp] theorem State.raiseE_freeCtr (s : State) (e : Bool) (c : Nat) (ps : List Nat) : (s.raiseE e c ps).freeCtr = s.freeCtr := by unfold State.raiseE; split_ifs <;> simp

@[simp] theorem State.raiseE_chr (s : State) (e : Bool) (c : Nat) (ps : List Nat) : (s.raiseE e c ps).chr = s.chr := by unfold State.raiseE; split_ifs <;> simp

@[simp] theorem State.raiseE_alm (s : State) (e : Bool) (c : Nat) (ps : List Nat) : (s.raiseE e c ps).alm = s.alm := by unfold State.raiseE; split_ifs <;> simp

@[simp] theorem State.raiseE_rep (s : State) (e : Bool) (c : Nat) (ps : List Nat) : (s.raiseE e c ps).rep = s.rep := by unfold State.raiseE; split_ifs <;> simp

@[simp] theorem State.raiseE_spd (s : State) (e : Bool) (c : Nat) (ps : List Nat) : (s.raiseE e c ps).spd = s.spd := by unfold State.raiseE; split_ifs <;> simp

@[simp] theorem State.raiseE_mrd (s : State) (e : Bool) (c : Nat) (ps : List Nat) : (s.raiseE e c ps).mrd = s.mrd := by unfold State.raiseE; split_ifs <;> simp

@[simp] theorem State.raiseE_hlm (s : State) (e : Bool) (c : Nat) (ps : List Nat) : (s.raiseE e c ps).hlm = s.hlm := by unfold State.raiseE; split_ifs <;> simp

@[simp] theorem State.raiseE_dio (s : State) (e : Bool) (c : Nat) (ps : List Nat) : (s.raiseE e c ps).dio = s.dio := by unfold State.raiseE; split_ifs <;> simp

@[simp] theorem State.raiseE_plt (s : State) (e : Bool) (c : Nat) (ps : List Nat) : (s.raiseE e c ps).plt = s.plt := by unfold State.raiseE; split_ifs <;> simp

@[simp] theorem State.raiseE_sxt (s : State) (e : Bool) (c : Nat) (ps : List Nat) : (s.raiseE e c ps).sxt = s.sxt := by unfold State.raiseE; split_ifs <;> simp

@[simp] theorem State.raiseE_lkt (s : State) (e : Bool) (c : Nat) (ps : List Nat) : (s.raiseE e c ps).lkt = s.lkt := by unfold State.raiseE; split_ifs <;> simp

@[simp] theorem State.raiseE_bus (s : State) (e : Bool) (c : Nat) (ps : List Nat) : (s.raiseE e c ps).bus = s.bus := by unfold State.raiseE; split_ifs <;> simp

@[simp] theorem State.raiseE_hsi (s : State) (e : Bool) (c : Nat) (ps : List Nat) : (s.raiseE e c ps).hsi = s.hsi := by unfold State.raiseE; split_ifs <;> simp

@[simp] theorem State.raiseE_nor (s : State) (e : Bool) (c : Nat) (ps : List Nat) : (s.raiseE e c ps).nor = s.nor := by unfold State.raiseE; split_ifs <;> simp

@[simp] theorem State.raiseE_upd (s : State) (e : Bool) (c : Nat) (ps : List Nat) : (s.raiseE e c ps).upd = s.upd := by unfold State.raiseE; split_ifs <;> simp

@[simp] theorem State.raiseE_bin (s : State) (e : Bool) (c : Nat) (ps : List Nat) : (s.raiseE e c ps).bin = s.bin := by unfold State.raiseE; split_ifs <;> simp

@[simp] theorem State.raiseE_rings (s : State) (e : Bool) (c : Nat) (ps : List Nat) : (s.raiseE e c ps).rings = s.rings := by unfold State.raiseE; split_ifs <;> simp

@[simp] theorem State.raiseE_rdata (s : State) (e : Bool) (c : Nat) (ps : List Nat) : (s.raiseE e c ps).rdata = s.rdata := by unfold State.raiseE; split_ifs <;> simp

/-! ### raise -/

@[simp] theorem State.raise_pending (s : State) (c : Nat) (ps : List Nat) : (s.raise c ps).pending = s.pending := by simp [State.raise]

@[simp] theorem State.raise_tickW (s : State) (c : Nat) (ps : List Nat) : (s.raise c ps).tickW = s.tickW := by simp [State.raise]

@[simp] theorem State.raise_staged (s : State) (c : Nat) (ps : List Nat) : (s.raise c ps).staged = s.staged := by simp [State.raise]

@[simp] theorem State.raise_commits (s : State) (c : Nat) (ps : List Nat) : (s.raise c ps).commits = s.commits := by simp [State.raise]

@[simp] theorem State.raise_freeCtr (s : State) (c : Nat) (ps : List Nat) : (s.raise c ps).freeCtr = s.freeCtr := by simp [State.raise]

@[simp] theorem State.raise_chr (s : State) (c : Nat) (ps : List Nat) : (s.raise c ps).chr = s.chr := by simp [State.raise]

@[simp] theorem State.raise_alm (s : State) (c : Nat) (ps : List Nat) : (s.raise c ps).alm = s.alm := by simp [State.raise]

@[simp] theorem State.raise_rep (s : State) (c : Nat) (ps : List Nat) : (s.raise c ps).rep = s.rep := by simp [State.raise]

@[simp] theorem State.raise_spd (s : State) (c : Nat) (ps : List Nat) : (s.raise c ps).spd = s.spd := by simp [State.raise]

@[simp] theorem State.raise_mrd (s : State) (c : Nat) (ps : List Nat) : (s.raise c ps).mrd = s.mrd := by simp [State.raise]

@[simp] theorem State.raise_hlm (s : State) (c : Nat) (ps : List Nat) : (s.raise c ps).hlm = s.hlm := by simp [State.raise]

@[simp] theorem State.raise_dio (s : State) (c : Nat) (ps : List Nat) : (s.raise c ps).dio = s.dio := by simp [State.raise]

@[simp] theorem State.raise_plt (s : State) (c : Nat) (ps : List Nat) : (s.raise c ps).plt = s.plt := by simp [State.raise]

@[simp] theorem State.raise_sxt (s : State) (c : Nat) (ps : List Nat) : (s.raise c ps).sxt = s.sxt := by simp [State.raise]

@[simp] theorem State.raise_lkt (s : State) (c : Nat) (ps : List Nat) : (s.raise c ps).lkt = s.lkt := by simp [State.raise]

@[simp] theorem State.raise_bus (s : State) (c : Nat) (ps : List Nat) : (s.raise c ps).bus = s.bus := by simp [State.raise]

@[simp] theorem State.raise_hsi (s : State) (c : Nat) (ps : List Nat) : (s.raise c ps).hsi = s.hsi := by simp [State.raise]

@[simp] theorem State.raise_nor (s : State) (c : Nat) (ps : List Nat) : (s.raise c ps).nor = s.nor := by simp [State.raise]

@[simp] theorem State.raise_upd (s : State) (c : Nat) (ps : List Nat) : (s.raise c ps).upd = s.upd := by simp [State.raise]

@[simp] theorem State.raise_bin (s : State) (c : Nat) (ps : List Nat) : (s.raise c ps).bin = s.bin := by simp [State.raise]

@[simp] theorem State.raise_rings (s : State) (c : Nat) (ps : List Nat) : (s.raise c ps).rings = s.rings := by simp [State.raise]

@[simp] theorem State.raise_rdata (s : State) (c : Nat) (ps : List Nat) : (s.raise c ps).rdata = s.rdata := by simp [State.raise]

/-! ### reqLimp -/

@[simp] theorem State.reqLimp_pending (s : State) (c : Nat) : (s.reqLimp c).pending = s.pending := by unfold State.reqLimp; split <;> simp

@[simp] theorem State.reqLimp_regs (s : State) (c : Nat) : (s.reqLimp c).regs = s.regs := by unfold State.reqLimp; split <;> simp

@[simp] theorem State.reqLimp_tickW (s : State) (c : Nat) : (s.reqLimp c).tickW = s.tickW := by unfold State.reqLimp; split <;> simp

@[simp] theorem State.reqLimp_staged (s : State) (c : Nat) : (s.reqLimp c).staged = s.staged := by unfold State.reqLimp; split <;> simp

@[simp] theorem State.reqLimp_commits (s : State) (c : Nat) : (s.reqLimp c).commits = s.commits := by unfold State.reqLimp; split <;> simp

@[simp] theorem State.reqLimp_freeCtr (s : State) (c : Nat) : (s.reqLimp c).freeCtr = s.freeCtr := by unfold State.reqLimp; split <;> simp

@[simp] theorem State.reqLimp_pwr (s : State) (c : Nat) : (s.reqLimp c).pwr = s.pwr := by unfold State.reqLimp; split <;> simp

@[simp] theorem State.reqLimp_chr (s : State) (c : Nat) : (s.reqLimp c).chr = s.chr := by unfold State.reqLimp; split <;> simp

@[simp] theorem State.reqLimp_log (s : State) (c : Nat) : (s.reqLimp c).log = s.log := by unfold State.reqLimp; split <;> simp

@[simp] theorem State.reqLimp_rep (s : State) (c : Nat) : (s.reqLimp c).rep = s.rep := by unfold State.reqLimp; split <;> simp

@[simp] theorem State.reqLimp_spd (s : State) (c : Nat) : (s.reqLimp c).spd = s.spd := by unfold State.reqLimp; split <;> simp

@[simp] theorem State.reqLimp_mrd (s : State) (c : Nat) : (s.reqLimp c).mrd = s.mrd := by unfold State.reqLimp; split <;> simp

@[simp] theorem State.reqLimp_hlm (s : State) (c : Nat) : (s.reqLimp c).hlm = s.hlm := by unfold State.reqLimp; split <;> simp

@[simp] theorem State.reqLimp_dio (s : State) (c : Nat) : (s.reqLimp c).dio = s.dio := by unfold State.reqLimp; split <;> simp

@[simp] theorem State.reqLimp_plt (s : State) (c : Nat) : (s.reqLimp c).plt = s.plt := by unfold State.reqLimp; split <;> simp

@[simp] theorem State.reqLimp_sxt (s : State) (c : Nat) : (s.reqLimp c).sxt = s.sxt := by unfold State.reqLimp; split <;> simp

@[simp] theorem State.reqLimp_lkt (s : State) (c : Nat) : (s.reqLimp c).lkt = s.lkt := by unfold State.reqLimp; split <;> simp

@[simp] theorem State.reqLimp_bus (s : State) (c : Nat) : (s.reqLimp c).bus = s.bus := by unfold State.reqLimp; split <;> simp

@[simp] theorem State.reqLimp_hsi (s : State) (c : Nat) : (s.reqLimp c).hsi = s.hsi := by unfold State.reqLimp; split <;> simp

@[simp] theorem State.reqLimp_nor (s : State) (c : Nat) : (s.reqLimp c).nor = s.nor := by unfold State.reqLimp; split <;> simp

@[simp] theorem State.reqLimp_upd (s : State) (c : Nat) : (s.reqLimp c).upd = s.upd := by unfold State.reqLimp; split <;> simp

@[simp] theorem State.reqLimp_bin (s : State) (c : Nat) : (s.reqLimp c).bin = s.bin := by unfold State.reqLimp; split <;> simp

@[simp] theorem State.reqLimp_rings (s : State) (c : Nat) : (s.reqLimp c).rings = s.rings := by unfold State.reqLimp; split <;> simp

@[simp] theorem State.reqLimp_rdata (s : State) (c : Nat) : (s.reqLimp c).rdata = s.rdata := by unfold State.reqLimp; split <;> simp

/-! ### takeStamp -/

@[simp] theorem State.takeStamp_pending (s : State) (p : Nat) : (s.takeStamp p).pending = s.pending := by unfold State.takeStamp; split <;> simp

@[simp] theorem State.takeStamp_regs (s : State) (p : Nat) : (s.takeStamp p).regs = s.regs := by unfold State.takeStamp; split <;> simp

@[simp] theorem State.takeStamp_tickW (s : State) (p : Nat) : (s.takeStamp p).tickW = s.tickW := by unfold State.takeStamp; split <;> simp

@[simp] theorem State.takeStamp_staged (s : State) (p : Nat) : (s.takeStamp p).staged = s.staged := by unfold State.takeStamp; split <;> simp

@[simp] theorem State.takeStamp_commits (s : State) (p : Nat) : (s.takeStamp p).commits = s.commits := by unfold State.takeStamp; split <;> simp

@[simp] theorem State.takeStamp_freeCtr (s : State) (p : Nat) : (s.takeStamp p).freeCtr = s.freeCtr := by unfold State.takeStamp; split <;> simp

@[simp] theorem State.takeStamp_pwr (s : State) (p : Nat) : (s.takeStamp p).pwr = s.pwr := by unfold State.takeStamp; split <;> simp

@[simp] theorem State.takeStamp_log (s : State) (p : Nat) : (s.takeStamp p).log = s.log := by unfold State.takeStamp; split <;> simp

@[simp] theorem State.takeStamp_alm (s : State) (p : Nat) : (s.takeStamp p).alm = s.alm := by unfold State.takeStamp; split <;> simp

@[simp] theorem State.takeStamp_rep (s : State) (p : Nat) : (s.takeStamp p).rep = s.rep := by unfold State.takeStamp; split <;> simp

@[simp] theorem State.takeStamp_spd (s : State) (p : Nat) : (s.takeStamp p).spd = s.spd := by unfold State.takeStamp; split <;> simp

@[simp] theorem State.takeStamp_mrd (s : State) (p : Nat) : (s.takeStamp p).mrd = s.mrd := by unfold State.takeStamp; split <;> simp

@[simp] theorem State.takeStamp_hlm (s : State) (p : Nat) : (s.takeStamp p).hlm = s.hlm := by unfold State.takeStamp; split <;> simp

@[simp] theorem State.takeStamp_dio (s : State) (p : Nat) : (s.takeStamp p).dio = s.dio := by unfold State.takeStamp; split <;> simp

@[simp] theorem State.takeStamp_plt (s : State) (p : Nat) : (s.takeStamp p).plt = s.plt := by unfold State.takeStamp; split <;> simp

@[simp] theorem State.takeStamp_sxt (s : State) (p : Nat) : (s.takeStamp p).sxt = s.sxt := by unfold State.takeStamp; split <;> simp

@[simp] theorem State.takeStamp_lkt (s : State) (p : Nat) : (s.takeStamp p).lkt = s.lkt := by unfold State.takeStamp; split <;> simp

@[simp] theorem State.takeStamp_bus (s : State) (p : Nat) : (s.takeStamp p).bus = s.bus := by unfold State.takeStamp; split <;> simp

@[simp] theorem State.takeStamp_hsi (s : State) (p : Nat) : (s.takeStamp p).hsi = s.hsi := by unfold State.takeStamp; split <;> simp

@[simp] theorem State.takeStamp_nor (s : State) (p : Nat) : (s.takeStamp p).nor = s.nor := by unfold State.takeStamp; split <;> simp

@[simp] theorem State.takeStamp_upd (s : State) (p : Nat) : (s.takeStamp p).upd = s.upd := by unfold State.takeStamp; split <;> simp

@[simp] theorem State.takeStamp_bin (s : State) (p : Nat) : (s.takeStamp p).bin = s.bin := by unfold State.takeStamp; split <;> simp

@[simp] theorem State.takeStamp_rings (s : State) (p : Nat) : (s.takeStamp p).rings = s.rings := by unfold State.takeStamp; split <;> simp

@[simp] theorem State.takeStamp_rdata (s : State) (p : Nat) : (s.takeStamp p).rdata = s.rdata := by unfold State.takeStamp; split <;> simp

/-! ### tookStamp -/

@[simp] theorem State.tookStamp_pending (s : State) (p : Nat) (x : Option Nat) : (s.tookStamp p x).pending = s.pending := by unfold State.tookStamp; split <;> simp

@[simp] theorem State.tookStamp_regs (s : State) (p : Nat) (x : Option Nat) : (s.tookStamp p x).regs = s.regs := by unfold State.tookStamp; split <;> simp

@[simp] theorem State.tookStamp_tickW (s : State) (p : Nat) (x : Option Nat) : (s.tookStamp p x).tickW = s.tickW := by unfold State.tookStamp; split <;> simp

@[simp] theorem State.tookStamp_staged (s : State) (p : Nat) (x : Option Nat) : (s.tookStamp p x).staged = s.staged := by unfold State.tookStamp; split <;> simp

@[simp] theorem State.tookStamp_commits (s : State) (p : Nat) (x : Option Nat) : (s.tookStamp p x).commits = s.commits := by unfold State.tookStamp; split <;> simp

@[simp] theorem State.tookStamp_freeCtr (s : State) (p : Nat) (x : Option Nat) : (s.tookStamp p x).freeCtr = s.freeCtr := by unfold State.tookStamp; split <;> simp

@[simp] theorem State.tookStamp_pwr (s : State) (p : Nat) (x : Option Nat) : (s.tookStamp p x).pwr = s.pwr := by unfold State.tookStamp; split <;> simp

@[simp] theorem State.tookStamp_log (s : State) (p : Nat) (x : Option Nat) : (s.tookStamp p x).log = s.log := by unfold State.tookStamp; split <;> simp

@[simp] theorem State.tookStamp_alm (s : State) (p : Nat) (x : Option Nat) : (s.tookStamp p x).alm = s.alm := by unfold State.tookStamp; split <;> simp

@[simp] theorem State.tookStamp_rep (s : State) (p : Nat) (x : Option Nat) : (s.tookStamp p x).rep = s.rep := by unfold State.tookStamp; split <;> simp

@[simp] theorem State.tookStamp_spd (s : State) (p : Nat) (x : Option Nat) : (s.tookStamp p x).spd = s.spd := by unfold State.tookStamp; split <;> simp

@[simp] theorem State.tookStamp_mrd (s : State) (p : Nat) (x : Option Nat) : (s.tookStamp p x).mrd = s.mrd := by unfold State.tookStamp; split <;> simp

@[simp] theorem State.tookStamp_hlm (s : State) (p : Nat) (x : Option Nat) : (s.tookStamp p x).hlm = s.hlm := by unfold State.tookStamp; split <;> simp

@[simp] theorem State.tookStamp_dio (s : State) (p : Nat) (x : Option Nat) : (s.tookStamp p x).dio = s.dio := by unfold State.tookStamp; split <;> simp

@[simp] theorem State.tookStamp_plt (s : State) (p : Nat) (x : Option Nat) : (s.tookStamp p x).plt = s.plt := by unfold State.tookStamp; split <;> simp

@[simp] theorem State.tookStamp_sxt (s : State) (p : Nat) (x : Option Nat) : (s.tookStamp p x).sxt = s.sxt := by unfold State.tookStamp; split <;> simp

@[simp] theorem State.tookStamp_lkt (s : State) (p : Nat) (x : Option Nat) : (s.tookStamp p x).lkt = s.lkt := by unfold State.tookStamp; split <;> simp

@[simp] theorem State.tookStamp_bus (s : State) (p : Nat) (x : Option Nat) : (s.tookStamp p x).bus = s.bus := by unfold State.tookStamp; split <;> simp

@[simp] theorem State.tookStamp_hsi (s : State) (p : Nat) (x : Option Nat) : (s.tookStamp p x).hsi = s.hsi := by unfold State.tookStamp; split <;> simp

@[simp] theorem State.tookStamp_nor (s : State) (p : Nat) (x : Option Nat) : (s.tookStamp p x).nor = s.nor := by unfold State.tookStamp; split <;> simp

@[simp] theorem State.tookStamp_upd (s : State) (p : Nat) (x : Option Nat) : (s.tookStamp p x).upd = s.upd := by unfold State.tookStamp; split <;> simp

@[simp] theorem State.tookStamp_bin (s : State) (p : Nat) (x : Option Nat) : (s.tookStamp p x).bin = s.bin := by unfold State.tookStamp; split <;> simp

@[simp] theorem State.tookStamp_rings (s : State) (p : Nat) (x : Option Nat) : (s.tookStamp p x).rings = s.rings := by unfold State.tookStamp; split <;> simp

@[simp] theorem State.tookStamp_rdata (s : State) (p : Nat) (x : Option Nat) : (s.tookStamp p x).rdata = s.rdata := by unfold State.tookStamp; split <;> simp

/-! ### coilTo -/

@[simp] theorem State.coilTo_pending (s : State) (r : Fin 2) (b : Bool) : (s.coilTo r b).pending = s.pending := by unfold State.coilTo; simp only; split_ifs <;> simp

@[simp] theorem State.coilTo_tickW (s : State) (r : Fin 2) (b : Bool) : (s.coilTo r b).tickW = s.tickW := by unfold State.coilTo; simp only; split_ifs <;> simp

@[simp] theorem State.coilTo_staged (s : State) (r : Fin 2) (b : Bool) : (s.coilTo r b).staged = s.staged := by unfold State.coilTo; simp only; split_ifs <;> simp

@[simp] theorem State.coilTo_commits (s : State) (r : Fin 2) (b : Bool) : (s.coilTo r b).commits = s.commits := by unfold State.coilTo; simp only; split_ifs <;> simp

@[simp] theorem State.coilTo_freeCtr (s : State) (r : Fin 2) (b : Bool) : (s.coilTo r b).freeCtr = s.freeCtr := by unfold State.coilTo; simp only; split_ifs <;> simp

@[simp] theorem State.coilTo_chr (s : State) (r : Fin 2) (b : Bool) : (s.coilTo r b).chr = s.chr := by unfold State.coilTo; simp only; split_ifs <;> simp

@[simp] theorem State.coilTo_log (s : State) (r : Fin 2) (b : Bool) : (s.coilTo r b).log = s.log := by unfold State.coilTo; simp only; split_ifs <;> simp

@[simp] theorem State.coilTo_alm (s : State) (r : Fin 2) (b : Bool) : (s.coilTo r b).alm = s.alm := by unfold State.coilTo; simp only; split_ifs <;> simp

@[simp] theorem State.coilTo_rep (s : State) (r : Fin 2) (b : Bool) : (s.coilTo r b).rep = s.rep := by unfold State.coilTo; simp only; split_ifs <;> simp

@[simp] theorem State.coilTo_spd (s : State) (r : Fin 2) (b : Bool) : (s.coilTo r b).spd = s.spd := by unfold State.coilTo; simp only; split_ifs <;> simp

@[simp] theorem State.coilTo_mrd (s : State) (r : Fin 2) (b : Bool) : (s.coilTo r b).mrd = s.mrd := by unfold State.coilTo; simp only; split_ifs <;> simp

@[simp] theorem State.coilTo_hlm (s : State) (r : Fin 2) (b : Bool) : (s.coilTo r b).hlm = s.hlm := by unfold State.coilTo; simp only; split_ifs <;> simp

@[simp] theorem State.coilTo_dio (s : State) (r : Fin 2) (b : Bool) : (s.coilTo r b).dio = s.dio := by unfold State.coilTo; simp only; split_ifs <;> simp

@[simp] theorem State.coilTo_plt (s : State) (r : Fin 2) (b : Bool) : (s.coilTo r b).plt = s.plt := by unfold State.coilTo; simp only; split_ifs <;> simp

@[simp] theorem State.coilTo_sxt (s : State) (r : Fin 2) (b : Bool) : (s.coilTo r b).sxt = s.sxt := by unfold State.coilTo; simp only; split_ifs <;> simp

@[simp] theorem State.coilTo_lkt (s : State) (r : Fin 2) (b : Bool) : (s.coilTo r b).lkt = s.lkt := by unfold State.coilTo; simp only; split_ifs <;> simp

@[simp] theorem State.coilTo_bus (s : State) (r : Fin 2) (b : Bool) : (s.coilTo r b).bus = s.bus := by unfold State.coilTo; simp only; split_ifs <;> simp

@[simp] theorem State.coilTo_hsi (s : State) (r : Fin 2) (b : Bool) : (s.coilTo r b).hsi = s.hsi := by unfold State.coilTo; simp only; split_ifs <;> simp

@[simp] theorem State.coilTo_nor (s : State) (r : Fin 2) (b : Bool) : (s.coilTo r b).nor = s.nor := by unfold State.coilTo; simp only; split_ifs <;> simp

@[simp] theorem State.coilTo_upd (s : State) (r : Fin 2) (b : Bool) : (s.coilTo r b).upd = s.upd := by unfold State.coilTo; simp only; split_ifs <;> simp

@[simp] theorem State.coilTo_bin (s : State) (r : Fin 2) (b : Bool) : (s.coilTo r b).bin = s.bin := by unfold State.coilTo; simp only; split_ifs <;> simp

@[simp] theorem State.coilTo_rings (s : State) (r : Fin 2) (b : Bool) : (s.coilTo r b).rings = s.rings := by unfold State.coilTo; simp only; split_ifs <;> simp

@[simp] theorem State.coilTo_rdata (s : State) (r : Fin 2) (b : Bool) : (s.coilTo r b).rdata = s.rdata := by unfold State.coilTo; simp only; split_ifs <;> simp

/-! ### closeRelays -/

@[simp] theorem State.closeRelays_pending (s : State) : (s.closeRelays).pending = s.pending := by simp [State.closeRelays]

@[simp] theorem State.closeRelays_tickW (s : State) : (s.closeRelays).tickW = s.tickW := by simp [State.closeRelays]

@[simp] theorem State.closeRelays_staged (s : State) : (s.closeRelays).staged = s.staged := by simp [State.closeRelays]

@[simp] theorem State.closeRelays_commits (s : State) : (s.closeRelays).commits = s.commits := by simp [State.closeRelays]

@[simp] theorem State.closeRelays_freeCtr (s : State) : (s.closeRelays).freeCtr = s.freeCtr := by simp [State.closeRelays]

@[simp] theorem State.closeRelays_chr (s : State) : (s.closeRelays).chr = s.chr := by simp [State.closeRelays]

@[simp] theorem State.closeRelays_log (s : State) : (s.closeRelays).log = s.log := by simp [State.closeRelays]

@[simp] theorem State.closeRelays_alm (s : State) : (s.closeRelays).alm = s.alm := by simp [State.closeRelays]

@[simp] theorem State.closeRelays_rep (s : State) : (s.closeRelays).rep = s.rep := by simp [State.closeRelays]

@[simp] theorem State.closeRelays_spd (s : State) : (s.closeRelays).spd = s.spd := by simp [State.closeRelays]

@[simp] theorem State.closeRelays_mrd (s : State) : (s.closeRelays).mrd = s.mrd := by simp [State.closeRelays]

@[simp] theorem State.closeRelays_hlm (s : State) : (s.closeRelays).hlm = s.hlm := by simp [State.closeRelays]

@[simp] theorem State.closeRelays_dio (s : State) : (s.closeRelays).dio = s.dio := by simp [State.closeRelays]

@[simp] theorem State.closeRelays_plt (s : State) : (s.closeRelays).plt = s.plt := by simp [State.closeRelays]

@[simp] theorem State.closeRelays_sxt (s : State) : (s.closeRelays).sxt = s.sxt := by simp [State.closeRelays]

@[simp] theorem State.closeRelays_lkt (s : State) : (s.closeRelays).lkt = s.lkt := by simp [State.closeRelays]

@[simp] theorem State.closeRelays_bus (s : State) : (s.closeRelays).bus = s.bus := by simp [State.closeRelays]

@[simp] theorem State.closeRelays_hsi (s : State) : (s.closeRelays).hsi = s.hsi := by simp [State.closeRelays]

@[simp] theorem State.closeRelays_nor (s : State) : (s.closeRelays).nor = s.nor := by simp [State.closeRelays]

@[simp] theorem State.closeRelays_upd (s : State) : (s.closeRelays).upd = s.upd := by simp [State.closeRelays]

@[simp] theorem State.closeRelays_bin (s : State) : (s.closeRelays).bin = s.bin := by simp [State.closeRelays]

@[simp] theorem State.closeRelays_rings (s : State) : (s.closeRelays).rings = s.rings := by simp [State.closeRelays]

@[simp] theorem State.closeRelays_rdata (s : State) : (s.closeRelays).rdata = s.rdata := by simp [State.closeRelays]

/-! ### Reads after writes -/

/-- A field reads as the value put, in its width; every other reads as before. -/
theorem State.get_put (s : State) (f g : Fld) (v : Nat) :
    (s.put f v).get g = if g.key = f.key then v % 2 ^ f.w else s.get g := by
  unfold State.get State.put
  exact cellGet_cellStore g.key f.key (v % 2 ^ f.w) s.regs

@[simp] theorem State.get_put_same (s : State) (f : Fld) (v : Nat) : (s.put f v).get f = v % 2 ^ f.w := by
  rw [State.get_put, if_pos rfl]

theorem State.get_put_other (s : State) {f g : Fld} (h : g.key ≠ f.key) (v : Nat) : (s.put f v).get g = s.get g := by
  rw [State.get_put, if_neg h]

/-- Fields put one after another leave every field outside them as it was. -/
theorem State.get_puts_other (s : State) (l : List (Fld × Nat)) (g : Fld) (h : ∀ e ∈ l, g.key ≠ e.1.key) :
    (s.puts l).get g = s.get g := by
  induction l generalizing s with
  | nil => rfl
  | cons e l ih =>
    rw [State.puts, ih _ fun x hx => h x (List.mem_cons_of_mem _ hx), State.get_put_other]
    exact h e List.mem_cons_self

/-- A value that `get` answers depends on the register file alone. -/
theorem State.get_congr {s t : State} (h : s.regs = t.regs) (f : Fld) : s.get f = t.get f := by
  unfold State.get; rw [h]

/-- A put changes its own field alone. -/
theorem onlyRegs_put (s : State) (f : Fld) (v : Nat) : OnlyRegs [f] s (s.put f v) := by
  refine ⟨fun g hg => State.get_put_other s (by simpa using hg) v, rfl⟩

/-- Puts change the register file alone. -/
theorem State.puts_eq (s : State) (l : List (Fld × Nat)) : s.puts l = { s with regs := (s.puts l).regs } := by
  induction l generalizing s with | nil => rfl | cons e l ih => rw [State.puts, ih]; rfl

/-- Puts change their own fields alone. -/
theorem onlyRegs_puts (s : State) (l : List (Fld × Nat)) : OnlyRegs (l.map (·.1)) s (s.puts l) := by
  refine ⟨fun g hg => State.get_puts_other s l g fun e he hk => hg ?_, State.puts_eq s l⟩
  rw [hk, List.map_map]; exact List.mem_map.2 ⟨e, he, rfl⟩

theorem onlyRegs_refl (ks : List Fld) (s : State) : OnlyRegs ks s s := ⟨fun _ _ => rfl, rfl⟩

/-- What two updates leave alone, both together leave alone. -/
theorem onlyRegs_trans {ks ls : List Fld} {s t u : State} (h : OnlyRegs ks s t) (g : OnlyRegs ls t u) :
    OnlyRegs (ks ++ ls) s u := by
  refine ⟨fun f hf => ?_, ?_⟩
  · rw [List.map_append, List.mem_append, not_or] at hf
    rw [g.1 f hf.2, h.1 f hf.1]
  · rw [g.2, h.2]

theorem onlyRegs_mono {ks ls : List Fld} {s t : State} (h : OnlyRegs ks s t) (hs : ∀ f ∈ ks, f ∈ ls) :
    OnlyRegs ls s t := by
  refine ⟨fun f hf => h.1 f fun hk => hf ?_, h.2⟩
  obtain ⟨x, hx, he⟩ := List.mem_map.1 hk
  exact List.mem_map.2 ⟨x, hs x hx, he⟩

end Sys2Proof.Machine
end

