-- ==== Sys2Proof/Laws/Ops.lean ====
section
/-! SUPPORT. What the shared operations do, said once: events and the Logbook, relays, and the canonical form that every
update of the register file keeps. -/

namespace Sys2Proof.Machine

/-! ### Events -/

/-- A record that joins the queue changes the Logbook and its count of lost records alone. -/
theorem State.enqueue_cases (s : State) (r : LogRec) :
    (s.log.queue.length < 256 ∧ s.enqueue r = { s with log.queue := s.log.queue ++ [r] }) ∨
    (256 ≤ s.log.queue.length ∧ s.enqueue r = { s.bump R.LOG_LOST_VALUE with
      log.lostSince := s.log.lostSince + 1, log.lostEver := min (s.log.lostEver + 1) (2 ^ 32 - 1) }) := by
  unfold State.enqueue
  split_ifs with h
  · exact .inl ⟨h, rfl⟩
  · exact .inr ⟨by omega, rfl⟩

/-- An event that is raised joins the queue, is held by the PWR domain, or leaves the state as it was. -/
theorem State.raiseE_cases (s : State) (esc : Bool) (c : Nat) (ps : List Nat) :
    (s.log.up = true ∧ s.masked c (severity c ps) = false ∧
      s.raiseE esc c ps = s.enqueue (s.mkRec c (severity c ps) ps esc false)) ∨
    (s.log.up = false ∧ s.raiseE esc c ps = { s with pwr.held := holdEvent c (params4 ps) s.pwr.held }) ∨
    s.raiseE esc c ps = s := by
  unfold State.raiseE
  split_ifs with h1 h2 h3
  · exact .inr (.inr rfl)
  · exact .inl ⟨h1, by simpa using h2, rfl⟩
  · exact .inr (.inl ⟨by simpa using h1, rfl⟩)
  · exact .inr (.inr rfl)

theorem State.get_enqueue (s : State) (r : LogRec) {f : Fld} (h : f.key ≠ R.LOG_LOST_VALUE.key) :
    (s.enqueue r).get f = s.get f := by
  rcases s.enqueue_cases r with ⟨_, e⟩ | ⟨_, e⟩ <;> rw [e]
  · rfl
  · exact State.get_put_other s h _

theorem State.get_raiseE (s : State) (esc : Bool) (c : Nat) (ps : List Nat) {f : Fld}
    (h : f.key ≠ R.LOG_LOST_VALUE.key) : (s.raiseE esc c ps).get f = s.get f := by
  rcases s.raiseE_cases esc c ps with ⟨_, _, e⟩ | ⟨_, e⟩ | e <;> rw [e]
  · exact State.get_enqueue s _ h
  · rfl

theorem State.get_raise (s : State) (c : Nat) (ps : List Nat) {f : Fld} (h : f.key ≠ R.LOG_LOST_VALUE.key) :
    (s.raise c ps).get f = s.get f := State.get_raiseE s false c ps h

theorem State.get_sysRec (s : State) (c : Nat) (ps : List Nat) {f : Fld} (h : f.key ≠ R.LOG_LOST_VALUE.key) :
    (s.sysRec c ps).get f = s.get f := by
  unfold State.sysRec
  split_ifs
  · exact State.get_enqueue s _ h
  · rfl

@[simp] theorem State.mode_raise (s : State) (c : Nat) (ps : List Nat) : (s.raise c ps).mode = s.mode :=
  State.get_raise s c ps (by decide)

@[simp] theorem State.mode_sysRec (s : State) (c : Nat) (ps : List Nat) : (s.sysRec c ps).mode = s.mode :=
  State.get_sysRec s c ps (by decide)

theorem onlyLogged_enqueue (s : State) (r : LogRec) : OnlyLogged [] s (s.enqueue r) := by
  refine ⟨fun f hf => State.get_enqueue s r (by simpa using hf), ?_⟩
  rcases s.enqueue_cases r with ⟨_, e⟩ | ⟨_, e⟩ <;> rw [e] <;> rfl

/-- Raising an event changes the Logbook and what the PWR domain holds alone. -/
theorem onlyLogged_raise (s : State) (c : Nat) (ps : List Nat) : OnlyLogged [] s (s.raise c ps) := by
  refine ⟨fun f hf => State.get_raise s c ps (by simpa using hf), ?_⟩
  rcases s.raiseE_cases false c ps with ⟨_, _, e⟩ | ⟨_, e⟩ | e <;> rw [State.raise, e]
  · exact (onlyLogged_enqueue s _).2

/-- An event that passes its mask joins a queue with room. -/
theorem logGains_raise (s : State) (c : Nat) (ps : List Nat) : LogGains c ps s (s.raise c ps) := by
  intro h1 h2 h3
  unfold State.raise State.raiseE
  simp only [h1, h2, if_true]
  unfold State.enqueue
  rw [if_neg (by simp), if_pos h3]

theorem onlyLogged_of_regs {ks : List Fld} {s t : State} (h : OnlyRegs ks s t) : OnlyLogged ks s t := by
  refine ⟨fun f hf => h.1 f fun hk => hf ?_, ?_⟩
  · rw [List.map_cons]; exact List.mem_cons_of_mem _ hk
  · rw [h.2]

theorem onlyLogged_trans {ks ls : List Fld} {s t u : State} (h : OnlyLogged ks s t) (g : OnlyLogged ls t u) :
    OnlyLogged (ks ++ ls) s u := by
  refine ⟨fun f hf => ?_, ?_⟩
  · simp only [List.map_cons, List.map_append, List.mem_cons, List.mem_append, not_or] at hf
    rw [g.1 f (by simp only [List.map_cons, List.mem_cons, not_or]; exact ⟨hf.1, hf.2.2⟩),
      h.1 f (by simp only [List.map_cons, List.mem_cons, not_or]; exact ⟨hf.1, hf.2.1⟩)]
  · rw [g.2, h.2]

theorem onlyLogged_mono {ks ls : List Fld} {s t : State} (h : OnlyLogged ks s t) (hs : ∀ f ∈ ks, f ∈ ls) :
    OnlyLogged ls s t := by
  refine ⟨fun f hf => h.1 f fun hk => hf ?_, h.2⟩
  simp only [List.map_cons, List.mem_cons] at hk ⊢
  rcases hk with hk | hk
  · exact .inl hk
  · obtain ⟨x, hx, he⟩ := List.mem_map.1 hk
    exact .inr (List.mem_map.2 ⟨x, hs x hx, he⟩)

theorem severity_ite {c : Prop} [Decidable c] {a b : Nat} (ha : a ≤ 4) (hb : b ≤ 4) : (if c then a else b) ≤ 4 := by
  split <;> assumption

theorem severity_getD (l : List Nat) (i : Nat) (h : ∀ x ∈ l, x ≤ 4) : l.getD i 0 ≤ 4 := by
  rw [List.getD_eq_getElem?_getD]
  cases hx : l[i]? with
  | none => exact Nat.zero_le 4
  | some x => exact h x (List.mem_of_getElem? hx)

/-- The severities of Table 16.2 are 0 to 4. -/
theorem severity_le (code : Nat) (ps : List Nat) : severity code ps ≤ 4 := by
  unfold severity
  repeat' first
    | apply severity_ite
    | exact severity_getD _ _ (by decide)
    | decide

/-! ### The canonical form -/

theorem canonical_put {s : State} (h : s.Canonical) (f : Fld) (v : Nat) : (s.put f v).Canonical :=
  ⟨cellsWf_cellStore h.1 _ _, h.2⟩

theorem canonical_puts {s : State} (h : s.Canonical) (l : List (Fld × Nat)) : (s.puts l).Canonical := by
  induction l generalizing s with
  | nil => exact h
  | cons e l ih => exact ih (canonical_put h _ _)

theorem canonical_cfgPut {s : State} (h : s.Canonical) (t i off : Nat) (l : List Nat) :
    (s.cfgPut t i off l).Canonical := by
  induction l generalizing s off with
  | nil => exact h
  | cons e l ih => exact ih (canonical_put h _ _) _

/-- The canonical form depends on the register file and the scratchpad alone. -/
theorem canonical_congr {s t : State} (h : s.Canonical) (hr : t.regs = s.regs) (hm : t.spd.mem = s.spd.mem)
    (hh : t.spd.hold = s.spd.hold) : t.Canonical := by
  unfold State.Canonical at *
  rw [hr, hm, hh]
  exact h

/-- A byte of the scratchpad written keeps the canonical form, in the holding buffer or not. -/
theorem canonical_spdSet {s : State} (h : s.Canonical) (p : Nat) (b : BitVec 8) : (s.spdSet p b).Canonical := by
  obtain ⟨hr, hm, hh⟩ := h
  unfold State.spdSet
  cases e : s.heldPlace p with
  | none => exact ⟨hr, memWf_spdStore hm _ _, hh⟩
  | some x =>
    obtain ⟨hx, hin⟩ := Option.filter_eq_some_iff.mp e
    rw [hx] at hh
    simp only [Option.all_some, HeldRow.wf, Bool.and_eq_true] at hh
    refine ⟨hr, hm, ?_⟩
    simp only [Option.all_some, HeldRow.wf, Bool.and_eq_true]
    refine ⟨memWf_spdStore hh.1 _ _, List.all_eq_true.mpr fun c hc => ?_⟩
    rcases mem_spdStore hc with ⟨rfl, _⟩ | hc
    · exact hin
    · exact List.all_eq_true.mp hh.2 c hc

theorem canonical_spdWrite {s : State} (h : s.Canonical) (a n v : Nat) : (s.spdWrite a n v).Canonical := by
  induction n generalizing s a v with
  | zero => exact h
  | succ n ih => exact ih (canonical_spdSet h _ _) _ _

/-- Bytes stored one after another keep the canonical form. -/
theorem memWf_foldl_spdStore (l : List Host.Cell) {m : List Host.Cell} (h : memWf m = true) :
    memWf (l.foldl (fun m c => spdStore c.1 c.2 m) m) = true := by
  induction l generalizing m with
  | nil => exact h
  | cons c l ih => exact ih (memWf_spdStore h _ _)

/-- The write-back of the holding buffer keeps the canonical form. -/
theorem canonical_releaseRow {s : State} (h : s.Canonical) : s.releaseRow.Canonical := by
  unfold State.releaseRow
  split
  · exact h
  · exact ⟨h.1, memWf_foldl_spdStore _ (memWf_filter h.2.1 _), rfl⟩

/-- A row taken into the holding buffer keeps the canonical form. -/
theorem canonical_holdRow {s : State} (h : s.Canonical) (bank row : Nat) : (s.holdRow bank row).Canonical := by
  have h := canonical_releaseRow h
  refine ⟨h.1, h.2.1, ?_⟩
  simp only [State.holdRow, Option.all_some, HeldRow.wf, Bool.and_eq_true]
  exact ⟨memWf_filter h.2.1 _, List.all_eq_true.mpr fun c hc => (List.mem_filter.mp hc).2⟩

/-- A row copied into a spare keeps the canonical form. -/
theorem canonical_copyRow {s : State} (h : s.Canonical) (bank r sp : Nat) : (s.copyRow bank r sp).Canonical :=
  ⟨h.1, memWf_foldl_spdStore _ (memWf_filter h.2.1 _), h.2.2⟩

theorem canonical_enqueue {s : State} (h : s.Canonical) (r : LogRec) : (s.enqueue r).Canonical := by
  rcases s.enqueue_cases r with ⟨_, e⟩ | ⟨_, e⟩ <;> rw [e]
  · exact h
  · exact canonical_put h _ _

theorem canonical_raiseE {s : State} (h : s.Canonical) (e : Bool) (c : Nat) (ps : List Nat) :
    (s.raiseE e c ps).Canonical := by
  rcases s.raiseE_cases e c ps with ⟨_, _, e⟩ | ⟨_, e⟩ | e <;> rw [e]
  · exact canonical_enqueue h _
  · exact h
  · exact h

theorem canonical_raise {s : State} (h : s.Canonical) (c : Nat) (ps : List Nat) : (s.raise c ps).Canonical :=
  canonical_raiseE h false c ps

theorem canonical_logWrite {s : State} (h : s.Canonical) (r : LogRec) : (s.logWrite r).Canonical := by
  simp only [State.logWrite]
  generalize (if r.held = true then _ else r) = q
  split_ifs
  · exact canonical_put h _ _
  · exact h

theorem canonical_logFlush {s : State} (h : s.Canonical) : s.logFlush.Canonical := by
  have : ∀ (l : List LogRec) (t : State), t.Canonical → (l.foldl State.logWrite t).Canonical := by
    intro l
    induction l with
    | nil => exact fun _ h => h
    | cons r l ih => exact fun t h => ih _ (canonical_logWrite h r)
  exact this _ s h

theorem canonical_logDrain {s : State} (h : s.Canonical) : s.logDrain.Canonical := by
  simp only [State.logDrain]
  split_ifs
  · exact canonical_logFlush h
  · apply canonical_logFlush
    apply canonical_raise
    exact canonical_logFlush (s := s) h

end Sys2Proof.Machine
end

