-- ==== Sys2Proof/WellFormed.lean ====
section
/-! DEFINITION. Which commands can come from outside as the spec lays out what they carry: numbers within their field's
width, lists of the length their table gives, aligned addresses. A request of the HSI with an operand out of range is
well-formed: the spec gives its refusal. -/

namespace Sys2Proof

/-! ### Fields -/

/-- A number of `w` bits. -/
def fits (w n : Nat) : Bool := decide (n < 2 ^ w)

/-- A signed number of `w` bits. -/
def sfits (w : Nat) (v : Int) : Bool := decide (-(2 ^ (w - 1) : Int) ≤ v ∧ v < (2 ^ (w - 1) : Int))

/-- Bytes. -/
def bytesOk (l : List Nat) : Bool := l.all fun b => fits 8 b

/-- A stamp, where there is one: 64 bits (R89, R94). -/
def stampOk (x : Option Nat) : Bool := x.all fun t => fits 64 t

/-! ### What commands carry -/

/-- Table 6.4: 24 analogue inputs. -/
def AiSample.wf (x : AiSample) : Bool := decide (x.n < 24)

/-- R177, Tables 1.16, 6.11, 14.6: six IMU values, sixteen PC outputs, each analogue input at most once. -/
def TickIn.wf (x : TickIn) : Bool :=
  x.ai.all AiSample.wf && decide ((x.ai.map (·.n)).Nodup) && decide (x.imu.length = 6) && x.imu.all (sfits 32) &&
    decide (x.pcUa.length = 16) && fits 16 x.pcFull && fits 16 x.vlcdMv

/-- Tables 2.8, 10.2, 12.1: rows of 32 banks and 160 rows, slices of eight groups, four cells and five positions, sixteen
PC outputs. -/
def ProveIn.wf (x : ProveIn) : Bool :=
  (x.badRows.all fun r => decide (r.1 < 32 ∧ r.2.1 < 160)) &&
    (x.badSlices.all fun r => decide (r.1 < 8 ∧ r.2.1 < 4 ∧ r.2.2 < 5)) && fits 16 x.pcFaulty

/-- Table 4.4. -/
def RingSlot.wf (x : RingSlot) : Bool :=
  fits 6 x.addr && fits 2 x.kind && fits 8 x.status && bytesOk x.payload &&
    decide (x.payload.length ≤ 1024 ∧ x.payload.length % 4 = 0) && fits 32 x.crc

/-- Table 4.3. -/
def RingAnn.wf (x : RingAnn) : Bool := decide (x.type < 5) && fits 8 x.seq && fits 48 x.tick && fits 64 x.arg

/-- Table 4.6. -/
def RingMail.wf (x : RingMail) : Bool :=
  fits 6 x.addr && fits 8 x.op && fits 8 x.seq && fits 16 x.status && bytesOk x.payload && decide (x.payload.length ≤ 1024) &&
    fits 16 x.len && fits 32 x.crc

/-- Tables 4.2 to 4.6: a D-pass has eight announcement entries, a C-pass none. -/
def RingFrame.wf (x : RingFrame) : Bool :=
  decide (1 ≤ x.ftype ∧ x.ftype ≤ 3 ∧ x.dir < 2 ∧ x.origin < 2 ∧ x.tai < 2) && fits 3 x.mode && fits 16 x.mapver &&
    fits 48 x.tick && fits 64 x.mtLaunch && fits 32 x.acc && fits 8 x.hops && fits 16 x.len && fits 8 x.nslot && fits 32 x.hcrc &&
    decide (x.slots.length ≤ 64) && x.slots.all RingSlot.wf && decide (x.ann.length = if x.ftype = 2 then 8 else 0) &&
    x.ann.all RingAnn.wf && fits 32 x.annCrc && x.mail.wf

/-- Table 4.7. -/
def ProbeFrame.wf (x : ProbeFrame) : Bool := fits 8 x.ftype && fits 8 x.seq && fits 32 x.turn && fits 32 x.crc

/-- R140, R166: a sample is at most a slot's payload, and blocks are of 64 bytes. -/
def NodeSample.wf (x : NodeSample) : Bool :=
  bytesOk x.payload && decide (x.payload.length ≤ 1024) && bytesOk x.blocks && decide (x.blocks.length % 64 = 0)

/-- Table 4.15. -/
def IdentReply.wf (x : IdentReply) : Bool :=
  fits 32 x.vendor && fits 32 x.product && fits 16 x.hwRev && fits 16 x.bootRev && fits 16 x.fwdCw && fits 16 x.fwdCcw &&
    fits 16 x.ready && fits 16 x.cLen && fits 16 x.dLen && fits 3 x.flags && fits 8 x.nchan && fits 8 x.hopsCw &&
    fits 8 x.hopsCcw && fits 16 x.capacity && bytesOk x.digest && decide (x.digest.length ≤ 32)

/-- Table 10.3. -/
def SpdReader.wf : SpdReader → Bool
  | .helmState ch => fits 7 ch
  | .helmInput ch slot => fits 7 ch && fits 2 slot
  | .dSlot st | .inputTable st => fits 6 st
  | .mailbox word => fits 16 word
  | .plotter tag => fits 9 tag
  | .sextant pipe => fits 2 pipe
  | .lookout | .pilot | .debug | .scrubber => true

/-- R389, R392: the DRAM's 16 GiB, read by the data plane, the Pilot, the HSI or a debug access. -/
def DramUse.wf (x : DramUse) : Bool :=
  fits 34 x.addr && x.rd.wf && (match x.rd with
    | .plotter _ | .sextant _ | .lookout | .pilot | .debug => true
    | .helmState _ | .helmInput _ _ | .dSlot _ | .inputTable _ | .mailbox _ | .scrubber => false)

/-- R268: a time of day is less than a day and a leap second. -/
def Nmea.wf : Nmea → Bool
  | .gga tod _ _ _ _ _ | .rmc tod _ _ _ _ | .gst tod _ _ _ | .zda tod _ => decide (tod < 86401000)
  | .hdt hdg => decide (hdg ≤ 6283185)
  | .other => true

/-- R508, Table 8.3: entries of 64 bytes. -/
def FleetMsg.wf (f : FleetMsg) : Bool :=
  stampOk f.stamp && f.entries.all fun e => decide (e.length = 64) && bytesOk e

/-- Table 9.1: VC 0 to 15, a data type of six bits, a payload of bytes. -/
def LinePkt.wf (k : LinePkt) : Bool := fits 4 k.vc && fits 6 k.dt && bytesOk k.data

/-- R402: a base identifier leaves bits 17 to 0 at 0; a classic frame carries up to 8 bytes, an FD frame up to 64 and is no
remote frame; a remote frame carries none. -/
def CanFrame.wf (f : CanFrame) : Bool :=
  fits 29 f.id && (f.xtd || decide (f.id % 2 ^ 18 = 0)) && fits 4 f.dlc && bytesOk f.data &&
    decide (f.data.length ≤ if f.fdf then 64 else 8) && !(f.remote && f.fdf) && (!f.remote || f.data.isEmpty)

/-- R412, Table 11.2: LEC has three bits. -/
def TxEnd.wf : TxEnd → Bool
  | .started | .lost => true
  | .failed lec _ => fits 3 lec
  | .sent st => stampOk st

/-! ### Commands -/

/-- The command's operands have the shape that the spec gives them. -/
def Instr.wf : Instr → Bool
  | .proveComplete r => r.wf
  | .tickEdge x => x.wf
  | .registerWrite addr _ => fits 40 addr && decide (addr % 4 = 0)
  | .ppsEdge _ raw => fits 64 (raw.getD 0)
  | .gptpSync _ rx origin => fits 64 (rx.getD 0) && fits 64 origin
  | .stamp _ t => fits 64 t
  | .passReceive f _ => f.wf
  | .frameForward _ f x _ rx => f.wf && x.wf && fits 64 (rx.getD 0)
  | .ident _ r => r.wf
  | .snapRead _ _ first _ => fits 8 first
  | .probeReceive _ _ f turn => f.wf && fits 32 turn
  | .replyReceive _ _ t1 t4 f => fits 64 (t1.getD 0) && fits 64 (t4.getD 0) && f.wf
  | .computationStart _ ai => ai.all AiSample.wf
  | .pulseEdge _ e => fits 64 (e.stamp.getD 0)
  | .dioEdge _ _ t _ => fits 64 (t.getD 0)
  | .nmeaSentence _ st _ _ x => stampOk st && x.wf
  | .gnssBinaryFrame _ _ st bs => stampOk st && decide (bs.length ≤ 68) && bs.all (· < 256)
  | .fleetMessage f => f.wf
  | .frameStart _ k st => fits 4 k.vc && stampOk st
  | .frameEnd _ k => fits 4 k.vc && stampOk k.stamp
  | .linePacket _ k => k.wf
  | .encodeAccessUnit _ au => bytesOk au
  | .atomicAdd32 _ w _ _ _ | .atomicAdd64 _ w _ _ | .atomicSwap32 _ w _ _ _ | .atomicSwap64 _ w _ _ => fits 20 w
  | .scratchpadError _ _ _ rd => rd.wf
  | .dramEccError _ use => use.wf
  | .canRxFrame _ f st => f.wf && stampOk st
  | .rxoLockRead _ _ m | .rxoReleaseRead _ _ m => fits 3 m
  | .canTxAttemptEnd _ r => r.wf
  | .sensorDatagram _ _ _ st bs => stampOk st && bytesOk bs
  | .icmpEcho _ _ bs => bytesOk bs
  | .setWrite _ _ _ _ bs | .updData _ _ bs => bytesOk bs
  | .canTx _ _ l => l.all fun e => decide (e.length = 18)
  | .tokenGrant _ _ _ sig => decide (sig.length = 64)
  | .gptpAnnounce _ prio _ => decide (prio.length = 5) && prio.all (fits 16)
  | .ubApply _ | .ubLevelChange _ | .cameraShedOvervoltage | .overvoltageShutdown | .powerFailure
  | .cameraSupplyReturn | .ignChange _ _ | .shutdownRequest | .standstillReached | .standstillWaitReport | .powerDown
  | .xrstAssert | .resetRelease _ | .loadComplete _ | .listenEnd _ | .cwInsertionComplete | .cwInsertionTimeout
  | .keClose | .relayCheck _ _ _ | .relayCutEnd _ | .relayCommand _ _ | .relayHeldRelease _ | .modOkToggle
  | .uvLoss _ | .uvRestore _ | .tempMeasure _ _ | .sensorSupplyTrip _ | .sensorSupplyRetry _ _ | .sensFaultClear _
  | .cameraSupplyTrip _ | .cameraSupplyRetry _ _ | .camFaultClear _ | .watchdogExpiry | .lockstepMismatch
  | .commit _ _ | .commitApply _ | .chrMt64LoRead _ _ | .chrTickLoRead _ | .chrXingRead | .snapArm _ _ | .snapFire _
  | .timeOfDay _ | .gptpPdelayReq | .gptpReceiptTimeout _ | .referenceLost | .holdoverExpiry | .sourceSwitch _
  | .mt64Step | .xingPulse _ _ | .xingAckTimeout _ | .clockFailure | .pllPUnlock | .pllCUnlock | .pllCRelock
  | .pllDUnlock | .cPassLaunch | .dSlotTake | .dPassLaunch | .cSlotCollect | .stationOutputApply _ | .stationSafe _
  | .noPassTimeout _ | .stationReset _ | .probe _ _
  | .ringLinkDown _ | .inputDead _ | .inputAlive _ | .takeover | .identTimeout _ | .loadBegin _ | .loadData _
  | .loadEnd _ | .run _ _ | .stats _ | .mrdErrARead | .mrdErrBRead | .computationEnd _ | .outputApply _ | .overrun _
  | .channelReset _ | .channelResetEnd _ | .groupReset _ | .groupResetEnd _ | .broadcast _ _ _ | .broadcastAct
  | .timetableRebuild _ | .fallbackCompute _ | .fallbackApply _ | .autoRequest _ | .manRequest _ | .hlmOvrRead _
  | .pwmPeriodStart _ | .coilEstimate _ _ _ _ | .pcOvercurrent _ | .pcOcClear _ | .aiCalibrationDone _ _
  | .aiModulatorTakeover _ _ | .aiBurdenDisconnect _ | .aiBurdenClear _ | .pulseTimeout _ | .dioOvercurrent _
  | .dioOfltClear _ | .gnssFixComplete _ _ | .gnssFixTimeout _ | .sourceTimeout _ | .productCutoff _
  | .plotterJobComplete _ | .productRelease _ | .outputMissed _ | .mailboxExpiry _ | .plotterStop | .pltJobsRead
  | .pltCntMissedRead | .pltCntLateRead | .pltCntDropRead | .pltCntRevdropRead | .pltVsCntRead | .pltSrcCntRead _
  | .trackUpdate _ | .fleetShare | .fleetFragmentTimeout _ | .machineTrackTimeout _ | .pltTrkCntRead | .yieldStep _
  | .tankClose | .tankZero | .tankSpan | .tankCalComplete | .pltYldCntRead | .cameraLinkLoss _ | .cameraTrained _
  | .cameraRetrain _ | .frameTimeout _ | .cameraTrigger _ | .triggerMissed _ | .blockStart _ | .blockComplete _ _
  | .pipelinePause _ | .sxtPortCntRead _ | .sxtPortPerrRead _ | .sxtPortHwmRead _ | .sxtEncDropRead _
  | .lookoutJobStart | .lookoutJobComplete _ | .lookoutJobAbort _ | .lookoutPause | .lktCntRead | .scrubStep _ _
  | .rowRemap _ _ | .marchPreserving _ _ _ | .marchDestructive _ _ _ | .marchEnd _ | .spdConfRead _
  | .spdBankHealthRead _ | .fabricTimeout _ _ | .fabStatusRead | .fabErrRead | .fabClassRead _
  | .nvmOperationFail _ _ _ | .rxoLockTimeout _ _ | .txobjSubmit _ _ | .txMaxExpiry _ | .requeue _ | .txAbort _
  | .busStop _ | .busStart _ | .busRecover _ | .busOffRecovered _ | .addressClaim _ | .addressClaimWaitEnd _
  | .dm1Transmit _ | .tpSessionTimeout _ _ _ | .busCnt0Read _ | .busCnt1Read _ | .busTxoStatRead _ _
  | .sliceResidueError _ _ _ | .ringPortError _ | .soundingStart _ | .soundingResult _ _ | .sliceRejoin _ _
  | .dataPlaneStall _ | .logRecordWrite | .logLostRead | .logMergedRead | .repSoundingWest | .repSoundingEast
  | .repSoundingSlice _ | .deltaCheck | .applyComplete _ | .stagingExamine | .waypointLock | .waypointEdge
  | .settingsWrite _ | .binFrameStart _ _ _ | .binSlot | .binPumpRetry _ | .binOutFltClear _ | .binCrackClear _ _
  | .binPumpFltClear | .statusGet _ | .statusSub _ _ _ | .statusPush _ _ | .setpoint _ _ | .mailbox _ _ | .am _ _ _ _
  | .mode _ _ | .reset _ | .shutdown _ | .regRead _ _ | .regWrite _ _ | .logRead _ _ _ | .logWrite _ _ _
  | .tileList _ _ | .tileRead _ _ _ _ _ | .tileAck _ _ _ _ | .ringRead _ _ _ _ | .streamSub _ _ _ _ _
  | .streamPush _ _ _ | .subscriptionExpiry | .canSub _ _ _ | .dtcSet _ _ _ | .setRead _ _ _ | .updBegin _ _
  | .updEnd _ | .updAbort _ | .updArm _ _ | .updDisarm _ | .updConfirm _ | .updRollback _ | .ringReset _ _ _
  | .svcDrive _ _ _ _ | .tokenReq _ | .tokenDrop _ | .tokenExpiry | .arpRequest _ _ | .hsiCnt0Read | .hsiCnt1Read
  | .hsiCnt2Read | .holdUpEnd | .ringLinkUp _ | .ethLinkChange _ _ | .canBusError _ _ _ | .busIntegrationComplete _
  | .gptpPdelayResp _ _ | .badDatagram _ _ _ => true

end Sys2Proof
end

