-- ==== Sys2Proof/Tests/Slice0.lean ====
section
/-! SUPPORT. Tests: an ill-formed term for each check of WellFormed; for each statement of
Certificates/Slice0/Obligations.lean a theorem `witness_<Name>` with concrete states that meet its hypotheses, clause by
clause; and single steps whose results the spec gives. -/

namespace Sys2Proof.Tests

open Sys2Proof Sys2Proof.Machine

/-! ### Small states -/

/-- The module in a mode, its Logbook up. -/
def inM (m : Nat) : State := { State.reset.put R.ALM_MODE_MODE m with log.up := true }

/-- A record with some bytes of its body. -/
def withRec (s : State) (t i : Nat) (bs : List (Nat × Nat)) : State :=
  bs.foldl (fun s b => s.put (recByte t i b.1) b.2) { s with alm.present := (t, i) :: s.alm.present }

/-- A request header: from host 1.2.3.4 on the service port, SEQ 7, with the token `k`. -/
def hdr (k : Nat := 0) : HsiHdr :=
  { eth := 2, ip := 0x01020304, port := 5000, seq := 7, token := BitVec.ofNat 64 k, phase := 100 }

/-- A state that holds the token 9 for the host of `hdr`. -/
def withTok (s : State) : State := { s with hsi.token := some ⟨9, 0x01020304, 5000, 1000000, 0⟩ }

/-- A tick's measurements. -/
def tickIn : TickIn :=
  { ubMv := 24000, uvMv := 24000, ai := [], imu := [0, 0, 0, 0, 0, 0], imuFault := false, pcUa := List.replicate 16 0
    pcFull := 0, ntcOhm := 10000, vlcdMv := 5000 }

/-- An announcement-free C-pass of S0. -/
def pass : RingFrame := { ftype := 1, dir := 0 }

/-- A launcher of station 0 with one declared node at address 2, in its C-slot order. -/
def ring (m : Nat) : State :=
  (((((withRec (inM m) 0x0201 2 [(0x12, 1), (0x13, 1)]).put R.MRD_STATUS_INSERT 3).put R.MRD_STATUS_LAUNCH 1).put
    (R.MRD_CSLOT_EN 2) 1).put (R.MRD_CSLOT_LEN 2) 8)

theorem ring_shaped (m : Nat) : (ring m).Shaped :=
  by and_intros <;> rfl

/-! ### Ill-formed terms -/

theorem test_wf_bytes : bytesOk [255] = true ∧ bytesOk [256] = false := by decide
theorem test_wf_stamp : stampOk (some (2 ^ 64 - 1)) = true ∧ stampOk (some (2 ^ 64)) = false := by decide
theorem test_wf_signed : sfits 32 (-2147483648) = true ∧ sfits 32 2147483648 = false := by decide
theorem test_wf_ai : AiSample.wf { n := 23, raw := 0 } = true ∧ AiSample.wf { n := 24, raw := 0 } = false := by decide
theorem test_wf_tick : tickIn.wf = true ∧ ({ tickIn with imu := [0] } : TickIn).wf = false ∧
    ({ tickIn with pcUa := [] } : TickIn).wf = false ∧ ({ tickIn with pcFull := 65536 } : TickIn).wf = false ∧
    ({ tickIn with vlcdMv := 65536 } : TickIn).wf = false ∧ ({ tickIn with imu := [2 ^ 31, 0, 0, 0, 0, 0] } : TickIn).wf = false ∧
    ({ tickIn with ai := [{ n := 1, raw := 0 }, { n := 1, raw := 1 }] } : TickIn).wf = false := by decide
theorem test_wf_prove : ProveIn.wf ⟨true, true, true, true, [(32, 0, 1)], [], true, true, 0, false, 0, 0⟩ = false ∧
    ProveIn.wf ⟨true, true, true, true, [], [(0, 0, 5)], true, true, 0, false, 0, 0⟩ = false ∧
    ProveIn.wf ⟨true, true, true, true, [], [], true, true, 65536, false, 0, 0⟩ = false ∧
    ProveIn.wf ⟨true, true, true, true, [(31, 159, 1)], [(7, 3, 4)], true, true, 1, false, 0, 0⟩ = true := by decide
theorem test_wf_pass : pass.wf = true ∧ ({ pass with ftype := 4 } : RingFrame).wf = false ∧
    ({ pass with ftype := 2 } : RingFrame).wf = false ∧ ({ pass with tick := 2 ^ 48 } : RingFrame).wf = false ∧
    ({ pass with slots := [⟨64, 1, 0, [], 0⟩] } : RingFrame).wf = false ∧
    ({ pass with slots := [⟨2, 1, 0, [1], 0⟩] } : RingFrame).wf = false ∧ ({ pass with slots := [⟨2, 4, 0, [], 0⟩] } : RingFrame).wf = false ∧
    ({ pass with hcrc := 2 ^ 32 } : RingFrame).wf = false ∧
    ({ pass with mail := { op := 256 } } : RingFrame).wf = false := by decide
theorem test_wf_ann : RingAnn.wf { type := 4 } = true ∧ RingAnn.wf { type := 5 } = false := by decide
theorem test_wf_ident : IdentReply.wf ⟨0, 0, 0, 0, 0, 0, 0, 0, 0, 7, 0, 0, 0, 0, []⟩ = true ∧
    IdentReply.wf ⟨0, 0, 0, 0, 0, 0, 0, 0, 0, 8, 0, 0, 0, 0, []⟩ = false ∧
    IdentReply.wf ⟨0, 0, 0, 0, 0, 0, 0, 0, 0, 7, 0, 0, 0, 0, List.replicate 33 0⟩ = false := by decide
theorem test_wf_probe : ProbeFrame.wf ⟨16, 255, 0, 0⟩ = true ∧ ProbeFrame.wf ⟨16, 256, 0, 0⟩ = false := by decide
theorem test_wf_sample : NodeSample.wf { blocks := List.replicate 64 0 } = true ∧ NodeSample.wf { blocks := [0] } = false := by
  decide
theorem test_wf_dram : DramUse.wf ⟨2 ^ 34 - 1, .pilot⟩ = true ∧ DramUse.wf ⟨2 ^ 34, .pilot⟩ = false ∧
    DramUse.wf ⟨0, .scrubber⟩ = false := by decide
theorem test_wf_reader : SpdReader.wf (.helmState 127) = true ∧ SpdReader.wf (.helmState 128) = false ∧
    SpdReader.wf (.helmInput 0 4) = false ∧ SpdReader.wf (.dSlot 64) = false ∧ SpdReader.wf (.mailbox 65536) = false ∧
    SpdReader.wf (.plotter 512) = false ∧ SpdReader.wf (.sextant 4) = false := by decide
theorem test_wf_nmea : Nmea.wf (.zda 86400999 0) = true ∧ Nmea.wf (.zda 86401000 0) = false ∧
    Nmea.wf (.hdt 6283186) = false := by decide
theorem test_wf_gnss : (Instr.gnssBinaryFrame 0 0 none (List.replicate 68 255)).wf = true ∧
    (Instr.gnssBinaryFrame 0 0 none (List.replicate 69 0)).wf = false ∧
    (Instr.gnssBinaryFrame 0 0 none [256]).wf = false := by decide
theorem test_wf_fleet : FleetMsg.wf ⟨1, 0, none, true, [List.replicate 64 0]⟩ = true ∧
    FleetMsg.wf ⟨1, 0, none, true, [[0]]⟩ = false := by decide
theorem test_wf_line : LinePkt.wf { vc := 15, dt := 0x2B, data := [255] } = true ∧
    LinePkt.wf { vc := 3, dt := 0x2B, data := [256] } = false ∧ LinePkt.wf { vc := 16, dt := 0 } = false := by decide
theorem test_wf_frame : (Instr.frameStart 0 ⟨0, 16, true⟩ none).wf = false ∧
    (Instr.frameEnd 0 ⟨some (2 ^ 64), 0, true⟩).wf = false ∧ (Instr.frameEnd 0 ⟨none, 15, true⟩).wf = true := by decide
theorem test_wf_can : CanFrame.wf { id := 2 ^ 18, xtd := false, dlc := 0 } = true ∧
    CanFrame.wf { id := 1, xtd := false, dlc := 0 } = false ∧ CanFrame.wf { id := 2 ^ 29, xtd := true, dlc := 0 } = false ∧
    CanFrame.wf { id := 1, xtd := true, dlc := 9, data := List.replicate 12 0 } = false ∧
    CanFrame.wf { id := 1, xtd := true, fdf := true, remote := true, dlc := 0 } = false := by decide
theorem test_wf_txend : TxEnd.wf (.failed 7 true) = true ∧ TxEnd.wf (.failed 8 true) = false := by decide
theorem test_wf_command :
    (Instr.registerWrite 0xF000200000 1).wf = true ∧ (Instr.registerWrite 0xF000200002 1).wf = false ∧
    (Instr.registerWrite (2 ^ 40) 1).wf = false ∧ (Instr.ppsEdge 0 (some (2 ^ 64))).wf = false ∧
    (Instr.gptpSync 0 none (2 ^ 64)).wf = false ∧ (Instr.stamp 0 (2 ^ 64)).wf = false ∧
    (Instr.frameForward 1 pass { payload := [256] } 0 none).wf = false ∧ (Instr.snapRead 2 0 256 false).wf = false ∧
    (Instr.pulseEdge 0 ⟨some (2 ^ 64), false⟩).wf = false ∧ (Instr.dioEdge 0 true (some (2 ^ 64)) 0).wf = false ∧
    (Instr.nmeaSentence 0 (some (2 ^ 64)) true 10 .other).wf = false ∧ (Instr.encodeAccessUnit 0 [256]).wf = false ∧
    (Instr.atomicAdd32 2 (2 ^ 20) 0 1 false).wf = false ∧ (Instr.rxoLockRead 0 0 8).wf = false ∧
    (Instr.icmpEcho 0 0 [256]).wf = false ∧ (Instr.canTx hdr 0 [[0]]).wf = false ∧
    (Instr.tokenGrant hdr 0 60 []).wf = false ∧ (Instr.gptpAnnounce 0 [0] 0).wf = false ∧
    (Instr.computationStart 0 [{ n := 24, raw := 0 }]).wf = false ∧ Instr.keClose.wf = true := by decide

/-! ### The machine -/

theorem witness_Steps : ({ inM 3 with pending := [.keClose] } : State).pending = .keClose :: [] ∧ (inM 3).pending = [] := by
  decide

theorem witness_StepKeepsCanonical : (inM 3).Canonical ∧ step { inM 3 with pending := [.keClose] } = .next (inM 3) :=
  ⟨⟨rfl, rfl, rfl⟩, rfl⟩

theorem inM_shaped (m : Nat) : (inM m).Shaped := by and_intros <;> rfl

theorem witness_StepKeepsShape : (inM 3).Shaped ∧ step { inM 3 with pending := [.keClose] } = .next (inM 3) :=
  ⟨inM_shaped 3, rfl⟩

theorem witness_EventMask : (inM 3).log.up = true ∧ severity 4 [] = 0 ∧
    bit ((inM 3).put (R.LOG_MASK_VALUE 0) 16 |>.get (R.LOG_MASK_VALUE (4 / 32))) (4 % 32) = true ∧ severity 1 [] ≠ 0 ∧
    bit ((inM 3).get (R.LOG_MASK_VALUE (4 / 32))) (4 % 32) = false ∧ (inM 3).log.queue.length < 256 := by decide

def logRec : LogRec := { code := 4 }

theorem witness_LogbookCommands :
    (let s : State := { inM 3 with log.queue := [logRec] }
     s.log.up = true ∧ s.log.urgent = [] ∧ s.log.queue = [logRec] ∧ s.log.lostSince = 0 ∧ s.log.merges logRec = false) ∧
    (let s : State := { inM 3 with log.queue := [logRec], log.last := some logRec }
     s.log.up = true ∧ s.log.urgent = [] ∧ s.log.queue = [logRec] ∧ s.log.lostSince = 0 ∧ s.log.last = some logRec ∧
       logRec.rep < 65535) ∧
    (let s : State := { inM 3 with log.urgent := [logRec] }
     s.log.up = true ∧ s.log.urgent = [logRec]) := by decide
/-! ### Supply and the ring bypass -/

theorem witness_SupplyLevel :
    (let s : State := { State.reset with pwr.powered := false }
     s.pwr.powered = false ∧ (60000 : Int) ≤ 60000 ∧ (60000 : Int) < 60001 ∧ (-36000 : Int) ≤ -36000 ∧ (-36000 : Int) < 0) ∧
    (inM 3).pwr.powered = true ∧ (inM 3).pwr.holdUp = false ∧ ubBand 6499 ≠ ubBand (inM 3).pwr.ub ∧
    ubBand 36001 ≠ ubBand (inM 3).pwr.ub ∧ ubBand 36000 = ubBand (inM 3).pwr.ub := by decide

theorem witness_FailureResets : (inM 3).pwr.powered = true ∧
    (let s : State := { inM 3 with pwr.ub := 48001 }
     48000 < s.pwr.ub ∧ s.pwr.powered = true) ∧
    (let s : State := { inM 3 with pwr.ub := 6499 }
     s.pwr.powered = true ∧ s.pwr.holdUp = false ∧ s.pwr.ub < 6500) ∧
    (let s : State := { inM 0 with pwr.ub := 6499, pwr.holdUp := true }
     s.pwr.holdUp = true ∧ s.pwr.ub < 6500) := by decide

theorem witness_CameraSupplies :
    (let s : State := { inM 3 with pwr.ub := 36001 }
     s.pwr.powered = true ∧ 36000 < s.pwr.ub ∧ s.pwr.ub ≤ 48000) ∧
    (let s : State := { (inM 3).put R.PWR_CAM_EN 2 with pwr.ub := 8500, pwr.camWait := 3 }
     s.pwr.powered = true ∧ 8500 ≤ s.pwr.ub ∧ s.pwr.ub ≤ 36000 ∧ s.get R.PWR_CAM_SHED = 0 ∧
       firstBit (s.pwr.camWait &&& s.camDue) = some 1) ∧
    (let s : State := ({ inM 3 with pwr.ub := 36000 } : State).put R.PWR_CAM_SHED 1
     s.pwr.powered = true ∧ 8500 ≤ s.pwr.ub ∧ s.pwr.ub ≤ 36000 ∧ s.get R.PWR_CAM_SHED ≠ 0 ∧
       firstBit (s.put R.PWR_CAM_EN 128).camDue = some 7) ∧
    (let s : State := (inM 3).put R.PWR_CAM_EN 128
     bit ({ s with alm.present := [(0x0500, 0)] } : State).camOn 7 = true) ∧
    bit ({ inM 3 with pwr.camTrip := 128 } : State).pwr.camTrip 7 = true := by decide

theorem witness_SensorSuppliesAndTemperature :
    bit ((inM 3).put R.PWR_SENS_EN 128).sensOn 7 = true ∧
    bit ({ inM 3 with pwr.sensTrip := 128 } : State).pwr.sensTrip 7 = true ∧
    ((1999 : Int) < 2000 ∧ (inM 3).pwr.tWarn = false ∧ (inM 3).pwr.tLimp = false ∧
      (inM 3).inMode [mSTANDBY, mROAD, mFIELD, mSERVICE] = true ∧ (inM 3).pwr.tTrip = false) ∧
    ((1728 : Int) < 1729 ∧ ({ inM 3 with pwr.tLimp := true } : State).pwr.tLimp = true) := by decide

/-- A machine whose MODES record asks for one tick of standstill. -/
def still (m : Nat) (n : Nat) : State :=
  { withRec ((inM m).put R.PWR_STATUS_SHUTREQ 1) 0x0C01 0 [(4, 1)] with alm.stillCount := n, pwr.shutSrc := 0 }

theorem witness_IgnitionAndStandstill : (inM 3).get R.PWR_STATUS_IGN = 0 ∧
    ((inM 3).put R.PWR_STATUS_IGN 1).get R.PWR_STATUS_IGN ≠ 0 ∧ (inM 6).mode = mLIMP ∧
    (still 4 1).waitsStill = true ∧ (still 4 1).standstill = true ∧ (still 4 1).mode ≠ mLIMP ∧
    (still 6 1).waitsStill = true ∧ (still 6 1).standstill = true ∧ (still 6 1).mode = mLIMP ∧
    (still 6 1).upd.lock = false ∧ ({ still 6 1 with upd.lock := true } : State).waitsStill = true ∧
    ({ still 6 1 with upd.lock := true } : State).standstill = true ∧ ({ still 6 1 with upd.lock := true } : State).mode = mLIMP ∧
    (still 4 0).waitsStill = true ∧ (still 4 0).standstill = false := by decide

theorem witness_Relays :
    ({ inM 3 with pwr.keClosing := true } : State).pwr.keClosing = true ∧
    (true = (({ inM 3 with pwr.kw.coil := true } : State).relay 0).coil ∧
      b2n true ≠ ({ inM 3 with pwr.kw.coil := true } : State).get (relayPos 0)) ∧
    true ≠ ((inM 3).relay 1).coil ∧
    (let s : State := { inM 3 with pwr.kw.coil := true, pwr.ke.coil := true }
     s.get R.MRD_STATUS_INSERT ≠ 1 ∧ s.get R.MRD_STATUS_INSERT ≠ 5 ∧ s.pwr.kw.coil = true ∧ s.pwr.ke.coil = true ∧
       (inM 3).pwr.kw.coil = false ∧ (inM 3).pwr.ke.coil = false ∧ ({ inM 3 with pwr.kw.coil := true } : State).pwr.ke.coil = false) ∧
    ((inM 7).mode = mSERVICE ∧ (inM 7).get R.PWR_RELAY_KW_CMD ≠ b2n true ∧ (inM 7).pwr.kw.coil ≠ true ∧
      (inM 7).relayHolds 0 = false ∧ (inM 7).pwr.kw.failOpen = false ∧ (inM 7).pwr.ke.held = none) ∧
    (let s : State := { inM 7 with pwr.ke.cut := true }
     s.mode = mSERVICE ∧ s.get R.PWR_RELAY_KW_CMD ≠ b2n true ∧ s.relayHolds 0 = true ∧ s.get R.PWR_RELAY_KE_CMD ≤ 1 ∧ s.pwr.ke.held = none) ∧
    ((inM 3).mode ≠ mSERVICE ∧ b2n true ≠ (inM 3).get R.PWR_RELAY_KW_CMD) ∧
    (let s : State := { inM 7 with pwr.kw.held := some true }
     s.mode = mSERVICE ∧ (s.relay 0).held = some true ∧ s.relayHolds 0 = false ∧ (s.relay 0).coil ≠ true ∧
       (s.relay 0).failOpen = false) := by decide

theorem witness_ManagementFailure :
    (inM 3).inMode [mSTANDBY, mROAD, mFIELD, mSERVICE] = true ∧ (inM 3).alm.mgmtFailed = false ∧
    (inM 1).inMode [mLOAD, mPROVE] = true ∧ (inM 2).mode = mPROVE ∧ (inM 3).inMode [mLOAD, mPROVE] = false := by decide
/-! ### Time -/

theorem witness_Snapshots :
    ((inM 3).chr.snaps.getD 3 {}).armed = false ∧ (inM 3).chr.tick + 2 ≤ (2#48).toNat ∧ (1#48).toNat < (inM 3).chr.tick + 2 ∧
    (let s : State := { inM 3 with chr.snaps := [{}, {}, {}, { armed := true, t := 0 }] }
     (s.chr.snaps.getD 3 {}).armed = true ∧ s.chr.snaps.getD 3 {} = { armed := true, t := s.chr.tick }) := by decide

theorem witness_StampsAndCrossings :
    ({ inM 3 with chr.running := true } : State).chr.running = true ∧ ((inM 3).stampQ 65).stamps.length < 8 ∧
    8 ≤ (({ inM 3 with chr.stamps := [{ point := 65, stamps := List.replicate 8 1 }] } : State).stampQ 65).stamps.length ∧
    ((inM 3).xing 0x1500).pend = 0 ∧
    (let s : State := { inM 3 with chr.xings := [{ id := 0x1500, busy := true, pend := 1, lost := 2 }] }
     0 < (s.xing 0x1500).pend ∧ (s.xing 0x1500).pend = 1 ∧ (s.xing 0x1500).lost ≠ 0) := by decide

/-- A discipline source `c` listed first, with the state of its events. -/
def disc (m c : Nat) (r : Ref) : State :=
  { withRec (inM m) 0x0100 0 [(0, c)] with
    chr.running := true, chr.refs := (List.replicate 4 ({} : Ref)).set (c - 1) r, hsi.gptp := [{}, {}] }

theorem witness_ReferenceEvents :
    (let s := disc 3 1 {}
     let s := s.put R.CHR_CFG_SRC_ORDER 0x4321
     s.takesRef 1 = true ∧ (s.ref 1).edge = none ∧ s.mode ≠ mLIMP) ∧
    (let s := (disc 3 1 { edge := some 1000, good := 3 }).put R.CHR_CFG_SRC_ORDER 0x4321
     s.takesRef 1 = true ∧ (s.ref 1).edge = some 1000 ∧ 1000 - ppsDelay (s.get R.CHR_PPS_DLY_PPS0) + 8000 < 1000 + second ∧
       (1000 + second + 11) - ppsDelay (s.get R.CHR_PPS_DLY_PPS0) = 1000 + second) ∧
    (let s := (disc 3 2 { edge := some 1000 }).put R.CHR_CFG_SRC_ORDER 0x4321
     let s : State := { s with plt.tods := [(1, 50, 1000)] }
     s.plt.tods.find? (fun x => x.1 == 1) = some (1, 50, 1000) ∧ s.takesRef 2 = true ∧ (s.ref 2).edge = some 1000 ∧
       (s.ref 2).named = false ∧ 1000 ≤ 1000 + 720000000) ∧
    (let s := (withRec (disc 3 3 {}) 0x0F00 0 [(0x0A, 5)]).put R.CHR_CFG_SRC_ORDER 0x4321
     s.takesRef 3 = true ∧ s.gptpMode 0 ≠ 0 ∧ (s.gptpPort 0).master = false ∧ s.gptpMode 1 ≠ 0) := by decide

theorem witness_DisciplineStates :
    (let s := (((disc 3 1 { good := 8 }).put R.CHR_CFG_SRC_ORDER 0x0021).put R.CHR_DISC_STATE 2).put R.CHR_DISC_SOURCE 1
     s.get R.CHR_DISC_STATE = 2 ∧ s.get R.CHR_DISC_SOURCE ≠ 0 ∧
       ∀ c ∈ s.srcOrder, c ≠ s.get R.CHR_DISC_SOURCE → s.qualified c = false) ∧
    (let s : State := { ((inM 3).put R.CHR_DISC_STATE 3).put R.CHR_REF_HOLDOVER_S 1 with chr.tick := 10000 }
     s.get R.CHR_DISC_STATE = 3 ∧ 10000 * s.get R.CHR_REF_HOLDOVER_S ≤ s.chr.tick - s.chr.holdTick) ∧
    (let s := (((disc 3 1 { good := 8, qualTick := some 0 }).put R.CHR_CFG_SRC_ORDER 0x0021).put R.CHR_DISC_STATE 2).put
       R.CHR_DISC_SOURCE 2
     let s : State := { s with chr.tick := 600000 }
     s.takesRef 1 = true ∧ 1 ∈ s.srcOrder.takeWhile (fun d => decide (d ≠ s.get R.CHR_DISC_SOURCE)) ∧
       s.qualified 1 = true ∧ (s.ref 1).qualTick = some 0 ∧ 0 + 600000 ≤ s.chr.tick ∧ s.get R.CHR_DISC_STATE = 2) ∧
    (let s : State := { inM 3 with chr.step := some (0, -1) }
     s.chr.step = some (s.chr.tick, -1) ∧ s.quiet = true) ∧
    (let s : State := { inM 3 with chr.rateWant := ppm 120 }
     s.chr.rateWant.natAbs ≤ (ppm 120).natAbs) := by decide

theorem witness_GptpPorts :
    (let s := withRec (inM 3) 0x0F00 0 [(0x0A, 5)]
     s.gptpMode 0 ≠ 0 ∧ (s.gptpPort 0).master = false ∧ s.gptpMode 1 = 1 ∧ (s.gptpPort 1).gm = none) ∧
    (let s : State := { withRec (inM 3) 0x0F00 0 [(0x0A, 5)] with hsi.gptp := [{}, { gm := some 1 }] }
     s.gptpMode 1 = 1 ∧ (s.gptpPort 1).gm = some 1 ∧ 1 ≠ (2#64).toNat) := by decide

/-! ### Registers, commits and modes -/

theorem witness_Commits : 0x96 ∉ regions ∧ (0x96#8).toNat ∉ regions ∧ (0x60#8).toNat ∈ regions ∧
    (∀ c ∈ (inM 3).commits, c.1 ≠ 0x60) ∧
    (let s : State := { inM 3 with commits := [(0x20, 0)], staged := [(0x20, (recByte 0x0402 0 0x20).key, 7)] }
     (0x20, 0) ∈ s.commits ∧ 0 ≤ s.chr.tick ∧ ({ s with chr.running := true } : State).chr.running = true ∧
       (s.staged.filter fun y => y.1 == 0x20 && y.2.1 == (recByte 0x0402 0 0x20).key).getLast? =
         some (0x20, (recByte 0x0402 0 0x20).key, 7)) := by decide

theorem witness_RegisterWriteBounds :
    (∃ g, (inM 3).target 0xF000100000 = some g ∧ g.reserved 0 = 0) ∧ (inM 3).mode ≠ mRESET ∧ (inM 0).mode = mRESET ∧
    (∃ g, (inM 3).target 0xF000100020 = some g ∧ g.reserved 0xFFFFFFFF ≠ 0) ∧ (inM 3).target 0xF0001FFFFC = none := by
  refine ⟨⟨_, rfl, by decide⟩, by decide, by decide, ⟨_, rfl, by decide⟩, by decide⟩

theorem witness_RegisterWrites :
    (∃ w, (inM 3).winAt 0xF000314000 = some (w, 0, 0) ∧ ((inM 3).winTarget w 0 0).reserved 0x01020304 = 0 ∧ w.halt = [] ∧
      (∀ c ∈ (inM 3).commits, c.1 ≠ (inM 3).recRegion w.type 0) ∧
      (0, 0) ∈ ({ inM 3 with commits := [(0, 0)] } : State).commits ∧ (inM 3).recRegion w.type 0 = 0 ∧
      inSpans w.rsvd 0 = false ∧ bits 0x01020304 (8 * 0) 8 ≠ (inM 3).seen (recByte w.type 0 0)) ∧
    (∃ w, (inM 3).winAt 0xF000402400 = some (w, 0, 0) ∧
      ({ inM 3 with plt.up := true } : State).recIdle w.type 0 = false ∧
      (∀ k ∈ [0, 1, 2, 3], inSpans w.halt (0 + k) = true) ∧ inSpans w.rsvd 0 = false) ∧
    (∃ g f d ix, (inM 3).target 0xF000311080 = some g ∧ g.reserved 5 = 0 ∧ g.reg = some (d, ix) ∧ g.fields = [f] ∧
      f.acc = .rw ∧ f.cls = .tick ∧ (inM 3).noMan g f = false ∧ (inM 3).ownWrite d (ix.headD 0) 5 = none ∧
      bits 5 f.lo f.fld.w ≠ (inM 3).seen f.fld ∧ d ≠ R.LKT_CTL_PAUSE.reg) ∧
    (∃ g f d ix, (inM 3).target (R.BUS_TXKEY_KEY 0).reg = some g ∧ g.reserved 5 = 0 ∧ g.reg = some (d, ix) ∧
      g.fields = [f] ∧ f.acc = .rw ∧ f.cls = .live ∧ (inM 3).noMan g f = false ∧
      (inM 3).ownWrite d (ix.headD 0) 5 = none ∧ d ≠ R.LKT_CTL_PAUSE.reg) := by
  refine ⟨⟨_, rfl, ?_⟩, ⟨_, rfl, ?_⟩, ⟨_, _, _, _, rfl, ?_, rfl, rfl, ?_⟩, ⟨_, _, _, _, rfl, ?_, rfl, rfl, ?_⟩⟩ <;> decide

theorem witness_TickEdgeTime : ({ inM 3 with chr.running := true } : State).chr.running = true ∧
    (inM 3).chr.running = false := by decide

theorem witness_ModeChange : nextMode [(4, 0x20), (6, 0x34)] = some (6, 0x34) ∧ nextMode [(4, 0x20)] = some (4, 0x20) ∧
    (inM 6).mode = mLIMP ∧ (inM 3).mode ≠ mLIMP ∧ (inM 3).get R.UPD_STAT_STATE ≠ 5 ∧ (4 : Nat) ≠ (inM 3).mode ∧ (inM 3).mode < 8 ∧ mLIMP = 6 := by decide

theorem witness_ResetRelease :
    (let s : State := { State.reset.put R.PWR_STATUS_IGN 1 with pwr.ub := 8500 }
     s.mayRelease ⟨2501, 3500, 100, 1⟩ = true ∧ s.mayRelease ⟨2500, 3500, 100, 1⟩ = false) := by decide

/-- That a bank of the firmware is sound rests on Config's signature check, which has no body: the clauses of StartOutcome
that need one are met where it accepts. -/
theorem witness_StartOutcome (r : LoadIn) :
    (inM 1).mode = mLOAD ∧ (inM 1).alm.recovery = false ∧ (inM 1).alm.modeReq = [] ∧
    (∀ p, (inM 1).chooseBanks r = p → (∃ u, p = (u, none)) ∨ ∃ u fw a, p = (u, some (fw, a))) ∧
    (let s := withRec (inM 2) 0x0C01 0 [(8, 1)]
     s.mode = mPROVE ∧ s.alm.modeReq = [] ∧ s.alm.proveErr = false ∧ s.cfg 0x0C01 0 8 1 = 1) ∧
    (let s : State := { inM 2 with alm.proveErr := true }
     s.mode = mPROVE ∧ s.alm.modeReq = [] ∧ s.alm.proveErr = true) := by
  refine ⟨by decide, by decide, by decide, ?_, by decide, by decide⟩
  rintro ⟨u, _ | ⟨fw, a⟩⟩ _
  · exact .inl ⟨u, rfl⟩
  · exact .inr ⟨u, fw, a, rfl⟩

/-- A settings frame of one block of at least 65,536 bytes. -/
theorem witness_longFrame (n : Nat) (h : 65536 ≤ n) :
    65536 < ({ blocks := [⟨1, 0x0100, List.replicate n 0⟩] } : SetFrame).length := by
  simp [SetFrame.length, SetFrame.blockBytes, SetBlock.bytes]
  omega

theorem witness_ShutdownAndSettings : (inM 3).pwr.powered = true ∧ (inM 3).get R.PWR_STATUS_IGN = 0 ∧
    (inM 3).get R.PWR_STATUS_SHUTREQ = 0 ∧ (inM 4).inMode [mROAD, mFIELD, mLIMP] = true ∧
    (inM 3).inMode [mROAD, mFIELD, mLIMP] = false ∧ ({ inM 3 with upd.lock := true } : State).upd.lock = true ∧
    (let s : State := { inM 3 with pwr.pdBegun := true }
     s.pwr.pdBegun = true ∧ s.pwr.holdUp = false ∧ s.log.up = true) ∧ (inM 3).upd.lock = false ∧
    (let s : State := { inM 3 with upd.queue := [{ trial := 1 }] }
     s.upd.queue = [{ trial := 1 }] ∧ s.nor.newest = none) ∧
    ({ trial := 1 } : SetFrame).length ≤ 65536 ∧
    (let s : State := { inM 3 with nor.sets := [[(0, { gen := 4 })], []] }
     s.nor.newest = some (0, { gen := 4 })) := by decide

theorem witness_UpdateProgress :
    (((inM 3).put R.UPD_STAT_STATE 2).get R.UPD_STAT_STATE = 2 ∧ ((inM 3).put R.UPD_STAT_STATE 2).updRuns = true) ∧
    (((inM 3).put R.UPD_STAT_STATE 3).get R.UPD_STAT_STATE = 3 ∧ ((inM 3).put R.UPD_STAT_STATE 3).updRuns = true) ∧
    ((inM 3).deltaCode (inM 3).upd.got ≠ 0 ∧ (inM 3).alm.recovery = false ∧
      ({ inM 3 with alm.recovery := true } : State).alm.recovery = true) ∧
    (let s : State := { inM 3 with upd.exam := true }
     s.mode = mSTANDBY ∧ s.get R.UPD_STAT_STATE = 0 ∧ s.upd.exam = true ∧ s.deltaWhole = false) ∧
    (inM 4).mode ≠ mSTANDBY ∧ (inM 3).upd.exam = false := by decide

theorem witness_Waypoint :
    (let s : State := { (inM 3).put R.UPD_STAT_STATE 5 with upd.at_ := some 16, alm.modeWas := 3 }
     s.upd.at_ = some 16 ∧ s.get R.UPD_STAT_STATE = 5 ∧ 16 ≤ s.chr.tick + 16 ∧ s.chr.tick < 16) ∧
    (let s : State := { (inM 3).put R.UPD_STAT_STATE 5 with upd.at_ := some 0, alm.modeWas := 3 }
     s.upd.at_ = some s.chr.tick ∧ s.alm.modeWas = mSTANDBY) ∧
    (inM 3).inserted = false ∧ (ring 3).launching = true ∧
    (let s : State := { ring 3 with upd.at_ := some 0, mrd.stations := (List.replicate 64 ({} : Station)).set 0 ({ annWp := { type := 3, tick := 0 } } : Station) }
     let s := (s.put R.MRD_STATUS_LAUNCH 0).put R.UPD_STAT_STATE 5
     s.launching = false ∧ s.inserted = true ∧ (s.station s.me).annWp.type = 3 ∧ (s.station s.me).annWp.tick = s.chr.tick ∧
       s.upd.at_ = some s.chr.tick ∧ s.get R.UPD_STAT_STATE = 5) ∧
    (let s := ({ ring 3 with upd.at_ := some 0 } : State).put R.MRD_STATUS_LAUNCH 0
     s.launching = false ∧ s.inserted = true ∧ (s.station s.me).annWp.type ≠ 3) ∧
    (let s : State := { (inM 4).put R.UPD_STAT_STATE 5 with upd.at_ := some 0, alm.modeWas := 4 }
     s.upd.at_ = some s.chr.tick ∧ s.alm.modeWas ≠ mSTANDBY ∧ s.alm.modeWas ≠ mSERVICE ∧ s.mode ≠ mSTANDBY) := by decide

/-! ### The ring -/

/-- Station 2 as given. -/
def ringSt (x : Station) : State := { ring 3 with mrd.stations := (List.replicate 64 ({} : Station)).set 2 x }

theorem witness_RingInsertion :
    (let s := (inM 3).put R.MRD_STATUS_INSERT 2
     s.get R.MRD_STATUS_INSERT = 2 ∧ s.me = 0 ∧ s.pwr.ke.failOpen = false) ∧
    (((inM 3).put R.MRD_STATUS_INSERT 2).put R.MRD_STATUS_ROLE 1).me ≠ 0 ∧
    (let s : State := { (inM 3).put R.MRD_STATUS_INSERT 2 with mrd.good := (0, 8) }
     s.get R.MRD_STATUS_INSERT = 2 ∧ 8 ≤ s.mrd.good.2 ∧ s.cutNear 0 500000 = false ∧
       ({ s with pwr.kw.cut := true } : State).cutNear 0 500000 = true) ∧
    (let s : State := { (inM 3).put R.MRD_STATUS_INSERT 2 with mrd.good := (8, 0) }
     8 ≤ s.mrd.good.1 ∧ s.mode = mSTANDBY) ∧ ((inM 4).put R.MRD_STATUS_INSERT 2).mode ≠ mSTANDBY := by decide

theorem witness_RingLaunch : (ring 3).launchesNow = true ∧ (inM 3).launchesNow = false ∧
    ({ ring 3 with mrd.launchFrom := 1 } : State).launchesNow = false ∧
    ({ ring 3 with pwr.ke.coil := true } : State).pwr.ke.coil = true ∧
    ({ ring 3 with pwr.kw.cut := true } : State).dirCut 0 = true := by decide

/-- A C-slot and a D-slot of station 2, with their CRCs. -/
def goodSlot : RingSlot := RingSlot.seal ⟨2, 1, 1, [1, 2, 3, 4], 0⟩
def dSlot : RingSlot := RingSlot.seal ⟨2, 2, 1, [1, 2, 3, 4], 0⟩

/-- The CRC-32 of IEEE 802.3 (R131) of the nine ASCII digits "123456789", as that standard's literature has it. -/
theorem test_crc32 : crc32 [49, 50, 51, 52, 53, 54, 55, 56, 57] = 0xCBF43926 := by decide +kernel
theorem test_seal : goodSlot.crcOk = true ∧ dSlot.crcOk = true ∧ pass.seal.hcrcOk = true ∧ pass.hcrcOk = false := by
  decide +kernel

theorem witness_RingCollection :
    (ring 3).inserted = true ∧ (ring 3).dirCut (frameInput pass) = false ∧
    bit (ring 3).mrd.heldDead (frameInput pass) = false ∧
    bit ({ ring 3 with mrd.heldDead := 255 } : State).mrd.heldDead (frameInput pass) = true ∧
    ({ ring 3 with pwr.kw.cut := true } : State).dirCut (frameInput pass) = true ∧ pass.ftype = 1 ∧ pass.hcrcOk = false ∧
    pass.seal.ftype = 1 ∧ pass.seal.hcrcOk = true ∧ pass.seal.tick = (ring 3).chr.tick ∧
    2 ∈ (ring 3).cSlots.map (fun p => p.1) ∧ 2 ≠ (ring 3).me ∧ 2 ≠ (ring 3).launcher ∧ (ring 3).goodCopies 2 = [] ∧
    ({ ring 3 with mrd.copies := [(0, goodSlot), (1, goodSlot)] } : State).goodCopies 2 = [goodSlot, goodSlot] ∧
    (let d := RingSlot.seal { goodSlot with payload := [] }
     ({ ring 3 with mrd.copies := [(0, goodSlot), (1, d)] } : State).goodCopies 2 = [goodSlot, d] ∧ d ≠ goodSlot) := by
  decide +kernel

theorem witness_RingForwarding : (ring 3).Shaped ∧ (2 : Nat) ≠ (ring 3).me ∧ pass.seal.ftype = 1 ∧
    (2 : Nat) ≠ (ring 3).ringPlace ∧ pass.seal.hcrcOk = true ∧ pass.seal.wrap = false ∧ pass.hcrcOk = false ∧
    0 = (ring 3).ringPlace ∧ (ring 3).launching = true ∧
    ({ ring 3 with pwr.kw.cut := true } : State).dirCut (frameInput pass) = true ∧
    (let s : State := { ring 3 with mrd.heldDead := 255 }
     s.inserted = true ∧ bit s.mrd.heldDead (frameInput pass) = true) ∧
    ((inM 3).inserted = false ∧ 0 = (inM 3).ringPlace ∧ (inM 3).dirCut (frameInput pass) = false) ∧
    (let f := RingFrame.seal { pass with ftype := 2, slots := [dSlot] }
     f.hcrcOk = true ∧ f.slots.find? (fun y => y.addr == 2 && y.kind == 2) = some dSlot ∧ dSlot.crcOk = true) := by
  refine ⟨ring_shaped 3, ?_⟩
  decide +kernel

theorem witness_RingStations :
    (let s : State := { ringSt { state := 4, dCw := some (0, true, [1]) } with chr.tick := 1 }
     0 < s.chr.tick ∧ (s.station 2).state = 4 ∧ (s.station 2).usable (s.chr.tick - 1) = [[1]]) ∧
    (let s : State := { ringSt { state := 5, dCw := some (0, true, [1]), dCcw := some (0, true, [1]) } with chr.tick := 1 }
     (s.station 2).state = 5 ∧ (s.station 2).usable (s.chr.tick - 1) = [[1], [1]]) ∧
    (let s : State := { ringSt { state := 4, hold := 1 } with chr.tick := 1 }
     (s.station 2).usable (s.chr.tick - 1) = [] ∧ (s.station 2).state = 4 ∧ s.cfg 0x0201 2 0x12 1 ≤ (s.station 2).hold) ∧
    (let s : State := { ringSt { state := 4 } with chr.tick := 8 }
     (s.station 2).state ≠ 0 ∧ (s.station 2).lastPass + 8 ≤ s.chr.tick) ∧
    (let s := ringSt { state := 4, annReset := { type := 4, tick := 0, arg := 4 } }
     (s.station 2).state ≠ 0 ∧ (s.station 2).annReset.type = 4 ∧ (s.station 2).annReset.tick = s.chr.tick ∧
       bit (s.station 2).annReset.arg 2 = true) := by decide

theorem witness_RingMeasurementAndBreaks :
    (ProbeFrame.seal { ftype := 0x11, seq := 7, turn := 34 }).crcOk = true ∧
    ((ringSt { state := 2, probeSeq := some 7 }).station 2).probeSeq = some 7 ∧
    (ringSt { state := 2 }).Shaped ∧ ((ringSt { state := 2 }).station 2).state ≠ 0 ∧
    linkDelay (((ringSt { state := 2 }).station 2).delays 0) = none ∧ linkDelay (List.replicate 64 100) = some 100 ∧
    100 + 32 < (400 - 100 - 34) / 2 ∧ 4 ≤ dirGet (4, 0) 0 ∧ (inM 3).get (deadFld 0) = 0 ∧
    (let s : State := { (inM 3).put (deadFld 1) 1 with mrd.good := (0, 8) }
     s.get (deadFld 1) ≠ 0 ∧ bit s.mrd.heldDead 1 = false ∧ 8 ≤ dirGet s.mrd.good 1) ∧
    (let s : State := { (((inM 3).put R.MRD_STATUS_ROLE 1).put R.MRD_STATUS_INSERT 3).put R.MRD_CFG_TAKEOVER 1 with
        mrd.linkUp := 1, mrd.s0Mode := 3, chr.tick := 2 }
     s.mayTakeOver = true) := by
  refine ⟨by decide +kernel, by decide,
    by and_intros <;> rfl, ?_⟩
  decide

/-- What a station's image hashes to rests on Config.sha256, which has no body: the two digest clauses of LOAD_END and RUN
exclude each other and one of them is met by every station. -/
theorem witness_RingMailCommands :
    (ring 3).mastering = true ∧ (ring 3).me = 0 ∧ (ring 3).has 0x0201 2 = true ∧ (∀ p ∈ (ring 3).mrd.ident, p.1 ≠ 2) ∧
    (ring 3).identFault 2 ⟨0, 0, 0, 0, 0, 0, 0, 0, 0, 0, 0, 0, 0, 0, []⟩ = none ∧
    (ring 3).identFault 2 ⟨1, 0, 0, 0, 0, 0, 0, 0, 0, 0, 0, 0, 0, 0, []⟩ = some 1 ∧
    ((withRec (ring 3) 0x0202 1 [(0, 1), (0x30, 7)]).nodeImage 1) = some ([7], 0, List.replicate 32 0) ∧
    64 ≤ ((ring 3).put R.MRD_CFG_MAIL_LEN 64).get R.MRD_CFG_MAIL_LEN ∧
    ((ringSt { state := 3, imgLen := 1 }).station 2).imgLen = [7].length ∧
    ((ringSt { state := 4, snaps := [(0, 1, 9, [])] }).station 2).snapBlocks 9 0 64 = some [] ∧
    3 ≤ ((ringSt { state := 4 }).station 2).state ∧ ((ringSt { state := 2 }).station 2).state < 3 ∧
    (2 : Fin 64).val ≠ (ring 3).me ∧ ((ringSt { state := 3, imgLen := 1 }).station 2).buf.length = 0 ∧
    (∀ a ∈ (ring 3).mrd.reload, (ring 3).cfg 0x0201 a 0x13 1 ≠ 1) ∧ 2 ∈ (ring 3).assigned 1 ∧
    ({ ring 3 with mrd.loads := [(1, none, 0)] } : State).mrd.loads.find? (fun l => l.1 == 1) = some (1, none, 0) ∧
    ((ringSt { state := 3, buf := [7] }).station 2).state = 3 ∧ ((ringSt { state := 3, buf := [7] }).station 2).buf ≠ [] ∧
    ({ ring 3 with mrd.loadTries := [(2, 2)] } : State).mrd.loadTries.find? (fun p => p.1 == 2) = some (2, 2) := by
  decide

/-! ### Helm and direct I/O -/

/-- Channel 1 with a record whose mask allows every mode, in state `st`; the sink DST. -/
def chanS (m st : Nat) (dst : Nat := 0) : State :=
  (withRec (inM m) 0x0300 1 [(8, 255), (0x1C, dst % 256), (0x1F, dst / 2 ^ 24)]).put (R.HLM_CHST_STATE 1) st

theorem chanS_shaped (m st dst : Nat) : (chanS m st dst).Shaped :=
  by and_intros <;> rfl

/-- The same with channel 1's own state. -/
def chanX (m st : Nat) (x : Chan) : State :=
  { chanS m st with hlm.chans := (List.replicate 128 ({} : Chan)).set 1 x }

/-- A timetable that gives channel 1 a job on cell 0 in this tick. -/
def timed (s : State) : State :=
  { s with hlm.tts := (List.replicate 8 ({} : Timetable)).set 0 { chans := [⟨1, 300, 0, 0, 40, 39920, 0, 0, none⟩] } }

theorem witness_HelmComputations :
    (let s := timed (chanS 4 2)
     s.jobDue 1 = true ∧ s.slot 1 = some (0, 40) ∧ s.cellFree 0 0 = true ∧ (s.chan 1).ranAt ≠ some s.chr.tick ∧
       bits (s.hctl 1 0x14 4) 28 4 = 0 ∧ s.hctl 1 0x0E 1 ≠ 2 ∧ s.jobDue 0 = false ∧ (s.chan 1).run = none) ∧
    (chanS 4 2).slot 1 = none ∧ ((timed (chanX 4 2 { ranAt := some 0 })).chan 1).ranAt = some (inM 4).chr.tick ∧
    (let s := chanX 4 2 { run := some [(5, true)] }
     (s.chan 1).run = some [(5, true)] ∧ (∀ c ∈ s.hlm.arith, c ≠ 1) ∧ (∀ b ∈ s.hlm.badIn, b.1 ≠ 1) ∧ s.chState 1 = 2 ∧
       s.opt 1 1 = false ∧ s.chanI 1 0x60 4 ≤ s.chanI 1 0x64 4) ∧
    ((chanX 4 2 { run := some [(5, false)] }).chan 1).run = some [(5, false)] ∧
    (let s := (chanX 4 2 { run := some [] }).put (R.HLM_OVR_CONSEC 1) 2
     (s.chan 1).run.isSome = true ∧ 3 ≤ min (s.get (R.HLM_OVR_CONSEC 1) + 1) 255 ∧ (s.chan 1).why ≠ 2 ∧ (s.chan 1).why ≠ 4 ∧
       s.sinkOff 1 = false) := by decide

theorem witness_HelmOutputs :
    (chanS 4 2).chanOn 1 = true ∧ (chanS 4 2).dueNow 1 = true ∧ (chanS 4 2).outputsOn = true ∧
    (chanS 2 2).outputsOn = false ∧ ((chanS 4 2).chan 1).back = false ∧
    (let s := ((chanS 4 4 0x10000003).put (R.DIO_PC_STAT_OC 3) 1)
     s.sinkOff 1 = true) ∧
    (let s := chanX 4 2 { result := some 9 }
     s.sinkOff 1 = false ∧ (s.chan 1).svc = none ∧ s.chState 1 = 2 ∧ s.inMan 1 = false ∧ (s.chan 1).result = some 9) ∧
    bits ((chanS 4 2 0x10000003).chanB 1 0x1C 4) 28 4 = 1 ∧ bits ((chanS 4 2 0x20000003).chanB 1 0x1C 4) 28 4 = 2 ∧
    ((chanS 4 2).put (R.HLM_AM_AM 1) 1).inMan 1 = true ∧ (chanS 4 3).chState 1 = 3 ∧ (chanS 4 4).chState 1 ∈ [1, 4, 5] ∧
    ((chanX 4 6 { paused := true }).chan 1).paused = true ∧
    (let s := (chanX 4 6 { target := 1 }).put (R.HLM_HOV_CAUSE 1) 1
     s.chState 1 = 6 ∧ (s.chan 1).paused = false ∧ s.get (R.HLM_HOV_CAUSE 1) = 1 ∧ (s.chan 1).target ≠ 2 ∧ bits (s.chanB 1 0x1C 4) 28 4 ≠ 2) := by decide

theorem witness_HelmResetsAndBroadcasts :
    (let s : State := { chanS 4 2 with hlm.rstReq := [(1, 0)], chr.tick := 1, hlm.grpReq := [(0, 0)] }
     (1, 0) ∈ s.hlm.rstReq ∧ 0 < s.chr.tick ∧ s.chanOn 1 = true ∧ s.get (R.HLM_GSTAT_RESETTING 0) = 0 ∧
       (0, 0) ∈ s.hlm.grpReq ∧ 1 ∈ s.groupChans 0 ∧ ∀ x ∈ s.chr.xings, x.lost = 0) ∧
    (let s : State := { chanS 4 5 with hlm.rstEnd := [(1, 0)], hlm.grpEnd := [(0, 0)] }
     (1, 0) ∈ s.hlm.rstEnd ∧ 0 ≤ s.chr.tick ∧ s.sinkOff 1 = false ∧ s.lawAllowed 1 = true ∧ s.ttBlocked 0 = false ∧
       (s.chan 1).svc = none ∧ (s.chan 1).removed = false ∧
       ((chanX 4 5 { svc := some 4 }).chan 1).svc ≠ none ∧ ((chanX 4 5 { removed := true }).chan 1).removed = true ∧
       ((chanS 4 5 0x10000003).put (R.DIO_PC_STAT_OC 3) 1).sinkOff 1 = true ∧
       (0, 0) ∈ s.hlm.grpEnd) ∧
    ((chanS 4 5).put (R.HLM_GSTAT_TT_STALE 0) 1).ttBlocked 0 = true ∧ (inM 4).lawAllowed 1 = false ∧
    (let s : State := { inM 4 with hlm.bcPend := [(7, 15, 5, 0)], chr.tick := 1 }
     0 < s.chr.tick ∧ s.hlm.bcPend = [(7, 15, (5#32).toNat, 0)]) ∧
    (inM 4).chr.phase ≤ 9988 ∧ (∀ b ∈ (inM 4).hlm.bcPend, (inM 4).chr.tick ≤ b.2.2.2) := by decide

theorem witness_HelmRequestsAndTimetables :
    (let s : State := { (chanS 4 2).put (R.HLM_AM_AM 1) 1 with hlm.amReq := [(1, 0)] }
     (1, 0) ∈ s.hlm.amReq ∧ s.autoRefusal 1 = none ∧ s.inMan 1 = true ∧ s.helmsman 1 = false ∧ s.toLaw 1 = true) ∧
    ((chanS 4 2).put (R.HLM_AM_FORCED 1) 1).autoRefusal 1 = some 3 ∧
    (withRec (inM 4) 0x0300 1 [(8, 255), (0x0A, 1)]).helmsman 1 = true ∧
    (let s : State := { chanS 4 2 with hlm.amReq := [(1, 1)] }
     (1, 1) ∈ s.hlm.amReq ∧ s.inMan 1 = false ∧ s.toLaw 1 = true) ∧ (∀ r ∈ (inM 4).hlm.amReq, r.1 ≠ 1) ∧
    ((inM 4).put (R.HLM_GSTAT_TT_STALE 7) 1).get (R.HLM_GSTAT_TT_STALE 7) ≠ 0 ∧ (inM 4).rebuildCode 7 = 0 ∧
    ((chanS 4 2).chan 1).shed = false ∧ (inM 4).alm.pilotUp = true ∧ (inM 4).alm.mgmtFailed = false ∧
    (inM 4).mode ≠ mLIMP ∧ bit (((inM 4).put (R.HLM_FB_NOSPARE 7) 8).get (R.HLM_FB_NOSPARE 7)) 3 = true ∧
    (let s : State := { (inM 4).put (R.HLM_FB_READY 7) 8 with hlm.fbDue := [31], hlm.fbs := [{ cell := 31, removed := [1] }] }
     31 ∈ s.hlm.fbDue ∧ bit (s.get (R.HLM_FB_READY (31 / 4))) (31 % 4) = true ∧
       s.hlm.fbs.find? (fun f => f.cell == 31) = some { cell := 31, removed := [1] }) ∧
    (let s : State := { inM 4 with hlm.fbDue := [31] }
     31 ∈ s.hlm.fbDue ∧ 31 ∉ s.hlm.fbTold ∧ bit (s.get (R.HLM_FB_READY (31 / 4))) (31 % 4) = false) := by decide

theorem witness_CurrentOutputs :
    (let s := withRec (inM 4) 0x1100 15 [(0, 80)]
     s.has 0x1100 15 = true ∧ (10000 * s.chr.tick + 160) % (s.pwmNow 15).1 = (s.pwmNow 15).2 ∧
       (10000 * s.chr.tick + 161) % (s.pwmNow 15).1 ≠ (s.pwmNow 15).2) ∧ ((inM 4).put (R.DIO_PC_STAT_OC 15) 1).pcOff 15 = true ∧
    (inM 4).pcOff 15 = false ∧ ((inM 4).dio.pcs.getD 15 {}).dithPer = 0 ∧
    (let s : State := { inM 4 with dio.pcs := (List.replicate 16 ({} : Pc)).set 15 { dithPer := 100, dithT := 40, period := 40 } }
     (s.dio.pcs.getD 15 {}).dithT + (s.dio.pcs.getD 15 {}).period < (s.dio.pcs.getD 15 {}).dithPer) ∧
    ((inM 4).put (R.DIO_PC_STAT_OC 3) 1).get (R.DIO_PC_STAT_OC 3) ≠ 0 ∧
    (let s := (chanX 4 4 { why := 3 }).put (R.HLM_CHST_STATE 1) 4
     s.chState 1 = 4 ∧ (s.chan 1).why = 3 ∧ s.lawRuns 1 = true) ∧
    1 ∈ (chanS 4 2 0x10000003).driversOf 0x10000003 ∧ mSTANDBY ≤ (chanS 4 2 0x10000003).mode ∧ (inM 4).pwr.uvLost = false ∧
    ({ inM 4 with pwr.uvLost := true } : State).pwr.uvLost = true ∧ (7999 : Nat) < 8000 ∧ (9000 : Nat) ≤ 9000 := by decide

theorem witness_DirectInputsAndOutputs :
    (let s := withRec (inM 4) 0x1101 23 [(0, 2), (2, 1)]
     s.has 0x1101 23 = true ∧ s.cfg 0x1101 23 0 1 = 2 ∧ bit (s.cfg 0x1101 23 2 1) 0 = true) ∧
    25 ∈ (inM 4).dio.calib ∧ ({ inM 4 with dio.ready := [24] } : State).dio.ready = [24] ∧ 24 ∉ (inM 4).dio.retired ∧
    (inM 4).dio.aiMod.getD 23 none = some 23 ∧ (withRec (inM 4) 0x1103 15 [(0, 1)]).dioOut 15 = true ∧
    (inM 4).has 0x1101 23 = false ∧ (inM 1).inMode [mRESET, mLOAD] = true ∧ (inM 4).inMode [mRESET, mLOAD] = false ∧
    (let s := withRec (inM 4) 0x1102 15 [(3, 1)]
     s.has 0x1102 15 = true ∧ s.cfg 0x1102 15 3 1 = 1 ∧ s.cfg 0x1102 15 6 2 ≤ (s.dio.pis.getD 15 {}).idle) ∧
    (let s := withRec (inM 4) 0x1102 15 [(3, 1), (6, 1)]
     (s.dio.pis.getD 15 {}).idle < s.cfg 0x1102 15 6 2) ∧
    (let s := withRec (inM 4) 0x1103 15 [(1, 5)]
     s.dioOut 15 = false ∧ s.has 0x1103 15 = true ∧ s.cfg 0x1103 15 1 1 ≤ 5 ∧ 4 < s.cfg 0x1103 15 1 1) ∧
    1 ∈ (chanS 4 2 0x20000003).driversOf 0x20000003 ∧ bit (0x8000#16).toNat 15 = true ∧
    bit (((inM 4).put R.DIO_OFLT_OC 0x8000).get R.DIO_OFLT_OC) 15 = true := by decide

/-! ### The Plotter -/

/-- The Plotter runs; source 0 is a GNSS source of input 0 in the format `fmt`, as the source state given. -/
def plt4 (fmt : Nat) (x : Src := {}) : State :=
  { withRec (inM 4) 0x0400 0 [(0, 8), (0x28, fmt), (0x24, 10)] with
    plt.up := true, plt.srcs := (List.replicate 64 ({} : Src)).set 0 x }

theorem plt4_shaped (fmt : Nat) (x : Src) : (plt4 fmt x).Shaped :=
  by and_intros <;> rfl

/-- A fix that input 0 collects. -/
def withFix (f : Fix) : State := { plt4 0 with plt.fixes := [some f, none] }

def aFix : Fix := { tod := 5, stamp := some 9, gga := some [1, 2, 3, 4, 5], rmc := some [1, 2, 3], days := some 20000 }

/-- A binary frame of zeros of a TYPE, with its CRC, or with the one given (R269). -/
def gnssOf (type : Nat) (crc : Nat := crc32 (leBytes 2 0x4753 ++ [type, 60] ++ List.replicate 60 0)) : List Nat :=
  leBytes 2 0x4753 ++ [type, 60] ++ List.replicate 60 0 ++ leBytes 4 crc

theorem witness_PlotterSources :
    (plt4 0).gnssSrc 0 0 = some 0 ∧ (82 : Nat) < 83 ∧ (plt4 0).plt.fixes.length = 2 ∧ nmeaTod (.zda 5 1) = some 5 ∧
    (plt4 0).plt.fixes.getD 0 none = none ∧ (withFix aFix).plt.fixes.getD 0 none = some aFix ∧
    (withFix aFix).gnssSrc 0 0 = some 0 ∧ (withFix aFix).plt.fixes.length = 2 ∧ aFix.tod = 5 ∧ aFix.full = true ∧
    aFix.days = some 20000 ∧ aFix.stamp = some 9 ∧ ((withFix aFix).src 0).raw = none ∧
    ({ aFix with rmc := none } : Fix).full = false ∧ ({ aFix with stamp := none } : Fix).full = true ∧
    (plt4 1).gnssSrc 0 1 = some 0 ∧ ((plt4 1).src 0).raw = none ∧ natAt [0, 0] 0 2 ≠ 0x4753 ∧
    (∀ b ∈ [gnssOf 1, gnssOf 2, gnssOf 1 0], natAt b 0 2 = 0x4753) ∧ (∀ b ∈ [gnssOf 1, gnssOf 2], natAt b 0x40 4 = crc32 (b.take 0x40)) ∧
    natAt (gnssOf 1) 2 1 = 1 ∧ natAt (gnssOf 1) 3 1 = 60 ∧ natAt (gnssOf 2) 2 1 ≠ 1 ∧
    natAt (gnssOf 1 0) 0x40 4 ≠ crc32 ((gnssOf 1 0).take 0x40) ∧ (plt4 0).isFree 0 = true ∧
    (let s := (plt4 0 { idle := 10 }).put (R.PLT_SRC_STAT_STATE 0) 2
     s.srcState 0 = 2 ∧ s.srcB 0 0x24 2 ≤ (s.src 0).idle) ∧
    (let s := (plt4 0 { idle := 9 }).put (R.PLT_SRC_STAT_STATE 0) 2
     s.srcState 0 = 2 ∧ (s.src 0).idle < s.srcB 0 0x24 2) := by decide +kernel

/-- Product 15: FIELDS source, every tick, with a cut-off LATENCY of 1. -/
def prod4 : State := { withRec (inM 4) 0x0401 15 [(3, 1)] with plt.up := true }

def aJob (kind : Nat) (done : Option Nat) : PJob := ⟨0, 15, 0, kind, 0, {}, done, false, true⟩

theorem witness_PlotterProducts :
    (prod4.plt.up = true ∧ prod4.has 0x0401 15 = true ∧ prod4.get R.PLT_CTL_STOP = 0 ∧
      prod4.prodB 15 3 1 ≤ prod4.chr.tick + 1 ∧ 0 % 2 ^ prod4.prodB 15 1 1 = prod4.prodB 15 2 1 ∧
      prod4.plt.cuts.getD 15 none ≠ some prod4.chr.tick ∧ prod4.plt.jobs.length < 512 ∧ prod4.plt.waiting = []) ∧
    (inM 4).plt.up = false ∧ (prod4.put R.PLT_CTL_STOP 1).get R.PLT_CTL_STOP ≠ 0 ∧
    (∀ k : Fin 6, let s : State := { prod4 with plt.jobs := [aJob k none] }
     s.stageCuts.takenJob 0 = some (aJob k none) ∧ s.stageCuts.plt.waiting = []) ∧
    prod4.stageCuts.takenJob 0 = none ∧
    ({ prod4 with plt.failed := [aJob 0 none] } : State).plt.failed = [aJob 0 none] ∧
    (let s : State := { prod4 with plt.rob := [aJob 0 (some 0)], chr.tick := 1 }
     s.plt.rob = [aJob 0 (some 0)] ∧ s.releasable 15 (aJob 0 (some 0)) = true) ∧
    (let s : State := { prod4 with plt.rob := [aJob 0 (some 1)], chr.tick := 1 }
     ∀ j ∈ s.plt.rob, s.releasable 15 j = false) ∧
    (let s : State := { prod4 with plt.jobs := [aJob 0 none] }
     aJob 0 none ∈ s.plt.jobs ∧ (aJob 0 none).out = s.chr.tick + 1 - s.prodB 15 3 1 ∧ (aJob 0 none).missed = false) ∧
    (let s : State := { inM 7 with plt.up := true }
     s.mode = mSERVICE ∧ s.plt.up = true) ∧ (inM 4).mode ≠ mSERVICE := by decide

/-- The track stage of every tick; a fleet peer 1.0.0.0. -/
def trk4 : State :=
  { withRec (withRec (withRec (inM 4) 0x0410 0 []) 0x0412 0 [(0, 1)]) 0x0F01 31 [(0, 1)] with plt.up := true }

theorem trk4_shaped : trk4.Shaped := by and_intros <;> rfl

theorem witness_TracksAndFleet :
    (trk4.plt.up = true ∧ trk4.has 0x0410 0 = true ∧ trk4.get R.PLT_CTL_STOP = 0 ∧ trk4.cfg 0x0410 0 2 1 ≤ trk4.chr.tick ∧
      (trk4.chr.tick - trk4.cfg 0x0410 0 2 1) % 2 ^ trk4.cfg 0x0410 0 0 1 = trk4.cfg 0x0410 0 1 1 ∧
      trk4.plt.trk.last ≠ some 0) ∧
    ({ trk4 with plt.trk.fin := some 0 } : State).plt.trk.fin = some 0 ∧ trk4.plt.trk.sharedAt = none ∧
    (trk4.chr.tick < 0 + trk4.cfg 0x0412 0 0 2) ∧
    trk4.has 0x0412 0 = true ∧ trk4.cfg 0x0412 0 0 2 ≠ 0 ∧ (inM 4).cfg 0x0412 0 0 2 = 0 ∧ (inM 4).plt.up = false ∧
    trk4.peerKnown (0x01000000#32).toNat = true ∧ trk4.peerKnown (2#32).toNat = false ∧
    ((0x01000000#32).toNat, 7) ∉ trk4.hsi.fleetSeq ∧
    (let s : State := { trk4 with hsi.fleetSeq := [(0x01000000, 7)] }
     ((0x01000000#32).toNat, 7) ∈ s.hsi.fleetSeq) ∧
    (let k : Track := { id := 1, kind := 5, peer := 63 }
     let s : State := { trk4 with plt.trk.tracks := [k] }
     k ∈ s.plt.trk.tracks ∧ k.live = true ∧ s.cfg 0x0412 0 6 2 ≤ k.quiet) := by decide

/-- Yield mapping at every tick, with a tank. -/
def yld (m : Nat) (y : Yld := {}) : State :=
  { withRec (withRec (inM m) 0x0420 0 []) 0x0421 0 [] with plt.up := true, plt.yld := y }

def aStep : YStep := ⟨0, some 3, 0, 1, 3, false, false, false, 0, true, true⟩

theorem witness_YieldAndTank :
    ((yld 5).plt.up = true ∧ (yld 5).has 0x0420 0 = true ∧ (yld 5).get R.PLT_CTL_STOP = 0 ∧ (yld 5).yB 2 1 ≤ (yld 5).chr.tick ∧
      ((yld 5).chr.tick - (yld 5).yB 2 1) % 2 ^ (yld 5).yB 0 1 = (yld 5).yB 1 1 ∧ (yld 5).plt.yld.last ≠ some 0 ∧
      (yld 5 { fin := some 0 }).plt.yld.fin = some 0) ∧
    ((yld 5).mbx ((yld 5).tB 0x1C 4 % 2 ^ 20)).valid = false ∧ (yld 5).plt.yld.unloading = false ∧
    (let s : State := { yld 5 with spd.mbx := [(0, { val := 0, valid := true })] }
     (s.mbx (s.tB 0x1C 4 % 2 ^ 20)).valid = true ∧ (s.mbx (s.tB 0x1C 4 % 2 ^ 20)).val = 0) ∧
    (inM 5).plt.up = false ∧ (inM 6).mode ∉ [mSTANDBY, mROAD, mFIELD, mSERVICE] ∧ (inM 5).mode ∈ [mSTANDBY, mROAD, mFIELD, mSERVICE] ∧
    (yld 5).plt.yld.load = none ∧ (yld 5 { load := some { tOpen := 0 } }).plt.yld.load ≠ none ∧
    (let s : State := { yld 7 { steps := [aStep] } with plt.poses := [⟨0, 0, 0, []⟩] }
     s.mode = mSERVICE ∧ s.plt.yld.steps.getLast? = some aStep ∧ aStep.m = some 3 ∧
       s.plt.poses.head? = some ⟨0, 0, 0, []⟩ ∧ s.level [] = true) ∧
    (yld 7).plt.yld.calOp = none ∧
    (let s := yld 7 { calOp := some (1, 0), steps := [aStep] }
     s.plt.yld.calOp = some (1, 0) ∧ (0 : Int) + msMt (s.tB 0x24 2) ≤ s.chr.base ∧
       s.stepsIn 0 (0 + msMt (s.tB 0x24 2)) = [aStep] ∧ s.has 0x0421 0 = true) ∧
    (yld 7 { calOp := some (1, 0) }).stepsIn 0 0 = [] := by decide

/-! ### Sextant and Lookout -/

/-- Camera port 7 with its supply on, served by pipeline 3, 40 lines of 2 pixels: LINK state and own state. -/
def cam (st trg : Nat) (x : SxPort := {}) (run : Option Nat := none) : State :=
  { (((withRec (withRec (inM 4) 0x0500 7 [(0, trg), (4, 2), (6, 40), (0x14, 64)]) 0x0501 3 [(0, 2), (3, 16)]).put
      R.PWR_CAM_EN 128).put (R.SXT_PORT_STAT_STATE 7) st) with
    sxt.up := true, sxt.ports := (List.replicate 8 ({} : SxPort)).set 7 x
    sxt.pipes := (List.replicate 4 ({} : SxPipe)).set 3 ⟨run, none⟩ }

theorem cam_shaped (st trg : Nat) (x : SxPort) (run : Option Nat) : (cam st trg x run).Shaped :=
  by and_intros <;> rfl

def aFrame (n : Nat) (closed : Option (Nat × Nat) := none) (blocks : Nat := 0) : SxFrame :=
  { fs := some 5, lines := List.replicate n [1, 2], closed := closed, blocks := blocks }

theorem witness_CameraPorts :
    (cam 2 0).portState 7 = 2 ∧ (cam 2 0).served 7 = true ∧ (cam 1 0).portState 7 = 1 ∧ (cam 3 0).portState 7 = 3 ∧
    (cam 2 1).has 0x0500 7 = true ∧ bit ((cam 2 1).sxB 7 0 1) 0 = true ∧ bit ((cam 2 0).sxB 7 0 1) 0 = false ∧
    (cam 2 1).chr.tick % max 1 ((cam 2 1).sxB 7 8 2) = (cam 2 1).sxB 7 0x0A 2 ∧
    
    (let s := cam 2 1 { trigs := [(9, 0)] }
     (s.sxPort 7).trigs = [(9, 0)] ∧ s.now ≤ 9 + 800 * s.sxB 7 0x10 2) ∧
    (let s : State := { cam 2 1 { trigs := [(9, 0)] } with chr.running := true, chr.base := 10 }
     (s.sxPort 7).trigs = [(9, 0)] ∧ 9 + 800 * s.sxB 7 0x10 2 < s.now) ∧ ((cam 2 0).sxPort 7).openFrame = none ∧
    ((cam 2 0).sxPort 7).skip = false ∧ (cam 2 0).get (R.SXT_PIPE_CTL_PAUSE 3) = 0 ∧
    ((cam 2 0).put (R.SXT_PIPE_CTL_PAUSE 3) 1).get (R.SXT_PIPE_CTL_PAUSE 3) ≠ 0 ∧
    ((cam 2 0 { frames := [aFrame 39] }).sxPort 7).openFrame = some (aFrame 39) ∧
    ((cam 2 0 { frames := [aFrame 40] }).sxPort 7).openFrame = some (aFrame 40) ∧ (aFrame 39).lines.length < (cam 2 0).sxB 7 6 2 ∧
    (cam 2 0).sxB 7 6 2 ≤ (aFrame 40).lines.length ∧ ({ vc := 0, dt := 0 } : LinePkt).dt ≠ 0x12 ∧
    (0 : Nat) = (cam 2 0).sxB 7 2 1 ∧ (0 : Nat) = (cam 2 0).sxB 7 1 1 ∧ (unpackRaw 0 [1, 2]).length = (cam 2 0).sxB 7 4 2 ∧
    ((cam 2 0 { frames := [aFrame 39] }).sxPort 7).fill < (cam 2 0).sxB 7 0x14 2 ∧ (1 : Nat) ≠ (cam 2 0).sxB 7 2 1 := by
  decide

theorem witness_PipelinesAndLookout :
    (let s := cam 2 0 { frames := [aFrame 20] }
     s.sxt.up = true ∧ (s.sxt.pipes.getD 3 {}).run = none ∧ s.chooseBlock 3 = some 7) ∧
    (cam 2 0).chooseBlock 3 = none ∧
    (let s := cam 2 0 { frames := [aFrame 20] } (some 7)
     (s.sxt.pipes.getD 3 {}).run = some 7 ∧ (s.sxPort 7).frames = [aFrame 20] ∧ 16 * ((aFrame 20).blocks + 1) < s.sxB 7 6 2) ∧
    (let s := cam 2 0 { frames := [aFrame 40 (some (9, 0)) 2] } (some 7)
     (s.sxPort 7).frames = [aFrame 40 (some (9, 0)) 2] ∧ s.sxB 7 6 2 ≤ 16 * ((aFrame 40 (some (9, 0)) 2).blocks + 1)) ∧
    (let s : State := { cam 2 0 with sxt.encs := (List.replicate 4 ({} : SxEnc)).set 3 { queue := [⟨1, 2, 3, 4, []⟩] } }
     (s.sxt.encs.getD 3 {}).queue = [⟨1, 2, 3, 4, []⟩] ∧ 2 ^ s.codecB 3 9 1 < 0 + 2 ^ 32 % 2 ^ 32 + 32 + ((seiStamp 1).length + 0)) ∧
    32 + ((seiStamp 1).length + 0) ≤ 2 ^ (withRec (cam 2 0) 0x0504 3 [(9, 7)]).codecB 3 9 1 ∧
    (let j : LktJob := ⟨15, 0, 7, 5, 1, none, false, none, [], []⟩
     ({ inM 4 with lkt.waiting := [j] } : State).lkt.run = none ∧ ({ inM 4 with lkt.waiting := [j] } : State).lkt.waiting ≠ [] ∧
       ({ inM 4 with lkt.run := some j } : State).lkt.run = some j) ∧
    (let s : State := { withRec (withRec (inM 4) 0x0600 0 [(0x10, 20)]) 0x0601 15 [(6, 1)] with
        lkt.run := some ⟨15, 0, 7, 5, 1, none, false, none, [], []⟩ }
     s.cfg 0x0600 (s.bindB 15 0 1) 0x10 4 = 20 ∧ 20 ≤ (21#32).toNat ∧ 20 * (21#32).toNat ≤ 21 * 20 ∧ (19#32).toNat < 20 ∧
       (799#32).toNat < 800 * s.bindB 15 6 2 ∧ 800 * s.bindB 15 6 2 ≤ (800#32).toNat) ∧
    (inM 4).lkt.waiting = [] ∧ (inM 4).lkt.run = none := by decide

/-! ### The scratchpad, the fabric and repair -/

theorem witness_Atomics :
    atomicAllowed 5 (halfAddr 0x0FFFFF 1) = true ∧ atomicAllowed 2 (8 * 0xC000) = true ∧
    atomicAllowed 3 (8 * 0xC000) = false ∧ atomicAllowed 5 (halfAddr 0xBFFF 1) = false := by decide

theorem witness_ScratchpadUpkeep :
    (inM 4).spd.scrubPos.length = 32 ∧ (inM 4).spd.scrubPos.getD 31 0 + 1 < 40960 ∧
    (let s : State := { inM 4 with spd.scrubPos := (List.replicate 32 0).set 31 40959, spd.scrubDone := 2 ^ 31 - 1 }
     40960 ≤ s.spd.scrubPos.getD 31 0 + 1 ∧ setBit s.spd.scrubDone 31 true = 2 ^ 32 - 1) ∧
    (inM 4).alm.standbySeen = false ∧
    (let s : State := { inM 4 with spd.copying := [(31, 127, 128)] }
     s.spd.copying.find? (fun m => m.1 == 31 && m.2.1 == 127) = some (31, 127, 128)) ∧
    (inM 4).spd.march = none ∧ (inM 6).mode = mLIMP ∧ (inM 7).mode = mSERVICE ∧ (inM 4).mode ≠ mLIMP ∧
    (inM 4).mode ≠ mSERVICE ∧
    (let s : State := { inM 7 with spd.march := some ⟨true, 31, 0, 159⟩ }
     s.spd.march = some ⟨true, 31, 0, 159⟩ ∧ s.rowUnderTest = false ∧
       ({ s with rep.table := [some { unit := rowUnit 31 127, state := 1 }] } : State).rowUnderTest = true) ∧
    (inM 7).rowUnderTest = false ∧ (128 : Nat) ≠ 127 ∧
    (let s : State := { inM 4 with plt.jobs := [⟨3, 15, 0, 0, 0, {}, none, false, true⟩] }
     ∃ j, s.takenJob 3 = some j ∧ j.kind = 0) ∧ 2 = (([(3, 2)] : List (Nat × Nat)).map (fun x => x.2)).sum ∧
    (let s : State := { inM 4 with spd.mbx := [(65535, { val := 1, valid := true, expires := some 0 })] }
     (s.mbx (0xFFFF#16).toNat).expires = some 0 ∧ 0 ≤ s.chr.tick) ∧
    (let s : State := { inM 4 with spd.mbx := [(65535, { val := 1, valid := true, expires := some 1 })] }
     (s.mbx (0xFFFF#16).toNat).expires = some 1 ∧ s.chr.tick < 1) := by decide

theorem copying_canonical : ({ inM 4 with spd.copying := [(31, 127, 128)] } : State).Canonical := ⟨rfl, rfl, rfl⟩

/-- The module after it has reached STANDBY. -/
def ready (m : Nat) : State := { inM m with alm.standbySeen := true }

theorem witness_FabricAndDataPlane :
    (ready 4).alm.standbySeen = true ∧ (inM 2).alm.standbySeen = false ∧
    (ready 4).mode ∈ [mSTANDBY, mROAD, mFIELD, mSERVICE] ∧
    (ready 4).get R.CHR_CLKSTAT_LOCK_D = 0 ∧ ((ready 4).put R.CHR_CLKSTAT_LOCK_D 1).get R.CHR_CLKSTAT_LOCK_D ≠ 0 ∧
    (ready 4).blockStalls 2 = false ∧ ({ ready 4 with lkt.quiet := 100 } : State).blockStalls 2 = true ∧
    (((ready 4).put R.REP_CFG_DRAM_UE_MAX 1).get R.REP_CFG_DRAM_UE_MAX ≤
      (((ready 4).put R.REP_CFG_DRAM_UE_MAX 1).rep.dramUe.filter fun n =>
        decide (((ready 4).put R.REP_CFG_DRAM_UE_MAX 1).now < n + oneSecond)).length + 1) ∧
    2 ∉ (ready 4).rep.dpActive ∧
    (let s : State := { (ready 4).put R.REP_CFG_DRAM_UE_MAX 1 with rep.dpActive := [2], rep.dramUe := [0] }
     2 ∈ s.rep.dpActive ∧
       s.get R.REP_CFG_DRAM_UE_MAX ≤ (s.rep.dramUe.filter fun n => decide (s.now < n + oneSecond)).length) ∧
    (ready 4).get R.UPD_STAT_STATE ∉ [1, 2, 3] ∧ ((ready 4).put R.UPD_STAT_STATE 2).get R.UPD_STAT_STATE ∈ [1, 2] := by
  decide

/-- A handling table whose entry 31 holds `e`. -/
def entry (m : Nat) (e : HEntry) : State :=
  { ready m with rep.table := (List.replicate 32 none).set 31 (some e), rep.order := [31] }

theorem entry_shaped (m : Nat) (e : HEntry) : (entry m e).Shaped :=
  by and_intros <;> rfl

/-- Cell 31 as given. -/
def withCell (s : State) (c : Cell) : State := { s with rep.cells := (List.replicate 32 ({} : Cell)).set 31 c }

theorem witness_Soundings :
    31 = 4 * (7 : Fin 8).val + (3 : Fin 4).val ∧
    (3 ∉ ((ready 4).cell 31).isolated ∧ 3 ∉ ((ready 4).cell 31).retired ∧ (ready 4).entryOf (sliceUnit 31 3) = none ∧
      (ready 4).rep.table.getD 0 none = none ∧ (withCell (ready 4) { isolated := [0] }).entryOf (sliceUnit 31 4) = none ∧
      ((withCell (ready 4) { isolated := [0] }).cell 31).isolated ≠ []) ∧
    (let s : State := { ready 4 with hlm.chans := (List.replicate 128 ({} : Chan)).set 127 { run := some [], cell := 3 } }
     (s.chan (16 * 7 + 15)).run ≠ none ∧ (s.chan (16 * 7 + 15)).cell = 3 ∧ 3 ∉ (s.cell 31).isolated) ∧
    (let e : HEntry := { unit := sliceUnit 31 3, sev := 2 }
     (entry 4 e).entryOf (sliceUnit 31 3) = some (31, e) ∧ 2 ≤ e.sev ∧ (entry 4 e).rep.table.getD 31 none = some e ∧
       e.state ≠ 1 ∧ unitType e.unit ≠ 3 ∧ unitType e.unit ≠ 2 ∧ (entry 4 e).engineFor 31 e.unit = true ∧ unitCell e.unit = 31 ∧ unitPos e.unit = 3) ∧
    (let e : HEntry := { unit := sliceUnit 31 3, sev := 2, state := 1 }
     (entry 4 e).engineFor 31 e.unit = false ∧ e.state = 1 ∧ (entry 4 e).resultReason e true = 0 ∧ unitType e.unit = 1) ∧
    (let s := (entry 4 { unit := sliceUnit 31 3, state := 1 }).put R.REP_CFG_TRANS_MAX 3
     s.resultReason { unit := sliceUnit 31 3, state := 1 } false = 3) ∧
    (let e : HEntry := { unit := rowUnit 31 127, sev := 2, state := 1 }
     unitType e.unit = 2 ∧ unitRow e.unit < 128 ∧ (entry 4 e).freeSpares (unitBank e.unit) =
       (List.range 32).map (· + 128)) ∧
    (let e : HEntry := { unit := rowUnit 31 127, sev := 2 }
     unitType e.unit = 2 ∧ e.state ≠ 1 ∧ (entry 4 e).rep.table.getD 31 none = some e ∧ (entry 4 e).engineFor 31 e.unit = true) ∧
    (let e : HEntry := { unit := portUnit 1 }
     unitType e.unit = 3 ∧ (entry 4 e).deferReason (unitDir e.unit) = some 2 ∧ (entry 7 e).entryOf (portUnit 1) ≠ none) ∧
    (let e : HEntry := { unit := portUnit 1 }
     let s := (entry 7 e).put R.MRD_STATUS_INSERT 4
     s.deferReason (unitDir e.unit) = none ∧ s.engineFor 31 e.unit = true) ∧
    (let e : HEntry := { unit := portUnit 1, state := 1 }
     let s := (entry 7 e).put R.MRD_STATUS_INSERT 4
     s.resultReason e false = 3 ∧ s.resultReason e true = 0) ∧
    (inM 4).inputDead 1 = false ∧ (inM 4).inputDead (1 - 1) = false ∧ ((inM 4).put (deadFld 0) 1).inputDead (1 - 1) = true ∧
    ((inM 4).put (deadFld 1) 1).inputDead 1 = true ∧ 1 ∉ (ready 4).rep.retiredPorts ∧
    (ready 4).entryOf (portUnit 1) = none ∧
    (let s : State := { withCell (inM 4) { isolated := [3], rejoin := [(3, 0)] } with chr.tick := 1 }
     s.mayRejoin 31 3 = true ∧ s.mayRejoin 31 2 = false ∧ ({ s with chr.tick := 0 } : State).mayRejoin 31 3 = false) ∧
    ((ready 7).put R.MRD_STATUS_INSERT 4).deferReason 1 = none ∧ isSliceUnit (0x100003E3#32).toNat = true ∧
    isSliceUnit (0#32).toNat = false ∧ unitCell (0x100003E3#32).toNat = 31 ∧
    unitPos (0x100003E3#32).toNat ∈ ((withCell (inM 7) { retired := [3] }).cell 31).retired := by
  and_intros <;> decide

/-! ### CAN, ISOBUS and the Binnacle -/

/-- Bus `c` with a controller record: its error state and its controller. -/
def bus (m c es : Nat) (b : Bus := {}) : State :=
  { (withRec (inM m) 0x0900 c []).put (R.BUS_STAT_ESTATE c) es with bus := (List.replicate 6 ({} : Bus)).set c b }

theorem bus_shaped (m c es : Nat) (b : Bus) : (bus m c es b).Shaped :=
  ⟨rfl, rfl, rfl, rfl, rfl, rfl, rfl, rfl, rfl, rfl, by simp [bus], rfl, rfl, rfl, rfl, rfl⟩

def aCan : CanFrame := { id := 5, xtd := true, dlc := 1, data := [9] }

def aTx : TxEntry := { frame := aCan, src := 3, tag := 77, arrived := 0 }

theorem witness_CanReception :
    (bus 4 5 0).busStopped 5 = false ∧ (bus 4 5 0).get (R.BUS_STAT_ESTATE 5) < 2 ∧ (inM 4).busStopped 5 = true ∧
    ((bus 4 5 0).busOf 5).tec ≤ 127 ∧ 127 < ((bus 4 5 0).put (R.BUS_ERRC_REC 5) 127).get (R.BUS_ERRC_REC 5) + 1 ∧
    (bus 4 5 3).get (R.BUS_STAT_ESTATE 5) = 3 ∧ (bus 6 5 2).get (R.BUS_STAT_ESTATE 5) = 2 ∧ (bus 6 5 2).mode = mLIMP ∧
    (bus 6 5 2).busStopped 5 = false ∧ (bus 4 5 0).rxMatch 5 aCan = none ∧
    (let s := withRec (bus 4 5 0) 0x0901 (256 * 5 + 255) [(0, 5), (3, 32), (4, 255), (8, 8)]
     s.rxMatch 5 aCan = some 255 ∧ aCan.remote = false ∧ s.has 0x0901 (256 * 5 + 255) = true ∧ s.mode ≠ mLIMP ∧
       (s.rxObj 5 255).lock = none) ∧
    (let s := withRec (bus 6 5 0 { limpAt := some 100 }) 0x0901 (256 * 5 + 255) [(0, 5), (3, 32), (4, 255), (8, 8)]
     s.mode = mLIMP ∧ begunBefore (some 99) (s.busOf 5).limpAt = true ∧ begunBefore (some 100) (s.busOf 5).limpAt = false ∧
       (s.whenBegun 5 (some 99)).rxMatch 5 aCan = some 255 ∧ s.busStopped 5 = false ∧ s.get (R.BUS_STAT_ESTATE 5) < 2) ∧
    (let s := (bus 3 5 0 { stopAt := some 100 }).put (R.BUS_CTL_STOP 5) 1
     s.busStopped 5 = true ∧ begunBefore (some 100) (s.busOf 5).stopAt = false ∧ s.busHeld 5 = false) ∧
    (inM 4).busHeld 5 = true ∧
    (let s : State := withRec (bus 4 5 0 { rxWas := [(100, [((recByte 0x0901 (256 * 5 + 255) 0).key, 6)])] }) 0x0901
       (256 * 5 + 255) [(0, 5), (3, 32), (4, 255), (8, 8)]
     s.rxMatch 5 aCan = some 255 ∧ (s.whenBegun 5 (some 99)).rxMatch 5 aCan = none ∧
       (s.whenBegun 5 (some 101)).rxMatch 5 aCan = some 255) ∧
    (let s := bus 4 5 0 { rx := [(255, { lock := some 2, shadow := some ⟨aCan, none, false⟩ })] }
     (s.rxObj 5 255).lock = some 2 ∧ (s.rxObj 5 255).shadow = some ⟨aCan, none, false⟩) ∧
    (inM 3).mode ∈ [mSTANDBY, mSERVICE] ∧ (inM 4).mode ∉ [mSTANDBY, mSERVICE] ∧ (inM 4).get R.CHR_CLKSTAT_LOCK_C = 0 ∧
    ((inM 4).put R.CHR_CLKSTAT_LOCK_C 1).get R.CHR_CLKSTAT_LOCK_C ≠ 0 ∧
    ((bus 4 5 3 { tec := 128 }).busOf 5).tec = 128 ∧ (bus 4 5 3).get (R.BUS_ERRC_REC 5) ≤ 127 := by decide

/-- Bus 1 with a working ISO 11783 function as `x` gives it. -/
def iso (x : Iso) : State := withRec (bus 4 1 0 { iso := x }) 0x0903 1 [(8, 200), (9, 3)]

theorem iso_shaped (x : Iso) : (iso x).Shaped :=
  by and_intros <;> rfl

def aSession : TpSession := { tx := true, peer := 9, pgn := 0xFECA, size := 10 }

theorem witness_CanTransmission :
    (let s := bus 4 5 0 { queue := [aTx] }
     (s.busOf 5).queue = [aTx] ∧ s.get (R.BUS_STAT_ESTATE 5) < 2 ∧ s.busStopped 5 = false ∧ s.busSilent 5 = false ∧
       s.mode ≠ mLIMP ∧ (s.busOf 5).after = none ∧ aTx.src = 3 ∧ aTx.sending = false) ∧
    ((bus 4 5 0).busOf 5).queue = [] ∧
    (let s : State := { withRec (bus 4 5 0 { queue := [aTx] }) 0x0900 5 [(0x0C, 1)] with chr.tick := 10 }
     (s.busOf 5).queue.findIdx? (fun e => !e.sending && s.busB 5 0x0C 2 != 0 &&
       decide (e.arrived + 10 * s.busB 5 0x0C 2 ≤ s.chr.tick)) = some 0 ∧ (s.busOf 5).queue[0]? = some aTx) ∧
    (let s := (bus 4 5 0 { queue := [aTx] }).put (R.BUS_TXKEY_KEY 5) (canKey aCan)
     (s.busOf 5).queue.findIdx? (fun e => decide (canKey e.frame ≤ s.get (R.BUS_TXKEY_KEY 5))) = some 0) ∧
    (bus 6 5 0).mode = mLIMP ∧
    (let s := withRec (bus 4 5 0) 0x0902 (32 * 5 + 31) [(4, 4), (5, 4)]
     s.has 0x0902 (32 * 5 + 31) = true ∧ bit (s.txB 5 31 5 1) 2 = true ∧
       s.chr.tick % max 1 (s.txB 5 31 6 2) = s.txB 5 31 8 2 ∧ (s.busOf 5).acted.getD 31 none ≠ some s.chr.tick ∧ bit (s.txB 5 31 5 1) 1 = false ∧
       (∃ m ∈ (List.range ((s.txB 5 31 4 1 + 3) / 4)).map (fun k => s.mbx (s.txB 5 31 0x0C 4 % 2 ^ 20 + k)), m.valid = false)) ∧
    (let s : State := { withRec (bus 4 5 0) 0x0902 (32 * 5 + 31) [(4, 4), (5, 4)] with
        spd.mbx := [(0, { val := 1, valid := true })] }
     (∀ m ∈ (List.range ((s.txB 5 31 4 1 + 3) / 4)).map (fun k => s.mbx (s.txB 5 31 0x0C 4 % 2 ^ 20 + k)), m.valid = true) ∧
       (s.busOf 5).queue.length < 32 ∧ 31 ∉ (s.busOf 5).stale ∧
       s.carries 5 (frameOfWords (s.txB 5 31 0 4) (s.txB 5 31 4 1) (leBytes 4 1)) = true) ∧
    (bus 4 1 0).carries 1 { aCan with fdf := true } = false ∧ (inM 4).isoRuns 1 = false ∧ (iso {}).isoRuns 1 = true ∧
    (let s := (bus 4 5 1 { queue := [aTx] }).put (R.BUS_STAT_ESTATE 5) 1
     s.get (R.BUS_STAT_ESTATE 5) = 1 ∧ (s.busOf 5).queue = [aTx]) ∧
    (let s := bus 4 5 0 { acted := (List.replicate 32 none).set 31 (some 0) }
     (s.busOf 5).acted.getD 31 none = some s.chr.tick) ∧
    32 ≤ ((bus 4 5 0 { queue := List.replicate 32 aTx }).busOf 5).queue.length ∧ (inM 4).has 0x0902 (32 * 5 + 31) = false ∧
    (iso {}).isoUp 1 = true ∧ ((iso {}).iso 1).addr = none ∧ ((iso {}).iso 1).claim = none ∧ ((iso {}).iso 1).cannot = false ∧
    ((iso {}).busOf 1).queue.length < 32 ∧ (iso {}).cfg 0x0903 1 8 1 = 200 ∧ (inM 4).isoUp 1 = false ∧
    (let s := iso { claim := some 200 }
     (s.iso 1).claim = some 200 ∧ s.chr.tick < (s.iso 1).claimAt + 2500 ∧
       (let t : State := { s with chr.tick := 2500 }
        (t.iso 1).claimAt + 2500 ≤ t.chr.tick ∧ t.isoUp 1 = true)) ∧
    (let s := iso { addr := some 200, dm1At := some 0 }
     (s.iso 1).dm1At = some 0 ∧ s.chr.tick < 0 + 10000 ∧ ({ s with chr.tick := 10000 } : State).chr.tick = 0 + 10000) ∧
    ((iso { addr := some 200 }).iso 1).dm1At = none ∧ ((iso { addr := some 200 }).iso 1).addr = some 200 ∧
    bit ((iso {}).cfg 0x0903 1 9 1) 1 = true ∧ ((iso { active := [7] }).iso 1).active = [7] ∧
    ((iso { active := [7, 8] }).iso 1).sessions.filter (fun x => x.tx) = [] ∧ ((iso {}).iso 1).active = [] ∧
    ((iso {}).iso 1).changed = false ∧
    ((iso { sessions := [aSession] }).iso 1).sessions.find? (fun t => t.tx == true && t.peer == (9#8).toNat) = some aSession ∧
    ((iso {}).iso 1).sessions.find? (fun t => t.tx == true && t.peer == (9#8).toNat) = none := by decide

/-- The Binnacle's own state in FIELD. -/
def bin (b : Bin) : State := { inM 5 with bin := b }

theorem witness_Binnacle :
    (bin {}).binPage ≠ 0 ∧ (∀ e, (bin {}).bin.frameEnd = some e → e ≤ (bin {}).chr.tick) ∧ (inM 1).binPage = 0 ∧
    (∃ e, (bin { frameEnd := some 1 }).bin.frameEnd = some e ∧ (bin {}).chr.tick < e) ∧ (bin {}).bcfg 0x2B 1 ≠ 1 ∧
    (let s := (withRec (bin {}) 0x0104 0 [(0x2B, 1)]).put R.BIN_STAT_CRACK 1
     s.get R.BIN_STAT_CRACK ≠ 0) ∧ (bin {}).bcfg 0x2C 2 < 200000 ∧ 2 ≤ (bin { crackN := 2 }).bin.crackN ∧
    (bin { crackN := 1 }).bin.crackN < 2 ∧ (899 : Nat) < 900 ∧ (1100 : Nat) < 1101 ∧
    (let s := bin { frameEnd := some 0, vlcdN := 1, vlcd := 5000 }
     s.bin.frameEnd ≠ none ∧ s.bin.pump = 0 ∧ 1 ≤ s.bin.vlcdN ∧
       s.bin.vlcd < 10 * ((s.get R.BIN_GLASS_VLCD_MV : Int) - s.bin.vlcd).natAbs) ∧
    (bin {}).bin.ma.length = 10 ∧
    (let s : State := { bin { frameEnd := some 16, len := 16, slot := 6 } with chr.tick := 14 }
     s.bin.slot + 1 < 8 ∧ s.bin.frameEnd = some 16 ∧ 16 + 7 * (s.bin.len / 8) ≤ s.chr.tick + s.bin.len) ∧
    (let s : State := { bin { frameEnd := some 16, len := 16, slot := 6 } with chr.tick := 13 }
     s.bin.frameEnd = some 16 ∧ s.chr.tick + s.bin.len < 16 + (s.bin.slot + 1) * (s.bin.len / 8)) ∧
    (let s := (bin { com := [3, 1, 1, 1] }).put R.BIN_STAT_PAGE 1
     s.get R.BIN_STAT_PAGE ≠ 0 ∧ s.get R.BIN_STAT_BLANKED = 0 ∧ s.bin.pump = 0 ∧ s.bin.com ≠ [0, 0, 0, 0]) ∧
    (bin {}).bin.com = [0, 0, 0, 0] ∧
    (bin { slot := 7 }).bin.slot = 7 ∧ (bin { pump := 1 }).bin.pump = 1 ∧
    (bin { pump := 1 }).chr.tick < (bin { pump := 1 }).bin.pumpAt + 10000 ∧
    (bin { pump := 1 }).bin.pumpAt + 10000 ≤ ({ bin { pump := 1 } with chr.tick := 10000 } : State).chr.tick ∧ (bin {}).get R.BIN_STAT_NTC_FLT = 0 ∧
    (bin { ntcGood := 15 }).bin.ntcGood = 15 ∧ (bin { ntcGood := 14 }).bin.ntcGood < 15 := by decide

/-! ### The Host Service Interface -/

/-- The parts of HsiTakes as a test on a state: the module answers, ETH2 serves, the request of `hdr 9` is no duplicate, the mode
takes the type, and the token is there. -/
def takes (s : State) (typ : Nat) : Bool :=
  s.hsiUp && s.hsiPort 2 && !s.alm.recovery && (s.dupReply (hdr 9)).isNone && (s.gateCond typ).isNone && s.tokenOk (hdr 9)

theorem takes_spec (s : State) (typ : Nat) (tok : Bool) (h : takes s typ = true) : s.HsiTakes (hdr 9) typ tok := by
  simp only [takes, Bool.and_eq_true, Bool.not_eq_true', Option.isNone_iff_eq_none] at h
  obtain ⟨⟨⟨⟨⟨h1, h2⟩, h3⟩, h4⟩, h5⟩, h6⟩ := h
  exact ⟨h1, h2, fun k => (Bool.noConfusion (h3.symm.trans k)), h4, h5, fun _ => h6⟩

/-- The module in a mode with a token, and with what `f` changes. -/
def hsiM (m : Nat) : State := withTok (inM m)

def aSub : HsiSub := { kind := 0, n := 0, eth := 2, ip := 1, port := 2, div := 1, start := 0, stop := 10 }

/-- A sensor source 0 of binding 0, on UDP port 9 of ETH0. -/
def sens : State :=
  { withRec (withRec (inM 4) 0x0400 0 [(0, 7), (5, 32), (0x2C, 1), (0x2A, 4)]) 0x0F02 0 [(0, 9), (2, 1)] with plt.up := true }

/-- A datagram of TYPE 0x7777, SEQ 7 and TOKEN 9 (Table 15.1), and its CRC-32 worked out outside the model. -/
def dgram : List Byte := [0x48, 0x53, 0x01, 0x00, 0x77, 0x77, 0x00, 0x00, 0x07, 0x00, 0x00, 0x00, 0x09, 0x00, 0x00, 0x00, 0x00, 0x00, 0x00, 0x00,
  0x3D, 0x66, 0xAD, 0x61]

theorem test_datagram_crc : hsiBad (dgram.map (·.toNat)) = false ∧ hsiBad ((dgram.set 4 0x76).map (·.toNat)) = true := by
  decide +kernel

theorem test_reply_crc : hsiBad (HsiReply.datagram ⟨0x8001, 7, 0, 0, []⟩) = false := by decide +kernel

theorem witness_BadDatagram :
    hsiHdrOf ⟨2, 0x01020304, 5000⟩ 100 (dgram.map (·.toNat)) = hdr 9 ∧ natAt (dgram.map (·.toNat)) 4 2 = 0x7777 ∧
    0x7777 ∉ hsiTypes ∧ takes (hsiM 3) 0x7777 = true ∧ natAt ((dgram.set 0 0).map (·.toNat)) 0 2 ≠ 0x5348 := by decide

theorem witness_HsiRequests :
    takes (hsiM 3) 0x0001 = true ∧ takes (hsiM 3) 0x0002 = true ∧ takes (hsiM 3) 0x7777 = true ∧
    (inM 0).hsiUp = false ∧ (inM 3).hsiUp = true ∧ (inM 3).hsiPort 0 = false ∧
    (let r : HsiReply := ⟨0x8001, 7, 0, 0, []⟩
     ({ inM 3 with hsi.hosts := [⟨0x01020304, 5000, 0, some r, none, 0⟩] } : State).dupReply (hdr 9) = some r) ∧
    (inM 6).gateCond 0x0010 = some 8 ∧ (inM 3).gateCond 0x0010 = none ∧ (inM 3).tokenOk (hdr 9) = false ∧
    (let s : State := { inM 3 with hsi.subs := [aSub], chr.tick := 1 }
     s.hsiUp = true ∧ ∃ b ∈ s.hsi.subs, b.kind = 0 ∧ b.ip = (1#32).toNat ∧ b.port = (2#16).toNat ∧ b.start < s.chr.tick ∧
       s.chr.tick ≤ b.stop ∧ (s.chr.tick - b.start) % b.div = 0) ∧
    (∀ b ∈ (inM 3).hsi.subs, b.ip ≠ (1#32).toNat ∨ b.port ≠ (2#16).toNat) ∧
    sens.sources.filter (fun i => sens.srcB i 0 1 == 7 && sens.sensTakes 0 1 9 (sens.srcB i 2 2)) = [0] ∧
    sens.sources.filter (fun i => sens.srcB i 0 1 == 7 && sens.sensTakes 1 1 9 (sens.srcB i 2 2)) = [] ∧
    max (sens.srcB 0 0x28 2 + sens.srcB 0 5 1 / 8) (sens.srcB 0 0x2A 2 + 4 * sens.srcB 0 0x2C 1) = 8 ∧
    (inM 3).portIp 2 = some (0xC0A88001#32).toNat ∧ (inM 3).portIp 0 = none := by decide

/-- Whether a signature verifies rests on Config.ecdsaOk and the fuses on Config.fuseKeys, which have no body: the two
clauses of TOKEN_GRANT that name them exclude each other and one of them is met by every slot and signature. -/
theorem witness_HsiCommands :
    (takes (hsiM 4) 0x0010 = true ∧ takes (hsiM 7) 0x0010 = true ∧ (hsiM 4).mode ≠ mSERVICE ∧ (hsiM 7).mode = mSERVICE) ∧
    (takes (hsiM 4) 0x0011 = true ∧ (hsiM 4).driven 65535 = false) ∧
    (let s := withRec (hsiM 4) 0x0300 127 [(8, 255), (0x1C, 5), (0x1F, 0x40)]
     takes s 0x0011 = true ∧ ∃ w ∈ [(5, 0#32, 0, 0)], s.driven w.1 = true) ∧
    takes (hsiM 4) 0x0012 = true ∧
    (let s := (hsiM 3).put R.ALM_MODE_RING_READY 1
     takes s 0x0013 = true ∧ s.mode = mSTANDBY ∧ s.get R.UPD_STAT_MIXED = 0 ∧ s.upd.lock = false ∧
       s.get R.ALM_MODE_RING_READY ≠ 0 ∧ s.tokenOk (hdr 9) = true) ∧
    (takes (hsiM 3) 0x0013 = true ∧ (hsiM 3).get R.ALM_MODE_RING_READY = 0 ∧
      ((hsiM 3).put R.UPD_STAT_MIXED 1).get R.UPD_STAT_MIXED ≠ 0 ∧ (inM 3).tokenOk (hdr 9) = false) ∧
    (takes (hsiM 4) 0x0013 = true ∧ (hsiM 4).mode = mROAD ∧ (hsiM 4).standstill = false ∧ takes (hsiM 6) 0x0013 = true ∧
      takes (hsiM 5) 0x0013 = true ∧ (hsiM 5).mode = mFIELD ∧ takes (hsiM 7) 0x0013 = true ∧
      (hsiM 4).get R.ALM_MODE_RING_READY = 0 ∧ takes ((hsiM 4).put R.ALM_MODE_RING_READY 1) 0x0013 = true ∧
      ((hsiM 4).put R.ALM_MODE_RING_READY 1).get R.ALM_MODE_RING_READY ≠ 0) ∧
    (let s : State := { withRec (hsiM 5) 0x0C01 0 [(4, 2)] with alm.stillCount := 2 }
     takes s 0x0013 = true ∧ s.mode = mFIELD ∧ s.standstill = true) ∧
    takes (hsiM 5) 0x0014 = true ∧
    (takes (hsiM 3) 0x0015 = true ∧ takes (hsiM 6) 0x0015 = true ∧ (hsiM 6).inMode [mROAD, mFIELD, mLIMP] = true ∧
      (hsiM 3).inMode [mROAD, mFIELD, mLIMP] = false ∧ (hsiM 3).upd.lock = false ∧ takes { hsiM 3 with upd.lock := true } 0x0015 = true) ∧
    (takes { hsiM 7 with upd.lock := true } 0x0013 = true ∧ ({ hsiM 7 with upd.lock := true } : State).mode = mSERVICE) ∧
    (bus 4 5 0).carries 5 (frameOfWords 5 1 (leBytes 4 9)) = true ∧ (bus 4 1 0).carries 1 { aCan with fdf := true } = false ∧
    (takes (withTok (bus 4 5 0)) 0x0060 = true ∧ (withTok (bus 4 5 0)).busStopped 5 = false ∧ (hsiM 4).busStopped 5 = true ∧
      32 ≤ ((withTok (bus 4 5 0 { queue := List.replicate 32 aTx })).busOf 5).queue.length ∧ takes (hsiM 4) 0x0061 = true ∧
      takes (hsiM 4) 0x0062 = true) ∧
    (takes (hsiM 4) 0x0090 = true ∧ (hsiM 4).mrd.ann.length = 8 ∧ (hsiM 4).alm.mgmtFailed = false ∧ (hsiM 4).followsRing = false ∧ (2#64).getLsbD 0 = false ∧ (1#64).getLsbD 0 = true) ∧
    (let s := withTok (chanS 7 2 0x10000003)
     takes s 0x0091 = true ∧ s.chanOn 1 = true ∧ s.chanB 1 0x1C 4 ≠ 0 ∧ s.sinkOff 1 = false ∧ s.chanOn 0 = false ∧
       s.mode = mSERVICE ∧ s.chState 1 ≠ 5 ∧ (s.chan 1).removed = false) ∧
    ((withTok (chanX 7 6 { svc := some 4 })).chan 1).svc ≠ none ∧
    takes (hsiM 4) 0x00F0 = true ∧
    (let s : State := { hsiM 4 with hsi.hosts := [⟨0x01020304, 5000, 0, none, some (List.replicate 16 1, 0), 0⟩] }
     takes s 0x00F1 = true ∧ 60 ≤ s.tokenMax ∧ (s.hostOf (hdr 9)).bind (·.nonce) = some (List.replicate 16 1, 0) ∧
       s.chr.tick < 0 + 100000) ∧
    (takes (hsiM 4) 0x00F1 = true ∧ ((hsiM 4).hostOf (hdr 9)).bind (·.nonce) = none) ∧
    takes (hsiM 7) 0x00F2 = true ∧ (hsiM 4).hsi.token = some ⟨9, 0x01020304, 5000, 1000000, 0⟩ ∧ (hsiM 4).chr.tick < 1000000 ∧
    ({ hsiM 4 with chr.tick := 600000 } : State).chr.tick = 0 + 600000 ∧ (inM 4).hsi.token = none := by
  and_intros <;> decide

def aTile : Tile := { te := -1, tn := 2, rev := 3 }

theorem witness_HsiData :
    (takes (hsiM 3) 0x0020 = true ∧ (0xF000100000 : Nat) % 4 = 0 ∧ (0xF000100000 : Nat) < 2 ^ 40) ∧
    (takes (hsiM 3) 0x0021 = true ∧ (((hsiM 3).heard (hdr 9)).regWrites [(0xF000100000, 0#32)]).2 = ([1], none, false) ∧
      (((hsiM 3).heard (hdr 9)).regWrites [(0xF000C00010, 0x80000096#32)]).2.2 = (some 4, false) ∧
      (∃ g, ((hsiM 3).heard (hdr 9)).target 0xF000100020 = some g ∧ g.reserved 0xFFFFFFFF ≠ 0)) ∧
    takes (hsiM 3) 0x0030 = true ∧
    (takes (hsiM 3) 0x0031 = true ∧
      ((hsiM 3).hsi.logTicks.filter fun t => decide ((hsiM 3).chr.tick < t + 10000)).length < 10 ∧
      (let s : State := { hsiM 3 with hsi.logTicks := List.replicate 10 0 }
       takes s 0x0031 = true ∧ 10 ≤ (s.hsi.logTicks.filter fun t => decide (s.chr.tick < t + 10000)).length)) ∧
    256 ≤ ({ hsiM 3 with log.queue := List.replicate 256 {} } : State).log.queue.length ∧
    (let s : State := { hsiM 3 with plt.yld.tiles := [some aTile] }
     takes s 0x0040 = true ∧ takes s 0x0041 = true ∧ takes s 0x0042 = true ∧ s.tileAt (-1) 2 = some aTile ∧
       aTile.rev % 2 ^ 32 = 3) ∧
    (hsiM 3).tileAt (-1) 2 = none ∧
    (let s : State := { (withRec (hsiM 3) 0x0401 15 [(8, 1)]).put (R.PLT_P_WIDX_VALUE 15) 1 with rings := [(15 * 2 ^ 32, [7])] }
     takes s 0x0043 = true ∧ s.has 0x0401 15 = true ∧ s.get (R.PLT_P_WIDX_VALUE 15) = 1 ∧ (2 : Nat) = 2 ^ s.prodB 15 8 1 ∧
       s.ringOldest 15 2 1 = 0 ∧ s.has 0x0401 14 = false) ∧
    (let s : State := { (hsiM 3).put R.PLT_LOADQ_WIDX_VALUE 1 with rings := [(0x11 * 2 ^ 32, [7])] }
     takes s 0x0043 = true ∧ s.ringRecords 0x11 64 1 0 22 = some [7] ∧ s.ringRecords 0x11 64 1 1 22 = none) ∧
    (let s : State := { (hsiM 3).put R.LKT_RING_WIDX_VALUE 1 with rings := [(0x14 * 2 ^ 32, [7])] }
     s.ringRecords 0x14 256 1 0 1 = some [7] ∧ s.ringRecords 0x14 256 1 1 1 = none) ∧
    (takes (hsiM 3) 0x0050 = true ∧ (hsiM 3).hsi.subs = [] ∧ (hsiM 3).streamRate 2 3 1 ≤ 800000000 ∧
      800000000 < (withRec (hsiM 3) 0x0504 3 [(8, 1), (0x10, 255)]).streamRate 2 3 1) ∧
    (let b : HsiSub := { aSub with kind := 2, n := 3 }
     let s : State := { hsiM 3 with hsi.subs := [b], sxt.encs := (List.replicate 4 ({} : SxEnc)).set 3 { buf := [1] } }
     takes s 0x0050 = true ∧ s.hsi.subs.find? (fun b => b.kind == 1 + 1 && b.n == 3 && decide (s.chr.tick < b.stop)) = some b ∧
       (s.sxt.encs.getD 3 {}).buf = [1] ∧ (b.ip ≠ (hdr 9).ip.toNat ∨ b.port ≠ (hdr 9).port.toNat)) ∧
    (let b : HsiSub := { aSub with kind := 1, n := 7 }
     let s : State := { hsiM 3 with hsi.subs := [b] }
     s.hsi.subs.find? (fun b => b.kind == 0 + 1 && b.n == 7 && decide (s.chr.tick < b.stop)) = some b ∧
       ((s.sxPort 7).widx.getD 1 0 + 2 ^ 32 - b.frames) % 2 ^ 32 < b.div ∧
       b.div ≤ (1 + 2 ^ 32 - b.frames) % 2 ^ 32) ∧
    (takes (hsiM 3) 0x0070 = true ∧ blockOf 0x0100 (hsiM 3).lastFrame.blocks = none ∧ takes (hsiM 3) 0x0071 = true ∧
      (hsiM 3).itemBytes 0x01FF + 4096 ≤ 24576 ∧ (hsiM 3).upd.rolled = false ∧
      takes { hsiM 3 with upd.rolled := true } 0x0071 = true ∧ (hsiM 3).hsi.setTick = none ∧
      ({ hsiM 3 with hsi.setTick := some 0 } : State).chr.tick < 0 + 100000 ∧
      ({ hsiM 3 with upd.items := [(0x0100, [1])] } : State).upd.items.find? (fun e => e.1 == 0x0100) = some (0x0100, [1])) ∧
    (takes (hsiM 3) 0x0080 = true ∧ (hsiM 3).get R.UPD_STAT_STATE = 0 ∧ (hsiM 3).updRuns = true ∧
      takes ((hsiM 3).put R.UPD_STAT_STATE 1) 0x0081 = true ∧
      ({ (hsiM 3).put R.UPD_STAT_STATE 1 with upd.len := 1 } : State).get R.UPD_STAT_STATE = 1 ∧
      takes ((hsiM 3).put R.UPD_STAT_STATE 1) 0x0082 = true) ∧
    (takes (hsiM 3) 0x0083 = true ∧ takes (hsiM 6) 0x0083 = true ∧ (hsiM 6).mode = mLIMP ∧
      (∀ x : Fin 8, x.val ≠ 0 → x.val ≠ 7 → takes ((hsiM 3).put R.UPD_STAT_STATE x) 0x0083 = true) ∧
      takes ((hsiM 3).put R.UPD_STAT_STATE 7) 0x0083 = true ∧ (hsiM 3).mode ∈ [mSTANDBY, mSERVICE] ∧
      ((hsiM 3).atPhase 100).now + 5120000 ≤ (10000000#64).toNat ∧ (hsiM 3).upd.lock = false ∧
      takes { (hsiM 3).put R.UPD_STAT_STATE 5 with upd.lock := true } 0x0083 = true) := by
  refine ⟨by decide, ⟨by decide, by decide, by decide, ⟨_, rfl, by decide⟩⟩, by decide, by decide,
    Nat.le_of_eq List.length_replicate.symm, ?_⟩
  and_intros <;> first | decide | decide +kernel

end Sys2Proof.Tests
end

/-! REGISTER_WRITE where no register takes the value: one rule for each of its three ways out (R13, R65, R517), and the
obligation assembled from them. -/

namespace Sys2Proof.Machine

theorem exec_registerWrite (a : Nat) (v : BitVec 32) (s : State) :
    exec (.registerWrite a v) s = s.regWrite a v.toNat := rfl

/-! ### The ways out of a register write -/

theorem State.regWrite_of_reset {s : State} (h : s.mode = mRESET) (a v : Nat) : s.regWrite a v = .next s :=
  if_pos h

/-- Held in RESET or not, the module ignores a write where the map holds no register. -/
theorem State.regWrite_of_target_none {s : State} {a : Nat} (h : s.target a = none) (v : Nat) :
    s.regWrite a v = .next s := by
  by_cases hm : s.mode = mRESET
  · exact State.regWrite_of_reset hm a v
  · rw [State.regWrite, if_neg hm, h]

theorem State.regWrite_of_reserved {s : State} {a v : Nat} {g : Target} (hm : s.mode ≠ mRESET)
    (hg : s.target a = some g) (hv : g.reserved v ≠ 0) : s.regWrite a v = .fault .reservedFieldWritten := by
  simp only [State.regWrite, if_neg hm, hg, if_pos hv]

/-! ### The obligation -/

/-- Settles O23: the check for reserved bits comes after the check for RESET and the look-up of the address. The stop is the
model's choice where R13 leaves the behaviour undefined (log 8); that RESET holds the write off follows from R65 (log 11). -/
theorem registerWriteBounds : Obligations.RegisterWriteBounds := by
  refine ⟨fun s a v g hm hg hv => ?_, fun s a v h => ?_⟩ <;> rw [exec_registerWrite]
  · exact State.regWrite_of_reserved hm hg hv
  · rcases h with hm | hg
    · exact State.regWrite_of_reset hm a v.toNat
    · exact State.regWrite_of_target_none hg v.toNat

end Sys2Proof.Machine

/-! Frames and events, said once for the obligations of the supply, the relays, RESET and the ring: what an update leaves alone,
and what an event can change. -/

namespace Sys2Proof.Machine

/-! ### Reads after writes, and frames -/

theorem State.get_put_of_lt (s : State) {f : Fld} {v : Nat} (h : v < 2 ^ f.w) : (s.put f v).get f = v := by
  rw [State.get_put_same, Nat.mod_eq_of_lt h]

theorem b2n_lt_two_pow (b : Bool) {w : Nat} (h : 0 < w) : b2n b < 2 ^ w := by
  cases b
  · exact Nat.two_pow_pos w
  · exact Nat.one_lt_two_pow h.ne'

theorem sameRegs_trans {ks ls : List Fld} {s t u : State} (h : SameRegs ks s t) (g : SameRegs ls t u) :
    SameRegs (ks ++ ls) s u := by
  intro f hf
  rw [List.map_append, List.mem_append, not_or] at hf
  rw [g f hf.2, h f hf.1]

theorem sameRegs_mono {ks ls : List Fld} {s t : State} (h : SameRegs ks s t) (hs : ∀ f ∈ ks, f ∈ ls) :
    SameRegs ls s t :=
  fun f hf => h f fun hk => hf (List.map_subset Fld.key hs hk)

theorem sameRegs_put (s : State) (f : Fld) (v : Nat) : SameRegs [f] s (s.put f v) := (onlyRegs_put s f v).1

theorem sameRegs_raise (s : State) (c : Nat) (ps : List Nat) : SameRegs [R.LOG_LOST_VALUE] s (s.raise c ps) :=
  (onlyLogged_raise s c ps).1

/-- The Logbook and the PWR domain beside its registers are outside the frame of `OnlyLogged`. -/
theorem onlyLogged_logPwr (s : State) (l : Log) (p : Pwr) : OnlyLogged [] s { s with log := l, pwr := p } :=
  ⟨fun _ _ => rfl, rfl⟩

theorem onlyLogged_put (s : State) (f : Fld) (v : Nat) : OnlyLogged [f] s (s.put f v) :=
  onlyLogged_of_regs (onlyRegs_put s f v)

/-! ### Events -/

/-- Of the PWR domain an event can change what it holds for the Logbook alone. -/
theorem State.raise_pwr_eq (s : State) (c : Nat) (ps : List Nat) :
    (s.raise c ps).pwr = { s.pwr with held := (s.raise c ps).pwr.held } := by
  rcases s.raiseE_cases false c ps with ⟨_, _, e⟩ | ⟨_, e⟩ | e <;> rw [State.raise, e]
  rw [State.enqueue_pwr]

/-- Of the Logbook an event can change the queue and the counts of lost records alone. -/
theorem State.enqueue_log_eq (s : State) (r : LogRec) :
    (s.enqueue r).log = { s.log with
      queue := (s.enqueue r).log.queue, lostSince := (s.enqueue r).log.lostSince
      lostEver := (s.enqueue r).log.lostEver } := by
  rcases s.enqueue_cases r with ⟨_, e⟩ | ⟨_, e⟩ <;> rw [e]
  rfl

theorem State.raise_log_eq (s : State) (c : Nat) (ps : List Nat) :
    (s.raise c ps).log = { s.log with
      queue := (s.raise c ps).log.queue, lostSince := (s.raise c ps).log.lostSince
      lostEver := (s.raise c ps).log.lostEver } := by
  rcases s.raiseE_cases false c ps with ⟨_, _, e⟩ | ⟨_, e⟩ | e <;> rw [State.raise, e]
  exact State.enqueue_log_eq s _

/-- While the Logbook is in reset an event leaves it alone (R522). -/
theorem State.raise_log_of_down {s : State} (h : s.log.up = false) (c : Nat) (ps : List Nat) :
    (s.raise c ps).log = s.log := by
  rcases s.raiseE_cases false c ps with ⟨hu, _⟩ | ⟨_, e⟩ | e
  · simp [h] at hu
  · rw [State.raise, e]
  · rw [State.raise, e]

/-- While the Logbook is in reset an event leaves every register alone. -/
theorem State.raise_regs_of_down {s : State} (h : s.log.up = false) (c : Nat) (ps : List Nat) :
    (s.raise c ps).regs = s.regs := by
  rcases s.raiseE_cases false c ps with ⟨hu, _⟩ | ⟨_, e⟩ | e
  · simp [h] at hu
  · rw [State.raise, e]
  · rw [State.raise, e]

/-- A record shows the state through its mask, the mode and TAI_VALID: what leaves these, the Logbook and the time as they were
leaves the record that an event makes as it was. -/
theorem LogGains.of_sameRegs {ks : List Fld} {s u t : State} {c : Nat} {ps : List Nat} (g : LogGains c ps u t)
    (h : SameRegs ks s u) (hl : u.log = s.log) (hc : u.chr = s.chr)
    (hk : ∀ f ∈ [R.LOG_MASK_VALUE (c / 32), R.ALM_MODE_MODE, R.CHR_DISC_TAI_VALID], f.key ∉ ks.map Fld.key) :
    LogGains c ps s t := by
  have hmask := h _ (hk (R.LOG_MASK_VALUE (c / 32)) (by simp))
  have hmode : u.mode = s.mode := h _ (hk R.ALM_MODE_MODE (by simp))
  have htai := h _ (hk R.CHR_DISC_TAI_VALID (by simp))
  simpa only [LogGains, State.masked, State.mkRec, State.now, hmask, hmode, htai, hl, hc] using g

/-- The record stays in the queue while later updates leave the Logbook alone. -/
theorem LogGains.of_log_eq {s t u : State} {c : Nat} {ps : List Nat} (g : LogGains c ps s t) (h : u.log = t.log) :
    LogGains c ps s u := by
  simpa only [LogGains, h] using g

end Sys2Proof.Machine

/-! UB and the rows of Table 1.10. -/

namespace Sys2Proof.Machine

/-! ### The rows of Table 1.10 -/

theorem ubBand_eq_zero_iff (ub : Int) : ubBand ub = 0 ↔ ub < 6500 := by unfold ubBand; split_ifs <;> simp <;> omega
theorem ubBand_le_one_iff (ub : Int) : ubBand ub ≤ 1 ↔ ub < 8000 := by unfold ubBand; split_ifs <;> omega
theorem ubBand_le_two_iff (ub : Int) : ubBand ub ≤ 2 ↔ ub < 9000 := by unfold ubBand; split_ifs <;> omega
theorem four_le_ubBand_iff (ub : Int) : 4 ≤ ubBand ub ↔ 36000 < ub := by unfold ubBand; split_ifs <;> omega
theorem five_le_ubBand_iff (ub : Int) : 5 ≤ ubBand ub ↔ 48000 < ub := by unfold ubBand; split_ifs <;> omega

/-- The fields that a row of Table 1.10 can set. -/
def bandFlds : List Fld :=
  [R.PWR_STATUS_UB_WARN, R.PWR_STATUS_UB_RIDE, R.PWR_STATUS_UB_SHED, R.PWR_CAM_SHED, R.PWR_STATUS_UB_OV]

/-- What the row `b` sets. -/
def bandPuts (b : Nat) : List (Fld × Nat) :=
  if b = 0 then
    [(R.PWR_STATUS_UB_WARN, 1), (R.PWR_STATUS_UB_RIDE, 1), (R.PWR_CAM_SHED, 1), (R.PWR_STATUS_UB_SHED, 1)]
  else if b = 1 then [(R.PWR_STATUS_UB_WARN, 1), (R.PWR_CAM_SHED, 1), (R.PWR_STATUS_UB_SHED, 1)]
  else if b = 2 then [(R.PWR_STATUS_UB_WARN, 1)]
  else if b = 3 then [] else [(R.PWR_STATUS_UB_OV, 1)]

/-- The row's fields set and, where it sheds the cameras, their wait ended: the row before its event. -/
def State.bandSet (s : State) (b : Nat) : State :=
  { s.puts (bandPuts b) with pwr.camWait := if b ≤ 1 then 0 else s.pwr.camWait }

/-- What a row does: its fields and its event, or nothing while UB is in range. -/
theorem State.enterBand_cases (s : State) (b : Nat) :
    (b ≤ 2 ∧ s.enterBand b = (s.bandSet b).raise 120 [2 - b]) ∨ (b = 3 ∧ s.enterBand b = s) ∨
    (4 ≤ b ∧ s.enterBand b = (s.bandSet b).raise 121 [0]) := by
  match b with
  | 0 | 1 | 2 => exact .inl ⟨by decide, rfl⟩
  | 3 => exact .inr (.inl ⟨rfl, rfl⟩)
  | n + 4 => exact .inr (.inr ⟨by omega, rfl⟩)

/-- The keys that the row `b` sets. -/
def bandKeys (b : Nat) : List Nat := ((bandPuts b).map (·.1)).map Fld.key

theorem bandPuts_values (b : Nat) : ∀ e ∈ bandPuts b, e.2 % 2 ^ e.1.w = 1 := by
  match b with
  | 0 | 1 | 2 | 3 => decide
  | n + 4 => exact List.forall_mem_singleton.2 rfl

theorem bandPuts_flds (b : Nat) : ∀ f ∈ (bandPuts b).map (·.1), f ∈ bandFlds := by
  match b with
  | 0 | 1 | 2 | 3 => decide
  | n + 4 => exact List.forall_mem_singleton.2 (by decide)

/-- Fields set to 1 one after another. -/
theorem State.get_puts_one (s : State) {l : List (Fld × Nat)} (h : ∀ e ∈ l, e.2 % 2 ^ e.1.w = 1) (f : Fld) :
    (s.puts l).get f = if f.key ∈ (l.map (·.1)).map Fld.key then 1 else s.get f := by
  induction l generalizing s with
  | nil => rfl
  | cons e l ih =>
    rw [State.puts, ih _ fun x hx => h x (List.mem_cons_of_mem _ hx), State.get_put, h e List.mem_cons_self]
    simp only [List.map_cons, List.mem_cons, or_comm (a := f.key = e.1.key), ite_or]

theorem State.get_enterBand (s : State) (b : Nat) {f : Fld} (hf : f.key ≠ R.LOG_LOST_VALUE.key) :
    (s.enterBand b).get f = if f.key ∈ bandKeys b then 1 else s.get f := by
  have hset : (s.bandSet b).get f = if f.key ∈ bandKeys b then 1 else s.get f :=
    s.get_puts_one (bandPuts_values b) f
  rcases s.enterBand_cases b with ⟨_, e⟩ | ⟨rfl, e⟩ | ⟨_, e⟩ <;> rw [e]
  · rw [State.get_raise _ _ _ hf, hset]
  · rfl
  · rw [State.get_raise _ _ _ hf, hset]

theorem onlyLogged_bandSet (s : State) (b : Nat) : OnlyLogged bandFlds s (s.bandSet b) :=
  onlyLogged_mono
    (onlyLogged_trans (onlyLogged_of_regs (onlyRegs_puts s (bandPuts b))) (onlyLogged_logPwr _ (s.puts _).log _))
    (by simpa using bandPuts_flds b)

/-- A row of Table 1.10 changes its fields, the cameras' wait and the Logbook alone. -/
theorem onlyLogged_enterBand (s : State) (b : Nat) : OnlyLogged bandFlds s (s.enterBand b) := by
  have hraise (c : Nat) (ps : List Nat) : OnlyLogged bandFlds s ((s.bandSet b).raise c ps) :=
    onlyLogged_mono (onlyLogged_trans (onlyLogged_bandSet s b) (onlyLogged_raise _ c ps)) (by simp)
  rcases s.enterBand_cases b with ⟨_, e⟩ | ⟨_, e⟩ | ⟨_, e⟩ <;> rw [e]
  · exact hraise _ _
  · exact onlyLogged_of_regs (onlyRegs_refl _ s)
  · exact hraise _ _

theorem State.enterBand_pwr_eq (s : State) (b : Nat) :
    (s.enterBand b).pwr = { s.pwr with
      camWait := (s.enterBand b).pwr.camWait, held := (s.enterBand b).pwr.held } := by
  rcases s.enterBand_cases b with ⟨_, e⟩ | ⟨_, e⟩ | ⟨_, e⟩ <;> rw [e]
  · rw [State.raise_pwr_eq]; simp [State.bandSet]
  · rw [State.raise_pwr_eq]; simp [State.bandSet]

theorem logGains_bandSet {s t : State} {b c : Nat} {ps : List Nat} (g : LogGains c ps (s.bandSet b) t)
    (hk : ∀ f ∈ [R.LOG_MASK_VALUE (c / 32), R.ALM_MODE_MODE, R.CHR_DISC_TAI_VALID],
      f.key ∉ (R.LOG_LOST_VALUE :: bandFlds).map Fld.key) : LogGains c ps s t :=
  g.of_sameRegs (onlyLogged_bandSet s b).1 (State.puts_log s _) (State.puts_chr s _) hk

theorem logGains_enterBand_low (s : State) {b : Nat} (h : b ≤ 2) : LogGains 120 [2 - b] s (s.enterBand b) := by
  obtain ⟨_, e⟩ | ⟨hb, _⟩ | ⟨hb, _⟩ := s.enterBand_cases b
  · rw [e]; exact logGains_bandSet (logGains_raise _ _ _) (by decide)
  · omega
  · omega

theorem logGains_enterBand_high (s : State) {b : Nat} (h : 4 ≤ b) : LogGains 121 [0] s (s.enterBand b) := by
  obtain ⟨hb, _⟩ | ⟨hb, _⟩ | ⟨_, e⟩ := s.enterBand_cases b
  · omega
  · omega
  · rw [e]; exact logGains_bandSet (logGains_raise _ _ _) (by decide)

/-- While the Logbook is in reset a row changes no more than its fields and the PWR domain. -/
theorem State.enterBand_of_down {s : State} (h : s.log.up = false) (b : Nat) :
    (s.enterBand b).log = s.log ∧ (s.enterBand b).get R.LOG_LOST_VALUE = s.get R.LOG_LOST_VALUE := by
  have hup : (s.bandSet b).log.up = false := by simpa [State.bandSet] using h
  have hraise (c : Nat) (ps : List Nat) : ((s.bandSet b).raise c ps).log = s.log ∧
      ((s.bandSet b).raise c ps).get R.LOG_LOST_VALUE = s.get R.LOG_LOST_VALUE := by
    refine ⟨(State.raise_log_of_down hup c ps).trans (State.puts_log s _), ?_⟩
    rw [State.get_congr (State.raise_regs_of_down hup c ps)]
    exact (onlyRegs_puts s (bandPuts b)).1 _ fun hk => absurd
      (List.map_subset Fld.key (bandPuts_flds b) hk) (by decide)
  rcases s.enterBand_cases b with ⟨_, e⟩ | ⟨_, e⟩ | ⟨_, e⟩ <;> rw [e]
  · exact hraise _ _
  · exact ⟨rfl, rfl⟩
  · exact hraise _ _

/-! ### Which row sets which field -/

theorem mem_bandKeys_iff (b : Nat) :
    (R.PWR_STATUS_UB_WARN.key ∈ bandKeys b ↔ b ≤ 2) ∧ (R.PWR_STATUS_UB_RIDE.key ∈ bandKeys b ↔ b = 0) ∧
    (R.PWR_STATUS_UB_SHED.key ∈ bandKeys b ↔ b ≤ 1) ∧ (R.PWR_CAM_SHED.key ∈ bandKeys b ↔ b ≤ 1) ∧
    (R.PWR_STATUS_UB_OV.key ∈ bandKeys b ↔ 4 ≤ b) := by
  match b with
  | 0 | 1 | 2 | 3 => decide
  | n + 4 =>
    have h : bandKeys (n + 4) = [R.PWR_STATUS_UB_OV.key] := rfl
    simp only [h, List.mem_singleton]
    exact ⟨iff_of_false (by decide) (by omega), iff_of_false (by decide) (by omega), iff_of_false (by decide) (by omega),
      iff_of_false (by decide) (by omega), iff_of_true trivial (by omega)⟩

/-- The fields of the row that UB lies in read 1. -/
theorem State.get_enterBand_ubBand (s : State) (ub : Int) :
    ((s.enterBand (ubBand ub)).get R.PWR_STATUS_UB_WARN = if ub < 9000 then 1 else s.get R.PWR_STATUS_UB_WARN) ∧
    ((s.enterBand (ubBand ub)).get R.PWR_STATUS_UB_RIDE = if ub < 6500 then 1 else s.get R.PWR_STATUS_UB_RIDE) ∧
    ((s.enterBand (ubBand ub)).get R.PWR_STATUS_UB_SHED = if ub < 8000 then 1 else s.get R.PWR_STATUS_UB_SHED) ∧
    ((s.enterBand (ubBand ub)).get R.PWR_CAM_SHED = if ub < 8000 then 1 else s.get R.PWR_CAM_SHED) ∧
    ((s.enterBand (ubBand ub)).get R.PWR_STATUS_UB_OV = if 36000 < ub then 1 else s.get R.PWR_STATUS_UB_OV) := by
  obtain ⟨hw, hr, hs, hc, ho⟩ := mem_bandKeys_iff (ubBand ub)
  rw [ubBand_le_two_iff] at hw
  rw [ubBand_eq_zero_iff] at hr
  rw [ubBand_le_one_iff] at hs hc
  rw [four_le_ubBand_iff] at ho
  refine ⟨?_, ?_, ?_, ?_, ?_⟩ <;> rw [State.get_enterBand _ _ (by decide)]
  · simp only [hw]
  · simp only [hr]
  · simp only [hs]
  · simp only [hc]
  · simp only [ho]

/-- A field that no row sets reads as before, whatever the row, while the Logbook is in reset. -/
theorem State.get_enterBand_of_down {s : State} (h : s.log.up = false) (b : Nat) {f : Fld}
    (hf : f.key ∉ bandFlds.map Fld.key) : (s.enterBand b).get f = s.get f := by
  by_cases hl : f.key = R.LOG_LOST_VALUE.key
  · have := (State.enterBand_of_down h b).2
    simpa only [State.get, hl] using this
  · exact (onlyLogged_enterBand s b).1 f (by simpa only [List.map_cons, List.mem_cons, not_or] using ⟨hl, hf⟩)

/-! ### The obligation -/

/-- The module as UB_APPLY powers it, before its row of Table 1.10 acts (R28, R56). -/
def State.ubApplied (s : State) (ub : Int) : State where
  pending := s.pending
  freeCtr := s.freeCtr
  nor := s.nor
  mrd := { stations := s.mrd.stations }
  pwr := { powered := true, ub := ub, uv := s.pwr.uv, ssel := s.pwr.ssel,
           kw := { cut := s.pwr.kw.cut }, ke := s.pwr.ke, keClosing := s.pwr.keClosing }
  log := { s.log with up := false, urgent := [], queue := [], lostSince := 0 }

theorem exec_ubApply_of_unpowered {ub : Int} {s : State} (h : s.pwr.powered = false) :
    exec (.ubApply ub) s =
      if ub > 60000 ∨ ub < -36000 then .fault .outsideRating
      else if ub < 0 then .next { s with pwr.ub := ub } else .next ((s.ubApplied ub).enterBand (ubBand ub)) := by
  change execUbApply ub s = _
  rw [execUbApply, if_neg (by simp [h])]
  rfl

/-- R56: with the level shown, before its row acts. -/
def State.ubShown (s : State) (ub : Int) : State := ({ s with pwr.ub := ub } : State).put R.PWR_SUPPLY_UB_MV ub.toNat

theorem exec_ubLevelChange (ub : Int) (s : State) :
    exec (.ubLevelChange ub) s =
      if ub > 60000 ∨ ub < -36000 then .fault .outsideRating
      else if !s.pwr.powered then .next { s with pwr.ub := ub }
      else .next (if ubBand ub != ubBand s.pwr.ub then (s.ubShown ub).enterBand (ubBand ub) else s.ubShown ub) := rfl

theorem onlyLogged_ubShown (s : State) (ub : Int) : OnlyLogged [R.PWR_SUPPLY_UB_MV] s (s.ubShown ub) :=
  onlyLogged_trans (onlyLogged_logPwr s s.log { s.pwr with ub := ub }) (onlyLogged_put _ _ _)

theorem State.get_ubShown {s : State} {ub : Int} (h : ub ≤ 60000) : (s.ubShown ub).get R.PWR_SUPPLY_UB_MV = ub.toNat :=
  State.get_put_of_lt _ (by have : R.PWR_SUPPLY_UB_MV.w = 16 := rfl; rw [this]; omega)

theorem LogGains.of_ubShown {s t : State} {ub : Int} {c : Nat} {ps : List Nat} (g : LogGains c ps (s.ubShown ub) t)
    (hk : ∀ f ∈ [R.LOG_MASK_VALUE (c / 32), R.ALM_MODE_MODE, R.CHR_DISC_TAI_VALID],
      f.key ∉ [R.LOG_LOST_VALUE, R.PWR_SUPPLY_UB_MV].map Fld.key) : LogGains c ps s t :=
  g.of_sameRegs (onlyLogged_ubShown s ub).1 rfl rfl hk

/-- EV120's parameter is the row's, counted from 9.0 V down. -/
theorem two_sub_ubBand {ub : Int} (h : ub < 9000) :
    2 - ubBand ub = if ub < 6500 then 2 else if ub < 8000 then 1 else 0 := by
  have h0 := ubBand_eq_zero_iff ub
  have h1 := ubBand_le_one_iff ub
  have h2 := ubBand_le_two_iff ub
  split_ifs <;> omega

/-- R28, R56: what UB_APPLY leaves: the row's fields, and every other register at its reset value. -/
theorem ubApply_powers {ub : Int} {s : State} (h : s.pwr.powered = false) (h0 : 0 ≤ ub) (h1 : ub ≤ 60000) :
    ∃ t, exec (.ubApply ub) s = .next t ∧ t.mode = mRESET ∧ t.pwr.powered = true ∧ t.pwr.ub = ub ∧
      t.get R.PWR_STATUS_UB_WARN = b2n (decide (ub < 9000)) ∧ t.get R.PWR_STATUS_UB_RIDE = b2n (decide (ub < 6500)) ∧
      t.get R.PWR_STATUS_UB_SHED = b2n (decide (ub < 8000)) ∧ t.get R.PWR_CAM_SHED = b2n (decide (ub < 8000)) ∧
      t.get R.PWR_STATUS_UB_OV = b2n (decide (36000 < ub)) ∧
      t.get R.PWR_SUPPLY_UB_MV = 0 ∧ t.get R.PWR_SUPPLY_UV_MV = 0 ∧
      (∀ f : Fld, f.key ∉ bandFlds.map Fld.key → t.get f = resetOf f.key) ∧
      t.log.slots = s.log.slots ∧ t.log.relayKw = s.log.relayKw ∧ t.log.relayKe = s.log.relayKe ∧ t.nor = s.nor := by
  have hdown : (s.ubApplied ub).log.up = false := rfl
  have hlog := (State.enterBand_of_down hdown (ubBand ub)).1
  have hpwr := (s.ubApplied ub).enterBand_pwr_eq (ubBand ub)
  have hrest (f : Fld) (hf : f.key ∉ bandFlds.map Fld.key) :
      ((s.ubApplied ub).enterBand (ubBand ub)).get f = resetOf f.key := State.get_enterBand_of_down hdown _ hf
  obtain ⟨hw, hr, hs, hc, ho⟩ := (s.ubApplied ub).get_enterBand_ubBand ub
  refine ⟨_, ?_, hrest _ (by decide), by rw [hpwr]; rfl, by rw [hpwr]; rfl, ?_, ?_, ?_, ?_, ?_, hrest _ (by decide),
    hrest _ (by decide), hrest, by rw [hlog]; rfl, by rw [hlog]; rfl, by rw [hlog]; rfl, ?_⟩
  · rw [exec_ubApply_of_unpowered h, if_neg (by omega), if_neg (by omega)]
  · rw [hw]; simp only [b2n, decide_eq_true_eq]; rfl
  · rw [hr]; simp only [b2n, decide_eq_true_eq]; rfl
  · rw [hs]; simp only [b2n, decide_eq_true_eq]; rfl
  · rw [hc]; simp only [b2n, decide_eq_true_eq]; rfl
  · rw [ho]; simp only [b2n, decide_eq_true_eq]; rfl
  · rw [(onlyLogged_enterBand _ _).2]; rfl

/-- R25: what a change of level leaves of a powered module: the level shown, and the new row's effect where it differs. -/
theorem ubLevelChange_powered {ub : Int} {s : State} (h : s.pwr.powered = true) (h0 : -36000 ≤ ub) (h1 : ub ≤ 60000) :
    ∃ t, exec (.ubLevelChange ub) s = .next t ∧ t.pwr.ub = ub ∧ t.get R.PWR_SUPPLY_UB_MV = ub.toNat ∧
      OnlyLogged [R.PWR_STATUS_UB_WARN, R.PWR_STATUS_UB_RIDE, R.PWR_STATUS_UB_SHED, R.PWR_CAM_SHED,
        R.PWR_STATUS_UB_OV, R.PWR_SUPPLY_UB_MV] s t ∧
      (ubBand ub = ubBand s.pwr.ub → t = { s with regs := t.regs, pwr.ub := ub } ∧ SameRegs [R.PWR_SUPPLY_UB_MV] s t) ∧
      (ubBand ub ≠ ubBand s.pwr.ub →
        (ub < 6500 → t.get R.PWR_STATUS_UB_RIDE = 1) ∧
        (ub < 8000 → t.get R.PWR_STATUS_UB_SHED = 1 ∧ t.get R.PWR_CAM_SHED = 1) ∧
        (ub < 9000 → t.get R.PWR_STATUS_UB_WARN = 1 ∧
          LogGains 120 [if ub < 6500 then 2 else if ub < 8000 then 1 else 0] s t) ∧
        (36000 < ub → t.get R.PWR_STATUS_UB_OV = 1 ∧ LogGains 121 [0] s t)) := by
  have hexec : exec (.ubLevelChange ub) s = .next (if ubBand ub != ubBand s.pwr.ub
      then (s.ubShown ub).enterBand (ubBand ub) else s.ubShown ub) := by
    rw [exec_ubLevelChange, if_neg (by omega), if_neg (by simp [h])]
  by_cases hb : ubBand ub = ubBand s.pwr.ub
  · rw [if_neg (by simp [hb])] at hexec
    exact ⟨_, hexec, rfl, State.get_ubShown h1, onlyLogged_mono (onlyLogged_ubShown s ub) (by simp),
      fun _ => ⟨rfl, sameRegs_put _ _ _⟩, fun hne => absurd hb hne⟩
  · rw [if_pos (by simpa using hb)] at hexec
    obtain ⟨hw, hr, hs, hc, ho⟩ := (s.ubShown ub).get_enterBand_ubBand ub
    refine ⟨_, hexec, by rw [State.enterBand_pwr_eq]; rfl, ?_, ?_, fun heq => absurd heq hb, fun _ =>
      ⟨fun hlt => by rw [hr, if_pos hlt], fun hlt => ⟨by rw [hs, if_pos hlt], by rw [hc, if_pos hlt]⟩,
        fun hlt => ⟨by rw [hw, if_pos hlt], ?_⟩, fun hlt => ⟨by rw [ho, if_pos hlt], ?_⟩⟩⟩
    · rw [(onlyLogged_enterBand _ _).1 _ (by decide), State.get_ubShown h1]
    · exact onlyLogged_mono (onlyLogged_trans (onlyLogged_ubShown s ub) (onlyLogged_enterBand _ _)) (by decide)
    · rw [← two_sub_ubBand hlt]
      exact (logGains_enterBand_low _ ((ubBand_le_two_iff ub).2 hlt)).of_ubShown (by decide)
    · exact (logGains_enterBand_high _ ((four_le_ubBand_iff ub).2 hlt)).of_ubShown (by decide)

/-- Settles O9: the level picks a row of Table 1.10, which acts when it is another than the old level's (log 29); outside the
rating both commands stop, which is the model's choice (log 9). -/
theorem supplyLevel : Obligations.SupplyLevel := by
  refine ⟨fun ub s h h0 h1 => ubApply_powers h h0 h1, fun ub s h h0 h1 => ?_, fun ub s h h0 h1 => ?_,
    fun ub s h h0 h1 => ubLevelChange_powered h h0 h1, fun ub s hout => ⟨?_, fun h => ?_⟩⟩
  · rw [exec_ubApply_of_unpowered h, if_neg (by omega), if_pos h1]
  · rw [exec_ubLevelChange, if_neg (by omega), if_pos (by simp [h])]
  · rw [exec_ubLevelChange, if_pos (by omega)]
  · rw [exec_ubApply_of_unpowered h, if_pos (by omega)]

end Sys2Proof.Machine

/-! The bypass relays: what a coil command does and leaves alone. -/

namespace Sys2Proof.Machine

/-! ### The relays' state and commands -/

theorem State.relay_setRelay (s : State) (r q : Fin 2) (x : Relay) :
    (s.setRelay r x).relay q = if q = r then x else s.relay q := by
  match r, q with
  | 0, 0 | 0, 1 | 1, 0 | 1, 1 => rfl

@[simp] theorem State.relay_setRelay_same (s : State) (r : Fin 2) (x : Relay) : (s.setRelay r x).relay r = x := by
  rw [State.relay_setRelay, if_pos rfl]

@[simp] theorem State.relay_put (s : State) (f : Fld) (v : Nat) (r : Fin 2) : (s.put f v).relay r = s.relay r := rfl

@[simp] theorem State.relay_raise (s : State) (c : Nat) (ps : List Nat) (r : Fin 2) :
    (s.raise c ps).relay r = s.relay r := by
  unfold State.relay
  rw [State.raise_pwr_eq]

@[simp] theorem State.get_setRelay (s : State) (r : Fin 2) (x : Relay) (f : Fld) : (s.setRelay r x).get f = s.get f :=
  State.get_congr (State.setRelay_regs s r x) f

/-- A relay's state replaced changes the relays of the PWR domain alone. -/
theorem State.setRelay_eq (s : State) (r : Fin 2) (x : Relay) :
    s.setRelay r x = { s with pwr.kw := (s.setRelay r x).pwr.kw, pwr.ke := (s.setRelay r x).pwr.ke } := by
  match r with
  | 0 | 1 => rfl

/-- What a coil command comes to: the coil as it was, with the command beside it, or a move that begins the cut window. -/
theorem State.coilTo_cases (s : State) (r : Fin 2) (pos : Bool) :
    (((pos = true ∧ (s.relay r).failOpen = true) ∨ (s.relay r).coil = pos) ∧
      s.coilTo r pos = (s.setRelay r { s.relay r with held := none }).put (relayCmd r) (b2n (s.relay r).coil)) ∨
    ((s.relay r).coil ≠ pos ∧ (pos = true → (s.relay r).failOpen = false) ∧
      s.coilTo r pos = ((s.setRelay r { s.relay r with coil := pos, held := none, cut := true }).put
        (relayCmd r) (b2n pos)).put (relayBusy r) 1) := by
  unfold State.coilTo
  by_cases hf : pos = true ∧ (s.relay r).failOpen = true
  · exact .inl ⟨.inl hf, if_pos (by simpa using hf)⟩
  · rw [if_neg (by simpa using hf)]
    by_cases hc : (s.relay r).coil = pos
    · subst hc; exact .inl ⟨.inr rfl, if_pos rfl⟩
    · exact .inr ⟨hc, fun hp => by simpa [hp] using hf, by rw [if_neg hc]⟩

theorem relayCmd_w : ∀ r : Fin 2, 0 < (relayCmd r).w := by decide
theorem one_lt_relayBusy : ∀ r : Fin 2, 1 < 2 ^ (relayBusy r).w := by decide
theorem relayCmd_ne_relayBusy : ∀ r : Fin 2, (relayCmd r).key ≠ (relayBusy r).key := by decide

/-- A coil command touches its two fields alone. -/
theorem sameRegs_coilTo (s : State) (r : Fin 2) (pos : Bool) :
    SameRegs [relayCmd r, relayBusy r] s (s.coilTo r pos) := by
  intro f hf
  simp only [List.map_cons, List.map_nil, List.mem_cons, List.not_mem_nil, or_false, not_or] at hf
  rcases s.coilTo_cases r pos with ⟨_, e⟩ | ⟨_, _, e⟩ <;> rw [e]
  · rw [State.get_put_other _ hf.1, State.get_setRelay]
  · rw [State.get_put_other _ hf.2, State.get_put_other _ hf.1, State.get_setRelay]

/-- The command field follows the coil. -/
theorem State.get_relayCmd_coilTo (s : State) (r : Fin 2) (pos : Bool) :
    (s.coilTo r pos).get (relayCmd r) = b2n ((s.coilTo r pos).relay r).coil := by
  rcases s.coilTo_cases r pos with ⟨_, e⟩ | ⟨_, _, e⟩ <;> rw [e]
  · simp [Nat.mod_eq_of_lt (b2n_lt_two_pow _ (relayCmd_w r))]
  · rw [State.get_put_other _ (relayCmd_ne_relayBusy r)]
    simp [Nat.mod_eq_of_lt (b2n_lt_two_pow _ (relayCmd_w r))]

/-- A relay that has not failed to open goes where it is commanded. -/
theorem State.coil_coilTo {s : State} {r : Fin 2} {pos : Bool} (h : pos = true → (s.relay r).failOpen = false) :
    ((s.coilTo r pos).relay r).coil = pos := by
  rcases s.coilTo_cases r pos with ⟨⟨hp, hf⟩ | hc, e⟩ | ⟨_, _, e⟩
  · simp [h hp] at hf
  · rw [e]; simpa using hc
  · rw [e]; simp

theorem State.held_coilTo (s : State) (r : Fin 2) (pos : Bool) : ((s.coilTo r pos).relay r).held = none := by
  rcases s.coilTo_cases r pos with ⟨_, e⟩ | ⟨_, _, e⟩ <;> rw [e] <;> simp

/-- A coil that moves begins its cut window, which BUSY shows. -/
theorem State.get_relayBusy_coilTo {s : State} {r : Fin 2} {pos : Bool} (hc : (s.relay r).coil ≠ pos)
    (h : pos = true → (s.relay r).failOpen = false) : (s.coilTo r pos).get (relayBusy r) = 1 := by
  rcases s.coilTo_cases r pos with ⟨⟨hp, hf⟩ | hc', _⟩ | ⟨_, _, e⟩
  · simp [h hp] at hf
  · exact absurd hc' hc
  · rw [e]; exact State.get_put_of_lt _ (one_lt_relayBusy r)

/-- A coil command changes the relays of the PWR domain alone. -/
theorem State.coilTo_eq (s : State) (r : Fin 2) (pos : Bool) :
    s.coilTo r pos = { s with
      regs := (s.coilTo r pos).regs, pwr.kw := (s.coilTo r pos).pwr.kw, pwr.ke := (s.coilTo r pos).pwr.ke } := by
  rcases s.coilTo_cases r pos with ⟨_, e⟩ | ⟨_, _, e⟩ <;> rw [e]
  · rw [State.setRelay_eq]; rfl
  · rw [State.setRelay_eq]; rfl

/-! ### Both relays to bypass (R46) -/

theorem State.closeRelays_pwr_eq (s : State) :
    s.closeRelays.pwr = { s.pwr with
      kw := s.closeRelays.pwr.kw, ke := s.closeRelays.pwr.ke, keClosing := s.closeRelays.pwr.keClosing } := by
  unfold State.closeRelays
  rw [State.coilTo_eq]
  rfl

theorem State.closeRelays_kw_coil (s : State) : s.closeRelays.pwr.kw.coil = false :=
  State.coil_coilTo (s := s) (r := 0) (by simp)

/-- The fields of the relays' commands that the closing of both touches. -/
def closeFlds : List Fld := [R.PWR_RELAY_KW_CMD, R.PWR_RELAY_KW_BUSY, R.PWR_RELAY_KE_CMD]

theorem sameRegs_closeRelays (s : State) : SameRegs closeFlds s s.closeRelays :=
  sameRegs_trans (sameRegs_coilTo s 0 false) (sameRegs_put _ R.PWR_RELAY_KE_CMD 0)

theorem State.get_kwCmd_closeRelays (s : State) : s.closeRelays.get R.PWR_RELAY_KW_CMD = 0 := by
  have hput := sameRegs_put
    ({ s.coilTo 0 false with
      pwr.keClosing := (s.coilTo 0 false).pwr.ke.coil
      pwr.kw.held := none, pwr.ke.held := none } : State) R.PWR_RELAY_KE_CMD 0 R.PWR_RELAY_KW_CMD (by decide)
  refine hput.trans ((s.get_relayCmd_coilTo 0 false).trans ?_)
  rw [State.coil_coilTo (by simp)]
  rfl

theorem State.get_keCmd_closeRelays (s : State) : s.closeRelays.get R.PWR_RELAY_KE_CMD = 0 :=
  State.get_put_of_lt _ (by decide)

end Sys2Proof.Machine

/-! The entry to RESET, and the failures that lead to it. -/

namespace Sys2Proof.Machine

/-! ### The Logbook's queue written before RESET (R442, R447) -/

/-- What writing the Logbook's records changes: the ring, the queue and the counts of lost and merged records. -/
def OnlyWritten (s t : State) : Prop :=
  SameRegs [R.LOG_LOST_VALUE, R.LOG_MERGED_VALUE] s t ∧ t = { s with regs := t.regs, log := t.log }

theorem onlyWritten_refl (s : State) : OnlyWritten s s := ⟨fun _ _ => rfl, rfl⟩

theorem onlyWritten_trans {s t u : State} (h : OnlyWritten s t) (g : OnlyWritten t u) : OnlyWritten s u :=
  ⟨fun f hf => (g.1 f hf).trans (h.1 f hf), by rw [g.2, h.2]⟩

theorem onlyWritten_log (s : State) (l : Log) : OnlyWritten s { s with log := l } := ⟨fun _ _ => rfl, rfl⟩

theorem onlyWritten_logWrite (s : State) (r : LogRec) : OnlyWritten s (s.logWrite r) := by
  simp only [State.logWrite]
  generalize (if r.held = true then _ else r) = q
  split_ifs
  · exact ⟨sameRegs_mono (sameRegs_put s R.LOG_MERGED_VALUE _) (by simp), rfl⟩
  · exact onlyWritten_log s _

theorem onlyWritten_logFlush (s : State) : OnlyWritten s s.logFlush := by
  have hfold (l : List LogRec) (t : State) : OnlyWritten t (l.foldl State.logWrite t) := by
    induction l generalizing t with
    | nil => exact onlyWritten_refl t
    | cons r l ih => exact onlyWritten_trans (onlyWritten_logWrite t r) (ih _)
  exact onlyWritten_trans (hfold _ s) (onlyWritten_log _ _)

/-- An event that the PWR domain does not hold is for the Logbook alone (R522). -/
theorem onlyWritten_raise (s : State) {c : Nat} (hc : heldSource c = false) (ps : List Nat) :
    OnlyWritten s (s.raise c ps) := by
  refine ⟨sameRegs_mono (sameRegs_raise s c ps) (by simp), ?_⟩
  have hpwr : (s.raise c ps).pwr = s.pwr := by
    unfold State.raise State.raiseE
    simp only [hc, Bool.false_eq_true, if_false]
    split_ifs <;> simp
  rw [(onlyLogged_raise s c ps).2, hpwr]

theorem onlyWritten_logDrain (s : State) : OnlyWritten s s.logDrain := by
  simp only [State.logDrain]
  split_ifs
  · exact onlyWritten_logFlush s
  · exact onlyWritten_trans (onlyWritten_logFlush s)
      (onlyWritten_trans (onlyWritten_log _ _)
        (onlyWritten_trans (onlyWritten_raise _ rfl _) (onlyWritten_logFlush _)))

/-! ### The entry to RESET (R56, R65, R66, R84) -/

/-- The state with its Logbook written, where no hold-up runs. -/
def State.drained (s : State) (cause : Nat) : State :=
  if decide (cause = 0) || s.pwr.holdUp then s else s.logDrain

/-- RESET's values in every domain but PWR, before the mode is shown and the relays close. -/
def State.resetBase (s : State) (cause : Nat) : State :=
  let u := s.drained cause
  let holdUp := decide (cause = 0) || s.pwr.holdUp
  { pending := u.pending
    freeCtr := u.freeCtr
    regs := u.regs.filter fun e => pwrKey e.1
    nor := u.nor
    mrd := { stations := u.mrd.stations.set (u.get R.MRD_STATUS_ROLE) {} }
    pwr := { u.pwr with
      rstCause := if holdUp then 0 else cause, actDue := u.pwr.actDue || decide (cause = 4), holdUp := holdUp
      pdBegun := u.flag R.PWR_STATUS_SHUTREQ && cause != 5, modOkPhase := true, camTrip := 0, sensTrip := 0, camWait := 0 }
    log := { u.log with up := holdUp && s.log.up } }

/-- What RESET shows and clears (R43, R58). -/
def State.resetPuts (s : State) (cause : Nat) : List (Fld × Nat) :=
  [(R.ALM_MODE_MODE, mRESET), (R.ALM_MODE_PREV, s.mode), (R.ALM_MODE_CAUSE, cause), (R.PWR_CAM_EN, 0), (R.PWR_CAM_FLT, 0),
    (R.PWR_SENS_EN, 0), (R.PWR_SENS_FLT, 0)]

theorem State.enterReset_eq (s : State) (cause : Nat) :
    s.enterReset cause = ((s.resetBase cause).puts (s.resetPuts cause)).closeRelays := rfl

theorem onlyWritten_drained (s : State) (cause : Nat) : OnlyWritten s (s.drained cause) := by
  unfold State.drained
  split_ifs
  · exact onlyWritten_refl s
  · exact onlyWritten_logDrain s

theorem cellGet_filter (p : Nat → Bool) (k : Nat) (l : List (Nat × Nat)) :
    cellGet k (l.filter fun e => p e.1) = if p k then cellGet k l else none := by
  induction l with
  | nil => simp [cellGet]
  | cons e l ih =>
    obtain ⟨a, v⟩ := e
    by_cases ha : a = k
    · subst ha
      cases hp : p a <;> simp [cellGet, hp, ih]
    · cases hp : p a <;> simp [cellGet, hp, ha, ih]

/-- RESET keeps the PWR domain's registers and no other (R56). -/
theorem State.get_resetBase (s : State) (cause : Nat) (f : Fld) :
    (s.resetBase cause).get f = if pwrKey f.key then (s.drained cause).get f else resetOf f.key := by
  unfold State.get
  change (cellGet f.key ((s.drained cause).regs.filter fun e => pwrKey e.1)).getD _ = _
  rw [cellGet_filter]
  split_ifs <;> rfl

/-- The fields that an entry to RESET puts or that the closing of the relays touches. -/
def resetFlds : List Fld :=
  [R.ALM_MODE_MODE, R.ALM_MODE_PREV, R.ALM_MODE_CAUSE, R.PWR_CAM_EN, R.PWR_CAM_FLT, R.PWR_SENS_EN, R.PWR_SENS_FLT] ++ closeFlds

theorem State.get_enterReset_other (s : State) (cause : Nat) : SameRegs resetFlds (s.resetBase cause) (s.enterReset cause) :=
  sameRegs_trans (onlyRegs_puts _ (s.resetPuts cause)).1 (sameRegs_closeRelays _)

theorem State.get_enterReset_of_other_domain (s : State) (cause : Nat) {f : Fld} (h : pwrKey f.key = false)
    (hf : f.key ∉ [R.ALM_MODE_MODE, R.ALM_MODE_PREV, R.ALM_MODE_CAUSE].map Fld.key) :
    (s.enterReset cause).get f = resetOf f.key := by
  have hpwr : f.key ∉ ([R.PWR_CAM_EN, R.PWR_CAM_FLT, R.PWR_SENS_EN, R.PWR_SENS_FLT] ++ closeFlds).map Fld.key := by
    intro hk
    have : ∀ k ∈ ([R.PWR_CAM_EN, R.PWR_CAM_FLT, R.PWR_SENS_EN, R.PWR_SENS_FLT] ++ closeFlds).map Fld.key,
      pwrKey k = true := by decide
    simp [this _ hk] at h
  rw [s.get_enterReset_other cause f ?_, State.get_resetBase, if_neg (by simp [h])]
  rw [show resetFlds = [R.ALM_MODE_MODE, R.ALM_MODE_PREV, R.ALM_MODE_CAUSE] ++
    ([R.PWR_CAM_EN, R.PWR_CAM_FLT, R.PWR_SENS_EN, R.PWR_SENS_FLT] ++ closeFlds) from rfl, List.map_append, List.mem_append]
  exact not_or.2 ⟨hf, hpwr⟩

/-- A PWR register that the entry does not put reads as before. -/
theorem State.get_enterReset_of_pwr (s : State) (cause : Nat) {f : Fld} (h : pwrKey f.key = true)
    (hf : f.key ∉ (resetFlds ++ [R.LOG_LOST_VALUE, R.LOG_MERGED_VALUE]).map Fld.key) :
    (s.enterReset cause).get f = s.get f := by
  rw [List.map_append, List.mem_append, not_or] at hf
  rw [s.get_enterReset_other cause f hf.1, State.get_resetBase, if_pos h, (onlyWritten_drained s cause).1 f hf.2]

theorem State.get_enterReset_modes (s : State) {cause : Nat} (hc : cause < 256) :
    (s.enterReset cause).mode = mRESET ∧ (s.enterReset cause).get R.ALM_MODE_PREV = s.mode % 8 ∧
      (s.enterReset cause).get R.ALM_MODE_CAUSE = cause := by
  rw [State.enterReset_eq]
  refine ⟨?_, ?_, ?_⟩
  · refine ((sameRegs_closeRelays _) R.ALM_MODE_MODE (by decide)).trans ?_
    simp (disch := decide) [State.resetPuts, State.puts, State.get_put_other]
  · refine ((sameRegs_closeRelays _) R.ALM_MODE_PREV (by decide)).trans ?_
    simp (disch := decide) only [State.resetPuts, State.puts, State.get_put_other, State.get_put_same]
    rfl
  · refine ((sameRegs_closeRelays _) R.ALM_MODE_CAUSE (by decide)).trans ?_
    simp (disch := decide) only [State.resetPuts, State.puts, State.get_put_other, State.get_put_same]
    exact Nat.mod_eq_of_lt hc

/-- What an entry to RESET keeps of the PWR domain beside its registers. -/
theorem State.enterReset_pwr_eq (s : State) (cause : Nat) :
    (s.enterReset cause).pwr = { (s.resetBase cause).pwr with
      kw := (s.enterReset cause).pwr.kw, ke := (s.enterReset cause).pwr.ke
      keClosing := (s.enterReset cause).pwr.keClosing } := by
  rw [State.enterReset_eq, State.closeRelays_pwr_eq]
  simp only [State.puts_pwr]

theorem State.drained_pwr (s : State) (cause : Nat) : (s.drained cause).pwr = s.pwr := by
  rw [(onlyWritten_drained s cause).2]

@[simp] theorem State.enterReset_nor (s : State) (cause : Nat) : (s.enterReset cause).nor = s.nor := by
  rw [State.enterReset_eq, State.closeRelays_nor, State.puts_nor]
  change (s.drained cause).nor = s.nor
  rw [(onlyWritten_drained s cause).2]

@[simp] theorem State.enterReset_log (s : State) (cause : Nat) :
    (s.enterReset cause).log = (s.resetBase cause).log := by
  rw [State.enterReset_eq, State.closeRelays_log, State.puts_log]

/-- Every entry to RESET with a cause leaves what R56, R58, R65 and R84 state, of the state that the command found. -/
theorem resetEntered_enterReset {s u : State} {cause : Nat} (hc : cause < 256) (hm : u.mode = s.mode)
    (hp : u.pending = s.pending) : ResetEntered cause s (u.enterReset cause) := by
  obtain ⟨hmode, hprev, hcause⟩ := u.get_enterReset_modes hc
  refine ⟨hmode, hm ▸ hprev, hcause, fun f hf hk => u.get_enterReset_of_other_domain cause hf hk, ?_, ?_, ?_, ?_,
    State.closeRelays_kw_coil _, State.get_kwCmd_closeRelays _, State.get_keCmd_closeRelays _, ?_⟩
  · rw [State.enterReset_eq, State.closeRelays_tickW, State.puts_tickW]; rfl
  · rw [State.enterReset_eq, State.closeRelays_staged, State.puts_staged]; rfl
  · rw [State.enterReset_eq, State.closeRelays_commits, State.puts_commits]; rfl
  · rw [State.enterReset_eq, State.closeRelays_chr, State.puts_chr]; rfl
  · rw [State.enterReset_eq, State.closeRelays_pending, State.puts_pending, ← hp]
    change (u.drained cause).pending = u.pending
    rw [(onlyWritten_drained u cause).2]

/-! ### The obligation -/

/-- R26: above 48.0 V. -/
theorem exec_overvoltageShutdown {s : State} (h : s.pwr.powered = true) (hub : 48000 < s.pwr.ub) :
    exec .overvoltageShutdown s =
      .next (((s.raise 121 [2]).urgentRec 0x0101 (s.raise 121 [2]).pfParams).enterReset 0x06) :=
  if_pos (by simpa [h] using (five_le_ubBand_iff _).2 hub)

/-- R52: below 6.5 V. -/
theorem exec_powerFailure {s : State} (h : s.pwr.powered = true) (hh : s.pwr.holdUp = false) (hub : s.pwr.ub < 6500) :
    exec .powerFailure s = .next ((s.urgentRec 0x0101 s.pfParams).enterReset 0x00) :=
  if_pos (by simpa [h, hh] using (ubBand_eq_zero_iff _).2 hub)

theorem exec_xrstAssert {s : State} (h : s.pwr.powered = true) : exec .xrstAssert s = .next (s.enterReset 0x01) := by
  change execXrstAssert s = _
  rw [execXrstAssert, if_pos h]

/-- Table 3.9: a clock failure counted in the PWR domain. -/
def State.clockFailed (s : State) : State :=
  { s with pwr := { s.pwr with
      clkFails := recent s.pwr.clock s.pwr.clkFails
      stuck := s.pwr.stuck || decide (3 ≤ (recent s.pwr.clock s.pwr.clkFails).length) } }

theorem exec_clockFailure (s : State) :
    ∃ ps, exec .clockFailure s = .next (((s.clockFailed.raise 1 [0]).urgentRec 0x0102 ps).enterReset 0x07) := ⟨_, rfl⟩

@[simp] theorem State.mode_urgentRec (s : State) (c : Nat) (ps : List Nat) : (s.urgentRec c ps).mode = s.mode := by
  unfold State.urgentRec
  split <;> rfl

/-- R52, R447: a power failure records itself ahead of the queue, and the Logbook works on. -/
theorem powerFailure_log (s : State) (ps : List Nat) :
    ((s.urgentRec 0x0101 ps).enterReset 0x00).log.up = s.log.up ∧
      (s.log.up = true → ((s.urgentRec 0x0101 ps).enterReset 0x00).log.queue = s.log.queue ∧
        ∃ r : LogRec, ((s.urgentRec 0x0101 ps).enterReset 0x00).log.urgent = s.log.urgent ++ [r] ∧
          r.code = 0x0101 ∧ r.mt = s.now) := by
  have hlog : ((s.urgentRec 0x0101 ps).enterReset 0x00).log = (s.urgentRec 0x0101 ps).log :=
    State.enterReset_log _ _
  rw [hlog]
  unfold State.urgentRec
  cases hu : s.log.up with
  | false => exact ⟨by simp [hu], by simp⟩
  | true => exact ⟨by simp [hu], fun _ => ⟨rfl, s.mkRec 0x0101 0 ps false false, rfl, rfl, rfl⟩⟩

/-- R56, R522: the hold-up has run out with UB still below 6.5 V. -/
def State.unpowered (s : State) : State where
  pending := s.pending
  freeCtr := s.freeCtr
  nor := s.nor
  mrd := { stations := s.mrd.stations }
  pwr := { powered := false, ub := s.pwr.ub, uv := s.pwr.uv, ssel := s.pwr.ssel,
           kw := { cut := s.pwr.kw.cut }, ke := s.pwr.ke, keClosing := s.pwr.keClosing }
  log := { s.log with up := false, urgent := [], queue := [], lostSince := 0 }

theorem exec_holdUpEnd {s : State} (h : s.pwr.holdUp = true) (hub : s.pwr.ub < 6500) :
    exec .holdUpEnd s = .next s.unpowered := by
  change execHoldUpEnd s = _
  rw [execHoldUpEnd, if_neg (by simp [h]), if_neg (by omega)]
  rfl

theorem clockFailure_resets (s : State) :
    ∃ t, exec .clockFailure s = .next t ∧ ResetEntered 0x07 s t ∧ t.nor = s.nor ∧
      t.pwr.clkFails = s.pwr.clock :: s.pwr.clkFails.filter (fun c => decide (s.pwr.clock < c + 600000)) ∧
      (t.pwr.stuck = true ↔ s.pwr.stuck = true ∨ 3 ≤ t.pwr.clkFails.length) := by
  obtain ⟨ps, he⟩ := exec_clockFailure s
  have hpwr : (((s.clockFailed.raise 1 [0]).urgentRec 0x0102 ps).enterReset 0x07).pwr.clkFails =
        recent s.pwr.clock s.pwr.clkFails ∧
      (((s.clockFailed.raise 1 [0]).urgentRec 0x0102 ps).enterReset 0x07).pwr.stuck =
        (s.pwr.stuck || decide (3 ≤ (recent s.pwr.clock s.pwr.clkFails).length)) := by
    rw [State.enterReset_pwr_eq]
    simp only [State.resetBase, State.drained_pwr, State.urgentRec_pwr]
    rw [State.raise_pwr_eq]
    exact ⟨rfl, rfl⟩
  refine ⟨_, he, resetEntered_enterReset (by decide) ?_ ?_, ?_, hpwr.1, ?_⟩
  · rw [State.mode_urgentRec, State.mode_raise]; rfl
  · rw [State.urgentRec_pending, State.raise_pending]; rfl
  · rw [State.enterReset_nor, State.urgentRec_nor, State.raise_nor]; rfl
  · rw [hpwr.1, hpwr.2, Bool.or_eq_true, decide_eq_true_eq]

/-- Settles O10: every one of the commands comes to `State.enterReset` with its cause. The window of the third clock failure runs
on the PWR domain's time, which stands still in RESET (log 28). Inside a hold-up ALM_MODE shows the command's own cause, while
the release goes by the cause 0x00 that the PWR domain keeps (log 23). -/
theorem failureResets : Obligations.FailureResets := by
  refine ⟨fun s h hub => ?_, fun s h hh hub => ?_, fun s h => ?_, clockFailure_resets, fun s h hub => ?_⟩
  · refine ⟨_, exec_overvoltageShutdown h hub, resetEntered_enterReset (by decide) ?_ ?_, ?_⟩
    · rw [State.mode_urgentRec, State.mode_raise]
    · rw [State.urgentRec_pending, State.raise_pending]
    · rw [State.enterReset_nor, State.urgentRec_nor, State.raise_nor]
  · obtain ⟨hup, hrec⟩ := powerFailure_log s s.pfParams
    refine ⟨_, exec_powerFailure h hh hub, resetEntered_enterReset (by decide) ?_ ?_, ?_, ?_, hup, hrec⟩
    · rw [State.mode_urgentRec]
    · rw [State.urgentRec_pending]
    · rw [State.enterReset_nor, State.urgentRec_nor]
    · rw [State.enterReset_pwr_eq]; rfl
  · exact ⟨_, exec_xrstAssert h, resetEntered_enterReset (by decide) rfl rfl, State.enterReset_nor _ _⟩
  · refine ⟨_, exec_holdUpEnd h hub, rfl, rfl, rfl, rfl, fun c => rfl, rfl, rfl, rfl, rfl⟩

end Sys2Proof.Machine

/-! The camera supplies, and the retry that cameras and sensors share. -/

namespace Sys2Proof.Machine

/-! ### Camera and sensor supplies (R25, R29, R42, R43) -/

/-- One more bit of a byte that holds faults. -/
theorem State.get_orBits_same (s : State) (f : Fld) (m : Nat) : (s.orBits f m).get f = (s.get f ||| m) % 2 ^ f.w :=
  State.get_put_same s f _

/-- An event that comes with a change of the PWR domain beside its registers: what a trip of a supply leaves. -/
theorem onlyLogged_pwr_raise (s : State) (p : Pwr) (c : Nat) (ps : List Nat) :
    OnlyLogged [] s (({ s with pwr := p } : State).raise c ps) :=
  onlyLogged_trans (onlyLogged_logPwr s s.log p) (onlyLogged_raise _ c ps)

/-- A record does not show the PWR domain beside its registers. -/
theorem logGains_pwr_raise (s : State) (p : Pwr) (c : Nat) (ps : List Nat) :
    LogGains c ps s (({ s with pwr := p } : State).raise c ps) :=
  logGains_raise { s with pwr := p } c ps

/-- R42, R43: the end of a retry: a second failure latches the supply off in `f`, with the event. -/
def State.retryEnd (s : State) (p : Pwr) (f : Fld) (n : Nat) (c : Nat) (fails : Bool) : State :=
  if fails then (({ s with pwr := p } : State).orBits f (2 ^ n)).raise c [n] else { s with pwr := p }

theorem onlyLogged_retryEnd (s : State) (p : Pwr) (f : Fld) (n c : Nat) (fails : Bool) :
    OnlyLogged [f] s (s.retryEnd p f n c fails) := by
  have hp : OnlyLogged [] s { s with pwr := p } := onlyLogged_logPwr s s.log p
  cases fails with
  | false => exact onlyLogged_mono hp (by simp)
  | true =>
    exact onlyLogged_mono (onlyLogged_trans hp (onlyLogged_trans (onlyLogged_put _ f _) (onlyLogged_raise _ c [n])))
      (by simp)

theorem State.get_retryEnd (s : State) (p : Pwr) {f : Fld} (n c : Nat) (hf : f.key ≠ R.LOG_LOST_VALUE.key) :
    (s.retryEnd p f n c true).get f = (s.get f ||| 2 ^ n) % 2 ^ f.w := by
  change ((({ s with pwr := p } : State).orBits f (2 ^ n)).raise c [n]).get f = _
  rw [State.get_raise _ _ _ hf, State.get_orBits_same]
  rfl

theorem logGains_retryEnd (s : State) (p : Pwr) {f : Fld} (n : Nat) {c : Nat}
    (hk : ∀ g ∈ [R.LOG_MASK_VALUE (c / 32), R.ALM_MODE_MODE, R.CHR_DISC_TAI_VALID], g.key ∉ [f].map Fld.key) :
    LogGains c [n] s (s.retryEnd p f n c true) :=
  (logGains_raise (({ s with pwr := p } : State).orBits f (2 ^ n)) c [n]).of_sameRegs
    (sameRegs_put { s with pwr := p } f _) rfl rfl hk

theorem State.retryEnd_pwr_eq (s : State) (p : Pwr) (f : Fld) (n c : Nat) (fails : Bool) :
    (s.retryEnd p f n c fails).pwr = { p with held := (s.retryEnd p f n c fails).pwr.held } := by
  cases fails with
  | false => rfl
  | true => exact State.raise_pwr_eq _ c [n]

/-! #### Cameras -/

/-- R25: cameras shed by the 60 s above 36.0 V. -/
theorem exec_cameraShedOvervoltage {s : State} (h : s.pwr.powered = true) (h0 : 36000 < s.pwr.ub) (h1 : s.pwr.ub ≤ 48000) :
    exec .cameraShedOvervoltage s = .next (s.shed.raise 121 [1]) := by
  have h4 := (four_le_ubBand_iff s.pwr.ub).2 h0
  have h5 : ¬5 ≤ ubBand s.pwr.ub := fun hb => absurd ((five_le_ubBand_iff _).1 hb) (by omega)
  exact if_pos (by simp [h]; omega)

theorem onlyLogged_shed (s : State) : OnlyLogged [R.PWR_CAM_SHED, R.PWR_STATUS_UB_SHED] s s.shed :=
  onlyLogged_trans (onlyLogged_logPwr s s.log { s.pwr with camWait := 0 })
    (onlyLogged_trans (onlyLogged_put _ R.PWR_CAM_SHED 1) (onlyLogged_put _ R.PWR_STATUS_UB_SHED 1))

theorem State.get_shed (s : State) : s.shed.get R.PWR_CAM_SHED = 1 ∧ s.shed.get R.PWR_STATUS_UB_SHED = 1 := by
  refine ⟨?_, State.get_put_of_lt _ (by decide)⟩
  exact (State.get_put_other _ (by decide) 1).trans (State.get_put_of_lt _ (by decide))

/-- Shed cameras carry no power. -/
theorem State.camOn_of_shed {s : State} (h : s.get R.PWR_CAM_SHED ≠ 0) : s.camOn = 0 :=
  if_neg (by simp [State.flag, h])

/-- R29: the ports that wait for power when a return comes: all that are due at the first return. -/
def State.camWaits (s : State) : Nat := if s.flag R.PWR_CAM_SHED then s.camDue else s.pwr.camWait &&& s.camDue

theorem State.camWaits_of_shed {s : State} (h : s.get R.PWR_CAM_SHED ≠ 0) : s.camWaits = s.camDue :=
  if_pos (by simpa [State.flag] using h)

theorem State.camWaits_of_not_shed {s : State} (h : s.get R.PWR_CAM_SHED = 0) :
    s.camWaits = s.pwr.camWait &&& s.camDue := if_neg (by simp [State.flag, h])

/-- The ports that still wait once a return has come: `wait` without its lowest. -/
def waitRest (wait : Nat) : Nat :=
  match firstBit wait with
  | some i => setBit wait i false
  | none => 0

theorem waitRest_of_first {wait i : Nat} (h : firstBit wait = some i) : waitRest wait = setBit wait i false := by
  unfold waitRest
  rw [h]

theorem exec_cameraSupplyReturn {s : State} (h : s.pwr.powered = true) (h0 : 8500 ≤ s.pwr.ub) (h1 : s.pwr.ub ≤ 36000) :
    exec .cameraSupplyReturn s =
      .next (({ s with pwr.camWait := waitRest s.camWaits } : State).put R.PWR_CAM_SHED 0) := by
  change execCameraSupplyReturn s = _
  rw [execCameraSupplyReturn, if_pos (by simp [h, h0, h1])]
  rfl

theorem exec_cameraSupplyTrip {s : State} {p : Fin 8} (h : bit s.camOn p = true) :
    exec (.cameraSupplyTrip p) s =
      .next (({ s with pwr.camTrip := setBit s.pwr.camTrip p true } : State).raise 124 [p]) := if_pos h

theorem exec_cameraSupplyRetry {s : State} {p : Fin 8} {fails : Bool} (h : bit s.pwr.camTrip p = true) :
    exec (.cameraSupplyRetry p fails) s =
      .next (s.retryEnd { s.pwr with camTrip := setBit s.pwr.camTrip p false } R.PWR_CAM_FLT p 124 fails) := if_pos h

/-- Settles O11: each command once under its condition; a return names the ports that wait by whether the cameras are shed. -/
theorem cameraSupplies : Obligations.CameraSupplies := by
  refine ⟨fun s h h0 h1 => ?_, fun s i h h0 h1 hshed hi => ?_, fun s h h0 h1 hshed => ?_, fun s p hp => ?_,
    fun s p fails hp => ?_, fun s m => ?_⟩
  · obtain ⟨hcam, hub⟩ := s.get_shed
    have hcam' : (s.shed.raise 121 [1]).get R.PWR_CAM_SHED = 1 := by rw [State.get_raise _ _ _ (by decide), hcam]
    refine ⟨_, exec_cameraShedOvervoltage h h0 h1, hcam', ?_, State.camOn_of_shed (by simp [hcam']), ?_, ?_⟩
    · rw [State.get_raise _ _ _ (by decide), hub]
    · exact (logGains_raise _ _ _).of_sameRegs (onlyLogged_shed s).1 rfl rfl (by decide)
    · exact onlyLogged_mono (onlyLogged_trans (onlyLogged_shed s) (onlyLogged_raise _ _ _)) (by simp)
  · have hexec := exec_cameraSupplyReturn h h0 h1
    rw [State.camWaits_of_not_shed hshed, waitRest_of_first hi] at hexec
    refine ⟨_, hexec, rfl, rfl, fun f _ => ?_⟩
    rw [State.get_put]
    split_ifs with hk
    · simpa only [State.get, hk, Nat.zero_mod] using hshed.symm
    · rfl
  · have hexec := exec_cameraSupplyReturn h h0 h1
    rw [State.camWaits_of_shed hshed] at hexec
    exact ⟨_, hexec, State.get_put_of_lt _ (by decide), fun i hi => waitRest_of_first hi, rfl, sameRegs_put _ _ _⟩
  · refine ⟨_, exec_cameraSupplyTrip hp, ?_, logGains_pwr_raise s _ _ _, onlyLogged_pwr_raise s _ _ _⟩
    rw [State.raise_pwr_eq]
  · refine ⟨_, exec_cameraSupplyRetry hp, ?_, onlyLogged_retryEnd s _ _ _ _ _, ?_, ?_⟩
    · rw [State.retryEnd_pwr_eq]
    · rintro rfl
      rfl
    · rintro rfl
      exact ⟨s.get_retryEnd _ p 124 (by decide), logGains_retryEnd s _ p (by decide)⟩
  · exact ⟨_, rfl, State.get_put_same s R.PWR_CAM_FLT _, onlyRegs_put s _ _⟩

end Sys2Proof.Machine

/-! The sensor supplies and the temperature. -/

namespace Sys2Proof.Machine

/-! #### Sensor supplies -/

theorem exec_sensorSupplyTrip {s : State} {p : Fin 8} (h : bit s.sensOn p = true) :
    exec (.sensorSupplyTrip p) s =
      .next (({ s with pwr.sensTrip := setBit s.pwr.sensTrip p true } : State).raise 125 [p]) := if_pos h

theorem exec_sensorSupplyRetry {s : State} {p : Fin 8} {fails : Bool} (h : bit s.pwr.sensTrip p = true) :
    exec (.sensorSupplyRetry p fails) s =
      .next (s.retryEnd { s.pwr with sensTrip := setBit s.pwr.sensTrip p false } R.PWR_SENS_FLT p 125 fails) := if_pos h

/-! ### The temperature (R37, Table 1.12) -/

/-- The temperatures shown, and which actions are in force with them. -/
def State.tempTaken (s : State) (tj tcp : Int) : State :=
  { (s.put R.PWR_TEMP_TJ (ofInt 16 tj)).put R.PWR_TEMP_TCP (ofInt 16 tcp) with
    pwr.tWarn := decide (tj ≥ 1760) || s.pwr.tWarn && decide (tj > 1600)
    pwr.tLimp := decide (tj ≥ 1888) || s.pwr.tLimp && decide (tj > 1728)
    pwr.tTrip := decide (tj ≥ 2000) || s.pwr.tTrip && decide (tj > 1840) }

/-- An action that begins sets its flag and raises EV123. -/
def State.thermal (s : State) (begins : Bool) (f : Fld) (n : Nat) : State :=
  if begins then (s.put f 1).raise 123 [n] else s

/-- Both actions below the trip begun, where they begin. -/
def State.tempFlagged (s : State) (tj tcp : Int) : State :=
  ((s.tempTaken tj tcp).thermal (decide (tj ≥ 1760 ∧ s.pwr.tWarn = false)) R.PWR_STATUS_T_WARN 0).thermal
    (decide (tj ≥ 1888 ∧ s.pwr.tLimp = false)) R.PWR_STATUS_T_LIMP 1

/-- With LIMP requested; the trip comes after it. -/
def State.tempActed (s : State) (tj tcp : Int) : State :=
  let u := s.tempFlagged tj tcp
  if u.pwr.tLimp ∧ !u.alm.modeReq.contains (mLIMP, 0x32) then u.reqLimp 0x32 else u

theorem exec_tempMeasure (tj tcp : Int) (s : State) :
    exec (.tempMeasure tj tcp) s = .next (if tj ≥ 2000 ∧ s.pwr.tTrip = false
      then (((s.tempActed tj tcp).put R.PWR_STATUS_T_TRIP 1).raise 123 [2]).enterReset 0x03
      else s.tempActed tj tcp) := by
  simp only [State.tempActed, State.tempFlagged, State.thermal, decide_eq_true_eq]
  rfl

theorem ofInt_lt (w : Nat) (i : Int) : ofInt w i < 2 ^ w := by
  have hpos : (0 : Int) < (2 ^ w : Nat) := by exact_mod_cast Nat.two_pow_pos w
  have h0 := Int.emod_nonneg i hpos.ne'
  have h1 := Int.emod_lt_of_pos i hpos
  unfold ofInt
  omega

theorem onlyLogged_thermal (s : State) (b : Bool) (f : Fld) (n : Nat) : OnlyLogged [f] s (s.thermal b f n) := by
  cases b with
  | false => exact onlyLogged_of_regs (onlyRegs_refl _ s)
  | true => exact onlyLogged_mono (onlyLogged_trans (onlyLogged_put s f 1) (onlyLogged_raise _ 123 [n])) (by simp)

theorem State.thermal_pwr_eq (s : State) (b : Bool) (f : Fld) (n : Nat) :
    (s.thermal b f n).pwr = { s.pwr with held := (s.thermal b f n).pwr.held } := by
  cases b with
  | false => rfl
  | true => exact State.raise_pwr_eq _ 123 [n]

theorem State.get_thermal (s : State) {f : Fld} (hf : f.key ≠ R.LOG_LOST_VALUE.key) (hw : 1 < 2 ^ f.w) (n : Nat) :
    (s.thermal true f n).get f = 1 :=
  (State.get_raise _ 123 [n] hf).trans (State.get_put_of_lt s hw)

theorem onlyLogged_tempTaken (s : State) (tj tcp : Int) :
    OnlyLogged [R.PWR_TEMP_TJ, R.PWR_TEMP_TCP] s (s.tempTaken tj tcp) :=
  onlyLogged_trans (onlyLogged_put s _ _)
    (onlyLogged_trans (onlyLogged_put _ R.PWR_TEMP_TCP (ofInt 16 tcp)) (onlyLogged_logPwr _ s.log (s.tempTaken tj tcp).pwr))

theorem onlyLogged_tempFlagged (s : State) (tj tcp : Int) :
    OnlyLogged [R.PWR_TEMP_TJ, R.PWR_TEMP_TCP, R.PWR_STATUS_T_WARN, R.PWR_STATUS_T_LIMP] s (s.tempFlagged tj tcp) :=
  onlyLogged_trans (onlyLogged_tempTaken s tj tcp)
    (onlyLogged_trans (onlyLogged_thermal _ _ R.PWR_STATUS_T_WARN 0) (onlyLogged_thermal _ _ R.PWR_STATUS_T_LIMP 1))

/-- A request of LIMP changes ALM's mode requests alone. -/
theorem State.tempActed_eq (s : State) (tj tcp : Int) :
    s.tempActed tj tcp = { s.tempFlagged tj tcp with alm := (s.tempActed tj tcp).alm } := by
  simp only [State.tempActed, State.reqLimp]
  split_ifs <;> rfl

theorem State.get_tempActed (s : State) (tj tcp : Int) (f : Fld) :
    (s.tempActed tj tcp).get f = (s.tempFlagged tj tcp).get f := by
  rw [State.tempActed_eq]; rfl

/-- The actions in force after a measurement: each holds until 10 K below its threshold. -/
theorem State.tempActed_pwr (s : State) (tj tcp : Int) :
    (s.tempActed tj tcp).pwr = { (s.tempTaken tj tcp).pwr with held := (s.tempActed tj tcp).pwr.held } := by
  rw [State.tempActed_eq]
  change (s.tempFlagged tj tcp).pwr = { (s.tempTaken tj tcp).pwr with held := (s.tempFlagged tj tcp).pwr.held }
  rw [State.tempFlagged, State.thermal_pwr_eq, State.thermal_pwr_eq]

theorem State.get_tempActed_temps (s : State) (tj tcp : Int) :
    (s.tempActed tj tcp).get R.PWR_TEMP_TJ = ofInt 16 tj ∧ (s.tempActed tj tcp).get R.PWR_TEMP_TCP = ofInt 16 tcp := by
  have hkeep (f : Fld) (hw : f.key ∉ [R.LOG_LOST_VALUE, R.PWR_STATUS_T_WARN].map Fld.key)
      (hl : f.key ∉ [R.LOG_LOST_VALUE, R.PWR_STATUS_T_LIMP].map Fld.key) :
      (s.tempActed tj tcp).get f = (s.tempTaken tj tcp).get f := by
    rw [State.get_tempActed, State.tempFlagged, (onlyLogged_thermal _ _ _ _).1 f hl, (onlyLogged_thermal _ _ _ _).1 f hw]
  constructor
  · rw [hkeep _ (by decide) (by decide)]
    exact (State.get_put_other _ (by decide) _).trans (State.get_put_of_lt s (ofInt_lt 16 tj))
  · rw [hkeep _ (by decide) (by decide)]
    exact State.get_put_of_lt _ (ofInt_lt 16 tcp)

/-- Table 1.12: a warning that begins. -/
theorem State.get_tempActed_warn {s : State} {tj : Int} (tcp : Int) (h : 1760 ≤ tj) (hw : s.pwr.tWarn = false) :
    (s.tempActed tj tcp).get R.PWR_STATUS_T_WARN = 1 := by
  have hb : decide (tj ≥ 1760 ∧ s.pwr.tWarn = false) = true := by simp [h, hw]
  rw [State.get_tempActed, State.tempFlagged, (onlyLogged_thermal _ _ _ _).1 _ (by decide), hb]
  exact State.get_thermal _ (by decide) (by decide) 0

/-- Table 1.12: the action at 118 °C begins. -/
theorem State.get_tempActed_limp {s : State} {tj : Int} (tcp : Int) (h : 1888 ≤ tj) (hl : s.pwr.tLimp = false) :
    (s.tempActed tj tcp).get R.PWR_STATUS_T_LIMP = 1 := by
  have hb : decide (tj ≥ 1888 ∧ s.pwr.tLimp = false) = true := by simp [h, hl]
  rw [State.get_tempActed, State.tempFlagged, hb]
  exact State.get_thermal _ (by decide) (by decide) 1

/-- While the action at 118 °C is in force LIMP is requested where it can be entered. -/
theorem tempActed_requests_limp {s : State} {tj : Int} (tcp : Int) (h : (s.tempTaken tj tcp).pwr.tLimp = true)
    (hm : s.inMode [mSTANDBY, mROAD, mFIELD, mSERVICE] = true) :
    (mLIMP, 0x32) ∈ (s.tempActed tj tcp).alm.modeReq := by
  have hmode := (onlyLogged_tempFlagged s tj tcp).1 R.ALM_MODE_MODE (by decide)
  have hlimp : (s.tempFlagged tj tcp).pwr.tLimp = true := by
    rw [State.tempFlagged, State.thermal_pwr_eq, State.thermal_pwr_eq]; exact h
  have hin : (s.tempFlagged tj tcp).inMode [mSTANDBY, mROAD, mFIELD, mSERVICE] = true := by
    rw [State.inMode, State.mode, hmode]
    exact hm
  simp only [State.tempActed]
  split_ifs with hc
  · rw [State.reqLimp, if_pos hin]
    exact List.mem_append_right _ (List.mem_singleton.2 rfl)
  · simpa [hlimp] using hc

/-- Table 1.12 below the trip: what a measurement shows, begins, requests and ends. -/
theorem tempMeasure_below_trip (s : State) {tj : Int} (tcp : Int) (h : tj < 2000) :
    ∃ t, exec (.tempMeasure tj tcp) s = .next t ∧ t.get R.PWR_TEMP_TJ = ofInt 16 tj ∧
      t.get R.PWR_TEMP_TCP = ofInt 16 tcp ∧
      (tj ≥ 1760 → s.pwr.tWarn = false → t.get R.PWR_STATUS_T_WARN = 1) ∧
      (tj ≥ 1888 → s.pwr.tLimp = false → t.get R.PWR_STATUS_T_LIMP = 1 ∧
        (s.inMode [mSTANDBY, mROAD, mFIELD, mSERVICE] = true → (mLIMP, 0x32) ∈ t.alm.modeReq)) ∧
      (1728 < tj → s.pwr.tLimp = true → s.inMode [mSTANDBY, mROAD, mFIELD, mSERVICE] = true →
        (mLIMP, 0x32) ∈ t.alm.modeReq) ∧
      (tj ≤ 1600 → t.pwr.tWarn = false) ∧ (tj ≤ 1728 → t.pwr.tLimp = false) ∧ (tj ≤ 1840 → t.pwr.tTrip = false) := by
  obtain ⟨htj, htcp⟩ := s.get_tempActed_temps tj tcp
  have hpwr := s.tempActed_pwr tj tcp
  refine ⟨s.tempActed tj tcp, ?_, htj, htcp, s.get_tempActed_warn tcp,
    fun hl h0 => ⟨s.get_tempActed_limp tcp hl h0, tempActed_requests_limp tcp ?_⟩,
    fun hl h1 => tempActed_requests_limp tcp ?_, fun hl => ?_, fun hl => ?_, fun hl => ?_⟩
  · rw [exec_tempMeasure, if_neg (by omega)]
  · simp [State.tempTaken, hl]
  · simp [State.tempTaken, hl, h1]
  · rw [hpwr]; simp [State.tempTaken]; omega
  · rw [hpwr]; simp [State.tempTaken]; omega
  · rw [hpwr]; simp [State.tempTaken]; omega

/-- Table 1.12 at the trip: RESET with cause 0x03, its flag kept. -/
theorem tempMeasure_trips {s : State} {tj : Int} (tcp : Int) (h : 2000 ≤ tj) (ht : s.pwr.tTrip = false) :
    ∃ t, exec (.tempMeasure tj tcp) s = .next t ∧ ResetEntered 0x03 s t ∧ t.pwr.tTrip = true ∧
      t.get R.PWR_STATUS_T_TRIP = 1 := by
  have hpwr := s.tempActed_pwr tj tcp
  obtain ⟨hregs, hrest⟩ := onlyLogged_tempFlagged s tj tcp
  refine ⟨_, by rw [exec_tempMeasure, if_pos ⟨h, ht⟩], resetEntered_enterReset (by decide) ?_ ?_, ?_, ?_⟩
  · rw [State.mode_raise]
    exact (State.get_put_other _ (by decide) 1).trans ((s.get_tempActed tj tcp _).trans (hregs R.ALM_MODE_MODE (by decide)))
  · rw [State.raise_pending, State.put_pending, State.tempActed_eq, hrest]
  · rw [State.enterReset_pwr_eq]
    simp only [State.resetBase, State.drained_pwr]
    rw [State.raise_pwr_eq, State.put_pwr, hpwr]
    simp [State.tempTaken, h]
  · rw [State.get_enterReset_of_pwr _ _ (by decide) (by decide), State.get_raise _ _ _ (by decide)]
    exact State.get_put_of_lt _ (by decide)

/-- Settles O12: the sensor supplies trip and retry as the cameras' do; LIMP is asked again at each measurement while the action at
118 °C stands (log 104). -/
theorem sensorSuppliesAndTemperature : Obligations.SensorSuppliesAndTemperature := by
  refine ⟨fun s p hp => ?_, fun s p fails hp => ?_, fun s m => ?_, fun s tj tcp => tempMeasure_below_trip s tcp,
    fun s tj tcp => tempMeasure_trips tcp⟩
  · refine ⟨_, exec_sensorSupplyTrip hp, ?_, logGains_pwr_raise s _ _ _, onlyLogged_pwr_raise s _ _ _⟩
    rw [State.raise_pwr_eq]
  · refine ⟨_, exec_sensorSupplyRetry hp, ?_, onlyLogged_retryEnd s _ _ _ _ _, ?_, ?_⟩
    · rw [State.retryEnd_pwr_eq]
    · rintro rfl
      rfl
    · rintro rfl
      exact ⟨s.get_retryEnd _ p 125 (by decide), logGains_retryEnd s _ p (by decide)⟩
  · exact ⟨_, rfl, State.get_put_same s R.PWR_SENS_FLT _, onlyRegs_put s _ _⟩

end Sys2Proof.Machine

/-! Ignition, shutdown and standstill. -/

namespace Sys2Proof.Machine

/-! ### Ignition, shutdown and standstill (R30, R64, R463, R524) -/

/-- A low pulse shorter than 2.0 s is recorded when the ignition comes back. -/
def State.pulseRec (s : State) (lowMs : Nat) : State :=
  if lowMs < 2000 then s.sysRec 0x0105 [lowMs, s.mode] else s

/-- R64: ignition on cancels a shutdown request whose power-down has not begun. -/
def State.cancelShut (s : State) : State :=
  if s.flag R.PWR_STATUS_SHUTREQ && !s.pwr.pdBegun then s.put R.PWR_STATUS_SHUTREQ 0 else s

/-- R30: the level between the thresholds is the one before. -/
def State.ignLevel (s : State) (mv : Nat) : Bool :=
  if mv ≥ 6000 then true else if mv ≤ 3000 then false else s.flag R.PWR_STATUS_IGN

theorem exec_ignChange (mv lowMs : Nat) (s : State) :
    exec (.ignChange mv lowMs) s =
      if s.ignLevel mv = s.flag R.PWR_STATUS_IGN then .next s
      else if s.ignLevel mv then .next (((s.put R.PWR_STATUS_IGN (b2n (s.ignLevel mv))).pulseRec lowMs).cancelShut)
      else .next (s.put R.PWR_STATUS_IGN (b2n (s.ignLevel mv))) := rfl

theorem State.ignLevel_of_high (s : State) {mv : Nat} (h : 6000 ≤ mv) : s.ignLevel mv = true := if_pos h

theorem State.ignLevel_of_low (s : State) {mv : Nat} (h : mv ≤ 3000) : s.ignLevel mv = false := by
  rw [State.ignLevel, if_neg (by omega), if_pos h]

theorem State.ignLevel_between (s : State) {mv : Nat} (h0 : 3000 < mv) (h1 : mv < 6000) :
    s.ignLevel mv = s.flag R.PWR_STATUS_IGN := by
  rw [State.ignLevel, if_neg (by omega), if_neg (by omega)]

theorem onlyLogged_sysRec (s : State) (c : Nat) (ps : List Nat) : OnlyLogged [] s (s.sysRec c ps) := by
  unfold State.sysRec
  split_ifs
  · exact onlyLogged_enqueue s _
  · exact onlyLogged_of_regs (onlyRegs_refl _ s)

theorem onlyLogged_pulseRec (s : State) (lowMs : Nat) : OnlyLogged [] s (s.pulseRec lowMs) := by
  unfold State.pulseRec
  split_ifs
  · exact onlyLogged_sysRec s _ _
  · exact onlyLogged_of_regs (onlyRegs_refl _ s)

theorem State.pulseRec_pwr (s : State) (lowMs : Nat) : (s.pulseRec lowMs).pwr = s.pwr := by
  unfold State.pulseRec
  split_ifs <;> simp

theorem onlyRegs_cancelShut (s : State) : OnlyRegs [R.PWR_STATUS_SHUTREQ] s s.cancelShut := by
  unfold State.cancelShut
  split_ifs
  · exact onlyRegs_put s _ _
  · exact onlyRegs_refl _ s

/-- No request stands after ignition on, unless the power-down has begun. -/
theorem State.get_shutReq_cancelShut (s : State) :
    s.cancelShut.get R.PWR_STATUS_SHUTREQ = if s.pwr.pdBegun then s.get R.PWR_STATUS_SHUTREQ else 0 := by
  unfold State.cancelShut
  cases hp : s.pwr.pdBegun with
  | true => simp
  | false =>
    by_cases hq : s.get R.PWR_STATUS_SHUTREQ = 0
    · simp [State.flag, hq]
    · simp [State.flag, hq]

/-- R30, R64: the ignition goes high. -/
theorem ignChange_on {s : State} {mv : Nat} (lowMs : Nat) (h : 6000 ≤ mv) (hi : s.get R.PWR_STATUS_IGN = 0) :
    ∃ t, exec (.ignChange mv lowMs) s = .next t ∧ t.get R.PWR_STATUS_IGN = 1 ∧
      (s.pwr.pdBegun = false → t.get R.PWR_STATUS_SHUTREQ = 0) ∧
      (s.pwr.pdBegun = true → t.get R.PWR_STATUS_SHUTREQ = s.get R.PWR_STATUS_SHUTREQ) ∧
      OnlyLogged [R.PWR_STATUS_IGN, R.PWR_STATUS_SHUTREQ] s t := by
  have hframe := onlyLogged_trans (onlyLogged_put s R.PWR_STATUS_IGN 1)
    (onlyLogged_trans (onlyLogged_pulseRec _ lowMs) (onlyLogged_of_regs (onlyRegs_cancelShut _)))
  have hexec : exec (.ignChange mv lowMs) s =
      .next (((s.put R.PWR_STATUS_IGN 1).pulseRec lowMs).cancelShut) := by
    rw [exec_ignChange, s.ignLevel_of_high h, if_neg (by simp [State.flag, hi]), if_pos rfl]
    rfl
  have hreq := State.get_shutReq_cancelShut ((s.put R.PWR_STATUS_IGN 1).pulseRec lowMs)
  rw [State.pulseRec_pwr, State.put_pwr, (onlyLogged_pulseRec _ _).1 _ (by decide), State.get_put_other _ (by decide)] at hreq
  refine ⟨_, hexec, ?_, fun hp => by rw [hreq, hp]; rfl, fun hp => by rw [hreq, hp]; rfl, hframe⟩
  rw [(onlyRegs_cancelShut _).1 _ (by decide), (onlyLogged_pulseRec _ _).1 _ (by decide)]
  exact State.get_put_of_lt s (by decide)

theorem exec_standstillReached {s : State} (h : s.waitsStill = true) (hs : s.standstill = true) :
    exec .standstillReached s =
      if s.mode = mLIMP then .next (if s.upd.lock then s else { s with pwr.pdBegun := true })
      else .next (s.reqMode mSTANDBY 0x23) := if_pos (by simp [h, hs])

/-- Settles O13: the level with its hysteresis, and the standstill by the mode and the update's lock. -/
theorem ignitionAndStandstill : Obligations.IgnitionAndStandstill := by
  refine ⟨fun s mv lowMs => ignChange_on lowMs, fun s mv lowMs h hi => ?_, fun s mv lowMs h0 h1 => ?_, fun s hm => ?_,
    fun s hw hs hm => ?_, fun s hw hs hm hl => ?_, fun s hw hs hm hl => ?_, fun s hw hs => ?_⟩
  · refine ⟨_, ?_, State.get_put_of_lt (v := 0) s (by decide), onlyRegs_put s _ _⟩
    rw [exec_ignChange, s.ignLevel_of_low h, if_neg (by simpa [State.flag] using hi), if_neg (by simp)]
    rfl
  · rw [exec_ignChange, if_pos (s.ignLevel_between h0 h1)]
  · exact ⟨_, if_pos hm, rfl, rfl⟩
  · exact ⟨_, by rw [exec_standstillReached hw hs, if_neg hm], rfl, rfl⟩
  · rw [exec_standstillReached hw hs, if_pos hm, if_pos hl]
  · exact ⟨_, by rw [exec_standstillReached hw hs, if_pos hm, if_neg (by simp [hl])], rfl, rfl⟩
  · exact ⟨_, if_pos (by simp [hw, hs]), logGains_raise s _ _, onlyLogged_raise s _ _⟩

end Sys2Proof.Machine

/-! The relays' contacts, cut windows and commands. -/

namespace Sys2Proof.Machine

/-! ### The relays' contacts and operations (R53, R54) -/

theorem relayPos_ne_lost : ∀ r : Fin 2, (relayPos r).key ≠ R.LOG_LOST_VALUE.key := by decide
theorem relayTime_ne_lost : ∀ r : Fin 2, (relayTime r).key ≠ R.LOG_LOST_VALUE.key := by decide
theorem relayFlt_ne_lost : ∀ r : Fin 2, (relayFlt r).key ≠ R.LOG_LOST_VALUE.key := by decide
theorem relayPos_ne_relayTime : ∀ r : Fin 2, (relayPos r).key ≠ (relayTime r).key := by decide
theorem relayPos_w : ∀ r : Fin 2, 0 < (relayPos r).w := by decide
theorem relayTime_w : ∀ r : Fin 2, (relayTime r).w = 16 := by decide
theorem one_lt_relayFlt : ∀ r : Fin 2, 1 < 2 ^ (relayFlt r).w := by decide
theorem otherRelay_ne : ∀ r : Fin 2, otherRelay r ≠ r := by decide

/-- The relay's count of operations in MRAM set. -/
def State.setOps (s : State) (r : Fin 2) (n : Nat) : State :=
  if r = 0 then { s with log.relayKw := n } else { s with log.relayKe := n }

theorem State.countOp_eq (s : State) (r : Fin 2) :
    s.countOp r = if s.relayOps r + 1 = 900000
      then (s.setOps r (s.relayOps r + 1)).raise 126 [1, r, s.relayOps r + 1] else s.setOps r (s.relayOps r + 1) := rfl

theorem State.relayOps_setOps (s : State) (r q : Fin 2) (n : Nat) :
    (s.setOps r n).relayOps q = if q = r then n else s.relayOps q := by
  match r, q with
  | 0, 0 | 0, 1 | 1, 0 | 1, 1 => rfl

theorem onlyLogged_setOps (s : State) (r : Fin 2) (n : Nat) : OnlyLogged [] s (s.setOps r n) := by
  match r with
  | 0 | 1 => exact ⟨fun _ _ => rfl, rfl⟩

theorem State.setOps_pwr (s : State) (r : Fin 2) (n : Nat) : (s.setOps r n).pwr = s.pwr := by
  match r with
  | 0 | 1 => rfl

theorem State.relayOps_raise (s : State) (c : Nat) (ps : List Nat) (r : Fin 2) :
    (s.raise c ps).relayOps r = s.relayOps r := by
  unfold State.relayOps
  rw [State.raise_log_eq]

/-- R54: the count of the relay that moved goes up by one, the other's stays. -/
theorem State.relayOps_countOp (s : State) (r q : Fin 2) :
    (s.countOp r).relayOps q = if q = r then s.relayOps r + 1 else s.relayOps q := by
  rw [State.countOp_eq]
  split_ifs with h hq <;> simp [State.relayOps_raise, State.relayOps_setOps, *]

theorem onlyLogged_countOp (s : State) (r : Fin 2) : OnlyLogged [] s (s.countOp r) := by
  rw [State.countOp_eq]
  split_ifs
  · exact onlyLogged_trans (onlyLogged_setOps s r _) (onlyLogged_raise _ _ _)
  · exact onlyLogged_setOps s r _

theorem State.relay_countOp (s : State) (r q : Fin 2) : (s.countOp r).relay q = s.relay q := by
  rw [State.countOp_eq]
  split_ifs
  · rw [State.relay_raise]; simp only [State.relay, State.setOps_pwr]
  · simp only [State.relay, State.setOps_pwr]

/-- R53: a contact that has moved: its position, how long it took, and one more operation. -/
def State.contactMoved (s : State) (r : Fin 2) (aux : Bool) (n : Nat) : State :=
  ((s.put (relayPos r) (b2n aux)).put (relayTime r) (min n 65535)).countOp r

/-- R53: the contact as the check finds it. -/
def State.contactSeen (s : State) (r : Fin 2) (aux : Bool) (n : Nat) : State :=
  if b2n aux = s.get (relayPos r) then s else s.contactMoved r aux n

/-- R53: a relay with the failure that its contact shows against its coil. -/
def State.relayFailed (s : State) (r : Fin 2) (x : Relay) : Relay :=
  { x with
    failOpen := x.failOpen || x.coil
    failClose := x.failClose && s.flag (relayFlt r) || !x.coil }

theorem onlyLogged_contactMoved (s : State) (r : Fin 2) (aux : Bool) (n : Nat) :
    OnlyLogged [relayPos r, relayTime r] s (s.contactMoved r aux n) :=
  onlyLogged_trans (onlyLogged_put s _ _) (onlyLogged_trans (onlyLogged_put _ (relayTime r) _) (onlyLogged_countOp _ r))

theorem onlyLogged_contactSeen (s : State) (r : Fin 2) (aux : Bool) (n : Nat) :
    OnlyLogged [relayPos r, relayTime r] s (s.contactSeen r aux n) := by
  unfold State.contactSeen
  split_ifs
  · exact onlyLogged_of_regs (onlyRegs_refl _ s)
  · exact onlyLogged_contactMoved s r aux n

theorem State.relay_contactSeen (s : State) (r : Fin 2) (aux : Bool) (n : Nat) (q : Fin 2) :
    (s.contactSeen r aux n).relay q = s.relay q := by
  unfold State.contactSeen
  split_ifs
  · rfl
  · exact State.relay_countOp _ r q

theorem exec_relayCheck (r : Fin 2) (aux : Bool) (n : Nat) (s : State) :
    exec (.relayCheck r aux n) s =
      if aux = ((s.contactSeen r aux n).relay r).coil then .next (s.contactSeen r aux n)
      else .next ((((s.contactSeen r aux n).setRelay r (s.relayFailed r ((s.contactSeen r aux n).relay r))).put
        (relayFlt r) 1).raise 126 [0, r, b2n ((s.contactSeen r aux n).relay r).coil]) := rfl

/-- R53: the contact follows the coil. -/
theorem relayCheck_follows {s : State} {r : Fin 2} {aux : Bool} (n : Nat) (h : aux = (s.relay r).coil)
    (hp : b2n aux ≠ s.get (relayPos r)) :
    ∃ t, exec (.relayCheck r aux n) s = .next t ∧ t.get (relayPos r) = b2n aux ∧
      t.get (relayTime r) = min n 65535 ∧ t.relayOps r = s.relayOps r + 1 ∧ t.relayOps (otherRelay r) = s.relayOps (otherRelay r) ∧
      OnlyLogged [relayPos r, relayTime r] s t := by
  have hseen : s.contactSeen r aux n = s.contactMoved r aux n := if_neg hp
  have hcount (f : Fld) (hf : f.key ≠ R.LOG_LOST_VALUE.key) : (s.contactMoved r aux n).get f =
      ((s.put (relayPos r) (b2n aux)).put (relayTime r) (min n 65535)).get f :=
    (onlyLogged_countOp _ r).1 f (by simpa using hf)
  refine ⟨s.contactMoved r aux n, ?_, ?_, ?_, ?_, ?_, onlyLogged_contactMoved s r aux n⟩
  · rw [exec_relayCheck, State.relay_contactSeen, if_pos h, hseen]
  · rw [hcount _ (relayPos_ne_lost r), State.get_put_other _ (relayPos_ne_relayTime r),
      State.get_put_of_lt _ (b2n_lt_two_pow aux (relayPos_w r))]
  · rw [hcount _ (relayTime_ne_lost r), State.get_put_of_lt _ (by rw [relayTime_w]; omega)]
  · exact (State.relayOps_countOp _ r r).trans (if_pos rfl)
  · exact (State.relayOps_countOp _ r (otherRelay r)).trans (if_neg (otherRelay_ne r))

/-- R53: the contact does not follow the coil. -/
theorem relayCheck_fails {s : State} {r : Fin 2} {aux : Bool} (n : Nat) (h : aux ≠ (s.relay r).coil) :
    ∃ t, exec (.relayCheck r aux n) s = .next t ∧ t.get (relayFlt r) = 1 ∧
      (t.relay r).failOpen = ((s.relay r).failOpen || (s.relay r).coil) ∧
      OnlyLogged [relayPos r, relayTime r, relayFlt r] s t := by
  have hrelay := s.relay_contactSeen r aux n r
  refine ⟨_, by rw [exec_relayCheck, if_neg (by rwa [hrelay])], ?_, ?_, ?_⟩
  · rw [State.get_raise _ _ _ (relayFlt_ne_lost r)]
    exact State.get_put_of_lt _ (one_lt_relayFlt r)
  · rw [State.relay_raise, State.relay_put, State.relay_setRelay_same, hrelay, State.relayFailed]
  · refine onlyLogged_trans (onlyLogged_contactSeen s r aux n) (onlyLogged_trans (ks := []) ?_
      (onlyLogged_trans (onlyLogged_put _ (relayFlt r) 1) (onlyLogged_raise _ _ _)))
    exact ⟨fun f _ => State.get_setRelay _ _ _ f, by rw [State.setRelay_eq]⟩

/-! ### The end of a cut window (R47, Table 4.21) -/

/-- Table 4.21 outside the codes that are not the relays'. -/
theorem State.insertNow_eq {s : State} (h1 : s.get R.MRD_STATUS_INSERT ≠ 1) (h5 : s.get R.MRD_STATUS_INSERT ≠ 5) :
    s.insertNow = if s.pwr.kw.coil
      then s.put R.MRD_STATUS_INSERT (if s.pwr.ke.coil then 4 else if 3 ≤ s.get R.MRD_STATUS_INSERT then 3 else 2)
      else s.puts [(R.MRD_STATUS_INSERT, 0), (R.MRD_STATUS_LAUNCH, 0)] := if_neg (by simp [h1, h5])

theorem onlyRegs_insertNow (s : State) : OnlyRegs [R.MRD_STATUS_INSERT, R.MRD_STATUS_LAUNCH] s s.insertNow := by
  by_cases hi : s.get R.MRD_STATUS_INSERT = 1 ∨ s.get R.MRD_STATUS_INSERT = 5
  · rw [show s.insertNow = s from if_pos hi]
    exact onlyRegs_refl _ s
  · obtain ⟨h1, h5⟩ := not_or.1 hi
    rw [State.insertNow_eq h1 h5]
    by_cases hk : s.pwr.kw.coil = true
    · rw [if_pos hk]
      exact onlyRegs_mono (onlyRegs_put s R.MRD_STATUS_INSERT _) (by simp)
    · rw [if_neg hk]
      exact onlyRegs_puts s [(R.MRD_STATUS_INSERT, 0), (R.MRD_STATUS_LAUNCH, 0)]

theorem State.get_insertNow_open {s : State} (h1 : s.get R.MRD_STATUS_INSERT ≠ 1) (h5 : s.get R.MRD_STATUS_INSERT ≠ 5)
    (hk : s.pwr.kw.coil = true) : s.insertNow.get R.MRD_STATUS_INSERT =
      if s.pwr.ke.coil then 4 else if 3 ≤ s.get R.MRD_STATUS_INSERT then 3 else 2 := by
  rw [State.insertNow_eq h1 h5, if_pos hk, State.get_put_of_lt]
  have : R.MRD_STATUS_INSERT.w = 4 := rfl
  rw [this]
  split_ifs <;> decide

theorem State.get_insertNow_bypassed {s : State} (h1 : s.get R.MRD_STATUS_INSERT ≠ 1)
    (h5 : s.get R.MRD_STATUS_INSERT ≠ 5) (hk : s.pwr.kw.coil = false) :
    s.insertNow.get R.MRD_STATUS_INSERT = 0 ∧ s.insertNow.get R.MRD_STATUS_LAUNCH = 0 := by
  rw [State.insertNow_eq h1 h5, if_neg (by simp [hk])]
  exact ⟨(State.get_put_other _ (by decide) 0).trans (State.get_put_of_lt s (by decide)),
    State.get_put_of_lt _ (by decide)⟩

/-- The relay at the end of its cut window, before Table 4.21. -/
def State.cutEnded (s : State) (r : Fin 2) : State :=
  (s.put (relayBusy r) 0).setRelay r { s.relay r with cut := false, cutEnd := some s.pwrNow }

theorem exec_relayCutEnd (r : Fin 2) (s : State) : exec (.relayCutEnd r) s = .next (s.cutEnded r).insertNow := rfl

theorem State.cutEnded_kw_coil (s : State) (r : Fin 2) : (s.cutEnded r).pwr.kw.coil = s.pwr.kw.coil := by
  match r with
  | 0 | 1 => rfl

theorem State.cutEnded_ke_coil (s : State) (r : Fin 2) : (s.cutEnded r).pwr.ke.coil = s.pwr.ke.coil := by
  match r with
  | 0 | 1 => rfl

theorem State.get_cutEnded (s : State) (r : Fin 2) (f : Fld) : (s.cutEnded r).get f = (s.put (relayBusy r) 0).get f :=
  State.get_setRelay _ r _ f

theorem relayBusy_not_ring :
    ∀ r : Fin 2, (relayBusy r).key ∉ [R.MRD_STATUS_INSERT, R.MRD_STATUS_LAUNCH].map Fld.key := by decide
theorem insert_ne_relayBusy : ∀ r : Fin 2, R.MRD_STATUS_INSERT.key ≠ (relayBusy r).key := by decide

theorem relayCutEnd_ends (s : State) (r : Fin 2) :
    ∃ t, exec (.relayCutEnd r) s = .next t ∧ t.get (relayBusy r) = 0 ∧
    (t.relay r).cut = false ∧ (t.relay r).cutEnd = some s.pwrNow ∧ (t.relay r).coil = (s.relay r).coil ∧
    (t.relay r).held = (s.relay r).held ∧ t.relay (otherRelay r) = s.relay (otherRelay r) ∧
    SameRegs [relayBusy r, R.MRD_STATUS_INSERT, R.MRD_STATUS_LAUNCH] s t ∧ t = { s with regs := t.regs, pwr := t.pwr } ∧
    (s.get R.MRD_STATUS_INSERT ≠ 1 → s.get R.MRD_STATUS_INSERT ≠ 5 → s.pwr.kw.coil = true → s.pwr.ke.coil = true →
      t.get R.MRD_STATUS_INSERT = 4) ∧
    (s.get R.MRD_STATUS_INSERT ≠ 1 → s.get R.MRD_STATUS_INSERT ≠ 5 → s.pwr.kw.coil = true → s.pwr.ke.coil = false →
      t.get R.MRD_STATUS_INSERT = (if 3 ≤ s.get R.MRD_STATUS_INSERT then 3 else 2)) ∧
    (s.get R.MRD_STATUS_INSERT ≠ 1 → s.get R.MRD_STATUS_INSERT ≠ 5 → s.pwr.kw.coil = false → s.pwr.ke.coil = false →
      t.get R.MRD_STATUS_INSERT = 0 ∧ t.get R.MRD_STATUS_LAUNCH = 0) := by
  obtain ⟨hregs, hrest⟩ := onlyRegs_insertNow (s.cutEnded r)
  have hpwr : (s.cutEnded r).insertNow.pwr = (s.cutEnded r).pwr := by rw [hrest]
  have hrelay (q : Fin 2) : (s.cutEnded r).insertNow.relay q = (s.cutEnded r).relay q := by
    simp only [State.relay, hpwr]
  have hown : (s.cutEnded r).relay r = { s.relay r with cut := false, cutEnd := some s.pwrNow } :=
    State.relay_setRelay_same _ r _
  have hins : (s.cutEnded r).get R.MRD_STATUS_INSERT = s.get R.MRD_STATUS_INSERT :=
    (s.get_cutEnded r _).trans (State.get_put_other s (insert_ne_relayBusy r) 0)
  refine ⟨_, exec_relayCutEnd r s, ?_, by rw [hrelay, hown], by rw [hrelay, hown], by rw [hrelay, hown],
    by rw [hrelay, hown], ?_, ?_, ?_, fun h1 h5 hk he => ?_, fun h1 h5 hk he => ?_, fun h1 h5 hk _ => ?_⟩
  · rw [hregs _ (relayBusy_not_ring r), State.get_cutEnded, State.get_put_same, Nat.zero_mod]
  · rw [hrelay]
    exact (State.relay_setRelay _ _ _ _).trans (if_neg (otherRelay_ne r))
  · exact sameRegs_trans (fun f hf => (s.get_cutEnded r f).trans (sameRegs_put s _ 0 f hf)) hregs
  · rw [hrest, State.cutEnded, State.setRelay_eq]; rfl
  · rw [State.get_insertNow_open (hins ▸ h1) (hins ▸ h5) ((s.cutEnded_kw_coil r).trans hk), State.cutEnded_ke_coil, he,
      if_pos rfl]
  · rw [State.get_insertNow_open (hins ▸ h1) (hins ▸ h5) ((s.cutEnded_kw_coil r).trans hk), State.cutEnded_ke_coil, he,
      if_neg (by simp), hins]
  · exact State.get_insertNow_bypassed (hins ▸ h1) (hins ▸ h5) ((s.cutEnded_kw_coil r).trans hk)

/-! ### Commands in SERVICE (R46, R48) -/

theorem exec_relayCommand_service {s : State} (kw ke : Bool) (h : s.mode = mSERVICE) :
    exec (.relayCommand kw ke) s = .next ((s.commandRelay 0 kw).commandRelay 1 ke) := by
  change Host.Outcome.next (s.relayCommand kw ke) = _
  rw [State.relayCommand, if_pos h]

/-- A command that names the position commanded already does nothing. -/
theorem State.commandRelay_same {s : State} {r : Fin 2} {pos : Bool} (h : b2n pos = s.get (relayCmd r)) :
    s.commandRelay r pos = s := if_pos h

theorem State.commandRelay_held {s : State} {r : Fin 2} {pos : Bool} (h : b2n pos ≠ s.get (relayCmd r))
    (hh : s.relayHolds r = true) : s.commandRelay r pos =
      ((s.setRelay r { s.relay r with held := some pos }).put (relayCmd r) (b2n pos)).put R.PWR_RELAY_HELD 1 := by
  rw [State.commandRelay, if_neg h, if_pos hh]

theorem State.commandRelay_acts {s : State} {r : Fin 2} {pos : Bool} (h : b2n pos ≠ s.get (relayCmd r))
    (hh : s.relayHolds r = false) : s.commandRelay r pos = s.coilTo r pos := by
  rw [State.commandRelay, if_neg h, if_neg (by simp [hh])]

/-- KE_CMD written back as it reads. -/
theorem b2n_beq_one {n : Nat} (h : n ≤ 1) : b2n (n == 1) = n := by
  interval_cases n <;> rfl

/-- R46: KW commanded in SERVICE, KE's command left as it reads. -/
theorem relayCommand_acts {s : State} {kw : Bool} (hm : s.mode = mSERVICE) (hc : s.get R.PWR_RELAY_KW_CMD ≠ b2n kw)
    (hk : s.pwr.kw.coil ≠ kw) (hh : s.relayHolds 0 = false) (hf : s.pwr.kw.failOpen = false) :
    ∃ t, exec (.relayCommand kw (s.get R.PWR_RELAY_KE_CMD == 1)) s = .next t ∧
      (s.get R.PWR_RELAY_KE_CMD ≤ 1 → t.get R.PWR_RELAY_KW_CMD = b2n kw ∧ t.pwr.kw.coil = kw ∧
        t.get R.PWR_RELAY_KW_BUSY = 1) := by
  refine ⟨_, exec_relayCommand_service kw _ hm, fun hle => ?_⟩
  have hke : (s.coilTo 0 kw).get R.PWR_RELAY_KE_CMD = s.get R.PWR_RELAY_KE_CMD := sameRegs_coilTo s 0 kw _ (by decide)
  have hcoil : ((s.coilTo 0 kw).relay 0).coil = kw := State.coil_coilTo fun _ => hf
  rw [State.commandRelay_acts (r := 0) hc.symm hh, State.commandRelay_same (r := 1) ((b2n_beq_one hle).trans hke.symm)]
  exact ⟨(s.get_relayCmd_coilTo 0 kw).trans (by rw [hcoil]), hcoil, State.get_relayBusy_coilTo (r := 0) hk fun _ => hf⟩

/-- R48: KW's command held back by KE's cut window. -/
theorem relayCommand_holds {s : State} {kw : Bool} (hm : s.mode = mSERVICE) (hc : s.get R.PWR_RELAY_KW_CMD ≠ b2n kw)
    (hh : s.relayHolds 0 = true) (hle : s.get R.PWR_RELAY_KE_CMD ≤ 1) :
    ∃ t, exec (.relayCommand kw (s.get R.PWR_RELAY_KE_CMD == 1)) s = .next t ∧ t.pwr.kw.held = some kw ∧
      t.pwr.kw.coil = s.pwr.kw.coil ∧ t.get R.PWR_RELAY_KW_CMD = b2n kw ∧ t.get R.PWR_RELAY_HELD = 1 ∧
      SameRegs [R.PWR_RELAY_HELD, R.PWR_RELAY_KW_CMD] s t := by
  refine ⟨_, exec_relayCommand_service kw _ hm, ?_⟩
  have hframe : SameRegs [R.PWR_RELAY_HELD, R.PWR_RELAY_KW_CMD] s (s.commandRelay 0 kw) := by
    rw [State.commandRelay_held (r := 0) hc.symm hh]
    exact sameRegs_mono (sameRegs_trans (sameRegs_put (s.setRelay 0 _) R.PWR_RELAY_KW_CMD _)
      (sameRegs_put _ R.PWR_RELAY_HELD 1)) (by decide)
  rw [State.commandRelay_same (r := 1) ((b2n_beq_one hle).trans (hframe R.PWR_RELAY_KE_CMD (by decide)).symm)]
  refine ⟨?_, ?_, ?_, ?_, hframe⟩ <;> rw [State.commandRelay_held (r := 0) hc.symm hh]
  · rfl
  · rfl
  · exact (State.get_put_other _ (by decide) 1).trans (State.get_put_of_lt _ (b2n_lt_two_pow kw (by decide)))
  · exact State.get_put_of_lt _ (by decide)

theorem exec_relayCommand_ignored {s : State} {kw ke : Bool} (hm : s.mode ≠ mSERVICE)
    (hc : b2n kw ≠ s.get R.PWR_RELAY_KW_CMD ∨ b2n ke ≠ s.get R.PWR_RELAY_KE_CMD) :
    exec (.relayCommand kw ke) s = .next (s.put R.PWR_RELAY_IGNORED 1) := by
  change Host.Outcome.next (s.relayCommand kw ke) = _
  rw [State.relayCommand, if_neg hm, if_neg fun ⟨h0, h1⟩ => hc.elim (· h0) (· h1)]

theorem exec_relayHeldRelease_some {s : State} {r : Fin 2} {pos : Bool} (h : (s.relay r).held = some pos) :
    exec (.relayHeldRelease r) s = .next (if s.relayHolds r || s.mode != mSERVICE then s else s.coilTo r pos) := by
  change execRelayHeldRelease r s = _
  rw [execRelayHeldRelease, h]

/-- Log 116: outside SERVICE the release of a held command has no effect. -/
theorem exec_relayHeldRelease_outside {s : State} (r : Fin 2) (h : s.mode ≠ mSERVICE) :
    exec (.relayHeldRelease r) s = .next s := by
  cases hh : (s.relay r).held with
  | none =>
    change execRelayHeldRelease r s = _
    rw [execRelayHeldRelease, hh]
  | some pos => rw [exec_relayHeldRelease_some hh, if_pos (by simp [h])]

theorem exec_keClose {s : State} (h : s.pwr.keClosing = true) :
    exec .keClose s = .next (({ s with pwr.keClosing := false } : State).coilTo 1 false) := by
  change execKeClose s = _
  rw [execKeClose, if_pos h]

/-- Settles O14: every coil command comes to `State.coilTo`; the rest is which commands reach it. An operation counts when the
contact moves (log 30), INSERT follows the relays at the end of the cut (log 31), and a release acts in SERVICE alone
(log 116). -/
theorem relays : Obligations.Relays := by
  refine ⟨fun s h => ?_, fun s r aux n => relayCheck_follows n, fun s r aux n => relayCheck_fails n, relayCutEnd_ends,
    fun s kw hm hc hk hh hf _ => relayCommand_acts hm hc hk hh hf, fun s kw hm hc hh hle _ => relayCommand_holds hm hc hh hle,
    fun s kw ke hm hc => ?_, fun s r => exec_relayHeldRelease_outside r, fun s r pos hm hheld hh hk hf => ?_⟩
  · have hcoil : ((({ s with pwr.keClosing := false } : State).coilTo 1 false).relay 1).coil = false :=
      State.coil_coilTo (by simp)
    refine ⟨_, exec_keClose h, by rw [State.coilTo_eq], hcoil, ?_, fun hc => ?_, sameRegs_coilTo _ 1 false⟩
    · refine (State.get_relayCmd_coilTo _ 1 false).trans ?_
      rw [hcoil]; rfl
    · exact State.get_relayBusy_coilTo (r := 1) (by simpa [State.relay] using hc) (by simp)
  · exact ⟨_, exec_relayCommand_ignored hm hc, State.get_put_of_lt s (by decide), onlyRegs_put s _ _⟩
  · refine ⟨s.coilTo r pos, ?_, State.coil_coilTo hf, s.held_coilTo r pos, ?_, State.get_relayBusy_coilTo hk hf,
      sameRegs_coilTo s r pos⟩
    · rw [exec_relayHeldRelease_some hheld, if_neg (by simp [hh, hm])]
    · rw [State.get_relayCmd_coilTo, State.coil_coilTo hf]

end Sys2Proof.Machine

/-! Insertion into the ring. -/

namespace Sys2Proof.Machine

/-! ### Insertion into the ring (R46, R48, R153, R126) -/

/-- R153: S0 launches from the next tick on. -/
def State.launcherFrom (s : State) : State := ({ s with mrd.launchFrom := s.chr.tick + 1 } : State).put R.MRD_STATUS_LAUNCH 1

/-- Table 4.12: no origin was heard. -/
theorem exec_listenEnd_none {s : State} (h : s.get R.MRD_STATUS_INSERT = 2) :
    exec (.listenEnd none) s = .next (if s.me = 0 then s.launcherFrom else s) := if_neg (not_not.2 h)

/-- Table 4.12: S0's passes were heard. -/
theorem exec_listenEnd_zero {s : State} (h : s.get R.MRD_STATUS_INSERT = 2) : exec (.listenEnd (some 0)) s = .next s :=
  if_neg (not_not.2 h)

/-- Table 4.12: S1's passes were heard. -/
theorem exec_listenEnd_one {s : State} (h : s.get R.MRD_STATUS_INSERT = 2) :
    exec (.listenEnd (some 1)) s = .next ({ s with mrd.standby := true } : State).refreshReady := if_neg (not_not.2 h)

theorem onlyRegs_refreshReady (s : State) : OnlyRegs [R.ALM_MODE_RING_READY] s s.refreshReady :=
  onlyRegs_put s R.ALM_MODE_RING_READY _

theorem exec_cwInsertionComplete (s : State) :
    exec .cwInsertionComplete s = .next (if s.eastDue ∧ 8 ≤ s.mrd.good.1 then s.insertEast else s) := rfl

theorem exec_cwInsertionTimeout (s : State) :
    exec .cwInsertionTimeout s = .next (if s.eastDue then (s.raise 25 []).insertEast else s) := rfl

theorem State.eastDue_of_wait {s : State} (h : s.get R.MRD_STATUS_INSERT = 2) (hc : s.cutNear 0 500000 = false) :
    s.eastDue = true := by simp [State.eastDue, h, hc]

/-- R48: not within 5 ms of KW's cut window. -/
theorem State.eastDue_of_cutNear {s : State} (h : s.cutNear 0 500000 = true) : s.eastDue = false := by
  simp [State.eastDue, h]

theorem State.insertEast_of_standby {s : State} (h : s.mode = mSTANDBY) :
    s.insertEast = (s.put R.MRD_STATUS_INSERT 3).coilTo 1 true := if_pos h

/-- R46: outside SERVICE no mode but STANDBY opens a relay. -/
theorem State.insertEast_of_other {s : State} (h : s.mode ≠ mSTANDBY) : s.insertEast = s := if_neg h

/-- What the insertion leaves in STANDBY: INSERT, and KE open unless it has failed to open. -/
theorem insertEast_opens {s : State} (h : s.mode = mSTANDBY) :
    s.insertEast.get R.MRD_STATUS_INSERT = 3 ∧
      (s.pwr.ke.failOpen = false → s.insertEast.pwr.ke.coil = true ∧ s.insertEast.get R.PWR_RELAY_KE_CMD = 1) ∧
      SameRegs [R.MRD_STATUS_INSERT, R.PWR_RELAY_KE_CMD, R.PWR_RELAY_KE_BUSY] s s.insertEast ∧
      s.insertEast.log = s.log := by
  rw [State.insertEast_of_standby h]
  refine ⟨?_, fun hf => ?_, sameRegs_trans (sameRegs_put s _ 3) (sameRegs_coilTo _ 1 true), by
    rw [State.coilTo_log, State.put_log]⟩
  · rw [sameRegs_coilTo _ 1 true R.MRD_STATUS_INSERT (by decide)]
    exact State.get_put_of_lt s (by decide)
  · have hcoil : (((s.put R.MRD_STATUS_INSERT 3).coilTo 1 true).relay 1).coil = true := State.coil_coilTo fun _ => hf
    exact ⟨hcoil, (State.get_relayCmd_coilTo _ 1 true).trans (by rw [hcoil]; rfl)⟩

/-- R153: with the time out EV025 is raised, and KE opens in STANDBY all the same. -/
theorem cwInsertionTimeout_due {s : State} (h : s.get R.MRD_STATUS_INSERT = 2) (hc : s.cutNear 0 500000 = false) :
    ∃ t, exec .cwInsertionTimeout s = .next t ∧ LogGains 25 [] s t ∧
      (s.mode ≠ mSTANDBY → t.pwr.ke = s.pwr.ke ∧ t.get R.MRD_STATUS_INSERT = 2) ∧
      (s.mode = mSTANDBY → t.get R.MRD_STATUS_INSERT = 3 ∧ (s.pwr.ke.failOpen = false → t.pwr.ke.coil = true)) := by
  refine ⟨(s.raise 25 []).insertEast, by rw [exec_cwInsertionTimeout, if_pos (State.eastDue_of_wait h hc)], ?_⟩
  have hmode := s.mode_raise 25 []
  have hke : (s.raise 25 []).pwr.ke = s.pwr.ke := by rw [State.raise_pwr_eq]
  by_cases hm : s.mode = mSTANDBY
  · obtain ⟨hins, hopen, _, hlog⟩ := insertEast_opens (hmode.trans hm)
    exact ⟨(logGains_raise s 25 []).of_log_eq hlog, fun hne => absurd hm hne,
      fun _ => ⟨hins, fun hf => (hopen (hke ▸ hf)).1⟩⟩
  · rw [State.insertEast_of_other (hmode ▸ hm)]
    exact ⟨logGains_raise s 25 [], fun _ => ⟨hke, (State.get_raise s 25 [] (by decide)).trans h⟩, fun he => absurd he hm⟩

/-- Settles O32: KE opens by `State.insertEast` alone, in STANDBY, once KW's cut window has ended 5 ms ago, from the wait that
INSERT = 2 stands for (log 32); ORIGIN 0 heard while listening has no effect (log 54). -/
theorem ringInsertion : Obligations.RingInsertion := by
  refine ⟨fun s h => ⟨fun hme => ?_, fun hme => ?_, exec_listenEnd_zero h, ?_⟩, fun s h hc hg hm => ?_,
    fun s h hm => ?_, fun s hc => ⟨?_, ?_⟩, fun s => cwInsertionTimeout_due, fun s d => ⟨_, rfl, rfl, rfl, rfl⟩⟩
  · exact ⟨s.launcherFrom, by rw [exec_listenEnd_none h, if_pos hme], State.get_put_of_lt _ (by decide), rfl,
      onlyRegs_put _ R.MRD_STATUS_LAUNCH 1⟩
  · rw [exec_listenEnd_none h, if_neg hme]
  · exact ⟨_, exec_listenEnd_one h, rfl, onlyRegs_refreshReady _⟩
  · obtain ⟨hins, hopen, hframe, _⟩ := insertEast_opens hm
    exact ⟨_, by rw [exec_cwInsertionComplete, if_pos ⟨State.eastDue_of_wait h hc, hg⟩], hins, hopen, hframe⟩
  · rw [exec_cwInsertionComplete, State.insertEast_of_other hm, ite_self]
  · rw [exec_cwInsertionComplete, if_neg (by simp [State.eastDue_of_cutNear hc])]
  · rw [exec_cwInsertionTimeout, if_neg (by simp [State.eastDue_of_cutNear hc])]

end Sys2Proof.Machine

/-! The passes that the launcher sends. -/

namespace Sys2Proof.Machine

/-! ### Sealed frames (R131) -/

/-- A header's CRC does not cover itself. -/
@[simp] theorem hcrcOk_seal (f : RingFrame) : f.seal.hcrcOk = true := beq_self_eq_true (crc32 f.header)

/-- A slot's CRC does not cover itself. -/
@[simp] theorem slot_crcOk_seal (x : RingSlot) : x.seal.crcOk = true := beq_self_eq_true (crc32 x.bytes)

/-! ### The passes of the launcher (R47, R128, R131 to R136, R153, R178) -/

/-- The directions that a launch goes out in. -/
def State.launchDirs (s : State) : List Nat := (if s.pwr.ke.coil then [0, 1] else [0]).filter fun d => !s.dirCut d

theorem State.launch_tx (s : State) (ftype : Nat) (slots : List RingSlot) (ann : List RingAnn) (mail : RingMail) :
    (s.launch ftype slots ann mail).mrd.tx = s.launchDirs.map fun d => (s.me, s.passOf ftype d slots ann mail) := rfl

/-- Every frame that a launch sends is the module's pass for its direction. -/
theorem State.mem_launch_tx {s : State} {ftype : Nat} {slots : List RingSlot} {ann : List RingAnn} {mail : RingMail}
    {x : Nat × RingFrame} (h : x ∈ (s.launch ftype slots ann mail).mrd.tx) :
    ∃ d, x = (s.me, s.passOf ftype d slots ann mail) := by
  rw [State.launch_tx, List.mem_map] at h
  obtain ⟨d, _, rfl⟩ := h
  exact ⟨d, rfl⟩

theorem State.launch_dirs (s : State) (ftype : Nat) (slots : List RingSlot) (ann : List RingAnn) (mail : RingMail) :
    (s.launch ftype slots ann mail).mrd.tx.map (fun x => x.2.dir) = s.launchDirs := by
  rw [State.launch_tx, List.map_map]
  exact List.map_id _

/-- R135: the C-slots as the launcher sends them: not filled, all zeros. -/
def State.emptySlots (s : State) : List RingSlot :=
  s.cSlots.map fun p => RingSlot.seal ⟨p.1, 1, 0, List.replicate p.2 0, 0⟩

/-- R178: the D-slots as they were taken. -/
def State.takenSlots (s : State) : List RingSlot :=
  s.mrd.dTaken.map fun p => RingSlot.seal ⟨p.1, 2, b2n p.2.valid, p.2.payload, 0⟩

/-- The mail that the next D-pass carries. -/
def State.nextMail (s : State) : RingMail := (s.mrd.mail.head?).getD (s.mailOf {} [])

/-- R155: the station that answers the mail in the next C-pass, 0 for none. -/
def replyAddr (m : RingMail) : Nat := if m.op = 0 ∨ m.bcast = true then 0 else m.addr

/-- The announcement entries that a D-pass has carried. -/
def State.sentBits (s : State) : Nat :=
  (List.range 8).foldl (fun m e => if (s.annNow.getD e {}).type ≠ 0 then setBit m e true else m) s.mrd.annSent

@[simp] theorem State.launchesNow_atPhase (s : State) (c : Nat) : (s.atPhase c).launchesNow = s.launchesNow := rfl

theorem exec_cPassLaunch_of_launches {s : State} (h : s.launchesNow = true) :
    exec .cPassLaunch s = .next ((s.atPhase 100).launch 1 s.emptySlots [] (s.mailOf { addr := s.mrd.mailAddr } [])) := by
  change execCPassLaunch s = _
  rw [execCPassLaunch, if_neg (by simp [h])]
  rfl

theorem exec_dPassLaunch_of_launches {s : State} (h : s.launchesNow = true) :
    exec .dPassLaunch s = .next { (s.atPhase 6000).launch 2 s.takenSlots s.annNow s.nextMail with
      mrd.annSent := s.sentBits, mrd.mailAddr := replyAddr s.nextMail, mrd.mail := s.mrd.mail.tail } := by
  change execDPassLaunch s = _
  rw [execDPassLaunch, if_neg (by simp [h])]
  simp only [replyAddr, Bool.or_eq_true, decide_eq_true_eq]
  rfl

/-- R128, R135: the C-pass. -/
theorem cPassLaunch_sends {s : State} (h : s.launchesNow = true) :
    ∃ t, exec .cPassLaunch s = .next t ∧
      t.mrd.tx.map (fun x => x.2.dir) = s.launchDirs ∧
      (∀ x ∈ t.mrd.tx, x.1 = s.me ∧ x.2.ftype = 1 ∧ x.2.origin = s.me ∧ x.2.tick = s.chr.tick ∧ x.2.hcrcOk = true ∧
        x.2.mtLaunch = (s.chr.base + 800) % 2 ^ 64 ∧ x.2.mail = s.mailOf { addr := s.mrd.mailAddr } [] ∧
        x.2.nslot = s.cSlots.length ∧ x.2.slots = s.emptySlots) ∧
      t = { s with chr.phase := 100, mrd.tx := t.mrd.tx } := by
  refine ⟨_, exec_cPassLaunch_of_launches h, State.launch_dirs _ _ _ _ _, fun x hx => ?_, rfl⟩
  obtain ⟨d, rfl⟩ := State.mem_launch_tx hx
  exact ⟨rfl, rfl, rfl, rfl, hcrcOk_seal _, rfl, rfl, List.length_map _, rfl⟩

/-- R128, R133, R136: the D-pass. -/
theorem dPassLaunch_sends {s : State} (h : s.launchesNow = true) :
    ∃ t, exec .dPassLaunch s = .next t ∧
      t.mrd.tx.map (fun x => x.2.dir) = s.launchDirs ∧
      (∀ x ∈ t.mrd.tx, x.2.ftype = 2 ∧ x.2.ann = s.annNow ∧ x.2.annOk = true ∧ x.2.hcrcOk = true ∧ x.2.mail = s.nextMail ∧
        x.2.mtLaunch = (s.chr.base + 48000) % 2 ^ 64 ∧ x.2.slots = s.takenSlots) ∧
      t.mrd.mail = s.mrd.mail.tail ∧ t.mrd.mailAddr = replyAddr s.nextMail := by
  refine ⟨_, exec_dPassLaunch_of_launches h, State.launch_dirs (s.atPhase 6000) _ _ _ _, fun x hx => ?_, rfl, rfl⟩
  obtain ⟨d, rfl⟩ := State.mem_launch_tx (s := s.atPhase 6000) hx
  exact ⟨rfl, rfl, beq_self_eq_true (crc32 (s.annNow.flatMap RingAnn.bytes)), hcrcOk_seal _, rfl, rfl, rfl⟩

/-- Settles O33: both launches go by `State.launch`, which seals one pass for each direction that is open. -/
theorem ringLaunch : Obligations.RingLaunch := by
  refine ⟨fun s => cPassLaunch_sends, fun s h => ?_, fun s h => ⟨?_, ?_⟩, fun s => ⟨_, rfl, rfl, rfl, rfl⟩⟩
  · obtain ⟨t, he, hdir, htx, hmail, haddr⟩ := dPassLaunch_sends h
    exact ⟨t, s.nextMail, he, rfl, hdir, htx, hmail, haddr⟩
  · exact if_pos (by simp [h])
  · exact if_pos (by simp [h])

end Sys2Proof.Machine

/-! A frame at a station: the station's own operations. -/

namespace Sys2Proof.Machine

/-! ### A station's own operations: what each leaves as it was -/

/-- What the time, the mail and the snapshots of a station leave alone: its last pass, the link delays, the D-slot copies and the
counts of bad headers. -/
def passFields (x : Station) :
    Nat × (List Nat × List Nat) × (Option (Nat × Bool × List Nat) × Option (Nat × Bool × List Nat)) × (Nat × Nat) :=
  (x.lastPass, (x.probeW, x.probeE), (x.dCw, x.dCcw), x.cntHcrc)

/-- Those fields stand, and a station that listens (1) or is past it (2) stays so. -/
structure Kept (x y : Station) : Prop where
  fields : passFields y = passFields x
  state : ∀ n ≤ 2, n ≤ x.state → n ≤ y.state

theorem Kept.refl (x : Station) : Kept x x := ⟨rfl, fun _ _ h => h⟩

theorem Kept.trans {x y z : Station} (h : Kept x y) (g : Kept y z) : Kept x z :=
  ⟨g.fields.trans h.fields, fun n hn hx => g.state n hn (h.state n hn hx)⟩

theorem Kept.after {x y z : Station} (g : Kept y z) (h : Kept x y) : Kept x z := h.trans g

theorem Kept.lastPass {x y : Station} (h : Kept x y) : y.lastPass = x.lastPass := congrArg (·.1) h.fields
theorem Kept.dCw {x y : Station} (h : Kept x y) : y.dCw = x.dCw := congrArg (·.2.2.1.1) h.fields
theorem Kept.dCcw {x y : Station} (h : Kept x y) : y.dCcw = x.dCcw := congrArg (·.2.2.1.2) h.fields
theorem Kept.cntHcrc {x y : Station} (h : Kept x y) : y.cntHcrc = x.cntHcrc := congrArg (·.2.2.2) h.fields

theorem Kept.delays {x y : Station} (h : Kept x y) (d : Nat) : y.delays d = x.delays d := by
  have hw : y.probeW = x.probeW := congrArg (·.2.1.1) h.fields
  have he : y.probeE = x.probeE := congrArg (·.2.1.2) h.fields
  rw [Station.delays, hw, he, Station.delays]

theorem Kept.ite {c : Prop} [Decidable c] {x y z : Station} (h : Kept x y) (g : Kept x z) :
    Kept x (if c then y else z) := by
  split_ifs
  · exact h
  · exact g

/-- A move into IDENT or beyond. -/
theorem Kept.of_two_le {x y : Station} (hf : passFields y = passFields x) (h : 2 ≤ y.state) : Kept x y :=
  ⟨hf, fun _ hn _ => hn.trans h⟩

/-- R166: taking a snapshot keeps all but the snapshots. -/
theorem kept_takeSnaps (x : Station) : Kept x x.takeSnaps := by
  unfold Station.takeSnaps
  refine List.foldlRecOn (motive := Kept x) _ _ (Kept.refl x) fun y hy e _ => hy.trans ?_
  split_ifs
  · exact Kept.refl y
  · split <;> exact ⟨rfl, fun _ _ h => h⟩

theorem kept_keepBlocks (x : Station) (tick : Nat) (bs : List Nat) : Kept x (x.keepBlocks tick bs) := by
  unfold Station.keepBlocks
  split_ifs
  · exact Kept.refl x
  · exact (kept_takeSnaps _).after ⟨rfl, fun _ _ h => h⟩

/-- R144: what TIME_OK does takes no station back to where it does not forward. -/
theorem kept_settle (x : Station) (lost : Bool) : Kept x (x.settle lost) := by
  unfold Station.settle
  split_ifs
  · exact Kept.refl x
  · exact Kept.of_two_le rfl (le_refl 2)
  · exact Kept.of_two_le rfl (Nat.le_succ 2)
  · exact Kept.of_two_le rfl (by simp)
  · exact Kept.refl x

theorem kept_steer (x : Station) (err : Int) : Kept x (x.steer err) := by
  unfold Station.steer
  refine Kept.trans ?_ (kept_settle _ _)
  split_ifs <;> exact ⟨rfl, fun _ _ h => h⟩

/-- R146: the estimate of the pass before this one has steered the clock. -/
def dueSteered (x : Station) (f : RingFrame) : Station :=
  match x.dueErr f with
  | some e =>
    let n := x.est.map (·.1)
    let x := if n == x.lastEst.map (· + 1) then x else { x with goodPass := 0 }
    { x.steer e with est := none, lastEst := n }
  | none => x

/-- R146: of two copies of a pass the better one is the estimate. -/
def estimated (x : Station) (f : RingFrame) (rx : Option Nat) : Station :=
  match linkDelay (x.delays (frameInput f)), rx with
  | some d, some rx =>
    let err : Int := 20 * ((rx : Int) - f.mtLaunch) - (f.acc + d)
    let mine := ((frameNumber f), f.hops, f.dir, err)
    match x.est with
    | none => { x with est := some mine }
    | some (_, h, d', _) => if f.hops < h ∨ (f.hops = h ∧ f.dir < d') then { x with est := some mine } else x
  | _, _ => x

theorem timeCopy_of_synced {x : Station} (h : x.synced = true) (f : RingFrame) (rx : Option Nat) :
    x.timeCopy f rx = estimated (dueSteered x f) f rx := if_neg (by simp [h])

theorem kept_dueSteered (x : Station) (f : RingFrame) : Kept x (dueSteered x f) := by
  unfold dueSteered
  split
  · rename_i e _
    have hsteer (y : Station) (hy : Kept x y) : Kept x { y.steer e with est := none, lastEst := x.est.map (·.1) } :=
      (hy.trans (kept_steer y e)).trans ⟨rfl, fun _ _ h => h⟩
    refine hsteer _ ?_
    split_ifs
    · exact Kept.refl x
    · exact ⟨rfl, fun _ _ h => h⟩
  · exact Kept.refl x

theorem kept_estimated (x : Station) (f : RingFrame) (rx : Option Nat) : Kept x (estimated x f rx) := by
  have hest (e : Option (Nat × Nat × Nat × Int)) : Kept x { x with est := e } :=
    ⟨rfl, fun _ _ h => h⟩
  unfold estimated
  split
  · simp only
    split
    · exact hest _
    · split_ifs
      · exact hest _
      · exact Kept.refl x
  · exact Kept.refl x

theorem kept_timeCopy (x : Station) (f : RingFrame) (rx : Option Nat) : Kept x (x.timeCopy f rx) := by
  cases h : x.synced with
  | false =>
    rw [Station.timeCopy, if_pos (by simp [h])]
    exact ⟨rfl, fun _ _ h => h⟩
  | true =>
    rw [timeCopy_of_synced h]
    exact (kept_dueSteered x f).trans (kept_estimated _ f rx)

theorem kept_hear (x : Station) (d : Nat) : Kept x (x.hear d) := ⟨rfl, fun _ _ h => h⟩

theorem kept_joinStation (s : State) (st : Nat) (x : Station) : Kept x (s.joinStation st x) := by
  unfold State.joinStation
  split_ifs
  · exact ⟨rfl, fun _ _ h => h⟩
  · exact Kept.refl x

/-! ### Mail (R136, R155, R156) -/

theorem Kept.answered {x y : Station} (h : Kept x y) (a : Nat) (m : RingMail) (tick status : Nat) (p : List Nat) :
    Kept x (y.answer a m tick status p) := by
  unfold Station.answer
  split_ifs
  · exact h
  · exact h.trans ⟨rfl, fun _ _ h => h⟩

theorem kept_beginLoad (x : Station) (p : List Nat) : Kept x (x.beginLoad p) := Kept.of_two_le rfl (Nat.le_succ 2)

/-- No request that a station serves takes it out of the ring: a load begun puts it in LOADING, a start in IDENT or RUN. -/
theorem kept_serve (x : Station) (a : Nat) (own busy : Bool) (id : List Nat) (m : RingMail) (tick : Nat) :
    Kept x (x.serve a own busy id m tick) := by
  have hasked : Kept x { x with asked := some (tick, m.seq) } := ⟨rfl, fun _ _ h => h⟩
  refine hasked.trans ?_
  unfold Station.serve
  generalize ({ x with asked := some (tick, m.seq) } : Station) = y
  have hanswer (status : Nat) (p : List Nat) : Kept y (y.answer a m tick status p) := (Kept.refl y).answered ..
  have hdata : Kept y { y with buf := (y.buf ++ m.payload.drop 8).take y.imgLen } := ⟨rfl, fun _ _ h => h⟩
  have hstart : Kept y { y with needLoad := false, hold := 0, state := if y.timeOk then 4 else 2 } :=
    Kept.of_two_le rfl (by simp only; split_ifs <;> decide)
  have hsnap (o : Option (List Nat)) : Kept y (match o with
      | some b => y.answer a m tick 0 b
      | none => y.answer a m tick 2 []) := by
    cases o with
    | none => exact hanswer _ _
    | some b => exact hanswer _ _
  exact (hanswer _ _).ite <| (hanswer _ _).ite <| (hanswer _ _).ite <| ((kept_beginLoad y _).answered ..).ite <|
    ((hdata.answered ..).ite (hanswer _ _)).ite <| (hanswer _ _).ite <| ((hstart.answered ..).ite (hanswer _ _)).ite <|
    (hsnap _).ite <| (hanswer _ _).ite (Kept.refl y)

theorem kept_readMail (x : Station) (a img : Nat) (own busy : Bool) (id : List Nat) (f : RingFrame) :
    Kept x (x.readMail a img own busy id f) := (kept_serve x ..).ite (Kept.refl x)

/-! ### The D-slot that a station reads (R141) -/

/-- The D-slot copy that a station keeps, before the announcements of the pass. -/
def slotRead (x : Station) (a : Nat) (f : RingFrame) : Station :=
  match f.slots.find? fun sl => sl.addr == a && sl.kind == 2 with
  | none => x
  | some sl =>
    if !sl.crcOk then { x with cntSlot := x.cntSlot + 1 }
    else
      let c := some (f.tick, bit sl.status 0, sl.payload)
      if f.dir = 0 then { x with dCw := c } else { x with dCcw := c }

theorem readD_eq (x : Station) (a : Nat) (f : RingFrame) : x.readD a f =
    if f.annOk then Station.takeSnaps { slotRead x a f with
      annSnap := f.ann.take 4, annStep := f.ann.getD 4 {}, annWp := f.ann.getD 5 {}, annReset := f.ann.getD 6 {} }
    else slotRead x a f := rfl

/-- The announcements of a pass leave its D-slot copy alone. -/
theorem kept_readD (x : Station) (a : Nat) (f : RingFrame) : Kept (slotRead x a f) (x.readD a f) := by
  rw [readD_eq]
  refine Kept.ite ((kept_takeSnaps _).after ?_) (Kept.refl _)
  exact ⟨rfl, fun _ _ h => h⟩

theorem slotRead_frame (x : Station) (a : Nat) (f : RingFrame) :
    (slotRead x a f).lastPass = x.lastPass ∧ (∀ d, (slotRead x a f).delays d = x.delays d) ∧
      (slotRead x a f).state = x.state := by
  unfold slotRead
  split
  · exact ⟨rfl, fun _ => rfl, rfl⟩
  · simp only
    split_ifs <;> exact ⟨rfl, fun _ => rfl, rfl⟩

/-- R141: the station keeps the good copy of its D-slot by the direction it came in. -/
theorem slotRead_copy {x : Station} {a : Nat} {f : RingFrame} {sl : RingSlot}
    (h : f.slots.find? (fun y => y.addr == a && y.kind == 2) = some sl) (hc : sl.crcOk = true) :
    (f.dir = 0 → (slotRead x a f).dCw = some (f.tick, bit sl.status 0, sl.payload)) ∧
      (f.dir ≠ 0 → (slotRead x a f).dCcw = some (f.tick, bit sl.status 0, sl.payload)) := by
  simp only [slotRead, h, hc, Bool.not_true, Bool.false_eq_true, if_false]
  exact ⟨fun hd => by rw [if_pos hd], fun hd => by rw [if_neg hd]⟩

/-! ### A good header at a station (R139, R140, R144) -/

/-- The pass noted: a station that was off listens. -/
def passNoted (x : Station) (tick : Nat) : Station :=
  { x with lastPass := tick, state := if x.state = 0 then 1 else x.state }

/-- With the time of the copy. -/
def passTimed (x : Station) (f : RingFrame) (tick : Nat) (rx : Option Nat) : Station :=
  let x := if f.wrap then passNoted x tick else (passNoted x tick).timeCopy f rx
  { x with hops := if f.wrap then x.hops else dirSet x.hops f.dir f.hops }

/-- A station that listened is in IDENT. -/
def passHeard (x : Station) (f : RingFrame) (tick : Nat) (rx : Option Nat) : Station :=
  let x := passTimed x f tick rx
  (if x.state = 1 then Station.settle { x with state := 2, outSafe := true } false else x).hear (frameInput f)

theorem take_eq (x : Station) (a : Nat) (f : RingFrame) (tick : Nat) (rx : Option Nat) :
    x.take a f tick rx =
      if f.ftype = 2 then (passHeard x f tick rx).readD a f else passHeard x f tick rx := rfl

theorem kept_passTimed (x : Station) (f : RingFrame) (tick : Nat) (rx : Option Nat) :
    Kept (passNoted x tick) (passTimed x f tick rx) :=
  ((Kept.refl _).ite (kept_timeCopy _ f rx)).trans ⟨rfl, fun _ _ h => h⟩

theorem kept_passHeard (x : Station) (f : RingFrame) (tick : Nat) (rx : Option Nat) :
    Kept (passNoted x tick) (passHeard x f tick rx) := by
  refine (kept_passTimed x f tick rx).trans (Kept.trans ?_ (kept_hear _ _))
  refine Kept.ite ((kept_settle _ false).after ?_) (Kept.refl _)
  exact Kept.of_two_le rfl (le_refl 2)

/-- R144: after a good header a station is in IDENT or beyond. -/
theorem two_le_state_passHeard (x : Station) (f : RingFrame) (tick : Nat) (rx : Option Nat) :
    2 ≤ (passHeard x f tick rx).state := by
  have hnoted : 1 ≤ (passNoted x tick).state := by simp only [passNoted]; split_ifs <;> omega
  have htimed := (kept_passTimed x f tick rx).state 1 (by decide) hnoted
  refine (kept_hear _ (frameInput f)).state 2 (le_refl 2) ?_
  split_ifs with h1
  · exact (kept_settle _ false).state 2 (le_refl 2) (le_refl 2)
  · omega

/-- What a good header does at a station, before the frame goes on. -/
theorem take_spec (x : Station) (a : Nat) (f : RingFrame) (tick : Nat) (rx : Option Nat) :
    (x.take a f tick rx).lastPass = tick ∧ (∀ d, (x.take a f tick rx).delays d = x.delays d) ∧
      2 ≤ (x.take a f tick rx).state ∧
      ∀ sl, f.ftype = 2 → f.slots.find? (fun y => y.addr == a && y.kind == 2) = some sl → sl.crcOk = true →
        (f.dir = 0 → (x.take a f tick rx).dCw = some (f.tick, bit sl.status 0, sl.payload)) ∧
        (f.dir ≠ 0 → (x.take a f tick rx).dCcw = some (f.tick, bit sl.status 0, sl.payload)) := by
  have hk := kept_passHeard x f tick rx
  have h2 := two_le_state_passHeard x f tick rx
  rw [take_eq]
  split_ifs with hf
  · have hr := kept_readD (passHeard x f tick rx) a f
    obtain ⟨hlast, hdelays, hstate⟩ := slotRead_frame (passHeard x f tick rx) a f
    refine ⟨hr.lastPass.trans (hlast.trans hk.lastPass), fun d => (hr.delays d).trans ((hdelays d).trans (hk.delays d)),
      hr.state 2 (le_refl 2) (hstate ▸ h2), fun sl _ hsl hc => ?_⟩
    obtain ⟨hcw, hccw⟩ := slotRead_copy (x := passHeard x f tick rx) hsl hc
    exact ⟨fun hd => hr.dCw.trans (hcw hd), fun hd => hr.dCcw.trans (hccw hd)⟩
  · exact ⟨hk.lastPass, hk.delays, h2, fun _ h => absurd h hf⟩

/-! ### The frame as a station sends it on (R136, R139, R140) -/

theorem insert_addr (x : Station) (a tick : Nat) (p : List Nat) (sl : RingSlot) :
    (x.insert a tick p sl).addr = sl.addr ∧ (x.insert a tick p sl).kind = sl.kind := by
  simp only [Station.insert]
  split_ifs <;> exact ⟨rfl, rfl⟩

/-- R135: a station that inserts sets FILLED. -/
theorem status_filled (x : Station) (tick : Nat) (b : Bool) : bit (x.status tick b) 0 = true := by
  simp only [bit, Station.status, Nat.testBit_zero, decide_eq_true_eq]
  omega

/-- R140: a station from IDENT on overwrites its own C-slot. -/
theorem insert_own {x : Station} {a : Nat} (tick : Nat) (p : List Nat) {sl : RingSlot} (ha : sl.addr = a) (hk : sl.kind = 1)
    (h2 : 2 ≤ x.state) : (x.insert a tick p sl).crcOk = true ∧ bit (x.insert a tick p sl).status 0 = true := by
  have hn : ¬(sl.addr ≠ a ∨ sl.kind ≠ 1 ∨ x.state < 2) := by omega
  rw [Station.insert, if_neg hn]
  exact ⟨slot_crcOk_seal _, status_filled x tick _⟩

/-- The header as it goes on: one hop more, and the delays of the link and of the station added. -/
def nextHeader (x : Station) (f : RingFrame) (fwd : Nat) : RingFrame :=
  RingFrame.seal { f with
    acc := (f.acc + (linkDelay (x.delays (frameInput f))).getD 0 + fwd) % 2 ^ 32, hops := (f.hops + 1) % 256 }

/-- A C-pass with the station's slot in place and, where it asks for the station's reply, that in the mail region. -/
def slotFilled (x : Station) (a : Nat) (g : RingFrame) (p : List Nat) : RingFrame :=
  let g := { g with slots := g.slots.map (x.insert a g.tick p) }
  match x.reply with
  | some (t, r) => if g.mail.addr = a ∧ !g.mail.filled ∧ 3 ≤ x.state ∧ g.tick = t + 1 then { g with mail := r } else g
  | none => g

theorem pass_eq (x : Station) (a : Nat) (f : RingFrame) (p : List Nat) (fwd : Nat) :
    x.pass a f p fwd =
      if f.ftype ≠ 1 ∨ f.wrap then nextHeader x f fwd else slotFilled x a (nextHeader x f fwd) p := rfl

theorem slotFilled_eq (x : Station) (a : Nat) (g : RingFrame) (p : List Nat) :
    ∃ m, slotFilled x a g p = { g with slots := g.slots.map (x.insert a g.tick p), mail := m } := by
  simp only [slotFilled]
  split
  · split_ifs <;> exact ⟨_, rfl⟩
  · exact ⟨_, rfl⟩

/-- A D-pass and a wrapped frame go on with a new header alone; a C-pass with the station's slot and the mail in place too. -/
theorem pass_cases (x : Station) (a : Nat) (f : RingFrame) (p : List Nat) (fwd : Nat) :
    ((f.ftype ≠ 1 ∨ f.wrap = true) ∧ x.pass a f p fwd = nextHeader x f fwd) ∨
    ∃ m, x.pass a f p fwd = { nextHeader x f fwd with slots := f.slots.map (x.insert a f.tick p), mail := m } := by
  rw [pass_eq]
  split_ifs with h
  · exact .inl ⟨h, rfl⟩
  · exact .inr (slotFilled_eq x a (nextHeader x f fwd) p)

theorem pass_spec {x : Station} (a : Nat) (f : RingFrame) (p : List Nat) (fwd : Nat) (h2 : 2 ≤ x.state) :
    (x.pass a f p fwd).hops = (f.hops + 1) % 256 ∧ (x.pass a f p fwd).hcrcOk = true ∧
      (x.pass a f p fwd).acc = (f.acc + (linkDelay (x.delays (frameInput f))).getD 0 + fwd) % 2 ^ 32 ∧
      (x.pass a f p fwd).slots.map (fun y => y.addr) = f.slots.map (fun y => y.addr) ∧
      (f.ftype = 1 → f.wrap = false → ∀ y ∈ (x.pass a f p fwd).slots, y.addr = a → y.kind = 1 →
        y.crcOk = true ∧ bit y.status 0 = true) := by
  have hcrc : (nextHeader x f fwd).hcrcOk = true := hcrcOk_seal _
  obtain ⟨hn, e⟩ | ⟨m, e⟩ := pass_cases x a f p fwd <;> rw [e]
  · exact ⟨rfl, hcrc, rfl, rfl, fun h1 hw => by simp [h1, hw] at hn⟩
  · refine ⟨rfl, hcrc, rfl, ?_, fun _ _ y hy ha hk => ?_⟩
    · rw [List.map_map]
      exact List.map_congr_left fun sl _ => (insert_addr x a f.tick p sl).1
    · obtain ⟨sl, _, rfl⟩ := List.mem_map.1 hy
      obtain ⟨haddr, hkind⟩ := insert_addr x a f.tick p sl
      exact insert_own f.tick p (haddr ▸ ha) (hkind ▸ hk) h2

end Sys2Proof.Machine

/-! A frame at a station: FRAME_FORWARD. -/

namespace Sys2Proof.Machine

/-! ### The stations of the ring -/

theorem State.station_modStation_other (s : State) {a b : Nat} (h : b ≠ a) (g : Station → Station) :
    (s.modStation a g).station b = s.station b := by
  simp [State.station, State.modStation, List.getD_eq_getElem?_getD, h.symm]

theorem State.station_modStation_same {s : State} {a : Nat} (h : a < s.mrd.stations.length) (g : Station → Station) :
    (s.modStation a g).station a = g (s.station a) := by
  simp [State.station, State.modStation, List.getD_eq_getElem?_getD, h]

/-- A state of the module's shape has every station that a frame can pass. -/
theorem State.Shaped.station_lt {s : State} (h : s.Shaped) (st : Fin 64) : st.val < s.mrd.stations.length := by
  obtain ⟨-, hst, -⟩ := h
  omega

/-! ### FRAME_FORWARD at another station (R138 to R141, R144, R159) -/

/-- R166: what a node sampled at the edge is kept with its tick. -/
def State.nodeLatched (s : State) (st : Fin 64) (p : NodeSample) : State :=
  s.modStation st fun x => if x.synced then x.keepBlocks x.tick p.blocks else x

/-- A good header taken. -/
def State.nodeTook (s : State) (st : Fin 64) (f : RingFrame) (p : NodeSample) (rx : Option Nat) : State :=
  let s := s.nodeLatched st p
  s.modStation st fun x => (s.joinStation st x).take st f s.chr.tick rx

/-- With the mail read. -/
def State.nodePassed (s : State) (st : Fin 64) (f : RingFrame) (p : NodeSample) (rx : Option Nat) : State :=
  let s := s.nodeTook st f p rx
  s.modStation st fun x =>
    (x.keepBlocks x.tick p.blocks).readMail st (s.cfg 0x0201 st 0x13 1) false p.busy (Config.nodeIdent st) f

/-- R159: the copy that a node whose other input is dead sends back. -/
def wrapped (x : Station) (st : Nat) (f g : RingFrame) : List (Nat × RingFrame) :=
  if !f.wrap && bit x.dead (1 - frameInput f) then [(st, RingFrame.seal { g with wrap := true })] else []

theorem exec_frameForward_node_good {s : State} {st : Fin 64} {f : RingFrame} (p : NodeSample) (fwd : Nat) (rx : Option Nat)
    (h : st.val ≠ s.ringPlace) (hf : f.ftype = 1 ∨ f.ftype = 2) (hc : f.hcrcOk = true) :
    exec (.frameForward st f p fwd rx) s = .next ((s.nodePassed st f p rx).ringTx
      ((st.val, ((s.nodePassed st f p rx).station st).pass st f p.payload fwd) ::
        wrapped ((s.nodePassed st f p rx).station st) st f
          (((s.nodePassed st f p rx).station st).pass st f p.payload fwd))) := by
  have hft : (!(f.ftype == 1 || f.ftype == 2)) = false := by rcases hf with h | h <;> simp [h]
  change execFrameForward st f p fwd rx s = _
  simp only [execFrameForward, decide_eq_false h, hft, hc, Bool.false_and, Bool.false_eq_true, if_false, Bool.not_true]
  rfl

theorem exec_frameForward_node_bad {s : State} {st : Fin 64} {f : RingFrame} (p : NodeSample) (fwd : Nat) (rx : Option Nat)
    (h : st.val ≠ s.ringPlace) (hf : f.ftype = 1 ∨ f.ftype = 2) (hc : f.hcrcOk = false) :
    exec (.frameForward st f p fwd rx) s = .next (((s.nodeLatched st p).modStation st fun x =>
      { x with cntHcrc := dirInc x.cntHcrc (frameInput f), good := dirSet x.good (frameInput f) 0 }).ringTx
        [(st.val, f)]) := by
  have hft : (!(f.ftype == 1 || f.ftype == 2)) = false := by rcases hf with h | h <;> simp [h]
  change execFrameForward st f p fwd rx s = _
  simp only [execFrameForward, decide_eq_false h, hft, hc, Bool.false_and, Bool.false_eq_true, if_false, Bool.not_false,
    if_true]
  rfl

theorem State.nodeLatched_length (s : State) (st : Fin 64) (p : NodeSample) :
    (s.nodeLatched st p).mrd.stations.length = s.mrd.stations.length := List.length_modify ..

theorem State.nodeTook_length (s : State) (st : Fin 64) (f : RingFrame) (p : NodeSample) (rx : Option Nat) :
    (s.nodeTook st f p rx).mrd.stations.length = s.mrd.stations.length :=
  (List.length_modify ..).trans (s.nodeLatched_length st p)

theorem kept_nodeLatched {s : State} {st : Fin 64} (h : st.val < s.mrd.stations.length) (p : NodeSample) :
    Kept (s.station st) ((s.nodeLatched st p).station st) := by
  rw [State.nodeLatched, State.station_modStation_same h]
  exact (kept_keepBlocks ..).ite (Kept.refl _)

theorem State.station_nodeTook {s : State} {st : Fin 64} (h : st.val < s.mrd.stations.length) (f : RingFrame)
    (p : NodeSample) (rx : Option Nat) : (s.nodeTook st f p rx).station st =
      ((s.nodeLatched st p).joinStation st ((s.nodeLatched st p).station st)).take st f s.chr.tick rx :=
  State.station_modStation_same (by rwa [State.nodeLatched_length]) _

theorem kept_nodePassed {s : State} {st : Fin 64} (h : st.val < s.mrd.stations.length) (f : RingFrame) (p : NodeSample)
    (rx : Option Nat) : Kept ((s.nodeTook st f p rx).station st) ((s.nodePassed st f p rx).station st) := by
  rw [State.nodePassed, State.station_modStation_same (by rwa [State.nodeTook_length])]
  exact (kept_keepBlocks ..).trans (kept_readMail ..)

/-- A good header at a node leaves every other station as it was. -/
theorem State.station_nodePassed_other (s : State) {st : Fin 64} {a : Nat} (h : a ≠ st.val) (f : RingFrame)
    (p : NodeSample) (rx : Option Nat) : (s.nodePassed st f p rx).station a = s.station a := by
  rw [State.nodePassed, State.station_modStation_other _ h, State.nodeTook, State.station_modStation_other _ h,
    State.nodeLatched, State.station_modStation_other _ h]

/-- What a node is after a good header: what `take_spec` says of it, with the delays it had before. -/
theorem nodePassed_spec {s : State} {st : Fin 64} (h : st.val < s.mrd.stations.length) (f : RingFrame) (p : NodeSample)
    (rx : Option Nat) :
    ((s.nodePassed st f p rx).station st).lastPass = s.chr.tick ∧
      (∀ d, ((s.nodePassed st f p rx).station st).delays d = (s.station st).delays d) ∧
      2 ≤ ((s.nodePassed st f p rx).station st).state ∧
      ∀ sl, f.ftype = 2 → f.slots.find? (fun y => y.addr == st.val && y.kind == 2) = some sl → sl.crcOk = true →
        (f.dir = 0 → ((s.nodePassed st f p rx).station st).dCw = some (f.tick, bit sl.status 0, sl.payload)) ∧
        (f.dir ≠ 0 → ((s.nodePassed st f p rx).station st).dCcw = some (f.tick, bit sl.status 0, sl.payload)) := by
  have hk := kept_nodePassed h f p rx
  rw [State.station_nodeTook h] at hk
  have hjoin := (kept_nodeLatched h p).trans (kept_joinStation (s.nodeLatched st p) st _)
  obtain ⟨hlast, hdelays, hstate, hcopy⟩ := take_spec
    ((s.nodeLatched st p).joinStation st ((s.nodeLatched st p).station st)) st f s.chr.tick rx
  refine ⟨hk.lastPass.trans hlast, fun d => (hk.delays d).trans ((hdelays d).trans (hjoin.delays d)),
    hk.state 2 (le_refl 2) hstate, fun sl hf hsl hc => ?_⟩
  obtain ⟨hcw, hccw⟩ := hcopy sl hf hsl hc
  exact ⟨fun hd => hk.dCw.trans (hcw hd), fun hd => hk.dCcw.trans (hccw hd)⟩

/-! ### FRAME_FORWARD at the module's own place (R47, R49, R159) -/

/-- A stamp taken leaves the relays, the ring and the registers as they are. -/
theorem State.tookStamp_ring (s : State) (p : Nat) (x : Option Nat) :
    (∀ d, (s.tookStamp p x).dirCut d = s.dirCut d) ∧ (s.tookStamp p x).inserted = s.inserted ∧
      (s.tookStamp p x).launching = s.launching ∧ (s.tookStamp p x).mrd = s.mrd := by
  have hget (f : Fld) : (s.tookStamp p x).get f = s.get f := State.get_congr (s.tookStamp_regs p x) f
  refine ⟨fun d => ?_, ?_, ?_, s.tookStamp_mrd p x⟩
  · simp only [State.dirCut, State.relay, State.tookStamp_pwr]
  · simp only [State.inserted, hget]
  · simp only [State.launching, State.flag, State.inserted, hget]

/-- The launcher, a relay's cut window and an input held dead end a frame. -/
theorem exec_frameForward_own_ends {s : State} {st : Fin 64} {f : RingFrame} (p : NodeSample) (fwd : Nat) (rx : Option Nat)
    (h : st.val = s.ringPlace)
    (he : s.launching = true ∨ s.dirCut (frameInput f) = true ∨
      (s.inserted = true ∧ bit s.mrd.heldDead (frameInput f) = true)) :
    exec (.frameForward st f p fwd rx) s = .next { s.tookStamp (ptRing 0 (frameInput f)) rx with mrd.tx := [] } := by
  obtain ⟨hcut, hins, hlaunch, hmrd⟩ := s.tookStamp_ring (ptRing 0 (frameInput f)) rx
  have hinserted : s.launching = true → s.inserted = true := fun hl => by
    simp only [State.launching, Bool.and_eq_true] at hl
    exact hl.2
  change execFrameForward st f p fwd rx s = .next ((s.tookStamp (ptRing 0 (frameInput f)) rx).ringTx [])
  simp only [execFrameForward, decide_eq_true h, Bool.true_and, if_true, hcut, hins, hlaunch, hmrd]
  by_cases hstop : (s.dirCut (frameInput f) || s.inserted && bit s.mrd.heldDead (frameInput f)) = true
  · rw [if_pos hstop]
  · have hl : s.launching = true := he.resolve_right fun hx => hstop (by rcases hx with hx | ⟨hi, hd⟩ <;> simp [*])
    rw [if_neg hstop, if_neg (by simp [hinserted hl]), if_pos hl]

/-- R49: a bypassed module's relays pass a frame on. -/
theorem exec_frameForward_own_bypassed {s : State} {st : Fin 64} {f : RingFrame} (p : NodeSample) (fwd : Nat)
    (rx : Option Nat) (h : st.val = s.ringPlace) (hi : s.inserted = false) (hc : s.dirCut (frameInput f) = false) :
    exec (.frameForward st f p fwd rx) s =
      .next { s.tookStamp (ptRing 0 (frameInput f)) rx with mrd.tx := [(st.val, f)] } := by
  obtain ⟨hcut, hins, -, hmrd⟩ := s.tookStamp_ring (ptRing 0 (frameInput f)) rx
  change execFrameForward st f p fwd rx s =
    .next ((s.tookStamp (ptRing 0 (frameInput f)) rx).ringTx [(st.val, f)])
  simp only [execFrameForward, decide_eq_true h, Bool.true_and, if_true, hcut, hins, hmrd, hc, hi, Bool.false_or,
    Bool.false_and, Bool.false_eq_true, if_false, Bool.not_false]

/-- Settles O35: a good header goes through `Station.take`, the mail and `Station.pass`; a station is in IDENT or beyond after it
(log 56). At the module's own place the relays, the held input and the launcher decide first. -/
theorem ringForwarding : Obligations.RingForwarding := by
  refine ⟨fun s st f p fwd rx hs h hf hc => ?_, fun s st f p fwd rx hs h hf hc => ?_,
    fun s st f p fwd rx => exec_frameForward_own_ends p fwd rx, fun s st f p fwd rx => exec_frameForward_own_bypassed p fwd rx⟩
  · obtain ⟨hlast, hdelays, hstate, hcopy⟩ := nodePassed_spec (hs.station_lt st) f p rx
    obtain ⟨hhops, hcrc, hacc, haddr, hslot⟩ := pass_spec st.val f p.payload fwd hstate
    rw [hdelays] at hacc
    exact ⟨_, _, _, exec_frameForward_node_good p fwd rx h hf hc, rfl, hhops, hcrc, hacc, haddr, hlast, hstate, hslot,
      fun x hd hx hxc => hcopy x hd hx hxc, fun a ha => s.station_nodePassed_other ha f p rx⟩
  · refine ⟨_, exec_frameForward_node_bad p fwd rx h hf hc, rfl, ?_⟩
    refine (congrArg Station.cntHcrc (State.station_modStation_same ?_ _)).trans ?_
    · rw [State.nodeLatched_length]; exact hs.station_lt st
    · simp only [(kept_nodeLatched (hs.station_lt st) p).cntHcrc]

end Sys2Proof.Machine

/-! The release of RESET. -/

namespace Sys2Proof.Machine

/-! ### What the start leaves alone (R448, R467, R468, R471) -/

/-- The fields that the release of RESET shows and that no later step of the start puts. -/
def bootFlds : List Fld :=
  [R.ALM_MODE_MODE, R.ALM_MODE_PREV, R.ALM_MODE_CAUSE, R.MRD_STATUS_ROLE, R.CHR_CLKSTAT_LOCK_T]

/-- The time, SSEL, the count of starts, the records that wait and the fields of `bootFlds` stand; the Logbook stays up, and with
it up the PWR domain holds no more events. -/
structure BootKept (s t : State) : Prop where
  chr : t.chr = s.chr
  ssel : t.pwr.ssel = s.pwr.ssel
  starts : t.log.starts = s.log.starts
  up : t.log.up = s.log.up
  held : s.log.up = true → t.pwr.held = s.pwr.held
  queue : ∀ q ∈ s.log.queue, q ∈ t.log.queue
  get : ∀ f ∈ bootFlds, t.get f = s.get f

theorem BootKept.refl (s : State) : BootKept s s := ⟨rfl, rfl, rfl, rfl, fun _ => rfl, fun _ h => h, fun _ _ => rfl⟩

theorem BootKept.trans {s t u : State} (h : BootKept s t) (g : BootKept t u) : BootKept s u where
  chr := g.chr.trans h.chr
  ssel := g.ssel.trans h.ssel
  starts := g.starts.trans h.starts
  up := g.up.trans h.up
  held hu := (g.held (h.up.trans hu)).trans (h.held hu)
  queue q hq := g.queue q (h.queue q hq)
  get f hf := (g.get f hf).trans (h.get f hf)

theorem BootKept.ite {c : Prop} [Decidable c] {s t u : State} (h : BootKept s t) (g : BootKept s u) :
    BootKept s (if c then t else u) := by
  split_ifs
  · exact h
  · exact g

theorem bootKept_put (s : State) {f : Fld} (v : Nat) (h : f.key ∉ bootFlds.map Fld.key) : BootKept s (s.put f v) where
  chr := rfl
  ssel := rfl
  starts := rfl
  up := rfl
  held _ := rfl
  queue _ hq := hq
  get _ hg := State.get_put_other s (fun hk => h (hk ▸ List.mem_map_of_mem hg)) v

theorem bootKept_puts (s : State) (l : List (Fld × Nat)) (h : ∀ e ∈ l, e.1.key ∉ bootFlds.map Fld.key) :
    BootKept s (s.puts l) := by
  induction l generalizing s with
  | nil => exact BootKept.refl s
  | cons e l ih =>
    exact (bootKept_put s e.2 (h e List.mem_cons_self)).trans (ih _ fun x hx => h x (List.mem_cons_of_mem e hx))

/-- The settings, the NOR, the free values and what PWR knows of the activation are outside. -/
theorem bootKept_settings (s : State) (n : Nor) (u : Upd) (c : Nat) (b : Bool) :
    BootKept s { s with nor := n, upd := u, freeCtr := c, pwr.actDue := b } :=
  ⟨rfl, rfl, rfl, rfl, fun _ => rfl, fun _ h => h, fun _ _ => rfl⟩

theorem bootFlds_ne_lost : ∀ f ∈ bootFlds, f.key ≠ R.LOG_LOST_VALUE.key := by decide

theorem State.mem_enqueue_of_mem {s : State} {q : LogRec} (r : LogRec) (h : q ∈ s.log.queue) :
    q ∈ (s.enqueue r).log.queue := by
  rcases s.enqueue_cases r with ⟨_, e⟩ | ⟨_, e⟩ <;> rw [e]
  · exact List.mem_append_left _ h
  · exact h

theorem bootKept_enqueue (s : State) (r : LogRec) : BootKept s (s.enqueue r) where
  chr := s.enqueue_chr r
  ssel := by rw [s.enqueue_pwr]
  starts := by rw [State.enqueue_log_eq]
  up := by rw [State.enqueue_log_eq]
  held _ := by rw [s.enqueue_pwr]
  queue _ h := State.mem_enqueue_of_mem r h
  get f hf := s.get_enqueue r (bootFlds_ne_lost f hf)

theorem bootKept_raise (s : State) (c : Nat) (ps : List Nat) : BootKept s (s.raise c ps) := by
  rcases s.raiseE_cases false c ps with ⟨_, _, e⟩ | ⟨hd, e⟩ | e <;> rw [State.raise, e]
  · exact bootKept_enqueue s _
  · exact ⟨rfl, rfl, rfl, rfl, fun hu => by simp [hd] at hu, fun _ h => h, fun _ _ => rfl⟩
  · exact BootKept.refl s

theorem bootKept_sysRec (s : State) (c : Nat) (ps : List Nat) : BootKept s (s.sysRec c ps) :=
  (bootKept_enqueue s _).ite (BootKept.refl s)

/-- R522: the events that the PWR domain held join the queue. -/
theorem bootKept_foldl_enqueue (g : State → HeldEvent → LogRec) (l : List HeldEvent) (s : State) :
    BootKept s (l.foldl (fun t h => t.enqueue (g t h)) s) :=
  List.foldlRecOn (motive := BootKept s) l _ (BootKept.refl s) fun t ht h _ => ht.trans (bootKept_enqueue t (g t h))

theorem bootKept_log (s : State) {l : Log} (hs : l.starts = s.log.starts) (hu : l.up = s.log.up)
    (hq : l.queue = s.log.queue) : BootKept s { s with log := l } :=
  ⟨rfl, rfl, hs, hu, fun _ => rfl, fun _ h => hq ▸ h, fun _ _ => rfl⟩

/-- R448: the check of the slot at WIDX. -/
theorem bootKept_logRecover (s : State) : BootKept s s.logRecover.1 ∧ s.logRecover.1.log.queue = s.log.queue := by
  simp only [State.logRecover, apply_ite Prod.fst, ite_self]
  generalize (if s.log.widx + 1 = 524288 then _ else _) = gen
  split_ifs
  · refine ⟨BootKept.trans ?_ (bootKept_put _ (f := R.LOG_STAT_RECOVERED) 1 (by decide)), rfl⟩
    exact bootKept_log s rfl rfl rfl
  · exact ⟨BootKept.refl s, rfl⟩

/-! ### The settings at a start -/

theorem State.writeFrame_eq (s : State) (f : SetFrame) :
    ∃ n u g, s.writeFrame f = ({ s with nor := n, upd := u } : State).put R.UPD_SET_GEN g := ⟨_, _, _, rfl⟩

theorem bootKept_writeFrame (s : State) (f : SetFrame) : BootKept s (s.writeFrame f) := by
  obtain ⟨n, u, g, e⟩ := s.writeFrame_eq f
  rw [e]
  exact (bootKept_settings s n u s.freeCtr s.pwr.actDue).trans (bootKept_put _ g (by decide))

theorem bootKept_rolledFrame (s : State) (f : SetFrame) (result : Nat) : BootKept s (s.rolledFrame f result).2 := by
  unfold State.rolledFrame
  split
  · exact BootKept.refl s
  · exact bootKept_settings s s.nor s.upd (s.freeCtr + 1) s.pwr.actDue

theorem bootKept_updTo (s : State) (st result : Nat) : BootKept s (s.updTo st result) := by
  have hputs := bootKept_puts s [(R.UPD_STAT_STATE, st), (R.UPD_STAT_RESULT, result)] (by
    simp only [List.forall_mem_cons, List.not_mem_nil, false_imp_iff, implies_true, and_true]; decide)
  exact (BootKept.refl s).ite (hputs.ite (hputs.trans (bootKept_raise _ _ _)))

theorem bootKept_trialFrame (s : State) : BootKept s s.trialFrame :=
  (bootKept_writeFrame s _).ite ((bootKept_put s 0x16 (by decide)).trans (bootKept_raise _ _ _))

theorem bootKept_trialStart (s : State) : BootKept s s.trialStart :=
  (((bootKept_rolledFrame s s.upd.cur 0x20).trans (bootKept_writeFrame _ _)).trans (bootKept_raise _ _ _)).ite
    (bootKept_writeFrame s _)

/-- R468: the newest frame read. -/
def State.settingsRead (s : State) : State :=
  match s.nor.newest with
  | some (_, f) => { s with upd.cur := f }.puts [(R.UPD_SET_GEN, f.gen), (R.UPD_STAT_RESULT, f.result)]
  | none => s

/-- R471: a frame that was cut. -/
def State.tornNoted (s : State) : State :=
  if s.nor.torn then { s with nor.torn := false }.raise 119 [0, s.upd.cur.gen] else s

/-- R467, R468: the activation that is due, or one more start of a trial. -/
def State.activated (s : State) : State :=
  if s.pwr.actDue then { s.trialFrame with pwr.actDue := false }
  else if s.upd.cur.trial = 1 then s.trialStart else s

/-- What UPD shows of the staged delta and of a trial. -/
def State.trialShown (s : State) : State :=
  let s := s.put R.UPD_STAT_STAGED (b2n s.deltaWhole)
  let f := s.upd.cur
  if f.trial = 1 then
    (s.puts [(R.UPD_STAT_STARTS, f.starts), (R.UPD_UID_VALUE 0, f.uid), (R.UPD_UID_VALUE 1, f.uid / 2 ^ 32)]).updTo 7 f.result
  else { s with upd.exam := true }.put R.UPD_STAT_RESULT (if s.get R.UPD_STAT_RESULT = 0x16 then 0x16 else f.result)

theorem State.bootSettings_eq (s : State) : s.bootSettings = s.settingsRead.tornNoted.activated.trialShown := rfl

theorem bootKept_upd (s : State) (u : Upd) : BootKept s { s with upd := u } :=
  bootKept_settings s s.nor u s.freeCtr s.pwr.actDue

theorem bootKept_settingsRead (s : State) : BootKept s s.settingsRead := by
  unfold State.settingsRead
  split
  · refine (bootKept_upd s _).trans (bootKept_puts _ _ ?_)
    simp only [List.forall_mem_cons, List.not_mem_nil, false_imp_iff, implies_true, and_true]
    decide
  · exact BootKept.refl s

theorem bootKept_tornNoted (s : State) : BootKept s s.tornNoted :=
  ((bootKept_settings s _ s.upd s.freeCtr s.pwr.actDue).trans (bootKept_raise _ _ _)).ite (BootKept.refl s)

theorem bootKept_activated (s : State) : BootKept s s.activated :=
  ((bootKept_trialFrame s).trans (bootKept_settings _ s.trialFrame.nor s.trialFrame.upd s.trialFrame.freeCtr false)).ite
    ((bootKept_trialStart s).ite (BootKept.refl s))

theorem bootKept_trialShown (s : State) : BootKept s s.trialShown := by
  refine (bootKept_put s (f := R.UPD_STAT_STAGED) (b2n s.deltaWhole) (by decide)).trans (BootKept.ite ?_ ?_)
  · refine (bootKept_puts _ _ ?_).trans (bootKept_updTo _ _ _)
    simp only [List.forall_mem_cons, List.not_mem_nil, false_imp_iff, implies_true, and_true]
    decide
  · exact (bootKept_upd _ _).trans (bootKept_put _ _ (by decide))

theorem bootKept_bootSettings (s : State) : BootKept s s.bootSettings := by
  rw [State.bootSettings_eq]
  exact (bootKept_settingsRead s).trans <| (bootKept_tornNoted _).trans <| (bootKept_activated _).trans
    (bootKept_trialShown _)

/-! ### RESET_RELEASE -/

/-- R24, R65: the domains released, before the Logbook looks at its ring. -/
def State.released (s : State) (r : ReleaseIn) : State :=
  let t : State := { s with
    chr := { running := true }
    pwr := { s.pwr with ssel := sselOf r.sselMv, held := [], clock := s.pwr.clock + 10 * r.heldMs }
    log := { s.log with up := true, starts := s.log.starts + 1, urgent := [], queue := [], lostSince := 0, last := none } }
  t.puts [
    (R.ALM_MODE_MODE, mLOAD), (R.ALM_MODE_PREV, mRESET), (R.ALM_MODE_CAUSE, 0x10), (R.CHR_CLKSTAT_LOCK_T, 1),
    (R.CHR_CLKSTAT_LOCK_P, 1), (R.CHR_CLKSTAT_LOCK_C, 1), (R.CHR_CLKSTAT_LOCK_D, 1),
    (R.MRD_STATUS_ROLE, b2n (sselOf r.sselMv == 1))]

/-- R448: EV111, before the START record. -/
def State.ringChecked (s : State) (r : ReleaseIn) : State :=
  (s.released r).logRecover.1.raise 111 [(s.released r).logRecover.2]

/-- R448, R520: the START record with the cause of the RESET. -/
def State.startRecorded (s : State) (r : ReleaseIn) : State :=
  (s.ringChecked r).sysRec 0x0100
    [s.pwr.rstCause, (s.ringChecked r).pwrStatus, (s.ringChecked r).log.starts, fwRelease + 2 ^ 16 * siRevision]

/-- R522: an event that the PWR domain held, as a record. -/
def heldRec (t : State) (h : HeldEvent) : LogRec :=
  { code := h.code, flags := logFlags (severity h.code h.params) mRESET (t.get R.CHR_DISC_TAI_VALID) false false
    rep := h.count, params := h.params, held := true }

theorem exec_resetRelease {s : State} {r : ReleaseIn} (h : s.mayRelease r = true) :
    exec (.resetRelease r) s = .next ((s.pwr.held.foldl (fun t e => t.enqueue (heldRec t e)) (s.startRecorded r)).sysRec
      0x0104 [mLOAD, mRESET, 0x10, 0]).bootSettings := by
  change execResetRelease r s = _
  rw [execResetRelease, if_neg (by simp [h])]
  rfl

theorem State.get_released (s : State) (r : ReleaseIn) :
    (s.released r).mode = mLOAD ∧ (s.released r).get R.ALM_MODE_PREV = mRESET ∧
      (s.released r).get R.ALM_MODE_CAUSE = 0x10 ∧ (s.released r).get R.MRD_STATUS_ROLE = b2n (sselOf r.sselMv == 1) ∧
      (s.released r).get R.CHR_CLKSTAT_LOCK_T = 1 := by
  refine ⟨?_, ?_, ?_, ?_, ?_⟩ <;> simp only [State.mode, State.released, State.puts]
  · simp (disch := decide) only [State.get_put_other, State.get_put_of_lt]
  · simp (disch := decide) only [State.get_put_other, State.get_put_of_lt]
  · simp (disch := decide) only [State.get_put_other, State.get_put_of_lt]
  · exact State.get_put_of_lt _ (b2n_lt_two_pow _ (by decide))
  · simp (disch := decide) only [State.get_put_other, State.get_put_of_lt]

theorem State.released_rest (s : State) (r : ReleaseIn) :
    (s.released r).chr = { running := true } ∧ (s.released r).pwr.held = [] ∧ (s.released r).pwr.ssel = sselOf r.sselMv ∧
      (s.released r).log.up = true ∧ (s.released r).log.starts = s.log.starts + 1 ∧ (s.released r).log.queue = [] := by
  simp [State.released]

theorem State.length_queue_raise (s : State) (c : Nat) (ps : List Nat) :
    (s.raise c ps).log.queue.length ≤ s.log.queue.length + 1 := by
  rcases s.raiseE_cases false c ps with ⟨_, _, e⟩ | ⟨_, e⟩ | e <;> rw [State.raise, e]
  · rcases s.enqueue_cases (s.mkRec c (severity c ps) ps false false) with ⟨_, e⟩ | ⟨_, e⟩ <;> rw [e]
    · simp
    · exact Nat.le_succ _
  · exact Nat.le_succ _
  · exact Nat.le_succ _

/-- A system record joins a queue with room. -/
theorem State.mem_sysRec {s : State} (hu : s.log.up = true) (hq : s.log.queue.length < 256) (c : Nat) (ps : List Nat) :
    s.mkRec c 0 ps false false ∈ (s.sysRec c ps).log.queue := by
  rw [State.sysRec, if_pos hu, State.enqueue, if_pos hq]
  exact List.mem_append_right _ (List.mem_singleton.2 rfl)

theorem bootKept_ringChecked (s : State) (r : ReleaseIn) : BootKept (s.released r) (s.ringChecked r) :=
  (bootKept_logRecover _).1.trans (bootKept_raise _ _ _)

/-- R448: the START record is the second of the queue at the latest, and names the cause of the RESET. -/
theorem startRecorded_start (s : State) (r : ReleaseIn) :
    ∃ q ∈ (s.startRecorded r).log.queue, q.code = 0x0100 ∧ q.params.getD 0 0 = s.pwr.rstCause % 2 ^ 32 := by
  obtain ⟨-, -, -, hup, -, hqueue⟩ := s.released_rest r
  have hlen : (s.ringChecked r).log.queue.length < 256 := by
    have h := State.length_queue_raise (s.released r).logRecover.1 111 [(s.released r).logRecover.2]
    rw [(bootKept_logRecover _).2, hqueue] at h
    exact Nat.lt_of_le_of_lt h (by decide)
  exact ⟨_, State.mem_sysRec ((bootKept_ringChecked s r).up.trans hup) hlen _ _, rfl, rfl⟩

/-- Settles O27: the release puts mode, cause, role and lock, and every later step of the start keeps them (`BootKept`); the cause
that the START record names is the one PWR keeps, and MT64 and the tick begin at 0 here (log 23). What the release asks of the
supply after XRST is the model's reading of R31 (log 89). -/
theorem resetRelease : Obligations.ResetRelease := by
  refine ⟨fun s r h => ?_, fun s r h => if_pos (by simp [h])⟩
  obtain ⟨hmode, hprev, hcause, hrole, hlock⟩ := s.get_released r
  obtain ⟨hchr, hheld, hssel, hup, hstarts, -⟩ := s.released_rest r
  have hafter := (bootKept_foldl_enqueue heldRec s.pwr.held (s.startRecorded r)).trans
    ((bootKept_sysRec _ 0x0104 [mLOAD, mRESET, 0x10, 0]).trans (bootKept_bootSettings _))
  have hk := ((bootKept_ringChecked s r).trans (bootKept_sysRec _ 0x0100 _)).trans hafter
  obtain ⟨q, hq, hcode, hparam⟩ := startRecorded_start s r
  refine ⟨_, exec_resetRelease h, (hk.get _ (by decide)).trans hmode, (hk.get _ (by decide)).trans hprev,
    (hk.get _ (by decide)).trans hcause, ?_, ?_, ?_, hk.up.trans hup, hk.starts.trans hstarts, (hk.held hup).trans hheld,
    hk.ssel.trans hssel, (hk.get _ (by decide)).trans hrole, (hk.get _ (by decide)).trans hlock,
    q, hafter.queue q hq, hcode, hparam⟩
  · rw [hk.chr, hchr]
  · rw [hk.chr, hchr]
  · rw [hk.chr, hchr]

end Sys2Proof.Machine

/-! The failures of the management plane, and what the change of TAI_VALID leaves alone. -/

namespace Sys2Proof.Machine

/-! ### Registers below a window -/

/-- Every register below the key `k` is in `t` as it is in `s`. -/
def SameBelow (k : Nat) (s t : State) : Prop := ∀ f : Fld, f.key < k → t.get f = s.get f

theorem SameBelow.refl (k : Nat) (s : State) : SameBelow k s s := fun _ _ => rfl

theorem SameBelow.trans {k : Nat} {s t u : State} (h : SameBelow k s t) (g : SameBelow k t u) : SameBelow k s u :=
  fun f hf => (g f hf).trans (h f hf)

theorem sameBelow_put {k : Nat} (s : State) {f : Fld} (v : Nat) (h : k ≤ f.key) : SameBelow k s (s.put f v) :=
  fun g hg => State.get_put_other s (by omega) v

theorem sameBelow_raise {k : Nat} (hk : k ≤ R.LOG_LOST_VALUE.key) (s : State) (c : Nat) (ps : List Nat) :
    SameBelow k s (s.raise c ps) :=
  fun f hf => State.get_raise s c ps (by omega)

/-! ### TAI_VALID (R266) -/

/-- What a source's clock model can change: registers of the Plotter and above, its sources, the Logbook and what the PWR
domain holds for it. -/
def SrcOnly (s t : State) : Prop :=
  SameBelow (8 * blockBase 4) s t ∧ t = { s with regs := t.regs, plt.srcs := t.plt.srcs, log := t.log, pwr := t.pwr }

theorem SrcOnly.refl (s : State) : SrcOnly s s := ⟨SameBelow.refl _ s, rfl⟩

theorem SrcOnly.trans {s t u : State} (h : SrcOnly s t) (g : SrcOnly t u) : SrcOnly s u :=
  ⟨h.1.trans g.1, by rw [g.2, h.2]⟩

theorem srcOnly_put (s : State) {f : Fld} (v : Nat) (h : 8 * blockBase 4 ≤ f.key) : SrcOnly s (s.put f v) :=
  ⟨sameBelow_put s v h, rfl⟩

theorem srcOnly_raise (s : State) (c : Nat) (ps : List Nat) : SrcOnly s (s.raise c ps) :=
  ⟨sameBelow_raise (by decide) s c ps, by rw [(onlyLogged_raise s c ps).2]⟩

theorem srcReg_ge (i a lo w : Nat) (h : 0xF000400000 ≤ a) : 8 * blockBase 4 ≤ (Fld.at (a + 0x10 * i) lo w).key := by
  simp only [blockBase, Fld.at]; omega

theorem srcOnly_reseed (s : State) (i : Nat) : SrcOnly s (s.reseed i) := by
  refine SrcOnly.trans (t := s.modSrc i _) ⟨fun _ _ => rfl, rfl⟩ (srcOnly_put _ 0 ?_)
  exact srcReg_ge i _ 0 32 (by decide)

theorem srcOnly_unlock (s : State) (i why : Nat) : SrcOnly s (s.unlock i why) := by
  refine (srcOnly_reseed s i).trans (SrcOnly.trans ?_ (srcOnly_raise _ 48 [i, why]))
  exact (srcOnly_put _ 3 (srcReg_ge i _ 0 2 (by decide))).trans (srcOnly_put _ why (srcReg_ge i _ 4 3 (by decide)))

theorem srcOnly_taiChanged (s : State) : SrcOnly s s.taiChanged := by
  refine List.foldlRecOn (motive := SrcOnly s) _ _ (SrcOnly.refl s) fun t ht i _ => ht.trans ?_
  split_ifs
  · exact srcOnly_unlock t i 4
  · exact srcOnly_reseed t i
  · exact SrcOnly.refl t


theorem State.setTai_alm (s : State) (v : Bool) : (s.setTai v).alm = s.alm := by
  unfold State.setTai
  split_ifs
  · rfl
  · rw [(srcOnly_taiChanged _).2]; rfl

/-- TAI_VALID leaves the discipline's state as it was. -/
theorem State.get_discState_setTai (s : State) (v : Bool) : (s.setTai v).get R.CHR_DISC_STATE = s.get R.CHR_DISC_STATE := by
  unfold State.setTai
  split_ifs
  · rfl
  · rw [(srcOnly_taiChanged _).1 _ (by decide), State.get_put_other _ (by decide)]

/-! ### HOLDOVER (R106, R110) -/

theorem State.get_discState_discTo (s : State) {st : Nat} (h : st < 4) : (s.discTo st).get R.CHR_DISC_STATE = st := by
  unfold State.discTo
  split_ifs with he
  · exact he
  · rw [State.get_raise _ _ _ (by decide)]
    exact State.get_put_of_lt _ h

@[simp] theorem State.discTo_alm (s : State) (st : Nat) : (s.discTo st).alm = s.alm := by
  unfold State.discTo
  split_ifs <;> simp

theorem State.get_discState_holdover (s : State) : s.holdover.get R.CHR_DISC_STATE = 3 := by
  unfold State.holdover
  split_ifs with h
  · exact h
  · rw [State.get_discState_setTai, State.get_discState_discTo _ (by decide)]

@[simp] theorem State.holdover_alm (s : State) : s.holdover.alm = s.alm := by
  unfold State.holdover
  split_ifs
  · rfl
  · rw [State.setTai_alm, State.discTo_alm]

/-! ### Failures of the management plane (R59, R121) -/

theorem State.inMode_congr {s t : State} (h : t.mode = s.mode) (l : List Nat) : t.inMode l = s.inMode l := by
  unfold State.inMode; rw [h]

theorem State.inMode_eq_true {s : State} {l : List Nat} : s.inMode l = true ↔ s.mode ∈ l := decide_eq_true_iff

theorem State.inMode_eq_false {s : State} {l : List Nat} : s.inMode l = false ↔ s.mode ∉ l := decide_eq_false_iff_not

/-- In a mode of one list the module is in none of a list that shares no mode with it. -/
theorem State.inMode_of_disjoint {s : State} {l k : List Nat} (h : s.inMode l = true) (hd : ∀ m ∈ l, m ∉ k) :
    s.inMode k = false :=
  State.inMode_eq_false.2 (hd _ (State.inMode_eq_true.1 h))

theorem State.inMode_of_subset {s : State} {l k : List Nat} (h : s.inMode l = true) (hs : ∀ m ∈ l, m ∈ k) :
    s.inMode k = true :=
  State.inMode_eq_true.2 (hs _ (State.inMode_eq_true.1 h))

theorem State.reqLimp_of_inMode {s : State} (h : s.inMode [mSTANDBY, mROAD, mFIELD, mSERVICE] = true) (cause : Nat) :
    s.reqLimp cause = s.reqMode mLIMP cause := if_pos h

/-- R59: the management plane has failed, and its mail stops. -/
def State.mgmtDown (s : State) : State := { s with alm := { s.alm with mgmtFailed := true }, mrd.mail := [] }

/-- R59, Table 2.2: where the control plane runs, the first failure asks for LIMP and the Chronometer holds over. -/
theorem State.mgmtFail_limp {s : State} (h : s.inMode [mSTANDBY, mROAD, mFIELD, mSERVICE] = true)
    (hf : s.alm.mgmtFailed = false) :
    s.mgmtFail.alm.modeReq = s.alm.modeReq ++ [(mLIMP, 0x31)] ∧ s.mgmtFail.get R.CHR_DISC_STATE = 3 ∧
      s.mgmtFail.alm.mgmtFailed = true := by
  have hrun : s.inMode [mSTANDBY, mROAD, mFIELD, mSERVICE, mLIMP] = true := State.inMode_of_subset h (by decide)
  have hlimp : s.mgmtFail = (s.mgmtDown.reqMode mLIMP 0x31).holdover := by
    rw [State.mgmtFail, if_neg (by simp [State.inMode_of_disjoint h (k := [mLOAD, mPROVE]) (by decide)]),
      if_pos (by simp [hrun, hf]), ← State.reqLimp_of_inMode (s := s.mgmtDown) h]
    rfl
  rw [hlimp, State.holdover_alm, State.get_discState_holdover]
  exact ⟨rfl, rfl, rfl⟩

/-- R59: in LOAD and PROVE a failure is RESET. -/
theorem State.mgmtFail_reset {s u : State} (h : u.inMode [mLOAD, mPROVE] = true) (hm : u.mode = s.mode)
    (hp : u.pending = s.pending) : ResetEntered 0x08 s u.mgmtFail := by
  rw [State.mgmtFail, if_pos h]
  exact resetEntered_enterReset (by decide) hm hp

theorem exec_watchdogExpiry {s : State} (h : s.mode ∉ [mRESET, mLOAD]) : exec .watchdogExpiry s = .next s.mgmtFail := by
  change Host.Outcome.next _ = _
  rw [if_neg (by rw [State.inMode_eq_true]; exact h)]

theorem exec_lockstepMismatch (s : State) : exec .lockstepMismatch s = .next s.mgmtFail := rfl

/-- R121: the unlock as CLKSTAT and the Logbook show it; the Pilot stops. -/
def State.pilotLost (s : State) : State :=
  { (s.put R.CHR_CLKSTAT_LOCK_P 0).raise 1 [1] with
    alm := { ((s.put R.CHR_CLKSTAT_LOCK_P 0).raise 1 [1]).alm with pilotUp := false } }

theorem exec_pllPUnlock (s : State) :
    exec .pllPUnlock s = .next (if s.pilotLost.inMode [mLOAD, mPROVE] then s.pilotLost.mgmtFail else s.pilotLost) := rfl

theorem sameRegs_pilotLost (s : State) : SameRegs [R.LOG_LOST_VALUE, R.CHR_CLKSTAT_LOCK_P] s s.pilotLost :=
  sameRegs_mono (sameRegs_trans (sameRegs_put s R.CHR_CLKSTAT_LOCK_P 0) (sameRegs_raise _ 1 [1])) (by simp)

theorem State.pilotLost_mode (s : State) : s.pilotLost.mode = s.mode := sameRegs_pilotLost s _ (by decide)

theorem State.get_lockP_pilotLost (s : State) : s.pilotLost.get R.CHR_CLKSTAT_LOCK_P = 0 :=
  (State.get_raise (s.put R.CHR_CLKSTAT_LOCK_P 0) 1 [1] (by decide)).trans (State.get_put_of_lt s (by decide))

theorem logGains_pilotLost (s : State) : LogGains 1 [1] s s.pilotLost :=
  ((logGains_raise (s.put R.CHR_CLKSTAT_LOCK_P 0) 1 [1]).of_sameRegs (sameRegs_put s _ 0) rfl rfl
    (by decide)).of_log_eq rfl

/-- Settles O15: each failure comes to `State.mgmtFail`, that of PLL_P in LOAD and PROVE alone: elsewhere the Pilot stops and
the watchdog follows. CHR_DISC.STATE = 3 is the HOLDOVER of R106 and R110; that an unlock stops the Pilot is Table 3.9 with
R121. -/
theorem managementFailure : Obligations.ManagementFailure := by
  refine ⟨fun s h hf => ?_, fun s h => ⟨?_, ?_⟩, fun s h => ?_, fun s h => ?_⟩
  · have hrun := State.inMode_eq_false.1 (State.inMode_of_disjoint h (k := [mRESET, mLOAD]) (by decide))
    exact ⟨⟨_, exec_watchdogExpiry hrun, State.mgmtFail_limp h hf⟩, ⟨_, exec_lockstepMismatch s, State.mgmtFail_limp h hf⟩⟩
  · exact ⟨_, exec_lockstepMismatch s, State.mgmtFail_reset h rfl rfl⟩
  · have hl : s.pilotLost.inMode [mLOAD, mPROVE] = true := (State.inMode_congr s.pilotLost_mode _).trans h
    refine ⟨_, by rw [exec_pllPUnlock, if_pos hl], State.mgmtFail_reset hl s.pilotLost_mode ?_⟩
    exact (State.raise_pending _ 1 [1]).trans (State.put_pending s _ 0)
  · refine ⟨_, exec_watchdogExpiry (by simp [h]), State.mgmtFail_reset ?_ rfl rfl⟩
    rw [State.inMode_eq_true, h]; decide
  · have hl : s.pilotLost.inMode [mLOAD, mPROVE] = false := (State.inMode_congr s.pilotLost_mode _).trans h
    exact ⟨s.pilotLost, by rw [exec_pllPUnlock, if_neg (by simp [hl])], s.get_lockP_pilotLost, rfl, logGains_pilotLost s,
      sameRegs_pilotLost s⟩

end Sys2Proof.Machine

/-! Shutdown requests, the power-down and the writing of the settings. -/

namespace Sys2Proof.Machine

/-! ### A shutdown request (R64, R463) -/

/-- A request as PWR_STATUS and the PWR domain show it. -/
def State.shutAsked (s : State) (src : Nat) : State :=
  ({ s with pwr.shutSrc := src } : State).put R.PWR_STATUS_SHUTREQ 1

theorem State.shutAsked_mode (s : State) (src : Nat) : (s.shutAsked src).mode = s.mode :=
  State.get_put_other _ (by decide) 1

/-- Table 2.4, R463: in ROAD, FIELD and LIMP, and while a waypoint locks it, the request waits. -/
theorem State.shutdownReq_eq (s : State) (src : Nat) :
    s.shutdownReq src =
      if s.inMode [mROAD, mFIELD, mLIMP] = true ∨ s.upd.lock = true then s.shutAsked src
      else { s.shutAsked src with pwr.pdBegun := true } := by
  rw [← State.inMode_congr (s.shutAsked_mode src)]
  rfl

theorem State.shutdownReq_shown (s : State) (src : Nat) :
    (s.shutdownReq src).get R.PWR_STATUS_SHUTREQ = 1 ∧ (s.shutdownReq src).pwr.shutSrc = src ∧
      SameRegs [R.PWR_STATUS_SHUTREQ] s (s.shutdownReq src) ∧
      s.shutdownReq src = { s with regs := (s.shutdownReq src).regs, pwr := (s.shutdownReq src).pwr } := by
  have hget : (s.shutAsked src).get R.PWR_STATUS_SHUTREQ = 1 := State.get_put_of_lt _ (by decide)
  have hsame : SameRegs [R.PWR_STATUS_SHUTREQ] s (s.shutAsked src) :=
    sameRegs_put ({ s with pwr.shutSrc := src } : State) _ 1
  rw [State.shutdownReq_eq]
  split_ifs
  · exact ⟨hget, rfl, hsame, rfl⟩
  · exact ⟨hget, rfl, hsame, rfl⟩

theorem State.shutdownReq_pdBegun (s : State) (src : Nat) :
    (s.inMode [mROAD, mFIELD, mLIMP] = true → (s.shutdownReq src).pwr.pdBegun = s.pwr.pdBegun) ∧
    (s.inMode [mROAD, mFIELD, mLIMP] = false → s.upd.lock = true → (s.shutdownReq src).pwr.pdBegun = s.pwr.pdBegun) ∧
    (s.inMode [mROAD, mFIELD, mLIMP] = false → s.upd.lock = false → (s.shutdownReq src).pwr.pdBegun = true) := by
  rw [State.shutdownReq_eq]
  refine ⟨fun h => ?_, fun _ h => ?_, fun h hl => ?_⟩
  · rw [if_pos (.inl h)]; rfl
  · rw [if_pos (.inr h)]; rfl
  · rw [if_neg (by simp [h, hl])]

theorem exec_shutdownRequest {s : State} (hp : s.pwr.powered = true) (hi : s.get R.PWR_STATUS_IGN = 0)
    (hq : s.get R.PWR_STATUS_SHUTREQ = 0) : exec .shutdownRequest s = .next (s.shutdownReq 0) := by
  change Host.Outcome.next _ = _
  rw [if_pos (by simp [State.flag, hp, hi, hq])]

/-! ### Frames (R471) -/

/-- What the writing of settings changes: UPD_SET.GEN, the partitions of the settings, the update's own state, and what an
event changes. -/
structure SettingsOnly (s t : State) : Prop where
  same : SameRegs [R.LOG_LOST_VALUE, R.UPD_SET_GEN] s t
  up : t.log.up = s.log.up
  eq : t = { s with
    regs := t.regs, log := t.log, pwr.held := t.pwr.held, upd := t.upd
    nor.sets := t.nor.sets, nor.lastSec := t.nor.lastSec, nor.torn := t.nor.torn }

theorem SettingsOnly.trans {s t u : State} (h : SettingsOnly s t) (g : SettingsOnly t u) : SettingsOnly s u where
  same := sameRegs_mono (sameRegs_trans h.same g.same) (by simp)
  up := g.up.trans h.up
  eq := by rw [g.eq, h.eq]

theorem settingsOnly_upd (s : State) (u : Upd) : SettingsOnly s { s with upd := u } := ⟨fun _ _ => rfl, rfl, rfl⟩

theorem settingsOnly_raise (s : State) (c : Nat) (ps : List Nat) : SettingsOnly s (s.raise c ps) where
  same := sameRegs_mono (sameRegs_raise s c ps) (by simp)
  up := by rw [State.raise_log_eq]
  eq := by
    have h := (onlyLogged_raise s c ps).2
    rw [State.raise_pwr_eq] at h
    rw [h]

theorem settingsOnly_writeFrame (s : State) (f : SetFrame) : SettingsOnly s (s.writeFrame f) := by
  unfold State.writeFrame
  exact ⟨sameRegs_mono (sameRegs_put _ R.UPD_SET_GEN _) (by simp), rfl, rfl⟩

theorem settingsOnly_storeFrame (s : State) (f : SetFrame) : SettingsOnly s (s.storeFrame f) := by
  unfold State.storeFrame
  split_ifs
  · exact settingsOnly_raise s _ _
  · exact settingsOnly_writeFrame s f

theorem settingsOnly_writeFrames (s : State) : SettingsOnly s s.writeFrames := by
  have hfold : SettingsOnly s (s.upd.queue.foldl State.storeFrame s) :=
    List.foldlRecOn (motive := SettingsOnly s) _ _ (settingsOnly_upd s s.upd) fun t ht f _ =>
      ht.trans (settingsOnly_storeFrame t f)
  exact hfold.trans (settingsOnly_upd _ _)

theorem settingsOnly_saveTank (s : State) : SettingsOnly s s.saveTank := by
  unfold State.saveTank State.saveItem
  split_ifs <;> exact settingsOnly_upd s _

/-- R471: with the Logbook up, the tank's calibration and every frame that waits are written before the power-down. -/
def State.saved (s : State) : State := if s.log.up then s.saveTank.writeFrames else s

theorem settingsOnly_saved (s : State) : SettingsOnly s s.saved := by
  unfold State.saved
  split_ifs
  · exact (settingsOnly_saveTank s).trans (settingsOnly_writeFrames _)
  · exact settingsOnly_upd s s.upd

/-! ### POWER_DOWN (R64) -/

/-- A write of a register of the PWR domain other than the relays' commands leaves what an entry to RESET left. -/
theorem ResetEntered.put_pwr {cause : Nat} {s t : State} (h : ResetEntered cause s t) {f : Fld} (v : Nat)
    (hp : pwrKey f.key = true) (hkw : f.key ≠ R.PWR_RELAY_KW_CMD.key) (hke : f.key ≠ R.PWR_RELAY_KE_CMD.key) :
    ResetEntered cause s (t.put f v) := by
  have hother {g : Fld} (hg : pwrKey g.key = false) : (t.put f v).get g = t.get g :=
    State.get_put_other t (fun hk => by simp [hk, hp] at hg) v
  obtain ⟨hmode, hprev, hcause, hregs, htick, hstaged, hcommits, hchr, hcoil, hkwc, hkec, hpend⟩ := h
  refine ⟨(hother (by decide)).trans hmode, (hother (by decide)).trans hprev, (hother (by decide)).trans hcause,
    fun g hg hk => (hother hg).trans (hregs g hg hk), htick, hstaged, hcommits, hchr, hcoil, ?_, ?_, hpend⟩
  · rw [State.get_put_other t hkw.symm, hkwc]
  · rw [State.get_put_other t hke.symm, hkec]

/-- R442: an entry to RESET outside a hold-up leaves no record waiting. -/
theorem State.enterReset_queue {s : State} {cause : Nat} (hc : cause ≠ 0) (hh : s.pwr.holdUp = false) :
    (s.enterReset cause).log.queue = [] := by
  rw [State.enterReset_log]
  change (s.drained cause).log.queue = []
  rw [State.drained, if_neg (by simp [hc, hh])]
  simp only [State.logDrain]
  split_ifs <;> rfl

theorem exec_powerDown {s : State} (h : s.pwr.pdBegun = true) :
    exec .powerDown s =
      .next (((s.saved.sysRec 0x0103 [s.saved.mode, s.saved.pwr.shutSrc]).enterReset 0x05).put R.PWR_STATUS_SHUTREQ 0) := by
  change execPowerDown s = _
  rw [execPowerDown, if_neg (by simp [h])]
  rfl

theorem powerDown_resets {s : State} (h : s.pwr.pdBegun = true) :
    ∃ t, exec .powerDown s = .next t ∧ ResetEntered 0x05 s t ∧ t.get R.PWR_STATUS_SHUTREQ = 0 ∧
      (s.pwr.holdUp = false → s.log.up = true → t.log.queue = []) ∧
      (s.log.up = true → t.nor.fw = s.nor.fw ∧ t.nor.alm = s.nor.alm) := by
  have hsaved := settingsOnly_saved s
  refine ⟨_, exec_powerDown h, ?_, State.get_put_of_lt _ (by decide), fun hh _ => ?_, fun _ => ?_⟩
  · refine (resetEntered_enterReset (by decide) ?_ ?_).put_pwr 0 (by decide) (by decide) (by decide)
    · rw [State.mode_sysRec]; exact hsaved.same _ (by decide)
    · rw [State.sysRec_pending, hsaved.eq]
  · rw [State.put_log]
    refine State.enterReset_queue (by decide) ?_
    rw [State.sysRec_pwr, hsaved.eq]
    exact hh
  · rw [State.put_nor, State.enterReset_nor, State.sysRec_nor, hsaved.eq]
    exact ⟨rfl, rfl⟩

/-! ### SETTINGS_WRITE (R471) -/

theorem Nor.newest_fst {n : Nor} {p : Nat} {g : SetFrame} (h : n.newest = some (p, g)) : p = 0 ∨ p = 1 := by
  unfold Nor.newest at h
  split at h
  · split_ifs at h <;> simp_all
  · simp_all
  · simp_all
  · simp at h

theorem getD_modify_other {α : Type} (l : List α) (f : α → α) {i j : Nat} (h : i ≠ j) (d : α) :
    (l.modify i f).getD j d = l.getD j d := by
  rw [List.getD_eq_getElem?_getD, List.getD_eq_getElem?_getD, List.getElem?_modify_ne f l h]

/-- A frame takes the next GEN and goes beside the newest. -/
theorem State.writeFrame_of_newest {s : State} {p : Nat} {g : SetFrame} (h : s.nor.newest = some (p, g)) (f : SetFrame) :
    (s.writeFrame f).upd.cur = { f with gen := (g.gen + 1) % 2 ^ 32 } ∧
      (s.writeFrame f).get R.UPD_SET_GEN = (g.gen + 1) % 2 ^ 32 ∧
      (s.writeFrame f).nor.sets.getD p [] = s.nor.sets.getD p [] := by
  have hp : 1 - p ≠ p := by rcases Nor.newest_fst h with rfl | rfl <;> decide
  simp only [State.writeFrame, h]
  exact ⟨rfl, State.get_put_same _ R.UPD_SET_GEN _, getD_modify_other _ _ hp []⟩

theorem State.writeFrame_of_none {s : State} (h : s.nor.newest = none) (f : SetFrame) :
    (s.writeFrame f).upd.cur = { f with gen := 1 } := by
  simp only [State.writeFrame, h]
  rfl

/-- A cut write spoils the partition beside the newest frame's. -/
theorem State.tornFrame_of_newest {s : State} {p : Nat} {g : SetFrame} (h : s.nor.newest = some (p, g)) :
    s.tornFrame.nor.sets.getD p [] = s.nor.sets.getD p [] := by
  have hp : 1 - p ≠ p := by rcases Nor.newest_fst h with rfl | rfl <;> decide
  simp only [State.tornFrame, h]
  exact getD_modify_other _ _ hp []

/-- The settings with the frame that is written taken from the queue. -/
def State.taken (s : State) (rest : List SetFrame) : State := { s with upd.queue := rest }

theorem exec_settingsWrite {s : State} {f : SetFrame} {rest : List SetFrame} (h : s.upd.queue = f :: rest) (r : SetWrite) :
    exec (.settingsWrite r) s = .next (match r with
      | .done => (s.taken rest).storeFrame f
      | .failed => (s.taken rest).raise 119 [1, s.get R.UPD_SET_GEN]
      | .cut => (s.taken rest).tornFrame) := by
  change execSettingsWrite r s = _
  unfold execSettingsWrite
  rw [h]
  cases r <;> rfl

/-- A write that fails is an event, and the settings stand. -/
theorem settings_failed (s : State) (rest : List SetFrame) :
    ((s.taken rest).raise 119 [1, s.get R.UPD_SET_GEN]).upd.queue = rest ∧
      ((s.taken rest).raise 119 [1, s.get R.UPD_SET_GEN]).nor = s.nor ∧
      ((s.taken rest).raise 119 [1, s.get R.UPD_SET_GEN]).upd.cur = s.upd.cur ∧
      LogGains 119 [1, s.get R.UPD_SET_GEN] s ((s.taken rest).raise 119 [1, s.get R.UPD_SET_GEN]) := by
  rw [State.raise_upd, State.raise_nor]
  exact ⟨rfl, rfl, rfl, logGains_raise (s.taken rest) _ _⟩

/-- Settles O29: the request is `State.shutdownReq`, the power-down an entry to RESET after the frames, and a frame is
written beside the newest. That the waypoint's lock holds in any mode, that SETTINGS_WRITE takes the frames from a queue and that
POWER_DOWN writes all that wait is log 77. -/
theorem shutdownAndSettings : Obligations.ShutdownAndSettings := by
  refine ⟨fun s hp hi hq => ?_, fun s h => powerDown_resets h, fun s f rest h => ⟨fun hl => ?_, fun hl => ?_, ?_, ?_⟩⟩
  · obtain ⟨hreq, hsrc, hsame, -⟩ := s.shutdownReq_shown 0
    obtain ⟨hroad, hlock, hfree⟩ := s.shutdownReq_pdBegun 0
    exact ⟨_, exec_shutdownRequest hp hi hq, hreq, hsrc, hroad, hlock, hfree, hsame⟩
  · exact ⟨_, (exec_settingsWrite h .done).trans (congrArg _ (if_pos hl)), settings_failed s rest⟩
  · refine ⟨_, (exec_settingsWrite h .done).trans (congrArg _ (if_neg (by omega))), rfl, fun p g hn => ?_, fun hn => ?_⟩
    · exact State.writeFrame_of_newest (s := s.taken rest) hn f
    · exact State.writeFrame_of_none (s := s.taken rest) hn f
  · exact ⟨_, exec_settingsWrite h .failed, settings_failed s rest⟩
  · exact ⟨_, exec_settingsWrite h .cut, rfl, rfl, rfl, fun p g hn => State.tornFrame_of_newest (s := s.taken rest) hn⟩

end Sys2Proof.Machine

/-! The outcome of LOAD and PROVE: the mode that each asks for. -/

namespace Sys2Proof.Machine

/-! ### What a step of the start leaves alone -/

/-- The fields `fs` and the Almanac's state beside the records that are present stand. -/
structure StartKept (fs : List Fld) (s t : State) : Prop where
  alm : t.alm = { s.alm with present := t.alm.present }
  get : ∀ f ∈ fs, t.get f = s.get f

theorem StartKept.refl (fs : List Fld) (s : State) : StartKept fs s s := ⟨rfl, fun _ _ => rfl⟩

theorem StartKept.trans {fs : List Fld} {s t u : State} (h : StartKept fs s t) (g : StartKept fs t u) : StartKept fs s u :=
  ⟨by rw [g.alm, h.alm], fun f hf => (g.get f hf).trans (h.get f hf)⟩

theorem StartKept.ite {fs : List Fld} {c : Prop} [Decidable c] {s t u : State} (h : StartKept fs s t)
    (g : StartKept fs s u) : StartKept fs s (if c then t else u) := by
  split_ifs
  · exact h
  · exact g

/-- A fold of steps that each leave the fields alone. -/
theorem StartKept.foldl {fs : List Fld} {α : Type} {g : State → α → State} (l : List α) (s : State)
    (h : ∀ t, ∀ a ∈ l, StartKept fs t (g t a)) : StartKept fs s (l.foldl g s) :=
  List.foldlRecOn (motive := StartKept fs s) l g (StartKept.refl fs s) fun t ht a ha => ht.trans (h t a ha)

/-- The rest of the state is outside. -/
theorem startKept_rest {fs : List Fld} (s : State) {p : Pwr} {r : Rep} {m : Spd} {h : Hlm} {n : Nor} {u : Upd} {c : Nat} :
    StartKept fs s { s with pwr := p, rep := r, spd := m, hlm := h, nor := n, upd := u, freeCtr := c } :=
  ⟨rfl, fun _ _ => rfl⟩

theorem startKept_put {fs : List Fld} (s : State) {f : Fld} (v : Nat) (h : ∀ g ∈ fs, g.key ≠ f.key) :
    StartKept fs s (s.put f v) :=
  ⟨rfl, fun g hg => State.get_put_other s (h g hg) v⟩

theorem startKept_puts {fs : List Fld} (s : State) (l : List (Fld × Nat)) (h : ∀ e ∈ l, ∀ g ∈ fs, g.key ≠ e.1.key) :
    StartKept fs s (s.puts l) :=
  ⟨by rw [State.puts_alm], fun g hg => State.get_puts_other s l g fun e he => h e he g hg⟩

theorem startKept_raise {fs : List Fld} (s : State) (c : Nat) (ps : List Nat) (h : ∀ g ∈ fs, g.key ≠ R.LOG_LOST_VALUE.key) :
    StartKept fs s (s.raise c ps) :=
  ⟨by rw [State.raise_alm], fun g hg => State.get_raise s c ps (h g hg)⟩

/-! ### The choice of the banks (R67, R68, R80) -/

/-- The fields of LOAD that the choice of the banks and the application of an Almanac leave alone. -/
def loadFlds : List Fld := [R.ALM_MODE_MODE]

theorem startKept_writeFrame (s : State) (f : SetFrame) : StartKept loadFlds s (s.writeFrame f) := by
  obtain ⟨n, u, g, e⟩ := s.writeFrame_eq f
  rw [e]
  exact (startKept_rest s).trans (startKept_put _ g (by decide))

theorem startKept_rolledFrame (fs : List Fld) (s : State) (f : SetFrame) (result : Nat) :
    StartKept fs s (s.rolledFrame f result).2 := by
  unfold State.rolledFrame
  split
  · exact StartKept.refl fs s
  · exact startKept_rest _

theorem startKept_updTo (s : State) (st result : Nat) : StartKept loadFlds s (s.updTo st result) := by
  have hputs := startKept_puts (fs := loadFlds) s [(R.UPD_STAT_STATE, st), (R.UPD_STAT_RESULT, result)] (by
    simp only [List.forall_mem_cons, List.not_mem_nil, false_imp_iff, implies_true, and_true]; decide)
  exact (StartKept.refl loadFlds s).ite (hputs.ite (hputs.trans (startKept_raise _ _ _ (by decide))))

theorem startKept_rollBack (s : State) (result : Nat) : StartKept loadFlds s (s.rollBack result) := by
  have hframe := (startKept_rolledFrame loadFlds s s.upd.cur result).trans
    (startKept_writeFrame (s.rolledFrame s.upd.cur result).2 (s.rolledFrame s.upd.cur result).1)
  have hput (t : State) : StartKept loadFlds t (({ t with upd.rolled := true } : State).put R.UPD_SETFMT_OLD 0) :=
    (startKept_rest t).trans (startKept_put _ 0 (by decide))
  exact hframe.trans <| (hput _).trans <| (startKept_updTo _ 0 result).trans (startKept_raise _ _ _ (by decide))

theorem loadResult_ne (b : Nat) : ∀ g ∈ loadFlds, g.key ≠ (loadResult b).key := by
  unfold loadResult; split_ifs <;> decide

theorem loadRec_ne (b : Nat) : ∀ g ∈ loadFlds, g.key ≠ (loadRec b).key := by
  unfold loadRec; split_ifs <;> decide

theorem startKept_almTry (s : State) (fw : List Nat) (b : Nat) : StartKept loadFlds s (s.almTry fw b).1 := by
  have hputs (v w : Nat) : StartKept loadFlds s (s.puts [(loadResult b, v), (loadRec b, w)]) := by
    refine startKept_puts s _ ?_
    simp only [List.forall_mem_cons, List.not_mem_nil, false_imp_iff, implies_true, and_true]
    exact ⟨loadResult_ne b, loadRec_ne b⟩
  unfold State.almTry
  split
  · exact hputs _ _
  · exact (hputs _ _).trans (startKept_raise _ _ _ (by decide))

/-- R468: the bank given first is that of a trial, whose other bank is another. -/
def State.almTrial (s : State) (first : Nat) : Bool :=
  decide (s.upd.cur.trial = 1 ∧ s.upd.cur.active 1 = first ∧ bits s.upd.cur.banks 3 1 ≠ first)

/-- R468: a trial that fails is rolled back. -/
def State.rolledIf (s : State) (trial : Bool) : State := if trial then s.rollBack 0x21 else s

theorem startKept_rolledIf (s : State) (trial : Bool) : StartKept loadFlds s (s.rolledIf trial) :=
  (startKept_rollBack s 0x21).ite (StartKept.refl _ s)

theorem State.almSelect_fst (s : State) (fw : List Nat) (first : Nat) :
    (s.almSelect fw first).1 =
      let t := (s.almTry fw first).1
      let u := (t.rolledIf (t.almTrial first)).almTry fw (1 - first)
      if (s.almTry fw first).2 then t else if t.almTrial first && u.2 then u.1.put R.UPD_STAT_MIXED 1 else u.1 := by
  unfold State.almSelect
  simp only [apply_ite Prod.fst]
  rfl

theorem startKept_almSelect (s : State) (fw : List Nat) (first : Nat) :
    StartKept loadFlds s (s.almSelect fw first).1 := by
  have htry := startKept_almTry s fw first
  have hnext (t : State) (b : Bool) := (startKept_rolledIf t b).trans (startKept_almTry (t.rolledIf b) fw (1 - first))
  rw [State.almSelect_fst]
  exact htry.ite (htry.trans (((hnext _ _).trans (startKept_put _ 1 (by decide))).ite (hnext _ _)))

/-- The Almanac selected for a firmware bank, where its signature is good. -/
def State.almFor (s : State) (good : Bool) (fw : List Nat) (first : Nat) (d : Option Nat) : State × Option Nat :=
  if good then s.almSelect fw first else (s, d)

theorem startKept_almFor (s : State) (good : Bool) (fw : List Nat) (first : Nat) (d : Option Nat) :
    StartKept loadFlds s (s.almFor good fw first d).1 := by
  unfold State.almFor
  split_ifs
  · exact startKept_almSelect s fw first
  · exact StartKept.refl _ s

/-- R68, R468: the first firmware bank does not run. -/
def State.fwRejected (s : State) : State := (s.put R.UPD_STAT_MIXED 0).rolledIf (decide (s.upd.cur.trial = 1))

theorem fst_ite_cases {α β : Type} {c : Prop} [Decidable c] (x y : α × β) :
    (if c then x else y).1 = x.1 ∨ (if c then x else y).1 = y.1 := by
  split_ifs
  · exact .inl rfl
  · exact .inr rfl

/-- The state that the choice leaves is that of one selection of an Almanac, or of a second one after the rollback. -/
theorem State.chooseBanks_fst (s : State) (r : LoadIn) :
    ∃ fw first d, ∃ x : State × Option Nat, x = s.almFor (s.fwGood (s.upd.cur.active 0)) fw first d ∧
      ((s.chooseBanks r).1 = x.1 ∨ ∃ good fw first, (s.chooseBanks r).1 = (x.1.fwRejected.almFor good fw first none).1) := by
  refine ⟨s.nor.fw.getD (s.upd.cur.active 0) [], s.upd.cur.active 1, some (s.upd.cur.active 1), _, rfl, ?_⟩
  exact (fst_ite_cases _ _).imp id fun h => ⟨_, _, _, h⟩

theorem startKept_chooseBanks {s u : State} {r : LoadIn} {x : Option (Nat × Option Nat)} (h : s.chooseBanks r = (u, x)) :
    StartKept loadFlds s u := by
  obtain ⟨fw, first, d, y, rfl, hy⟩ := s.chooseBanks_fst r
  have hfirst := startKept_almFor s (s.fwGood (s.upd.cur.active 0)) fw first d
  rw [h] at hy
  rcases hy with rfl | ⟨good, fw', first', rfl⟩
  · exact hfirst
  · exact hfirst.trans <| ((startKept_put _ 0 (by decide)).trans (startKept_rolledIf _ _)).trans (startKept_almFor _ _ _ _ _)

/-! ### The application of an Almanac (R77) -/

theorem startKept_sysRec {fs : List Fld} (s : State) (c : Nat) (ps : List Nat)
    (h : ∀ g ∈ fs, g.key ≠ R.LOG_LOST_VALUE.key) : StartKept fs s (s.sysRec c ps) :=
  ⟨by rw [State.sysRec_alm], fun g hg => State.get_sysRec s c ps (h g hg)⟩

/-- A record's bytes lie above every register. -/
theorem startKept_cfgPut {fs : List Fld} (hf : ∀ g ∈ fs, g.key < 2 ^ 51) (s : State) (t i off : Nat) (l : List Nat) :
    StartKept fs s (s.cfgPut t i off l) := by
  induction l generalizing s off with
  | nil => exact StartKept.refl fs s
  | cons b l ih =>
    refine (startKept_put s b fun g hg => ?_).trans (ih _ _)
    have hkey := hf g hg
    simp only [recByte]
    omega

theorem startKept_withRecs {fs : List Fld} (hf : ∀ g ∈ fs, g.key < 2 ^ 51) (s : State) (rs : List ARec) :
    StartKept fs s (s.withRecs rs) :=
  StartKept.trans (t := { s with alm.present := (rs.filter ARec.known).map fun r => (r.type, r.inst) })
    ⟨rfl, fun _ _ => rfl⟩ (StartKept.foldl _ _ fun t r _ => startKept_cfgPut hf t r.type r.inst 0 r.body)

/-- Puts that leave ALM_MODE.MODE alone. -/
theorem startKept_puts_load (s : State) (l : List (Fld × Nat)) (h : ∀ e ∈ l, R.ALM_MODE_MODE.key ≠ e.1.key) :
    StartKept loadFlds s (s.puts l) :=
  startKept_puts s l fun e he g hg => by
    rw [loadFlds, List.mem_singleton] at hg
    exact hg ▸ h e he

theorem startKept_applyRing (s : State) : StartKept loadFlds s s.applyRing := by
  refine (startKept_puts_load s _ ?_).trans (StartKept.foldl _ _ fun t a ha => startKept_puts_load t _ ?_)
  · simp only [List.forall_mem_cons, List.not_mem_nil, false_imp_iff, implies_true, and_true]
    decide
  · have hlt : a < 64 := List.mem_range.1 (List.mem_filter.1 ha).1
    simp only [List.forall_mem_cons, List.not_mem_nil, false_imp_iff, implies_true, and_true, R.ALM_MODE_MODE, Fld.at,
      R.MRD_CSLOT_EN, R.MRD_CSLOT_LEN, R.MRD_CSLOT_ORDER, R.MRD_DSLOT_EN, R.MRD_DSLOT_LEN, R.MRD_DSLOT_ORDER]
    omega

theorem startKept_applyChrono (s : State) : StartKept loadFlds s s.applyChrono := by
  unfold State.applyChrono
  refine (startKept_puts_load s _ ?_).trans ((startKept_puts_load _ _ ?_).ite (startKept_puts_load _ _ ?_))
  all_goals
    simp only [List.forall_mem_cons, List.not_mem_nil, false_imp_iff, implies_true, and_true]
    decide

/-- R450, R451: REPCFG, then LOGCFG. -/
def State.applyRep (s : State) : State :=
  if s.has 0x0B00 0 then
    s.puts [(R.REP_CFG_TRANS_MAX, s.cfg 0x0B00 0 0 1), (R.REP_CFG_DRAM_UE_MAX, s.cfg 0x0B00 0 1 1),
      (R.REP_CFG_TRANS_WIN, s.cfg 0x0B00 0 2 2)]
  else s

def State.applyLog (s : State) : State :=
  if s.has 0x0A00 0 then s.puts ((List.range 4).map fun i => (R.LOG_MASK_VALUE i, s.cfg 0x0A00 0 (4 * i) 4)) else s

theorem State.applyOwn_eq (s : State) :
    ∃ cams, s.applyOwn =
      if s.applyRep.applyLog.has 0x1000 0 then
        s.applyRep.applyLog.puts [(R.PWR_CAM_EN, s.applyRep.applyLog.cfg 0x1000 0 0 1),
          (R.PWR_SENS_EN, s.applyRep.applyLog.cfg 0x1000 0 1 1)]
      else s.applyRep.applyLog.puts [(R.PWR_CAM_EN, cams), (R.PWR_SENS_EN, 0xFF)] := ⟨_, rfl⟩

theorem startKept_applyRep (s : State) : StartKept loadFlds s s.applyRep := by
  refine (startKept_puts_load s _ ?_).ite (StartKept.refl _ s)
  simp only [List.forall_mem_cons, List.not_mem_nil, false_imp_iff, implies_true, and_true]
  decide

theorem startKept_applyLog (s : State) : StartKept loadFlds s s.applyLog := by
  refine (startKept_puts_load s _ ?_).ite (StartKept.refl _ s)
  simp only [List.forall_mem_map, List.mem_range, R.ALM_MODE_MODE, R.LOG_MASK_VALUE, Fld.at]
  omega

theorem startKept_applyOwn (s : State) : StartKept loadFlds s s.applyOwn := by
  obtain ⟨cams, e⟩ := s.applyOwn_eq
  rw [e]
  refine ((startKept_applyRep s).trans (startKept_applyLog _)).trans
    ((startKept_puts_load _ _ ?_).ite (startKept_puts_load _ _ ?_))
  all_goals
    simp only [List.forall_mem_cons, List.not_mem_nil, false_imp_iff, implies_true, and_true]
    decide

theorem startKept_applyPage (s : State) : StartKept loadFlds s s.applyPage := by
  refine startKept_puts_load s _ ?_
  simp only [List.forall_mem_append, List.forall_mem_map, List.mem_range, List.forall_mem_cons, List.not_mem_nil,
    false_imp_iff, implies_true, and_true, R.ALM_MODE_MODE, R.BIN_SEG_BITS, R.BIN_BLINK_BITS, R.BIN_LED_LED, R.BIN_LED_BL,
    R.BIN_DIM_LED_DIM, R.BIN_DIM_BL_DIM, Fld.at]
  refine ⟨⟨fun k _ => ?_, fun k _ => ?_⟩, ?_⟩ <;> omega

theorem startKept_applyChans (s : State) : StartKept loadFlds s s.applyChans := by
  refine StartKept.trans (StartKept.foldl _ s fun t c _ => ?_) (startKept_rest _)
  have hstate : ∀ g ∈ loadFlds, g.key ≠ (R.HLM_CHST_STATE c).key := by
    simp only [loadFlds, List.mem_singleton, forall_eq, R.ALM_MODE_MODE, R.HLM_CHST_STATE, Fld.at]
    omega
  refine (startKept_put t 1 hstate).trans ((StartKept.refl _ _).ite (startKept_puts_load _ _ ?_))
  simp only [List.forall_mem_cons, List.not_mem_nil, false_imp_iff, implies_true, and_true, R.ALM_MODE_MODE,
    R.HLM_RATE_K_NOW, R.HLM_RATE_TOFF_NOW, Fld.at]
  omega

theorem startKept_applyTank (s : State) : StartKept loadFlds s s.applyTank := by
  have hput (t : State) (off : Nat) (l : List Nat) : StartKept loadFlds t (t.cfgPut 0x0421 0 off l) :=
    startKept_cfgPut (by decide) t 0x0421 0 off l
  unfold State.applyTank
  dsimp only
  split
  · exact StartKept.refl _ s
  · exact ((hput _ _ _).trans ((hput _ _ _).trans (hput _ _ _))).ite (StartKept.refl _ s)

theorem startKept_applyAlm (s : State) (bank : Nat) : StartKept loadFlds s (s.applyAlm bank) := by
  refine StartKept.trans ?_ (startKept_put _ bank (by decide))
  refine StartKept.trans ?_ (StartKept.foldl _ _ fun t g _ => startKept_rest _)
  refine StartKept.trans ?_ <| (startKept_withRecs (by decide) _ _).trans <| (startKept_applyRing _).trans <|
    (startKept_applyChrono _).trans <| (startKept_applyOwn _).trans <| (startKept_applyPage _).trans <|
    (startKept_applyChans _).trans (startKept_applyTank _)
  exact StartKept.foldl _ s fun t r _ => startKept_sysRec t _ _ (by decide)

theorem State.get_almBank_applyAlm (s : State) (bank : Nat) : (s.applyAlm bank).get R.ALM_LOAD_ALM_BANK = bank % 2 :=
  State.get_put_same _ R.ALM_LOAD_ALM_BANK bank

theorem startKept_convertSettings (s : State) : StartKept loadFlds s s.convertSettings := by
  unfold State.convertSettings
  dsimp only
  refine (StartKept.refl _ s).ite (StartKept.ite ?_ (startKept_raise s _ _ (by decide)))
  exact startKept_rest _

/-! ### LOAD_COMPLETE -/

/-- The formats of the settings, by the firmware that runs and by the one before. -/
def State.fwShown (s : State) (fw : Nat) : State :=
  s.puts [(R.ALM_LOAD_FW_BANK, fw), (R.UPD_SETFMT_NEW, Config.fwSetFmt (s.nor.fw.getD fw []) % 65536),
    (R.UPD_SETFMT_OLD,
      if s.upd.cur.trial = 1 then Config.fwSetFmt (s.nor.fw.getD (bits s.upd.cur.banks 2 1) []) % 65536 else 0)]

theorem startKept_fwShown (s : State) (fw : Nat) : StartKept loadFlds s (s.fwShown fw) := by
  refine startKept_puts_load s _ ?_
  simp only [List.forall_mem_cons, List.not_mem_nil, false_imp_iff, implies_true, and_true]
  decide

/-- R80: no Almanac is accepted. -/
def State.noAlmanac (s : State) (first ms : Nat) : State :=
  (s.puts [(R.ALM_LOAD_ALM_BANK, first), (R.ALM_START_STANDBY_MS, min ms 65535)]).raise 113 []

theorem startKept_noAlmanac (s : State) (first ms : Nat) : StartKept loadFlds s (s.noAlmanac first ms) := by
  refine (startKept_puts_load s _ ?_).trans (startKept_raise _ _ _ (by decide))
  simp only [List.forall_mem_cons, List.not_mem_nil, false_imp_iff, implies_true, and_true]
  decide

theorem State.get_standbyMs_noAlmanac (s : State) (first ms : Nat) :
    (s.noAlmanac first ms).get R.ALM_START_STANDBY_MS = min ms 65535 :=
  (State.get_raise _ 113 [] (by decide)).trans (State.get_put_of_lt _ (lt_of_le_of_lt (min_le_right _ _) (by decide)))

/-- In LOAD, outside the recovery state and with no request made, the choice of the banks decides. -/
theorem exec_loadComplete {s u : State} {r : LoadIn} {x : Option (Nat × Option Nat)} (hm : s.mode = mLOAD)
    (hr : s.alm.recovery = false) (hq : s.alm.modeReq = []) (hu : s.chooseBanks r = (u, x)) :
    exec (.loadComplete r) s = .next (match x with
      | none => { u with alm.recovery := true }
      | some (fw, some b) => ((u.fwShown fw).convertSettings.applyAlm b).reqMode mPROVE 0x11
      | some (fw, none) => ((u.fwShown fw).convertSettings.noAlmanac (s.upd.cur.active 1) r.ms).reqMode mSERVICE 0x13) := by
  change execLoadComplete r s = _
  unfold execLoadComplete
  rw [if_neg (by simp [hm, hr, hq])]
  simp only [hu]
  rcases x with _ | ⟨fw, _ | b⟩ <;> rfl

/-- What the choice of the banks and the change of the settings' format leave of LOAD. -/
theorem startKept_loaded {s u : State} {r : LoadIn} {x : Option (Nat × Option Nat)} (h : s.chooseBanks r = (u, x))
    (fw : Nat) :
    StartKept loadFlds s (u.fwShown fw).convertSettings :=
  (startKept_chooseBanks h).trans ((startKept_fwShown u fw).trans (startKept_convertSettings _))

theorem State.get_reqMode (s : State) (m c : Nat) (f : Fld) : (s.reqMode m c).get f = s.get f := rfl

theorem State.reqMode_trained (s : State) (m c : Nat) : (s.reqMode m c).alm.trained = s.alm.trained := rfl

theorem State.reqMode_modeReq (s : State) (m c : Nat) : (s.reqMode m c).alm.modeReq = s.alm.modeReq ++ [(m, c)] := rfl

/-- The only request that stands is the one made here. -/
theorem StartKept.modeReq {fs : List Fld} {s t : State} (h : StartKept fs s t) (hq : s.alm.modeReq = []) (m c : Nat) :
    (t.reqMode m c).alm.modeReq = [(m, c)] := by
  rw [State.reqMode_modeReq, h.alm, hq]
  rfl

/-! ### What PROVE repairs (R70, R379, R380) -/

/-- The byte of the VEHICLE record that allows a degraded start, which no repair of PROVE touches. -/
def proveFlds : List Fld := [recByte 0x0C01 0 8]

/-- Puts that leave the byte alone. -/
theorem startKept_puts_prove (s : State) (l : List (Fld × Nat)) (h : ∀ e ∈ l, (recByte 0x0C01 0 8).key ≠ e.1.key) :
    StartKept proveFlds s (s.puts l) :=
  startKept_puts s l fun e he g hg => by
    rw [proveFlds, List.mem_singleton] at hg
    exact hg ▸ h e he

theorem startKept_raise_prove (s : State) (c : Nat) (ps : List Nat) : StartKept proveFlds s (s.raise c ps) :=
  startKept_raise s c ps (by decide)

theorem startKept_refreshRows (s : State) (bank : Nat) : StartKept proveFlds s (s.refreshRows bank) := by
  refine startKept_puts_prove s _ ?_
  simp only [List.forall_mem_cons, List.not_mem_nil, false_imp_iff, implies_true, and_true, recByte,
    R.SPD_BANK_HEALTH_SPARE_LEFT, R.SPD_BANK_HEALTH_UNREPAIRED, R.HLM_GRES_ROWS_OK, R.HLM_GRES_ROWS_SPARE, Fld.at]
  omega

/-- Table 2.8: a failing row takes a spare, or stays unrepaired. -/
def State.proveRepair (bank : Nat) (s : State) (r : Nat) : State :=
  match s.freeSpares bank with
  | sp :: _ =>
    let s := ({ s with spd.remaps := s.spd.remaps ++ [(bank, r, sp)] } : State).refreshRows bank
    s.raise 82 [bank, r, s.get (R.SPD_BANK_HEALTH_SPARE_LEFT bank)]
  | [] => ({ s with spd.unrepaired := s.spd.unrepaired ++ [(bank, r)] } : State).raise 83 [bank, r]

/-- What the run has found in a bank, repaired. -/
def State.rowsRepaired (s : State) (rows : List Nat) (bank : Nat) : State :=
  (rows.filter (· < 128)).foldl (State.proveRepair bank)
    { s with spd.deadSpares := s.spd.deadSpares ++ ((rows.filter (128 ≤ ·)).map fun r => (bank, r)) }

theorem State.proveRows_eq (s : State) (bad : List (Nat × Nat × Nat)) (bank : Nat) :
    ∃ ps, s.proveRows bad bank = ((s.rowsRepaired
      (((bad.filter fun x => x.1 == bank && x.2.2 != 0).map fun x => x.2.1).eraseDups) bank).refreshRows bank).raise 84 ps :=
  ⟨_, rfl⟩

theorem startKept_proveRepair (bank : Nat) (s : State) (r : Nat) : StartKept proveFlds s (s.proveRepair bank r) := by
  unfold State.proveRepair
  split
  · exact (startKept_rest s).trans ((startKept_refreshRows _ bank).trans (startKept_raise_prove _ _ _))
  · exact (startKept_rest s).trans (startKept_raise_prove _ _ _)

theorem startKept_proveRows (s : State) (bad : List (Nat × Nat × Nat)) (bank : Nat) :
    StartKept proveFlds s (s.proveRows bad bank) := by
  obtain ⟨ps, e⟩ := s.proveRows_eq bad bank
  rw [e]
  refine StartKept.trans ?_ ((startKept_refreshRows _ bank).trans (startKept_raise_prove _ _ _))
  exact (startKept_rest s).trans (StartKept.foldl _ _ fun t r _ => startKept_proveRepair bank t r)

theorem State.spd_refreshRows (s : State) (bank : Nat) : (s.refreshRows bank).spd = s.spd := State.puts_spd s _

/-- Where the run has found nothing, no row is left unrepaired. -/
theorem State.unrepaired_proveRows_nil (s : State) (bank : Nat) :
    (s.proveRows [] bank).spd.unrepaired = s.spd.unrepaired := by
  obtain ⟨ps, e⟩ := s.proveRows_eq [] bank
  rw [e, State.raise_spd, State.spd_refreshRows]
  rfl

/-- The scratchpad as PROVE's run finds it. -/
def State.marchBase (s : State) : State :=
  { s with spd := { s.spd with
      remaps := [], copying := [], deadSpares := [], unrepaired := [], mem := [], flips := [], hold := none, mbx := [] } }

/-- What the march run reports, after every bank's rows. -/
theorem State.proveMarch_eq (s : State) (bad : List (Nat × Nat × Nat)) :
    ∃ fails row, s.proveMarch bad = ((List.range 32).foldl
      (fun t b => t.proveRows (bad.filter fun x => x.2.2 != 0 && decide (x.1 < 32 ∧ x.2.1 < 160)) b) s.marchBase).puts
        [(R.SPD_MARCH_RES_FAILS, fails), (R.SPD_MARCH_RES_ROW, row)] := ⟨_, _, rfl⟩

theorem startKept_proveMarch (s : State) (bad : List (Nat × Nat × Nat)) : StartKept proveFlds s (s.proveMarch bad) := by
  obtain ⟨fails, row, e⟩ := s.proveMarch_eq bad
  rw [e]
  refine StartKept.trans ?_ (startKept_puts_prove _ _ ?_)
  · exact (startKept_rest s).trans (StartKept.foldl _ s.marchBase fun t b _ => startKept_proveRows t _ b)
  · simp only [List.forall_mem_cons, List.not_mem_nil, false_imp_iff, implies_true, and_true]
    decide

theorem State.unrepaired_proveMarch_nil (s : State) : (s.proveMarch []).spd.unrepaired = [] := by
  obtain ⟨fails, row, e⟩ := s.proveMarch_eq []
  rw [e, State.puts_spd]
  exact List.foldlRecOn (motive := fun t : State => t.spd.unrepaired = []) _ _ rfl
    fun t ht b _ => (State.unrepaired_proveRows_nil t b).trans ht

theorem startKept_refreshCells (s : State) (g : Nat) : StartKept proveFlds s (s.refreshCells g) := by
  refine startKept_puts_prove s _ ?_
  simp only [List.forall_mem_cons, List.not_mem_nil, false_imp_iff, implies_true, and_true, recByte,
    R.HLM_GRES_SL_SPARE, R.HLM_FB_A, R.HLM_FB_NOSPARE, Fld.at]
  omega

/-- The slice leaves its cell. -/
def State.sliceOut (s : State) (u : Nat) : State :=
  (s.modCell (unitCell u) fun x =>
    { x with retired := x.retired ++ [unitPos u], isolated := x.isolated.filter (· != unitPos u) }).refreshCells
      (unitCell u / 4)

theorem startKept_sliceOut (s : State) (u : Nat) : StartKept proveFlds s (s.sliceOut u) :=
  (startKept_rest s).trans (startKept_refreshCells _ (unitCell u / 4))

theorem State.retireSlice_cases (s : State) (u : Nat) :
    (∃ ps, s.retireSlice u = ((s.sliceOut u).raise 104 ps).put (R.HLM_FB_READY (unitCell u / 4)) 0) ∨
    ∃ l ps, s.retireSlice u = ({ s.sliceOut u with hlm.fbDue := l } : State).raise 105 ps := by
  unfold State.retireSlice
  dsimp only
  split_ifs
  · exact .inl ⟨_, rfl⟩
  · exact .inr ⟨_, _, rfl⟩

theorem startKept_retireSlice (s : State) (u : Nat) : StartKept proveFlds s (s.retireSlice u) := by
  rcases s.retireSlice_cases u with ⟨ps, e⟩ | ⟨l, ps, e⟩ <;> rw [e]
  · refine (startKept_sliceOut s u).trans ((startKept_raise_prove _ _ _).trans (startKept_put _ 0 ?_))
    simp only [proveFlds, List.mem_singleton, forall_eq, recByte, R.HLM_FB_READY, Fld.at]
    omega
  · exact (startKept_sliceOut s u).trans ((startKept_rest _).trans (startKept_raise_prove _ _ _))

/-- Every cell whole, before PROVE's failing slices retire. -/
def State.cellsBase (s : State) : State :=
  (List.range 8).foldl State.refreshCells
    { s with rep.cells := List.replicate 32 {}, hlm.fbDue := [], hlm.fbTold := [], hlm.fbs := [] }

theorem State.proveSlices_eq (s : State) (bad : List (Nat × Nat × Nat)) :
    s.proveSlices bad = { (((bad.filter fun x => decide (x.1 < 8 ∧ x.2.1 < 4 ∧ x.2.2 < 5)).map fun x =>
      sliceUnit (4 * x.1 + x.2.1) x.2.2).eraseDups).foldl State.retireSlice s.cellsBase with hlm.fbDue := [] } := rfl

theorem startKept_proveSlices (s : State) (bad : List (Nat × Nat × Nat)) : StartKept proveFlds s (s.proveSlices bad) := by
  rw [State.proveSlices_eq]
  refine StartKept.trans ?_ (startKept_rest _)
  have hbase : StartKept proveFlds s s.cellsBase :=
    (startKept_rest s).trans (StartKept.foldl _ _ fun t g _ => startKept_refreshCells t g)
  exact hbase.trans (StartKept.foldl _ _ fun t u _ => startKept_retireSlice t u)

theorem State.spd_foldl_refreshCells (l : List Nat) (s : State) : (l.foldl State.refreshCells s).spd = s.spd :=
  List.foldlRecOn (motive := fun t : State => t.spd = s.spd) l State.refreshCells rfl
    fun t ht _ _ => (State.puts_spd t _).trans ht

theorem State.spd_proveSlices_nil (s : State) : (s.proveSlices []).spd = s.spd := by
  simp only [State.proveSlices_eq, List.filter_nil, List.map_nil, List.eraseDups_nil, List.foldl_nil, State.cellsBase,
    State.spd_foldl_refreshCells]

/-! ### PROVE_COMPLETE -/

/-- The relays may open again, and the training's outcome stands. -/
def State.proveBase (s : State) (r : ProveIn) : State :=
  { s with pwr.kw.failOpen := false, pwr.ke.failOpen := false, alm.trained := r.trainedW && r.trainedE }

/-- The rows and slices repaired. -/
def State.proveRepaired (s : State) (r : ProveIn) : State :=
  ((s.proveBase r).proveMarch r.badRows).proveSlices r.badSlices

/-- R194: the timetables of the healthy slices; ALM_START and the faulty current outputs. -/
def State.proveShown (s : State) (r : ProveIn) : State :=
  ((s.proveRepaired r).buildTts (s.proveRepaired r).groupA).puts
    ((R.ALM_START_PROVE_MS, min r.proveMs 65535) :: (R.ALM_START_STANDBY_MS, min r.startMs 65535) ::
      (List.range 16).map fun n => (R.DIO_PC_STAT_FAULTY n, b2n (bit r.pcFaulty n)))

/-- R70, R71: what a start needs beside the capacity. -/
def State.proveSound (s : State) (r : ProveIn) : Bool :=
  r.chronOk && r.lockstepOk && r.dramOk && r.eccOk && !r.otherError && !s.alm.proveErr && s.spd.unrepaired.isEmpty

/-- R71, R237: the groups that the healthy slices do not carry go down the shed ladder. -/
def State.proveDegraded (s : State) : State :=
  if decide (s.overBudget ≠ []) then
    (s.overBudget.foldl State.degradeGroup s).raise 114 [1, (s.overBudget.map (2 ^ ·)).sum]
  else s

/-- R71, R468: a start that fails rolls a trial back. -/
def State.proveFailed (s : State) : State :=
  let t := s.raise 114 [0]
  if t.upd.cur.trial = 1 then t.rollBack 0x22 else t

theorem exec_proveComplete {s : State} {r : ProveIn} (hm : s.mode = mPROVE) (hq : s.alm.modeReq = []) :
    exec (.proveComplete r) s = .next (
      if (s.proveShown r).proveSound r &&
          (!decide ((s.proveShown r).overBudget ≠ []) || (s.proveShown r).cfg 0x0C01 0 8 1 == 1)
      then (s.proveShown r).proveDegraded.reqMode mSTANDBY 0x12
      else (s.proveShown r).proveFailed.reqMode mSERVICE 0x14) := by
  change execProveComplete r s = _
  unfold execProveComplete
  rw [if_neg (by simp [hm, hq])]
  exact (apply_ite Host.Outcome.next _ _ _).symm

theorem startKept_proveRepaired (s : State) (r : ProveIn) : StartKept proveFlds (s.proveBase r) (s.proveRepaired r) :=
  (startKept_proveMarch _ _).trans (startKept_proveSlices _ _)

theorem startKept_proveShown (s : State) (r : ProveIn) : StartKept proveFlds (s.proveBase r) (s.proveShown r) := by
  refine (startKept_proveRepaired s r).trans ((startKept_rest _).trans (startKept_puts_prove _ _ ?_))
  simp only [List.forall_mem_cons, List.forall_mem_map, List.mem_range, recByte, R.ALM_START_PROVE_MS,
    R.ALM_START_STANDBY_MS, R.DIO_PC_STAT_FAULTY, Fld.at]
  exact ⟨by omega, by omega, fun n _ => by omega⟩

/-- The requests, the training and what PROVE has found stand as the command found or set them. -/
theorem State.proveShown_alm (s : State) (r : ProveIn) :
    (s.proveShown r).alm.modeReq = s.alm.modeReq ∧ (s.proveShown r).alm.proveErr = s.alm.proveErr ∧
      (s.proveShown r).alm.trained = (r.trainedW && r.trainedE) := by
  rw [(startKept_proveShown s r).alm]
  exact ⟨rfl, rfl, rfl⟩

theorem State.cfg_degraded_proveShown (s : State) (r : ProveIn) :
    (s.proveShown r).cfg 0x0C01 0 8 1 = s.cfg 0x0C01 0 8 1 := by
  have hbyte : (s.proveShown r).get (recByte 0x0C01 0 8) = s.get (recByte 0x0C01 0 8) :=
    (startKept_proveShown s r).get _ (List.mem_singleton.2 rfl)
  simp only [State.cfg, hbyte]

theorem State.get_proveMs_proveShown (s : State) (r : ProveIn) :
    (s.proveShown r).get R.ALM_START_PROVE_MS = min r.proveMs 65535 := by
  rw [State.proveShown, State.puts, State.get_puts_other,
    State.get_put_of_lt _ (lt_of_le_of_lt (min_le_right _ _) (by decide))]
  simp only [List.forall_mem_cons, List.forall_mem_map, List.mem_range, R.ALM_START_PROVE_MS,
    R.ALM_START_STANDBY_MS, R.DIO_PC_STAT_FAULTY, Fld.at]
  exact ⟨by omega, fun n _ => by omega⟩

theorem State.unrepaired_proveShown {s : State} {r : ProveIn} (hr : r.badRows = []) (hs : r.badSlices = []) :
    (s.proveShown r).spd.unrepaired = [] := by
  have hspd : (s.proveRepaired r).spd = ((s.proveBase r).proveMarch []).spd := by
    rw [State.proveRepaired, hr, hs, State.spd_proveSlices_nil]
  rw [State.proveShown, State.puts_spd]
  exact (congrArg Spd.unrepaired hspd).trans (State.unrepaired_proveMarch_nil _)

/-! ### The shed ladder (R71, R237) -/

/-- What a degraded start leaves alone. -/
def shedFlds : List Fld := [R.ALM_START_PROVE_MS]

theorem startKept_puts_shed (s : State) (l : List (Fld × Nat)) (h : ∀ e ∈ l, R.ALM_START_PROVE_MS.key ≠ e.1.key) :
    StartKept shedFlds s (s.puts l) :=
  startKept_puts s l fun e he g hg => by
    rw [shedFlds, List.mem_singleton] at hg
    exact hg ▸ h e he

theorem startKept_raise_shed (s : State) (c : Nat) (ps : List Nat) : StartKept shedFlds s (s.raise c ps) :=
  startKept_raise s c ps (by decide)

theorem startKept_shedChan (s : State) (e : Nat × Nat × Nat) : StartKept shedFlds s (s.shedChan e) := by
  refine (startKept_rest s).trans ((startKept_puts_shed _ _ ?_).trans (startKept_raise_shed _ _ _))
  simp only [List.forall_mem_cons, List.not_mem_nil, false_imp_iff, implies_true, and_true, R.ALM_START_PROVE_MS,
    R.HLM_RATE_K_NOW, R.HLM_RATE_TOFF_NOW, Fld.at]
  omega

/-- A channel that the ladder removes at a start. -/
def State.dropChan (s : State) (c : Nat) : State := (s.modChan c fun x => { x with removed := true }).chEvent c 0x11 1

/-- The channels of a group shed and removed, with its new timetable. -/
def State.shedAll (s : State) (g : Nat) : State :=
  ((s.fallbackOf g 0 (s.groupA g)).removed.foldl State.dropChan
    ((s.fallbackOf g 0 (s.groupA g)).shed.foldl State.shedChan s)).setTt g (s.fallbackOf g 0 (s.groupA g)).tt

theorem startKept_shedAll (s : State) (g : Nat) : StartKept shedFlds s (s.shedAll g) := by
  refine StartKept.trans (StartKept.trans ?_ (StartKept.foldl _ _ fun t c _ => ?_)) (startKept_rest _)
  · exact StartKept.foldl _ s fun t e _ => startKept_shedChan t e
  · exact (startKept_rest t).trans (startKept_raise_shed _ _ _)

theorem State.degradeGroup_eq (s : State) (g : Nat) :
    ∃ steps n, s.degradeGroup g =
      (if (s.fallbackOf g 0 (s.groupA g)).removed = [] then (s.shedAll g).grpEvent g 0x11 steps
        else ((s.shedAll g).grpEvent g 0x11 steps).grpEvent g 0x12 n).puts
        [(R.HLM_GSTAT_DEGRADED g, 1), (R.ALM_MODE_DEGRADED, 1), (R.HLM_FB_STEPS g, min 255 steps)] := ⟨_, _, rfl⟩

theorem startKept_degradeGroup (s : State) (g : Nat) : StartKept shedFlds s (s.degradeGroup g) := by
  obtain ⟨steps, n, e⟩ := s.degradeGroup_eq g
  rw [e]
  have hevent := (startKept_shedAll s g).trans (startKept_raise_shed _ (33 + 2 * g) [0x11, steps])
  refine (hevent.ite (hevent.trans (startKept_raise_shed _ _ _))).trans (startKept_puts_shed _ _ ?_)
  simp only [List.forall_mem_cons, List.not_mem_nil, false_imp_iff, implies_true, and_true, R.ALM_START_PROVE_MS,
    R.HLM_GSTAT_DEGRADED, R.ALM_MODE_DEGRADED, R.HLM_FB_STEPS, Fld.at]
  omega

theorem startKept_proveDegraded (s : State) : StartKept shedFlds s s.proveDegraded :=
  ((StartKept.foldl _ s fun t g _ => startKept_degradeGroup t g).trans (startKept_raise_shed _ _ _)).ite (StartKept.refl _ s)

theorem startKept_proveFailed (s : State) : StartKept loadFlds s s.proveFailed :=
  StartKept.ite ((startKept_raise s 114 [0] (by decide)).trans (startKept_rollBack _ 0x22))
    (startKept_raise s 114 [0] (by decide))

/-- PROVE passes where nothing is found wrong and a degraded start is allowed. -/
theorem proveComplete_pass {s : State} {r : ProveIn} (hm : s.mode = mPROVE) (hq : s.alm.modeReq = [])
    (hs : (s.proveShown r).proveSound r = true) (hd : s.cfg 0x0C01 0 8 1 = 1) :
    ∃ t, exec (.proveComplete r) s = .next t ∧ t.alm.modeReq = [(mSTANDBY, 0x12)] ∧
      t.alm.trained = (r.trainedW && r.trainedE) ∧ t.get R.ALM_START_PROVE_MS = min r.proveMs 65535 := by
  obtain ⟨hreq, -, htrained⟩ := s.proveShown_alm r
  have hk := startKept_proveDegraded (s.proveShown r)
  refine ⟨_, by rw [exec_proveComplete hm hq, if_pos (by simp [hs, State.cfg_degraded_proveShown, hd])],
    hk.modeReq (hreq.trans hq) _ _, ?_, ?_⟩
  · rw [State.reqMode_trained, hk.alm]
    exact htrained
  · exact (State.get_reqMode _ _ _ _).trans <| (hk.get _ (List.mem_singleton.2 rfl)).trans (s.get_proveMs_proveShown r)

/-- R71: what is found wrong asks for SERVICE. -/
theorem proveComplete_fail {s : State} {r : ProveIn} (hm : s.mode = mPROVE) (hq : s.alm.modeReq = [])
    (hs : (s.proveShown r).proveSound r = false) :
    ∃ t, exec (.proveComplete r) s = .next t ∧ t.alm.modeReq = [(mSERVICE, 0x14)] :=
  ⟨_, by rw [exec_proveComplete hm hq, if_neg (by simp [hs])],
    (startKept_proveFailed _).modeReq ((s.proveShown_alm r).1.trans hq) _ _⟩

/-- Settles O28: LOAD asks by what the choice of the banks leaves (R68, R80), PROVE by whether anything is found wrong (R70,
R71); every step of either leaves the requests alone (`StartKept`). -/
theorem startOutcome : Obligations.StartOutcome := by
  refine ⟨fun s u r fw b hm hr hq hu => ?_, fun s u r fw hm hr hq hu => ?_, fun s u r hm hr hq hu => ?_,
    fun s r hm hq hc hl hd he ho hp hrows hslices hcfg => ?_, fun s r hm hq hbad => ?_⟩
  · have hk := (startKept_loaded hu fw).trans (startKept_applyAlm _ b)
    refine ⟨_, exec_loadComplete hm hr hq hu, hk.modeReq hq _ _, ?_, ?_⟩
    · rw [State.get_reqMode, State.get_almBank_applyAlm]
    · rw [State.mode, State.get_reqMode, hk.get _ (List.mem_singleton.2 rfl)]
      exact hm
  · have hk := (startKept_loaded hu fw).trans (startKept_noAlmanac _ (s.upd.cur.active 1) r.ms)
    refine ⟨_, exec_loadComplete hm hr hq hu, hk.modeReq hq _ _, ?_⟩
    rw [State.get_reqMode, State.get_standbyMs_noAlmanac]
  · exact exec_loadComplete hm hr hq hu
  · refine proveComplete_pass hm hq ?_ hcfg
    simp [State.proveSound, hc, hl, hd, he, ho, (s.proveShown_alm r).2.1, hp, State.unrepaired_proveShown hrows hslices]
  · refine proveComplete_fail hm hq ?_
    rcases hbad with h | h | h | h | h | h <;> simp [State.proveSound, h, (s.proveShown_alm r).2.1]

end Sys2Proof.Machine

/-! What the steps of a tick edge leave alone: the queue, what waits to act, and the time. -/

namespace Sys2Proof.Machine

/-! ### The view -/

/-- The commands that wait, the TICK-class writes, the staged values and the commits that wait, and the Chronometer's
time. -/
structure EdgeView where
  pending : List Instr
  tickW : List (Nat × Nat)
  staged : List (Nat × Nat × Nat)
  commits : List (Nat × Nat)
  tick : Nat
  base : Nat
  phase : Nat
  running : Bool

/-- What no step of an edge changes but those that R97, R81, R82 and R84 name. -/
def State.view (s : State) : EdgeView :=
  ⟨s.pending, s.tickW, s.staged, s.commits, s.chr.tick, s.chr.base, s.chr.phase, s.chr.running⟩

/-! ### The shared operations -/

@[simp] theorem State.view_put (s : State) (f : Fld) (v : Nat) : (s.put f v).view = s.view := by simp [State.view]
@[simp] theorem State.view_bump (s : State) (f : Fld) (n : Nat) : (s.bump f n).view = s.view := by
  simp [State.view]
@[simp] theorem State.view_puts (s : State) (l : List (Fld × Nat)) : (s.puts l).view = s.view := by simp [State.view]
@[simp] theorem State.view_raise (s : State) (c : Nat) (ps : List Nat) : (s.raise c ps).view = s.view := by
  simp [State.view]
@[simp] theorem State.view_sysRec (s : State) (c : Nat) (ps : List Nat) : (s.sysRec c ps).view = s.view := by
  simp [State.view]
@[simp] theorem State.view_setRelay (s : State) (r : Fin 2) (x : Relay) : (s.setRelay r x).view = s.view := by
  simp [State.view]
@[simp] theorem State.view_coilTo (s : State) (r : Fin 2) (b : Bool) : (s.coilTo r b).view = s.view := by
  simp [State.view]
@[simp] theorem State.view_free (s : State) (w : Nat) : (s.free w).2.view = s.view := by
  simp [State.view]

/-! ### Updates, cases and folds -/

/-- An update of the rest of the state leaves the view alone: the two lemmas let `simp` see through it. -/
@[simp] theorem State.view_mk (pending : List Instr) (regs : List (Nat × Nat)) (tickW : List (Nat × Nat))
    (staged : List (Nat × Nat × Nat)) (commits : List (Nat × Nat)) (freeCtr : Nat) (pwr : Pwr) (chr : Chr) (log : Log)
    (alm : Alm) (rep : Rep) (spd : Spd) (mrd : Mrd) (hlm : Hlm) (dio : Dio) (plt : Plt) (sxt : Sxt) (lkt : Lkt)
    (bus : List Bus) (hsi : Hsi) (nor : Nor) (upd : Upd) (bin : Bin) (rings : List (Nat × List Nat)) (rdata : Nat) :
    (State.mk pending regs tickW staged commits freeCtr pwr chr log alm rep spd mrd hlm dio plt sxt lkt bus hsi nor upd bin
      rings rdata).view = ⟨pending, tickW, staged, commits, chr.tick, chr.base, chr.phase, chr.running⟩ := rfl

@[simp] theorem EdgeView.mk_view (s : State) :
    EdgeView.mk s.pending s.tickW s.staged s.commits s.chr.tick s.chr.base s.chr.phase s.chr.running = s.view := rfl

@[simp] theorem State.view_ite {c : Prop} [Decidable c] (s t : State) :
    (if c then s else t).view = if c then s.view else t.view := apply_ite State.view c s t

/-- Steps that each leave the view alone leave it alone together. -/
@[simp] theorem State.view_foldl {α : Type} {g : State → α → State} (h : ∀ t a, (g t a).view = t.view) (l : List α)
    (s : State) : (l.foldl g s).view = s.view := by
  induction l generalizing s with
  | nil => rfl
  | cons a l ih => exact (ih _).trans (h s a)

/-- The same where the steps carry a value beside the state. -/
theorem State.view_fst_foldl {α β : Type} {g : State × β → α → State × β} (h : ∀ x a, (g x a).1.view = x.1.view)
    (l : List α) (x : State × β) : (l.foldl g x).1.view = x.1.view := by
  induction l generalizing x with
  | nil => rfl
  | cons a l ih => exact (ih _).trans (h x a)

/-! ### Ring inputs, mailboxes, requests and broadcasts at the edge (R150, R205, R225) -/

@[simp] theorem State.view_ringInputs (s : State) : s.ringInputs.view = s.view := by
  simp [State.ringInputs]

@[simp] theorem State.view_mbxEdge (s : State) (t : Nat) : (s.mbxEdge t).view = s.view := by
  simp [State.mbxEdge]

@[simp] theorem State.view_broadcastEdge (s : State) : s.broadcastEdge.view = s.view := by
  simp [State.broadcastEdge]

@[simp] theorem State.view_chEvent (s : State) (c reason detail : Nat) : (s.chEvent c reason detail).view = s.view := by
  simp [State.chEvent]

@[simp] theorem State.view_modChan (s : State) (c : Nat) (f : Chan → Chan) : (s.modChan c f).view = s.view := by
  simp [State.modChan]

@[simp] theorem State.view_startHo (s : State) (c cause target : Nat) : (s.startHo c cause target).view = s.view := by
  simp [State.startHo]

@[simp] theorem State.view_autoRequest (s : State) (c : Nat) : (s.autoRequest c).view = s.view := by
  simp only [State.autoRequest]
  repeat' split
  all_goals simp

@[simp] theorem State.view_manRequest (s : State) (c : Nat) : (s.manRequest c).view = s.view := by
  simp [State.manRequest]

@[simp] theorem State.view_amEdge (s : State) : s.amEdge.view = s.view := by
  simp [State.amEdge]

/-! ### What a commit sets off (R106, R169, R200, R253, R318, R345, R423) -/

@[simp] theorem State.view_noteOld (s old : State) (e : Nat × Nat × Nat) : (s.noteOld old e).view = s.view := by
  unfold State.noteOld
  split <;> simp

@[simp] theorem State.view_modPc (s : State) (n : Nat) (f : Pc → Pc) : (s.modPc n f).view = s.view := by
  simp [State.modPc]

@[simp] theorem State.view_bandStep (s : State) (n : Nat) : (s.bandStep n).view = s.view := by
  simp [State.bandStep]

@[simp] theorem State.view_coilRefs (s : State) : s.coilRefs.view = s.view := by
  simp [State.coilRefs]

@[simp] theorem State.view_slotMapCheck (s old : State) (region : Nat) : (s.slotMapCheck old region).view = s.view := by
  simp [State.slotMapCheck]

@[simp] theorem State.view_modYld (s : State) (f : Yld → Yld) : (s.modYld f).view = s.view := by
  simp [State.modYld]

@[simp] theorem State.view_modSx (s : State) (n : Nat) (f : SxPort → SxPort) : (s.modSx n f).view = s.view := by
  simp [State.modSx]

@[simp] theorem State.view_blackChanged (s : State) (n : Nat) : (s.blackChanged n).view = s.view := by
  simp [State.blackChanged]

@[simp] theorem State.view_modBus (s : State) (c : Nat) (f : Bus → Bus) : (s.modBus c f).view = s.view := by
  simp [State.modBus]

@[simp] theorem State.view_busCommitted (s old : State) (c : Nat) (l : List (Nat × Nat × Nat)) :
    (s.busCommitted old c l).view = s.view := by
  simp [State.busCommitted]

@[simp] theorem State.view_announce (s : State) (e type tick arg : Nat) : (s.announce e type tick arg).view = s.view := by
  simp [State.announce]

@[simp] theorem State.view_modSrc (s : State) (i : Nat) (f : Src → Src) : (s.modSrc i f).view = s.view := by
  simp [State.modSrc]

@[simp] theorem State.view_reseed (s : State) (i : Nat) : (s.reseed i).view = s.view := by
  simp [State.reseed]

@[simp] theorem State.view_unlock (s : State) (i why : Nat) : (s.unlock i why).view = s.view := by
  simp [State.unlock]

@[simp] theorem State.view_taiChanged (s : State) : s.taiChanged.view = s.view := by
  simp [State.taiChanged]

@[simp] theorem State.view_setTai (s : State) (v : Bool) : (s.setTai v).view = s.view := by
  simp [State.setTai]

@[simp] theorem State.view_discTo (s : State) (st : Nat) : (s.discTo st).view = s.view := by
  simp [State.discTo]

@[simp] theorem State.view_freeRun (s : State) : s.freeRun.view = s.view := by
  simp [State.freeRun]

@[simp] theorem State.view_useSource (s : State) (code : Nat) : (s.useSource code).view = s.view := by
  unfold State.useSource
  dsimp only
  split <;> simp

@[simp] theorem State.view_pickSource (s : State) : s.pickSource.view = s.view := by
  unfold State.pickSource
  split <;> simp

@[simp] theorem State.view_chronoCommitted (s : State) : s.chronoCommitted.view = s.view := by
  simp only [State.chronoCommitted]
  repeat' split
  all_goals simp

@[simp] theorem State.view_committed (s old : State) (r : Nat) (l : List (Nat × Nat × Nat)) :
    (s.committed old r l).view = s.view := by
  simp [State.committed]

/-! ### Hand-overs, snapshots and the rate (R108, R206, R222) -/

@[simp] theorem State.view_eachChan {f : State → Nat → State} (h : ∀ t c, (f t c).view = t.view) (s : State)
    (l : List Nat) : (s.eachChan l f).view = s.view :=
  State.view_foldl h l s

@[simp] theorem State.view_hovTick (s : State) (c : Nat) : (s.hovTick c).view = s.view := by
  simp [State.hovTick]

@[simp] theorem State.view_hovEdge (s : State) : s.hovEdge.view = s.view := by
  simp [State.hovEdge]

@[simp] theorem State.view_helmSnap (s : State) (slot : Nat) : (s.helmSnap slot).view = s.view := by
  simp [State.helmSnap]

@[simp] theorem State.view_latchSnaps (s : State) : s.latchSnaps.view = s.view := by
  simp [State.latchSnaps]

@[simp] theorem State.view_rateEdge (s : State) : s.rateEdge.view = s.view := by
  simp [State.rateEdge]

/-! ### Direct I/O, announcements and the shutdown (R64, R249) -/

@[simp] theorem State.view_modPi (s : State) (n : Nat) (f : Pulse → Pulse) : (s.modPi n f).view = s.view := by
  simp [State.modPi]

@[simp] theorem State.view_pulseTick (s : State) (n : Nat) : (s.pulseTick n).view = s.view := by
  simp [State.pulseTick]

@[simp] theorem State.view_dioEdge (s : State) (i : TickIn) : (s.dioEdge i).view = s.view := by
  simp [State.dioEdge]

@[simp] theorem State.view_lateEdges (s : State) (l : List Nat) : (s.lateEdges l).view = s.view := by
  simp [State.lateEdges]

@[simp] theorem State.view_annEdge (s : State) : s.annEdge.view = s.view := by
  simp [State.annEdge]

@[simp] theorem State.view_shutdownEdge (s : State) : s.shutdownEdge.view = s.view := by
  simp [State.shutdownEdge]

/-! ### Timetables (R202, R235) -/

@[simp] theorem State.view_startLaw (s : State) (c cause : Nat) : (s.startLaw c cause).view = s.view := by
  simp [State.startLaw]

@[simp] theorem State.view_stopLaw (s : State) (c target why : Nat) : (s.stopLaw c target why).view = s.view := by
  simp [State.stopLaw]

@[simp] theorem State.view_timetableChanged (s : State) (c : Nat) : (s.timetableChanged c).view = s.view := by
  simp [State.timetableChanged]

@[simp] theorem State.view_timetableEdge (s : State) : s.timetableEdge.view = s.view := by
  simp [State.timetableEdge]

/-! ### What a mode drives: supplies, relays and jobs (R34, R46, R289) -/

@[simp] theorem State.view_supplyLost (s : State) : s.supplyLost.view = s.view := by
  simp [State.supplyLost]

@[simp] theorem State.view_dropHeld (s : State) (r : Fin 2) : (s.dropHeld r).view = s.view := by
  simp [State.dropHeld]

@[simp] theorem State.view_engineTake (s : State) : s.engineTake.view = s.view := by
  simp only [State.engineTake]
  repeat' split
  all_goals simp

@[simp] theorem State.view_jobsChanged (s : State) : s.jobsChanged.view = s.view := by
  simp [State.jobsChanged]

@[simp] theorem State.view_admitJob (s : State) (j : PJob) : (s.admitJob j).view = s.view := by
  simp [State.admitJob]

@[simp] theorem State.view_admitWaiting (s : State) : s.admitWaiting.view = s.view := by
  simp [State.admitWaiting]

@[simp] theorem State.view_endStop (s : State) : s.endStop.view = s.view := by
  simp [State.endStop]

/-! ### What a mode drives: the data plane down and up (R61, R120) -/

@[simp] theorem State.view_clearBlock (s : State) (id : Nat) : (s.clearBlock id).view = s.view := by
  simp [State.clearBlock]

@[simp] theorem State.view_lktReset (s : State) : s.lktReset.view = s.view := by
  simp [State.lktReset]

@[simp] theorem State.view_sxtReset (s : State) : s.sxtReset.view = s.view := by
  simp [State.sxtReset]

@[simp] theorem State.view_pltReset (s : State) : s.pltReset.view = s.view := by
  simp [State.pltReset]

@[simp] theorem State.view_setXing (s : State) (x : Xing) : (s.setXing x).view = s.view := by
  simp [State.setXing]

@[simp] theorem State.view_endEpisode (s : State) (x : Xing) : (s.endEpisode x).view = s.view := by
  simp [State.endEpisode]

@[simp] theorem State.view_resetXing (s : State) (id : Nat) : (s.resetXing id).view = s.view := by
  simp [State.resetXing]

@[simp] theorem State.view_dataDown (s : State) : s.dataDown.view = s.view := by
  simp [State.dataDown]

@[simp] theorem State.view_openLoad (s : State) (tv : Int) (next : Bool) : (s.openLoad tv next).view = s.view := by
  simp [State.openLoad]

@[simp] theorem State.view_setCal (s : State) (c : Rat) : (s.setCal c).view = s.view := by
  simp [State.setCal]

@[simp] theorem State.view_yldStart (s : State) : s.yldStart.view = s.view := by
  simp [State.yldStart]

@[simp] theorem State.view_place (s : State) (lo : Fld) (size : Nat) : (s.place lo size).view = s.view := by
  simp [State.place]

@[simp] theorem State.view_pltStart (s : State) : s.pltStart.view = s.view := by
  simp [State.pltStart]

@[simp] theorem State.view_lktStat (s : State) : s.lktStat.view = s.view := by
  simp [State.lktStat]

@[simp] theorem State.view_lktStart (s : State) : s.lktStart.view = s.view := by
  simp [State.lktStart]

@[simp] theorem State.view_streamSet (s : State) (i : Nat) : (s.streamSet i).view = s.view := by
  simp [State.streamSet]

/-! ### What a frame that closes feeds (R260 to R265, R274, R283, R292) -/

@[simp] theorem State.view_stampOr (s : State) (a : Option Nat) : (s.stampOr a).2.view = s.view := by
  unfold State.stampOr
  split <;> simp

@[simp] theorem State.view_discard (s : State) (i why : Nat) : (s.discard i why).view = s.view := by
  simp [State.discard]

@[simp] theorem State.view_discontinuous (s : State) (i : Nat) : (s.discontinuous i).view = s.view := by
  simp [State.discontinuous]

@[simp] theorem State.view_offerJob (s : State) (j : PJob) : (s.offerJob j).view = s.view := by
  simp [State.offerJob]

@[simp] theorem State.view_makeJob (s : State) (p n kind : Nat) : (s.makeJob p n kind).view = s.view := by
  simp [State.makeJob]

@[simp] theorem State.view_lateFor (s : State) (i p : Nat) (x : Sample) : (s.lateFor i p x).1.view = s.view := by
  simp only [State.lateFor]
  repeat' split
  all_goals simp

@[simp] theorem State.view_trkOos (s : State) : s.trkOos.view = s.view := by
  simp [State.trkOos]

@[simp] theorem State.view_trkPut (s : State) (m : Meas) : (s.trkPut m).view = s.view := by
  simp [State.trkPut]

@[simp] theorem State.view_trkSample (s : State) (i : Nat) (tv : Int) (vals : List Int) :
    (s.trkSample i tv vals).view = s.view := by
  simp only [State.trkSample]
  repeat' split
  all_goals simp

@[simp] theorem State.view_modVs (s : State) (f : Vs → Vs) : (s.modVs f).view = s.view := by
  simp [State.modVs]

@[simp] theorem State.view_vsInitFix (s : State) (v : List Int) : (s.vsInitFix v).view = s.view := by
  simp [State.vsInitFix]

@[simp] theorem State.view_vsAdd (s : State) (e : VsEv) : (s.vsAdd e).view = s.view := by
  simp [State.vsAdd]

@[simp] theorem State.view_vsSet (s : State) (n : Nat) : (s.vsSet n).view = s.view := by
  simp [State.vsSet]

@[simp] theorem State.view_vsTaken (s : State) (v : List Int) (res : List (Nat × Bool)) :
    (s.vsTaken v res).view = s.view := by
  simp [State.vsTaken]

@[simp] theorem State.view_vsFuse (s : State) (e : VsEv) : (s.vsFuse e).view = s.view := by
  simp [State.vsFuse]

@[simp] theorem State.view_vsAlign (s : State) : s.vsAlign.view = s.view := by
  simp [State.vsAlign]

@[simp] theorem State.view_vsFix (s : State) (x : Sample) (late : Bool) : (s.vsFix x late).view = s.view := by
  simp [State.vsFix]

@[simp] theorem State.view_ingestUsed (s : State) (i : Nat) (tv : Int) (vals : List Int) (bad : List Nat) :
    (s.ingestUsed i tv vals bad).view = s.view := by
  simp only [State.ingestUsed]
  split <;> simp [State.view_fst_foldl]

@[simp] theorem State.view_ingestFrame (s : State) (i : Nat) (tau : Int) (vals : List Int) :
    (s.ingestFrame i tau vals).view = s.view := by
  simp [State.ingestFrame]

@[simp] theorem State.view_hold (s : State) (i : Nat) (h : HeldSample) : (s.hold i h).view = s.view := by
  simp [State.hold]

@[simp] theorem State.view_takeDets (s : State) (i : Nat) (l : List Meas) : (s.takeDets i l).view = s.view := by
  simp [State.takeDets]

@[simp] theorem State.view_ingestHeld (s : State) (i : Nat) (h : HeldSample) : (s.ingestHeld i h).view = s.view := by
  refine (State.view_foldl (fun t j => ?_) _ _).trans (State.view_ingestFrame s i _ _)
  split <;> split <;> simp

@[simp] theorem State.view_lock (s : State) (i : Nat) : (s.lock i).view = s.view := by
  simp [State.lock]

@[simp] theorem State.view_closeWindow (s : State) (i : Nat) : (s.closeWindow i).view = s.view := by
  unfold State.closeWindow
  dsimp only
  split <;> simp

@[simp] theorem State.view_ingestFree (s : State) (i raw : Nat) (stamp : Option Nat) (vals : List Int) :
    (s.ingestFree i raw stamp vals).view = s.view := by
  unfold State.ingestFree
  split
  · rfl
  split
  · exact State.view_discard s i 0
  · rw [State.view_ite, State.view_discard, State.view_ite, State.view_closeWindow, ite_self, State.view_modSrc,
      State.view_ite, State.view_modSrc, ite_self, State.view_ite, State.view_ingestFrame, State.view_hold, ite_self,
      State.view_ite, State.view_put, ite_self, State.view_modSrc, State.view_ite, State.view_discontinuous, ite_self,
      ite_self]

@[simp] theorem State.view_frameSample (s : State) (n : Nat) (f : SxFrame) : (s.frameSample n f).view = s.view := by
  simp only [State.frameSample]
  repeat' split
  all_goals simp

/-! ### What a mode drives: cameras, channels, controllers, the waypoint and the ring (R153, R464, R526) -/

@[simp] theorem State.view_pipeStat (s : State) (k : Nat) : (s.pipeStat k).view = s.view := by
  simp [State.pipeStat]

@[simp] theorem State.view_closeFrame (s : State) (n extra : Nat) (stamp : Option Nat) (quiet : Bool) :
    (s.closeFrame n extra stamp quiet).view = s.view := by
  unfold State.closeFrame
  split <;> simp

@[simp] theorem State.view_resetDomain (s : State) (code : Nat) (port : (Option Nat)) :
    (s.resetDomain code port).view = s.view := by
  simp [State.resetDomain]

@[simp] theorem State.view_camAbsent (s : State) (n : Nat) : (s.camAbsent n).view = s.view := by
  simp [State.camAbsent]

@[simp] theorem State.view_camSync (s : State) : s.camSync.view = s.view := by
  simp [State.camSync]

@[simp] theorem State.view_sxtStart (s : State) : s.sxtStart.view = s.view := by
  simp [State.sxtStart]

@[simp] theorem State.view_dataUp (s : State) : s.dataUp.view = s.view := by
  simp [State.dataUp]

@[simp] theorem State.view_sinkWrite (s : State) (c : Nat) (v : Int) : (s.sinkWrite c v).view = s.view := by
  simp [State.sinkWrite]

@[simp] theorem State.view_sinkFault (s : State) (c detail : Nat) : (s.sinkFault c detail).view = s.view := by
  simp [State.sinkFault]

@[simp] theorem State.view_firstMode (s : State) (c : Nat) : (s.firstMode c).view = s.view := by
  simp [State.firstMode]

@[simp] theorem State.view_integrate (s : State) (c : Nat) : (s.integrate c).view = s.view := by
  simp [State.integrate]

@[simp] theorem State.view_busQueue (s : State) (c : Nat) (q : List TxEntry) : (s.busQueue c q).view = s.view := by
  simp [State.busQueue]

@[simp] theorem State.view_limpDrop (s : State) (c : Nat) : (s.limpDrop c).view = s.view := by
  simp [State.limpDrop]

@[simp] theorem State.view_busMode (s : State) (old c : Nat) : (s.busMode old c).view = s.view := by
  simp [State.busMode]

@[simp] theorem State.view_withdraw (s : State) : s.withdraw.view = s.view := by
  simp [State.withdraw]

@[simp] theorem State.view_carryWaypoint (s : State) : s.carryWaypoint.view = s.view := by
  unfold State.carryWaypoint
  split <;> simp

@[simp] theorem State.view_updTo (s : State) (st result : Nat) : (s.updTo st result).view = s.view := by
  simp [State.updTo]

@[simp] theorem State.view_setAt (s : State) (t : Option Nat) : (s.setAt t).view = s.view := by
  simp [State.setAt]

@[simp] theorem State.view_dueStandby (s : State) : s.dueStandby.view = s.view := by
  simp [State.dueStandby]

@[simp] theorem State.view_ringMode (s : State) (old : Nat) : (s.ringMode old).view = s.view := by
  simp [State.ringMode]

@[simp] theorem State.view_modeOutputs (s : State) (old : Nat) : (s.modeOutputs old).view = s.view := by
  simp [State.modeOutputs]

@[simp] theorem State.view_retimeWaypoint (s : State) : s.retimeWaypoint.view = s.view := by
  unfold State.retimeWaypoint
  split <;> simp

@[simp] theorem State.view_announceStep (s : State) (n : Int) : (s.announceStep n).view = s.view := by
  simp [State.announceStep]

@[simp] theorem State.view_stepAtStandby (s : State) : s.stepAtStandby.view = s.view := by
  unfold State.stepAtStandby
  split <;> simp

/-! ### Channels, the standstill and the latched values (R203, R524) -/

@[simp] theorem State.view_modeChan (s : State) (c : Nat) : (s.modeChan c).view = s.view := by
  simp [State.modeChan]

@[simp] theorem State.view_stillEdge (s : State) : s.stillEdge.view = s.view := by
  simp [State.stillEdge]

@[simp] theorem State.view_swapCopies (s : State) : s.swapCopies.view = s.view := by
  simp [State.swapCopies]

@[simp] theorem State.view_latchChan (s : State) (c : Nat) : (s.latchChan c).view = s.view := by
  simp [State.latchChan]

@[simp] theorem State.view_latchEdge (s : State) : s.latchEdge.view = s.view := by
  simp [State.latchEdge]

/-! ### Resets of channels and groups (R207, R208) -/

@[simp] theorem State.view_clearReq (s : State) (c : Nat) : (s.clearReq c).view = s.view := by
  simp [State.clearReq]

@[simp] theorem State.view_resetGroupXings (s : State) (g : Nat) : (s.resetGroupXings g).view = s.view := by
  simp [State.resetGroupXings]

@[simp] theorem State.view_grpEvent (s : State) (g reason detail : Nat) : (s.grpEvent g reason detail).view = s.view := by
  simp [State.grpEvent]

@[simp] theorem State.view_resetChan (s : State) (c : Nat) : (s.resetChan c).view = s.view := by
  simp [State.resetChan]

@[simp] theorem State.view_groupReset (s : State) (g : Nat) : (s.groupReset g).view = s.view := by
  simp [State.groupReset]

@[simp] theorem State.view_chanReset (s : State) (c : Nat) : (s.chanReset c).view = s.view := by
  simp [State.chanReset]

@[simp] theorem State.view_afterReset (s : State) (c : Nat) : (s.afterReset c).view = s.view := by
  simp [State.afterReset]

@[simp] theorem State.view_groupResetEnd (s : State) (g : Nat) : (s.groupResetEnd g).view = s.view := by
  simp [State.groupResetEnd]

@[simp] theorem State.view_chanResetEnd (s : State) (c : Nat) : (s.chanResetEnd c).view = s.view := by
  simp [State.chanResetEnd]

@[simp] theorem State.view_resetEdge (s : State) : s.resetEdge.view = s.view := by
  simp [State.resetEdge]

/-! ### The Plotter at the edge (R277, R283) -/

@[simp] theorem State.view_stageCuts (s : State) : s.stageCuts.view = s.view := by
  simp only [State.stageCuts]
  repeat' split
  all_goals simp

@[simp] theorem State.view_dropWaiting (s : State) : s.dropWaiting.view = s.view := by
  simp [State.dropWaiting]

@[simp] theorem State.view_vsImu (s : State) (imu : Option (List Int)) (tv : Int) : (s.vsImu imu tv).view = s.view := by
  simp only [State.vsImu]
  repeat' split
  all_goals simp

@[simp] theorem State.view_vsTrim (s : State) (p : Nat) : (s.vsTrim p).view = s.view := by
  simp [State.vsTrim]

@[simp] theorem State.view_vsTick (s : State) (imu : Option (List Int)) (rate : Option Int) (prev : Nat) :
    (s.vsTick imu rate prev).view = s.view := by
  simp only [State.vsTick]
  repeat' split
  all_goals simp

@[simp] theorem State.view_pltEdge (s : State) (imu : Option (List Int)) (prev : Nat) :
    (s.pltEdge imu prev).view = s.view := by
  unfold State.pltEdge
  split
  · rfl
  rw [State.view_admitWaiting, State.view_dropWaiting, State.view_vsTick]
  refine (State.view_foldl (fun t i => ?_) _ _).trans (State.view_stageCuts s)
  split <;> simp

/-! ### ISO 11783 at the edge -/

@[simp] theorem State.view_modIso (s : State) (c : Nat) (f : Iso → Iso) : (s.modIso c f).view = s.view := by
  simp [State.modIso]

@[simp] theorem State.view_busSubmit (s : State) (c : Nat) (e : TxEntry) : (s.busSubmit c e).1.view = s.view := by
  unfold State.busSubmit
  dsimp only
  split <;> simp

@[simp] theorem State.view_isoSend (s : State) (c prio pgn dst src : Nat) (data : List Nat) :
    (s.isoSend c prio pgn dst src data).view = s.view := by
  simp [State.isoSend]

@[simp] theorem State.view_sendClaim (s : State) (c a : Nat) : (s.sendClaim c a).view = s.view := by
  simp [State.sendClaim]

@[simp] theorem State.view_isoClaim (s : State) (c a : Nat) : (s.isoClaim c a).view = s.view := by
  simp [State.isoClaim]

@[simp] theorem State.view_contend (s : State) (c a name : Nat) : (s.contend c a name).view = s.view := by
  simp only [State.contend]
  repeat' split
  all_goals simp

@[simp] theorem State.view_dmBody (s : State) (codes : List Nat) : (s.dmBody codes).2.view = s.view := by
  simp [State.dmBody]

@[simp] theorem State.view_isoMessage (s : State) (c prio pgn dst : Nat) (data : List Nat) :
    (s.isoMessage c prio pgn dst data).view = s.view := by
  unfold State.isoMessage
  split <;> simp

@[simp] theorem State.view_canPush (s : State) (c id : Nat) (stamp : Option Nat) (data : List Nat) :
    (s.canPush c id stamp data).view = s.view := by
  simp [State.canPush]

@[simp] theorem State.view_isoTake (s : State) (c id src pgn : Nat) (stamp : Option Nat) (data : List Nat) :
    (s.isoTake c id src pgn stamp data).view = s.view := by
  simp only [State.isoTake]
  repeat' split
  all_goals simp

@[simp] theorem State.view_tpTake (s : State) (c id src pgn : Nat) (stamp : Option Nat) (data : List Nat) :
    (s.tpTake c id src pgn stamp data).view = s.view := by
  simp only [State.tpTake]
  repeat' split
  all_goals simp

@[simp] theorem State.view_isoTick (s : State) (c : Nat) : (s.isoTick c).view = s.view := by
  simp only [State.isoTick]
  repeat' split
  all_goals simp

/-! ### The fabric, the blocks and the Binnacle -/

@[simp] theorem State.view_fabEdge (s : State) : s.fabEdge.view = s.view := by
  simp [State.fabEdge]

@[simp] theorem State.view_confEdge (s : State) : s.confEdge.view = s.view := by
  simp [State.confEdge]

@[simp] theorem State.view_quietEdge (s : State) : s.quietEdge.view = s.view := by
  simp [State.quietEdge]

@[simp] theorem State.view_modBin (s : State) (f : Bin → Bin) : (s.modBin f).view = s.view := by
  simp [State.modBin]

@[simp] theorem State.view_stressTick (s : State) : s.stressTick.view = s.view := by
  simp [State.stressTick]

@[simp] theorem State.view_binEvent (s : State) (reason detail : Nat) : (s.binEvent reason detail).view = s.view := by
  simp [State.binEvent]

@[simp] theorem State.view_ntcSample (s : State) (ohm : Nat) : (s.ntcSample ohm).view = s.view := by
  simp [State.ntcSample]

@[simp] theorem State.view_binTick (s : State) (ohm vlcdMv : Nat) : (s.binTick ohm vlcdMv).view = s.view := by
  simp [State.binTick]

end Sys2Proof.Machine

/-! Commits: what COMMIT answers, what an application leaves alone, and the edge. -/

namespace Sys2Proof.Machine

/-! ### One field that stands -/

/-- The field is in `t` as it is in `s`. -/
def Keeps (f : Fld) (s t : State) : Prop := t.get f = s.get f

theorem Keeps.refl (f : Fld) (s : State) : Keeps f s s := rfl

theorem Keeps.trans {f : Fld} {s t u : State} (h : Keeps f s t) (g : Keeps f t u) : Keeps f s u := Eq.trans g h

theorem keeps_of_regs {f : Fld} {s t : State} (h : t.regs = s.regs) : Keeps f s t := State.get_congr h f

theorem keeps_put {f : Fld} (s : State) {g : Fld} (v : Nat) (h : f.key ≠ g.key) : Keeps f s (s.put g v) :=
  State.get_put_other s h v

theorem keeps_puts {f : Fld} (s : State) (l : List (Fld × Nat)) (h : ∀ e ∈ l, f.key ≠ e.1.key) : Keeps f s (s.puts l) :=
  State.get_puts_other s l f h

theorem keeps_raise {f : Fld} (h : f.key ≠ R.LOG_LOST_VALUE.key) (s : State) (c : Nat) (ps : List Nat) :
    Keeps f s (s.raise c ps) :=
  State.get_raise s c ps h

theorem Keeps.ite {f : Fld} {c : Prop} [Decidable c] {s t u : State} (h : Keeps f s t) (g : Keeps f s u) :
    Keeps f s (if c then t else u) := by
  split_ifs
  · exact h
  · exact g

theorem Keeps.foldl {f : Fld} {α : Type} {g : State → α → State} (l : List α) (s : State)
    (h : ∀ t, ∀ a ∈ l, Keeps f t (g t a)) : Keeps f s (l.foldl g s) :=
  List.foldlRecOn (motive := Keeps f s) l g (Keeps.refl f s) fun t ht a ha => ht.trans (h t a ha)

/-! ### What a region's owner does (R106, R169, R200, R253, R318, R345, R423) -/

/-- Helm notes the values before in its channels alone. -/
theorem State.noteOld_eq (s old : State) (e : Nat × Nat × Nat) :
    s.noteOld old e = { s with hlm.chans := (s.noteOld old e).hlm.chans } := by
  unfold State.noteOld
  split
  · dsimp only
    split_ifs <;> rfl
  · rfl

theorem State.foldl_noteOld_eq (old : State) (l : List (Nat × Nat × Nat)) (s : State) :
    l.foldl (fun t e => t.noteOld old e) s =
      { s with hlm.chans := (l.foldl (fun t e => t.noteOld old e) s).hlm.chans } :=
  List.foldlRecOn (motive := fun t : State => t = { s with hlm.chans := t.hlm.chans }) l _ rfl
    fun t ht e _ => by rw [State.noteOld_eq, ht]

theorem keeps_result_coilRefs (s : State) : Keeps R.ALM_COMMIT_RESULT s s.coilRefs := by
  refine Keeps.foldl _ s fun t n _ => Keeps.trans (Keeps.ite (keeps_put t _ ?_) (Keeps.refl _ t)) (keeps_of_regs rfl)
  simp only [R.ALM_COMMIT_RESULT, R.DIO_PC_T_TCOIL, Fld.at]
  omega

/-- R169: a slot map that does not fit takes the fields of its slots back. -/
theorem keeps_result_slotMapCheck (s old : State) (r : Nat) : Keeps R.ALM_COMMIT_RESULT s (s.slotMapCheck old r) := by
  have hback (c : Bool) (t : State) (a : Nat) (ha : a ∈ List.range 64) : Keeps R.ALM_COMMIT_RESULT t
      (t.puts ((if c then [R.MRD_CSLOT_EN a, R.MRD_CSLOT_LEN a, R.MRD_CSLOT_ORDER a]
        else [R.MRD_DSLOT_EN a, R.MRD_DSLOT_LEN a, R.MRD_DSLOT_ORDER a]).map fun f => (f, old.get f))) := by
    have hlt := List.mem_range.1 ha
    refine keeps_puts t _ ?_
    cases c
    all_goals
      simp only [List.forall_mem_map, if_true, Bool.false_eq_true, if_false, List.forall_mem_cons, List.not_mem_nil,
        false_imp_iff, implies_true, and_true, R.ALM_COMMIT_RESULT, R.MRD_CSLOT_EN, R.MRD_CSLOT_LEN, R.MRD_CSLOT_ORDER,
        R.MRD_DSLOT_EN, R.MRD_DSLOT_LEN, R.MRD_DSLOT_ORDER, Fld.at]
      omega
  have hrej (t : State) (c : Bool) (v : Nat) : Keeps R.ALM_COMMIT_RESULT t
      (t.put (if c then R.MRD_MAPSTAT_REJ_C else R.MRD_MAPSTAT_REJ_D) v) := by
    refine keeps_put t v ?_
    cases c <;> decide
  unfold State.slotMapCheck
  refine Keeps.ite (((Keeps.foldl _ s fun t a ha => hback _ t a ha).trans (hrej _ _ 1)).trans
    (keeps_raise (by decide) _ _ _)) (keeps_put s _ (by decide))

theorem keeps_result_reseed (s : State) (i : Nat) : Keeps R.ALM_COMMIT_RESULT s (s.reseed i) := by
  refine Keeps.trans (t := s.modSrc i _) (keeps_of_regs rfl) (keeps_put _ 0 ?_)
  simp only [R.ALM_COMMIT_RESULT, R.PLT_SRC_RATE_VALUE, Fld.at]
  omega

theorem keeps_result_unlock (s : State) (i why : Nat) : Keeps R.ALM_COMMIT_RESULT s (s.unlock i why) := by
  refine (keeps_result_reseed s i).trans (Keeps.trans (keeps_puts _ _ ?_) (keeps_raise (by decide) _ 48 [i, why]))
  simp only [List.forall_mem_cons, List.not_mem_nil, false_imp_iff, implies_true, and_true, R.ALM_COMMIT_RESULT,
    R.PLT_SRC_STAT_STATE, R.PLT_SRC_STAT_REASON, Fld.at]
  omega

theorem keeps_result_setTai (s : State) (v : Bool) : Keeps R.ALM_COMMIT_RESULT s (s.setTai v) := by
  refine (Keeps.refl _ s).ite ((keeps_put s (b2n v) (by decide)).trans (Keeps.foldl _ _ fun t i _ => ?_))
  exact (keeps_result_unlock t i 4).ite ((keeps_result_reseed t i).ite (Keeps.refl _ t))

theorem keeps_result_discTo (s : State) (st : Nat) : Keeps R.ALM_COMMIT_RESULT s (s.discTo st) := by
  refine (Keeps.refl _ s).ite (Keeps.trans ?_ (keeps_raise (by decide) _ 3 _))
  exact keeps_put ({ s with chr.inTol := 0, chr.outTol := 0 } : State) st (by decide)

theorem keeps_result_freeRun (s : State) : Keeps R.ALM_COMMIT_RESULT s s.freeRun := by
  refine Keeps.trans (Keeps.trans ?_ (keeps_puts _ _ ?_)) (keeps_result_setTai _ false)
  · exact keeps_result_discTo ({ s with chr.rateWant := 0 } : State) 0
  · simp only [List.forall_mem_cons, List.not_mem_nil, false_imp_iff, implies_true, and_true]
    decide

theorem keeps_result_useSource (s : State) (code : Nat) : Keeps R.ALM_COMMIT_RESULT s (s.useSource code) := by
  have hput : Keeps R.ALM_COMMIT_RESULT s (s.put R.CHR_DISC_SOURCE code) := keeps_put s code (by decide)
  unfold State.useSource
  dsimp only
  split_ifs
  · exact hput
  · exact Keeps.trans (t := { s.put R.CHR_DISC_SOURCE code with chr.rateEst := (s.ref code).rate }) hput
      (keeps_result_discTo _ 1)

theorem keeps_result_pickSource (s : State) : Keeps R.ALM_COMMIT_RESULT s s.pickSource := by
  have huse (o : Option Nat) (c : Nat → Prop) [DecidablePred c] : Keeps R.ALM_COMMIT_RESULT s
      (match o with
        | some a => if c a then s else s.useSource a
        | none => s) := by
    cases o with
    | none => exact Keeps.refl _ s
    | some a => exact (Keeps.refl _ s).ite (keeps_result_useSource s a)
  exact (Keeps.refl _ s).ite (huse _ _)

theorem State.announce_regs (s : State) (e type tick arg : Nat) : (s.announce e type tick arg).regs = s.regs := by
  unfold State.announce
  split_ifs <;> rfl

theorem keeps_result_chronoCommitted (s : State) : Keeps R.ALM_COMMIT_RESULT s s.chronoCommitted := by
  have htai : Keeps R.ALM_COMMIT_RESULT s (s.put R.CHR_DISC_TAI_UTC (s.get R.CHR_REF_TAI_UTC)) :=
    keeps_put s _ (by decide)
  have hstop (t : State) : Keeps R.ALM_COMMIT_RESULT t
      (({ t with chr.step := none, chr.stepWait := none } : State).put R.CHR_DISC_STEP_PENDING 0).freeRun :=
    Keeps.trans (keeps_put ({ t with chr.step := none, chr.stepWait := none } : State) 0 (by decide))
      (keeps_result_freeRun _)
  unfold State.chronoCommitted
  dsimp only
  split_ifs
  · exact htai
  · exact (htai.trans (keeps_of_regs (State.announce_regs _ 4 0 0 0))).trans (hstop _)
  · exact htai.trans (hstop _)
  · exact htai
  · exact htai.trans (keeps_result_pickSource _)

theorem keeps_result_blackChanged (s : State) (n : Nat) : Keeps R.ALM_COMMIT_RESULT s (s.blackChanged n) := by
  have hmod (g : SxPort → SxPort) : Keeps R.ALM_COMMIT_RESULT s (s.modSx n g) := keeps_of_regs rfl
  exact (hmod _).ite ((hmod _).trans (keeps_raise (by decide) _ 72 _))

/-- What a region's owner does leaves what the commit answered. -/
theorem keeps_result_committed (s old : State) (r : Nat) (l : List (Nat × Nat × Nat)) :
    Keeps R.ALM_COMMIT_RESULT s (s.committed old r l) := by
  have hsetver (k : Nat) : Keeps R.ALM_COMMIT_RESULT s
      (s.put (R.SXT_PIPE_STAT_SETVER k) (s.get (R.SXT_PIPE_STAT_SETVER k) + 1)) := by
    refine keeps_put s _ ?_
    simp only [R.ALM_COMMIT_RESULT, R.SXT_PIPE_STAT_SETVER, Fld.at]
    omega
  unfold State.committed
  dsimp only
  split_ifs
  · exact keeps_of_regs (by rw [State.foldl_noteOld_eq])
  · exact keeps_result_coilRefs s
  · exact keeps_result_slotMapCheck s old r
  · exact keeps_of_regs rfl
  · exact Keeps.refl _ s
  · exact (hsetver _).trans (Keeps.foldl _ _ fun t n _ => (keeps_result_blackChanged t n).ite (Keeps.refl _ t))
  · exact keeps_of_regs rfl
  · exact keeps_result_chronoCommitted s
  · exact Keeps.refl _ s

end Sys2Proof.Machine

/-! COMMIT, COMMIT_APPLY and the commits at TICK_EDGE (O22). -/

namespace Sys2Proof.Machine

/-! ### COMMIT (R82, R83) -/

theorem exec_commit (r : BitVec 8) (p : Fin 10000) (s : State) :
    exec (.commit r p) s = .next (((s.atPhase p).put R.ALM_COMMIT_REGION r.toNat).commitGo r.toNat) := rfl

theorem State.any_commits_of_pending {s : State} {r e : Nat} (h : (r, e) ∈ s.commits) :
    (s.commits.any fun c => c.1 == r) = true :=
  List.any_eq_true.2 ⟨(r, e), h, beq_self_eq_true r⟩

theorem State.any_commits_of_none {s : State} {r : Nat} (h : ∀ c ∈ s.commits, c.1 ≠ r) :
    (s.commits.any fun c => c.1 == r) = false := by
  simpa only [List.any_eq_false, beq_iff_eq] using h

theorem State.commitGo_unassigned {s : State} {r : Nat} (h : r ∉ regions) :
    s.commitGo r = s.put R.ALM_COMMIT_RESULT 4 := by
  simp [State.commitGo, h]

theorem State.commitGo_pending {s : State} {r e : Nat} (h : r ∈ regions) (hp : (r, e) ∈ s.commits) :
    s.commitGo r = (s.put R.ALM_COMMIT_RESULT 3).raise 115 [1] := by
  simp [State.commitGo, h, State.any_commits_of_pending hp]

/-- R82: the edge for which a commit asked at the phase is accepted. -/
def State.commitTick (s : State) : Nat := if s.chr.phase ≤ 9800 then s.chr.tick + 1 else s.chr.tick + 2

theorem State.commitGo_accepted {s : State} {r : Nat} (h : r ∈ regions) (hp : ∀ c ∈ s.commits, c.1 ≠ r) :
    s.commitGo r =
      ({ s with commits := s.commits ++ [(r, s.commitTick)] } : State).put R.ALM_COMMIT_RESULT 1 := by
  simp [State.commitGo, State.commitTick, h, State.any_commits_of_none hp]

theorem State.commitTick_asked (s : State) (r : Nat) (p : Fin 10000) :
    ((s.atPhase p).put R.ALM_COMMIT_REGION r).commitTick = if p.val ≤ 9800 then s.chr.tick + 1 else s.chr.tick + 2 := by
  have hp : p.val % 10000 = p.val := Nat.mod_eq_of_lt p.isLt
  simp only [State.commitTick, State.put_chr, State.atPhase, hp]

/-- An accepted COMMIT is the two registers, the phase and the commit that waits. -/
theorem exec_commit_accepted {s : State} {r : BitVec 8} (p : Fin 10000) (h : r.toNat ∈ regions)
    (hp : ∀ c ∈ s.commits, c.1 ≠ r.toNat) :
    exec (.commit r p) s = .next ((({ s with
      commits := s.commits ++ [(r.toNat, if p.val ≤ 9800 then s.chr.tick + 1 else s.chr.tick + 2)]
      chr.phase := p.val } : State).put R.ALM_COMMIT_REGION r.toNat).put R.ALM_COMMIT_RESULT 1) := by
  have hmod : p.val % 10000 = p.val := Nat.mod_eq_of_lt p.isLt
  rw [exec_commit, State.commitGo_accepted h (by simpa [State.atPhase] using hp), State.commitTick_asked]
  simp only [State.put, State.atPhase, hmod]

theorem State.get_region_put_result (s : State) (r : BitVec 8) (v : Nat) :
    ((s.put R.ALM_COMMIT_REGION r.toNat).put R.ALM_COMMIT_RESULT v).get R.ALM_COMMIT_REGION = r.toNat := by
  rw [State.get_put_other _ (by decide), State.get_put_same]
  exact Nat.mod_eq_of_lt r.isLt

theorem commit_accepted (s : State) (r : BitVec 8) (p : Fin 10000) (h : r.toNat ∈ regions)
    (hp : ∀ c ∈ s.commits, c.1 ≠ r.toNat) :
    ∃ t, exec (.commit r p) s = .next t ∧ t.get R.ALM_COMMIT_RESULT = 1 ∧ t.get R.ALM_COMMIT_REGION = r.toNat ∧
      t.commits = s.commits ++ [(r.toNat, if p.val ≤ 9800 then s.chr.tick + 1 else s.chr.tick + 2)] ∧
      OnlyRegs [R.ALM_COMMIT_REGION, R.ALM_COMMIT_RESULT] { s with commits := t.commits, chr.phase := p.val } t :=
  ⟨_, exec_commit_accepted p h hp, State.get_put_same _ _ _, State.get_region_put_result _ r 1, by simp,
    onlyRegs_trans (onlyRegs_put _ _ _) (onlyRegs_put _ _ _)⟩

theorem commit_pending (s : State) (r : BitVec 8) (p : Fin 10000) (e : Nat) (h : r.toNat ∈ regions)
    (hp : (r.toNat, e) ∈ s.commits) :
    ∃ t, exec (.commit r p) s = .next t ∧ t.get R.ALM_COMMIT_RESULT = 3 ∧ t.commits = s.commits ∧
      t.staged = s.staged ∧ LogGains 115 [1] (s.atPhase p) t := by
  refine ⟨_, by rw [exec_commit, State.commitGo_pending h (e := e) (by simpa [State.atPhase] using hp)], ?_, ?_, ?_, ?_⟩
  · rw [State.get_raise _ _ _ (by decide), State.get_put_same]
    rfl
  · simp [State.atPhase]
  · simp [State.atPhase]
  · exact (logGains_raise _ 115 [1]).of_sameRegs (sameRegs_trans (sameRegs_put (s.atPhase p) _ _) (sameRegs_put _ _ _))
      (by simp) (by simp) (by decide)

theorem commit_unassigned (s : State) (r : BitVec 8) (p : Fin 10000) (h : r.toNat ∉ regions) :
    ∃ t, exec (.commit r p) s = .next t ∧ t.get R.ALM_COMMIT_RESULT = 4 ∧ t.commits = s.commits :=
  ⟨_, by rw [exec_commit, State.commitGo_unassigned h], State.get_put_same _ _ _, by simp [State.atPhase]⟩

/-! ### COMMIT_APPLY (R82) -/

theorem exec_commitApply (r : BitVec 8) (s : State) : exec (.commitApply r) s = .next (s.commitApply r.toNat) := rfl

/-- The values staged for the region act together, and the staging copies and the pending bit go. -/
def State.stagedIn (s : State) (r : Nat) : State :=
  ({ s with
    regs := (s.staged.filter fun e => e.1 == r).foldl (fun m e => cellStore e.2.1 e.2.2 m) s.regs
    staged := s.staged.filter fun e => e.1 != r
    commits := s.commits.filter fun c => c.1 != r } : State).put R.ALM_COMMIT_RESULT 2

theorem State.commitApply_due {s : State} {r e : Nat} (h : (r, e) ∈ s.commits) (he : e ≤ s.chr.tick) :
    s.commitApply r = (s.stagedIn r).committed s r (s.staged.filter fun y => y.1 == r) :=
  if_pos (List.any_eq_true.2 ⟨(r, e), h, by simpa using he⟩)

theorem State.commitApply_not_due {s : State} {r : Nat} (h : ∀ e, (r, e) ∈ s.commits → s.chr.tick < e) :
    s.commitApply r = s := by
  refine if_neg fun hany => ?_
  obtain ⟨⟨r', e⟩, hmem, hc⟩ := List.any_eq_true.1 hany
  obtain ⟨rfl, hle⟩ : r' = r ∧ e ≤ s.chr.tick := by simpa using hc
  exact absurd hle (Nat.not_le.2 (h e hmem))

/-- A register file into which values are stored in turn holds, of each key, the last of them. -/
theorem cellGet_foldl_cellStore (k : Nat) (l : List (Nat × Nat × Nat)) (m : List (Nat × Nat)) :
    (cellGet k (l.foldl (fun m e => cellStore e.2.1 e.2.2 m) m)).getD (resetOf k) =
      (((l.filter fun e => e.2.1 == k).getLast?).map (·.2.2)).getD ((cellGet k m).getD (resetOf k)) := by
  induction l using List.reverseRecOn with
  | nil => rfl
  | append_singleton l e ih =>
    rw [List.foldl_append, List.foldl_cons, List.foldl_nil, cellGet_cellStore, List.filter_append]
    by_cases h : k = e.2.1
    · subst h
      simp
    · have hf : [e].filter (fun x => x.2.1 == k) = [] := by simpa using Ne.symm h
      rw [if_neg h, hf, List.append_nil, ih]

theorem State.get_stagedIn (s : State) (r : Nat) {f : Fld} (h : f.key ≠ R.ALM_COMMIT_RESULT.key) :
    (s.stagedIn r).get f =
      (((s.staged.filter fun y => y.1 == r && y.2.1 == f.key).getLast?).map (·.2.2)).getD (s.get f) := by
  have hcomm : (fun y : Nat × Nat × Nat => y.1 == r && y.2.1 == f.key) = fun y => y.2.1 == f.key && y.1 == r :=
    funext fun y => Bool.and_comm _ _
  rw [State.stagedIn, State.get_put_other _ h, State.get, cellGet_foldl_cellStore, List.filter_filter, hcomm]
  rfl

theorem State.get_stagedIn_of_unstaged {s : State} {r : Nat} {f : Fld} (h : f.key ≠ R.ALM_COMMIT_RESULT.key)
    (hs : ∀ y ∈ s.staged, y.1 = r → y.2.1 ≠ f.key) : (s.stagedIn r).get f = s.get f := by
  have hnil : s.staged.filter (fun y => y.1 == r && y.2.1 == f.key) = [] := by
    simpa [List.filter_eq_nil_iff] using hs
  rw [State.get_stagedIn s r h, hnil]
  rfl

theorem State.view_commitApply_due {s : State} {r e : Nat} (h : (r, e) ∈ s.commits) (he : e ≤ s.chr.tick) :
    (s.commitApply r).view = { s.view with
      staged := s.staged.filter fun y => y.1 != r
      commits := s.commits.filter fun c => c.1 != r } := by
  rw [State.commitApply_due h he, State.view_committed, State.stagedIn, State.view_put]
  rfl

theorem State.get_result_commitApply_due {s : State} {r e : Nat} (h : (r, e) ∈ s.commits) (he : e ≤ s.chr.tick) :
    (s.commitApply r).get R.ALM_COMMIT_RESULT = 2 := by
  have hkeep := keeps_result_committed (s.stagedIn r) s r (s.staged.filter fun y => y.1 == r)
  rw [State.commitApply_due h he, hkeep, State.stagedIn, State.get_put_same]
  rfl

/-! Of most regions the owner changes no register. -/

theorem State.committed_group (s old : State) {r : Nat} (l : List (Nat × Nat × Nat)) (h : r < 8) :
    s.committed old r l = { s with hlm.chans := (s.committed old r l).hlm.chans } := by
  rw [show s.committed old r l = l.foldl (fun t e => t.noteOld old e) s from if_pos h]
  exact State.foldl_noteOld_eq old l s

theorem State.committed_no_owner (s old : State) {r : Nat} (l : List (Nat × Nat × Nat))
    (h : r ∈ [0x20, 0x21, 0x22, 0x34, 0x50]) : s.committed old r l = s := by
  simp only [List.mem_cons, List.not_mem_nil, or_false] at h
  rcases h with rfl | rfl | rfl | rfl | rfl <;> rfl

theorem State.committed_bus (s old : State) {r : Nat} (l : List (Nat × Nat × Nat))
    (h : r ∈ [0x40, 0x41, 0x42, 0x43, 0x44, 0x45]) :
    s.committed old r l = { s with bus := (s.committed old r l).bus } := by
  simp only [List.mem_cons, List.not_mem_nil, or_false] at h
  rcases h with rfl | rfl | rfl | rfl | rfl | rfl <;> rfl

theorem commitApply_acts (s : State) (r : BitVec 8) (e : Nat) (h : (r.toNat, e) ∈ s.commits) (he : e ≤ s.chr.tick) :
    ∃ u t : State, exec (.commitApply r) s = .next t ∧
      t = u.committed s r.toNat (s.staged.filter fun y => y.1 == r.toNat) ∧ t.get R.ALM_COMMIT_RESULT = 2 ∧
      (∀ c, c ∈ t.commits ↔ c ∈ s.commits ∧ c.1 ≠ r.toNat) ∧ (∀ x, x ∈ t.staged ↔ x ∈ s.staged ∧ x.1 ≠ r.toNat) ∧
      u = { s with regs := u.regs, staged := u.staged, commits := u.commits } ∧
      (∀ (f : Fld) (x : Nat × Nat × Nat), f.key ≠ R.ALM_COMMIT_RESULT.key →
        (s.staged.filter fun y => y.1 == r.toNat && y.2.1 == f.key).getLast? = some x → u.get f = x.2.2) ∧
      (∀ f : Fld, f.key ≠ R.ALM_COMMIT_RESULT.key → (∀ y ∈ s.staged, y.1 = r.toNat → y.2.1 ≠ f.key) →
        u.get f = s.get f) ∧
      (r.toNat < 8 → t = { u with hlm.chans := t.hlm.chans }) ∧
      (r.toNat ∈ [0x20, 0x21, 0x22, 0x34, 0x50] → t = u) ∧
      (r.toNat ∈ [0x40, 0x41, 0x42, 0x43, 0x44, 0x45] → t = { u with bus := t.bus }) := by
  have hdue := State.commitApply_due h he
  have hview := State.view_commitApply_due h he
  refine ⟨s.stagedIn r.toNat, s.commitApply r.toNat, exec_commitApply r s, hdue, State.get_result_commitApply_due h he,
    fun c => ?_, fun x => ?_, rfl, fun f x hf hx => ?_, fun f hf hs => State.get_stagedIn_of_unstaged hf hs,
    fun hr => ?_, fun hr => ?_, fun hr => ?_⟩
  · rw [show (s.commitApply r.toNat).commits = _ from congrArg EdgeView.commits hview]
    simp
  · rw [show (s.commitApply r.toNat).staged = _ from congrArg EdgeView.staged hview]
    simp
  · rw [State.get_stagedIn s _ hf, hx]
    rfl
  · rw [hdue]
    exact State.committed_group _ s _ hr
  · rw [hdue]
    exact State.committed_no_owner _ s _ hr
  · rw [hdue]
    exact State.committed_bus _ s _ hr

/-! ### The commits at the edge (R203) -/

theorem State.tick_commitApply (s : State) (r : Nat) : (s.commitApply r).chr.tick = s.chr.tick := by
  by_cases h : ∃ e, (r, e) ∈ s.commits ∧ e ≤ s.chr.tick
  · obtain ⟨e, hmem, hle⟩ := h
    exact congrArg EdgeView.tick (State.view_commitApply_due hmem hle)
  · rw [State.commitApply_not_due fun e he => Nat.not_le.1 fun hle => h ⟨e, he, hle⟩]

/-- What still waits after a region's commits are applied waited before, and is not due where it is of that region. -/
theorem State.mem_commits_commitApply {s : State} {r : Nat} {c : Nat × Nat} (h : c ∈ (s.commitApply r).commits) :
    c ∈ s.commits ∧ (c.1 = r → s.chr.tick < c.2) := by
  by_cases hdue : ∃ e, (r, e) ∈ s.commits ∧ e ≤ s.chr.tick
  · obtain ⟨e, hmem, hle⟩ := hdue
    rw [show (s.commitApply r).commits = _ from congrArg EdgeView.commits (State.view_commitApply_due hmem hle)] at h
    obtain ⟨hc, hne⟩ := List.mem_filter.1 h
    exact ⟨hc, fun heq => absurd heq (by simpa using hne)⟩
  · have hlate : ∀ e, (r, e) ∈ s.commits → s.chr.tick < e := fun e he => Nat.not_le.1 fun hle => hdue ⟨e, he, hle⟩
    rw [State.commitApply_not_due hlate] at h
    exact ⟨h, fun heq => hlate c.2 (heq ▸ h)⟩

theorem State.tick_foldl_commitApply (l : List Nat) (s : State) : (l.foldl State.commitApply s).chr.tick = s.chr.tick :=
  List.foldlRecOn (motive := fun t : State => t.chr.tick = s.chr.tick) l _ rfl
    fun t ht r _ => (t.tick_commitApply r).trans ht

theorem State.mem_commits_foldl_commitApply {l : List Nat} {s : State} {c : Nat × Nat}
    (h : c ∈ (l.foldl State.commitApply s).commits) : c ∈ s.commits ∧ (c.1 ∈ l → s.chr.tick < c.2) := by
  induction l generalizing s with
  | nil => exact ⟨h, fun hm => absurd hm List.not_mem_nil⟩
  | cons r l ih =>
    obtain ⟨hmem, hlate⟩ := ih h
    obtain ⟨hs, hr⟩ := State.mem_commits_commitApply hmem
    refine ⟨hs, fun hm => ?_⟩
    rcases List.mem_cons.1 hm with heq | hl
    · exact hr heq
    · exact s.tick_commitApply r ▸ hlate hl

/-- R203 step 2: no commit that is due waits on. -/
theorem State.mem_commits_commitEdge {s : State} {c : Nat × Nat} (h : c ∈ s.commitEdge.commits) :
    c ∈ s.commits ∧ s.chr.tick < c.2 := by
  obtain ⟨hc, hlate⟩ := State.mem_commits_foldl_commitApply h
  exact ⟨hc, hlate (List.mem_map.2 ⟨c, hc, rfl⟩)⟩

theorem State.tick_commitEdge (s : State) : s.commitEdge.chr.tick = s.chr.tick := State.tick_foldl_commitApply _ s

/-! ### The writes and the mode at the edge (R81, R84) -/

theorem State.view_tickAct (s : State) (e : Nat × Nat) : (s.tickAct e).view = s.view := by
  unfold State.tickAct
  split <;> rfl

theorem State.view_tickWrites (s : State) : s.tickWrites.view = { s.view with tickW := [] } :=
  State.view_foldl State.view_tickAct s.tickW { s with tickW := [] }

/-- What waits to act, where the staged values and the commits are discarded (R84). -/
def EdgeView.discarded (v : EdgeView) : EdgeView := { v with staged := [], commits := [] }

theorem State.view_enterMode (s : State) (m cause : Nat) :
    (s.enterMode m cause).view = if m = mLIMP then s.view.discarded else s.view := by
  have hdiscard (t : State) : t.discardStaged.view = t.view.discarded := rfl
  unfold State.enterMode
  simp only [State.view_ite, State.view_stepAtStandby, State.view_modeOutputs, State.view_put, State.view_mk,
    EdgeView.mk_view, State.view_sysRec, State.view_puts, hdiscard, ite_self]

theorem State.view_modeEdge (s : State) : s.modeEdge.view = s.view ∨ s.modeEdge.view = s.view.discarded := by
  unfold State.modeEdge
  dsimp only
  split
  · split_ifs
    · exact .inl rfl
    · rw [State.view_enterMode]
      split_ifs
      · exact .inr rfl
      · exact .inl rfl
  · exact .inl rfl

theorem State.view_newMode (s : State) : s.newMode.view = s.view ∨ s.newMode.view = s.view.discarded := by
  have h : s.newMode.view = s.modeEdge.view := by simp [State.newMode]
  rw [h]
  exact s.view_modeEdge

/-! ### TICK_EDGE (R100, R203) -/

/-- What the edge changes of the view before the change of mode: the writes and the commits of the tick that ends act. -/
def State.edgeCommitted (s : State) : State := (s.advance.rateEdge.latchSnaps.hovEdge.tickWrites).commitEdge

/-- The edge as far as the change of mode. -/
def State.edgeActed (s : State) (x : TickIn) : State :=
  (((((s.advance.rateEdge.latchSnaps).hovEdge).actEdge.mbxEdge (s.chr.tick + 1)).ringInputs.puts
    [(R.PWR_SUPPLY_UB_MV, x.ubMv), (R.PWR_SUPPLY_UV_MV, x.uvMv)]).lateEdges x.late).dioEdge x

/-- The edge from the change of mode on, after `s` and with the acts of the blocks in `u`. -/
def State.edgeEnded (s u : State) (x : TickIn) : State :=
  let v := u.newMode.shutdownEdge.annEdge.resetEdge.latchEdge.stillEdge
  let v := if s.plt.up then v.pltEdge (if s.dio.imuFault then none else some s.dio.imu) s.chr.base else v
  let v := ((v.camSync.quietEdge.confEdge.fabEdge).isoTick 0).isoTick 1
  if s.mode = mRESET ∨ s.mode = mLOAD then v else v.binTick x.ntcOhm x.vlcdMv

theorem exec_tickEdge {s : State} (x : TickIn) (h : s.chr.running = true) :
    exec (.tickEdge x) s = .next (s.edgeEnded (s.edgeActed x) x) := by
  have hrun : ¬ (!s.chr.running) = true := by simp [h]
  exact if_neg hrun

theorem State.view_edgeActed (s : State) (x : TickIn) : (s.edgeActed x).view = s.edgeCommitted.view := by
  simp [State.edgeActed, State.edgeCommitted, State.actEdge]

theorem State.view_edgeEnded (s u : State) (x : TickIn) : (s.edgeEnded u x).view = u.newMode.view := by
  simp [State.edgeEnded]

/-- Of the view, the edge changes what the writes and the commits and the change of mode change. -/
theorem State.view_tickEdge (s : State) (x : TickIn) :
    (s.edgeEnded (s.edgeActed x) x).view = s.edgeCommitted.view ∨
      (s.edgeEnded (s.edgeActed x) x).view = s.edgeCommitted.view.discarded := by
  rw [State.view_edgeEnded, ← s.view_edgeActed x]
  exact State.view_newMode _

/-- Before its commits act, the edge leaves those that wait. -/
theorem State.commits_edge (s : State) : (s.advance.rateEdge.latchSnaps.hovEdge.tickWrites).commits = s.commits := by
  have h : (s.advance.rateEdge.latchSnaps.hovEdge.tickWrites).view = { s.advance.view with tickW := [] } := by
    simp [State.view_tickWrites]
  exact congrArg EdgeView.commits h

/-- What still waits after the commits acted and the mode changed waited between them, at the same tick. -/
theorem State.mem_commits_of_view {t u : State} {c : Nat × Nat} (h : t.view = u.view ∨ t.view = u.view.discarded)
    (hc : c ∈ t.commits) : c ∈ u.commits ∧ t.chr.tick = u.chr.tick := by
  rcases h with hv | hv
  · have hcommits : t.commits = u.commits := congrArg EdgeView.commits hv
    exact ⟨hcommits ▸ hc, congrArg EdgeView.tick hv⟩
  · have hnil : t.commits = [] := congrArg EdgeView.commits hv
    exact absurd (hnil ▸ hc) List.not_mem_nil

theorem State.mem_commits_tickEdge {s : State} {x : TickIn} {c : Nat × Nat}
    (h : c ∈ (s.edgeEnded (s.edgeActed x) x).commits) :
    c ∈ s.commits ∧ (s.edgeEnded (s.edgeActed x) x).chr.tick < c.2 := by
  obtain ⟨hc, htick⟩ := State.mem_commits_of_view (s.view_tickEdge x) h
  obtain ⟨hmem, hlt⟩ := State.mem_commits_commitEdge hc
  rw [htick, State.edgeCommitted, State.tick_commitEdge]
  exact ⟨s.commits_edge ▸ hmem, hlt⟩

/-- Settles O22. COMMIT by its three answers; COMMIT_APPLY by the register file it stores into and what each owner leaves;
TICK_EDGE by R203 step 2. That TICK_EDGE applies the commits that are due, so that COMMIT_APPLY acts where it has not, is the
model's deduction (log 19), as is that the discard of R84 leaves the RESULT (log 52). -/
theorem commits : Obligations.Commits := by
  unfold Obligations.Commits
  exact ⟨commit_accepted, commit_pending, commit_unassigned, commitApply_acts,
    fun s r h => by rw [exec_commitApply, State.commitApply_not_due h],
    fun s x h => ⟨_, exec_tickEdge x h, fun _ hc => State.mem_commits_tickEdge hc⟩⟩

end Sys2Proof.Machine

/-! REGISTER_WRITE by the change class of the fields it meets (O24). -/

namespace Sys2Proof.Machine

/-! ### What a write brings to a target (R13, R81) -/

theorem State.regWrite_of_target {s : State} {a v : Nat} {g : Target} (hm : s.mode ≠ mRESET) (hg : s.target a = some g)
    (hv : g.reserved v = 0) : s.regWrite a v = .next (s.wordWrite a g v) := by
  have hv' : ¬ g.reserved v ≠ 0 := not_not.2 hv
  simp only [State.regWrite, if_neg hm, hg, if_neg hv']

theorem State.target_of_winAt {s : State} {a i off : Nat} {w : Win} (ha : a % 4 = 0) (hw : s.winAt a = some (w, i, off)) :
    s.target a = some (s.winTarget w i off) := by
  simp only [State.target, ha, ne_eq, not_true_eq_false, if_false, hw]

/-- The values that a word brings to the fields of a target. -/
def Target.values (t : Target) (v : Nat) : List (RField × Nat) := t.fields.map fun f => (f, bits v f.lo f.fld.w)

/-- Of them, those that COMMIT fields do not show yet (R82). -/
def State.commitValues (s : State) (l : List (RField × Nat)) : List (Fld × Nat) :=
  (l.filter fun x => x.1.acc == .rw && x.1.cls == .commit && x.2 != s.seen x.1.fld).map fun x => (x.1.fld, x.2)

/-- Of them, those that HALT fields do not hold yet (R202). -/
def State.haltValues (s : State) (l : List (RField × Nat)) : List (Fld × Nat) :=
  (l.filter fun x => x.1.acc == .rw && x.1.cls == .halt && x.2 != s.get x.1.fld).map fun x => (x.1.fld, x.2)

theorem State.fieldsWrite_eq {s : State} {t : Target} (blk v : Nat)
    (h : ∀ f ∈ t.fields, s.limpIgnores blk t f = false ∧ s.noMan t f = false) :
    s.fieldsWrite blk t v =
      ((((t.values v).foldl (fun u x => u.plainWrite x.1 x.2) s).stageWrite t.region
        (s.commitValues (t.values v))).haltWrite t blk (s.haltValues (t.values v))) := by
  have hall : t.fields.filter (fun f => !s.limpIgnores blk t f && !s.noMan t f) = t.fields :=
    List.filter_eq_self.2 fun f hf => by simp [h f hf]
  simp only [State.fieldsWrite, hall]
  rfl

theorem State.limpIgnores_of_mode {s : State} (h : s.mode ≠ mLIMP) (blk : Nat) (t : Target) (f : RField) :
    s.limpIgnores blk t f = false := by
  simp [State.limpIgnores, h]

theorem State.noMan_of_window {t : Target} (h : t.reg = none) (s : State) (f : RField) : s.noMan t f = false := by
  simp [State.noMan, h]

theorem State.stageWrite_nil (s : State) (r : Nat) : s.stageWrite r [] = s := rfl

theorem State.haltWrite_nil (s : State) (t : Target) (blk : Nat) : s.haltWrite t blk [] = s := rfl

/-- Fields of the classes COMMIT and HALT do not take their values at once. -/
theorem State.foldl_plainWrite_of_held {l : List (RField × Nat)} (s : State)
    (h : ∀ x ∈ l, x.1.acc = .rw ∧ (x.1.cls = .commit ∨ x.1.cls = .halt)) :
    l.foldl (fun u x => u.plainWrite x.1 x.2) s = s := by
  refine List.foldlRecOn (motive := fun u : State => u = s) l _ rfl fun u hu x hx => ?_
  obtain ⟨hacc, hcls⟩ := h x hx
  rcases hcls with hc | hc <;> simp only [State.plainWrite, hacc, hc, hu]

/-! ### Words of record windows (R82, R83, R202) -/

/-- The byte of a window's word, as a field. -/
def winField (w : Win) (i off k : Nat) : RField :=
  ⟨8 * k, recByte w.type i (off + k), .rw, if inSpans w.halt (off + k) then .halt else .commit⟩

theorem winTarget_values (s : State) (w : Win) (i off v : Nat) :
    (s.winTarget w i off).values v = ([0, 1, 2, 3].filter fun k => !inSpans w.rsvd (off + k)).map fun k =>
      (winField w i off k, bits v (8 * k) 8) := by
  rw [Target.values, State.winTarget, List.map_map]
  rfl

theorem mem_winTarget_values {s : State} {w : Win} {i off v : Nat} {x : RField × Nat} :
    x ∈ (s.winTarget w i off).values v ↔
      ∃ k ∈ [0, 1, 2, 3], inSpans w.rsvd (off + k) = false ∧ (winField w i off k, bits v (8 * k) 8) = x := by
  simp only [winTarget_values, List.mem_map, List.mem_filter, Bool.not_eq_true', and_assoc]

/-- A write to a window's word stages, refuses or writes its bytes, and does nothing else. -/
theorem registerWrite_window {s : State} {a off i : Nat} {w : Win} {v : BitVec 32} (hm : s.mode ≠ mRESET)
    (hl : s.mode ≠ mLIMP) (ha : a % 4 = 0) (hw : s.winAt a = some (w, i, off))
    (hr : (s.winTarget w i off).reserved v.toNat = 0) :
    exec (.registerWrite a v) s = .next ((s.stageWrite (s.recRegion w.type i)
      (s.commitValues ((s.winTarget w i off).values v.toNat))).haltWrite (s.winTarget w i off) (blockOfAddr a)
        (s.haltValues ((s.winTarget w i off).values v.toNat))) := by
  have hheld : ∀ x ∈ (s.winTarget w i off).values v.toNat, x.1.acc = .rw ∧ (x.1.cls = .commit ∨ x.1.cls = .halt) := by
    intro x hx
    obtain ⟨k, -, -, rfl⟩ := mem_winTarget_values.1 hx
    refine ⟨rfl, ?_⟩
    by_cases hk : inSpans w.halt (off + k) = true <;> simp [winField, hk]
  have hword : s.wordWrite a (s.winTarget w i off) v.toNat =
      s.fieldsWrite (blockOfAddr a) (s.winTarget w i off) v.toNat := rfl
  rw [exec_registerWrite, State.regWrite_of_target hm (State.target_of_winAt ha hw) hr, hword,
    State.fieldsWrite_eq _ _ fun f _ => ⟨State.limpIgnores_of_mode hl _ _ f, State.noMan_of_window rfl s f⟩,
    State.foldl_plainWrite_of_held s hheld]
  rfl

/-- A byte of class COMMIT that differs from what is staged or in force is a value to stage. -/
theorem mem_commitValues_window {s : State} {w : Win} {i off v k : Nat} (hk : k ∈ [0, 1, 2, 3])
    (hr : inSpans w.rsvd (off + k) = false) (hh : inSpans w.halt (off + k) = false)
    (hv : bits v (8 * k) 8 ≠ s.seen (recByte w.type i (off + k))) :
    (recByte w.type i (off + k), bits v (8 * k) 8) ∈ s.commitValues ((s.winTarget w i off).values v) := by
  refine List.mem_map.2 ⟨(winField w i off k, bits v (8 * k) 8), List.mem_filter.2 ⟨?_, ?_⟩, rfl⟩
  · exact mem_winTarget_values.2 ⟨k, hk, hr, rfl⟩
  · simp [winField, hh, hv]

/-- A byte of class HALT that differs from what is in force is a value to write. -/
theorem mem_haltValues_window {s : State} {w : Win} {i off v k : Nat} (hk : k ∈ [0, 1, 2, 3])
    (hr : inSpans w.rsvd (off + k) = false) (hh : inSpans w.halt (off + k) = true)
    (hv : bits v (8 * k) 8 ≠ s.get (recByte w.type i (off + k))) :
    (recByte w.type i (off + k), bits v (8 * k) 8) ∈ s.haltValues ((s.winTarget w i off).values v) := by
  refine List.mem_map.2 ⟨(winField w i off k, bits v (8 * k) 8), List.mem_filter.2 ⟨?_, ?_⟩, rfl⟩
  · exact mem_winTarget_values.2 ⟨k, hk, hr, rfl⟩
  · simp [winField, hh, hv]

theorem haltValues_window_of_no_halt {s : State} {w : Win} {i off v : Nat} (h : w.halt = []) :
    s.haltValues ((s.winTarget w i off).values v) = [] := by
  have hnone : ∀ x ∈ (s.winTarget w i off).values v,
      ¬ (x.1.acc == .rw && x.1.cls == .halt && x.2 != s.get x.1.fld) = true := by
    intro x hx
    obtain ⟨k, -, -, rfl⟩ := mem_winTarget_values.1 hx
    simp [winField, h, inSpans]
  rw [State.haltValues, List.filter_eq_nil_iff.2 hnone, List.map_nil]

theorem commitValues_window_of_all_halt {s : State} {w : Win} {i off v : Nat}
    (h : ∀ k ∈ [0, 1, 2, 3], inSpans w.halt (off + k) = true) :
    s.commitValues ((s.winTarget w i off).values v) = [] := by
  have hnone : ∀ x ∈ (s.winTarget w i off).values v,
      ¬ (x.1.acc == .rw && x.1.cls == .commit && x.2 != s.seen x.1.fld) = true := by
    intro x hx
    obtain ⟨k, hk, -, rfl⟩ := mem_winTarget_values.1 hx
    simp [winField, h k hk]
  rw [State.commitValues, List.filter_eq_nil_iff.2 hnone, List.map_nil]

/-! Staged, locked, or late. -/

theorem State.stageWrite_eq_staged (s : State) {r : Nat} (l : List (Fld × Nat)) (h : ∀ c ∈ s.commits, c.1 ≠ r) :
    s.stageWrite r l = { s with staged := (s.stageWrite r l).staged } := by
  have hany := ne_true_of_eq_false (State.any_commits_of_none h)
  unfold State.stageWrite
  rw [if_neg hany]
  split_ifs <;> rfl

theorem State.mem_staged_stageWrite {s : State} {r : Nat} {l : List (Fld × Nat)} {f : Fld} {v : Nat}
    (h : ∀ c ∈ s.commits, c.1 ≠ r) (hm : (f, v) ∈ l) : (r, f.key, v % 2 ^ f.w) ∈ (s.stageWrite r l).staged := by
  have hany := ne_true_of_eq_false (State.any_commits_of_none h)
  have hne : ¬ l.isEmpty = true := by
    rw [List.isEmpty_iff]
    exact List.ne_nil_of_mem hm
  rw [State.stageWrite, if_neg hne, if_neg hany]
  exact List.mem_append_right _ (List.mem_map.2 ⟨(f, v), hm, rfl⟩)

theorem State.stageWrite_locked {s : State} {r e : Nat} {l : List (Fld × Nat)} {x : Fld × Nat}
    (h : (r, e) ∈ s.commits) (hm : x ∈ l) : s.stageWrite r l = s.stageLocked r := by
  have hne : ¬ l.isEmpty = true := by
    rw [List.isEmpty_iff]
    exact List.ne_nil_of_mem hm
  rw [State.stageWrite, if_neg hne, if_pos (State.any_commits_of_pending h)]

theorem State.haltWrite_late {s : State} {t : Target} {blk : Nat} {l : List (Fld × Nat)} {x : Fld × Nat}
    (h : t.idle = false) (hm : x ∈ l) : s.haltWrite t blk l = s.lateWrite blk := by
  have hne : ¬ l.isEmpty = true := by
    rw [List.isEmpty_iff]
    exact List.ne_nil_of_mem hm
  rw [State.haltWrite, if_neg hne, h]
  rfl

/-- R81, R83: a refused write sets its two fields of ALM_CHG_STATUS and raises EV115. -/
theorem refused_stands (s : State) (f g : Fld) (v n : Nat) (hfg : f.key ≠ g.key) (hf : 0 < f.w)
    (hfl : f.key ≠ R.LOG_LOST_VALUE.key)
    (hk : ∀ h ∈ [R.LOG_MASK_VALUE 3, R.ALM_MODE_MODE, R.CHR_DISC_TAI_VALID], h.key ∉ [f, g].map Fld.key) :
    ((s.puts [(f, 1), (g, v)]).raise 115 [n]).get f = 1 ∧
      LogGains 115 [n] s ((s.puts [(f, 1), (g, v)]).raise 115 [n]) ∧
      OnlyLogged [f, g] s ((s.puts [(f, 1), (g, v)]).raise 115 [n]) := by
  have hputs := onlyRegs_puts s [(f, 1), (g, v)]
  refine ⟨?_, ?_, ?_⟩
  · rw [State.get_raise _ _ _ hfl]
    simp only [State.puts, State.get_put_other _ hfg, State.get_put_same]
    exact Nat.mod_eq_of_lt (Nat.one_lt_two_pow hf.ne')
  · exact (logGains_raise _ 115 [n]).of_sameRegs hputs.1 (State.puts_log s _) (State.puts_chr s _) hk
  · exact onlyLogged_trans (onlyLogged_of_regs hputs) (onlyLogged_raise _ _ _)

theorem registerWrite_staged (s : State) (a off i : Nat) (w : Win) (v : BitVec 32) (hm : s.mode ≠ mRESET)
    (hl : s.mode ≠ mLIMP) (ha : a % 4 = 0) (hw : s.winAt a = some (w, i, off))
    (hr : (s.winTarget w i off).reserved v.toNat = 0) (hh : w.halt = [])
    (hc : ∀ c ∈ s.commits, c.1 ≠ s.recRegion w.type i) :
    ∃ t, exec (.registerWrite a v) s = .next t ∧ t = { s with staged := t.staged } ∧
      ∀ k ∈ [0, 1, 2, 3], inSpans w.rsvd (off + k) = false →
        bits v.toNat (8 * k) 8 ≠ s.seen (recByte w.type i (off + k)) →
        (s.recRegion w.type i, (recByte w.type i (off + k)).key, bits v.toNat (8 * k) 8) ∈ t.staged := by
  refine ⟨_, by rw [registerWrite_window hm hl ha hw hr, haltValues_window_of_no_halt hh, State.haltWrite_nil],
    s.stageWrite_eq_staged _ hc, fun k hk hrs hv => ?_⟩
  have hmod : bits v.toNat (8 * k) 8 % 2 ^ 8 = bits v.toNat (8 * k) 8 := Nat.mod_mod _ _
  have hspan : inSpans w.halt (off + k) = false := by rw [hh]; rfl
  have hmem := State.mem_staged_stageWrite hc (mem_commitValues_window hk hrs hspan hv)
  rw [show (recByte w.type i (off + k)).w = 8 from rfl, hmod] at hmem
  exact hmem

theorem registerWrite_locked (s : State) (a off i e : Nat) (w : Win) (v : BitVec 32) (hm : s.mode ≠ mRESET)
    (hl : s.mode ≠ mLIMP) (ha : a % 4 = 0) (hw : s.winAt a = some (w, i, off))
    (hr : (s.winTarget w i off).reserved v.toNat = 0) (hh : w.halt = []) (hc : (s.recRegion w.type i, e) ∈ s.commits)
    (hv : ∃ k ∈ [0, 1, 2, 3], inSpans w.rsvd (off + k) = false ∧
      bits v.toNat (8 * k) 8 ≠ s.seen (recByte w.type i (off + k))) :
    ∃ t, exec (.registerWrite a v) s = .next t ∧ t.staged = s.staged ∧ t.get R.ALM_CHG_STATUS_STAGE_LOCKED = 1 ∧
      LogGains 115 [2] s t ∧ OnlyLogged [R.ALM_CHG_STATUS_STAGE_LOCKED, R.ALM_CHG_STATUS_STAGE_REGION] s t := by
  obtain ⟨k, hk, hrs, hv⟩ := hv
  have hspan : inSpans w.halt (off + k) = false := by rw [hh]; rfl
  refine ⟨s.stageLocked (s.recRegion w.type i), ?_, by simp [State.stageLocked],
    refused_stands s _ _ _ 2 (by decide) (by decide) (by decide) (by decide)⟩
  rw [registerWrite_window hm hl ha hw hr, haltValues_window_of_no_halt hh, State.haltWrite_nil,
    State.stageWrite_locked hc (mem_commitValues_window hk hrs hspan hv)]

theorem registerWrite_late (s : State) (a off i : Nat) (w : Win) (v : BitVec 32) (hm : s.mode ≠ mRESET)
    (hl : s.mode ≠ mLIMP) (ha : a % 4 = 0) (hw : s.winAt a = some (w, i, off))
    (hr : (s.winTarget w i off).reserved v.toNat = 0) (hi : s.recIdle w.type i = false)
    (hh : ∀ k ∈ [0, 1, 2, 3], inSpans w.halt (off + k) = true)
    (hv : ∃ k ∈ [0, 1, 2, 3], inSpans w.rsvd (off + k) = false ∧
      bits v.toNat (8 * k) 8 ≠ s.get (recByte w.type i (off + k))) :
    ∃ t, exec (.registerWrite a v) s = .next t ∧ t.get R.ALM_CHG_STATUS_LATE = 1 ∧ LogGains 115 [0] s t ∧
      OnlyLogged [R.ALM_CHG_STATUS_LATE, R.ALM_CHG_STATUS_LATE_BLK] s t := by
  obtain ⟨k, hk, hrs, hv⟩ := hv
  refine ⟨s.lateWrite (blockOfAddr a), ?_, refused_stands s _ _ _ 0 (by decide) (by decide) (by decide) (by decide)⟩
  rw [registerWrite_window hm hl ha hw hr, commitValues_window_of_all_halt hh, State.stageWrite_nil,
    State.haltWrite_late hi (mem_haltValues_window hk hrs (hh k hk) hv)]

/-! ### Registers with one field (R81) -/

theorem State.afterWrite_plain {s : State} {d i v : Nat} (hb : bit v 31 = false) (hd : d ≠ R.LKT_CTL_PAUSE.reg) :
    s.afterWrite d i v = s := by
  rw [State.afterWrite, if_neg hd, hb]
  rfl

/-- A register of one field without rules of its own takes the field's value by its class alone. -/
theorem registerWrite_field {s : State} {a d : Nat} {ix : List Nat} {v : BitVec 32} {g : Target} {f : RField}
    (hm : s.mode ≠ mRESET) (hl : s.mode ≠ mLIMP) (hg : s.target a = some g) (hr : g.reserved v.toNat = 0)
    (hreg : g.reg = some (d, ix)) (hf : g.fields = [f]) (hn : s.noMan g f = false)
    (ho : s.ownWrite d (ix.headD 0) v.toNat = none) (hb : bit v.toNat 31 = false) (hd : d ≠ R.LKT_CTL_PAUSE.reg)
    (hcls : f.cls = .live ∨ f.cls = .tick) :
    exec (.registerWrite a v) s = .next (s.plainWrite f (bits v.toNat f.lo f.fld.w)) := by
  have hvals : g.values v.toNat = [(f, bits v.toNat f.lo f.fld.w)] := by rw [Target.values, hf]; rfl
  have hcommit : s.commitValues [(f, bits v.toNat f.lo f.fld.w)] = [] := by
    rcases hcls with h | h <;> simp [State.commitValues, h]
  have hhalt : s.haltValues [(f, bits v.toNat f.lo f.fld.w)] = [] := by
    rcases hcls with h | h <;> simp [State.haltValues, h]
  have hfields : ∀ x ∈ g.fields, s.limpIgnores (blockOfAddr a) g x = false ∧ s.noMan g x = false := by
    intro x hx
    rw [hf, List.mem_singleton] at hx
    exact ⟨State.limpIgnores_of_mode hl _ _ x, hx ▸ hn⟩
  have hword : s.wordWrite a g v.toNat =
      (s.fieldsWrite (blockOfAddr a) g v.toNat).afterWrite d (ix.headD 0) v.toNat := by
    simp only [State.wordWrite, hreg, ho]
  rw [exec_registerWrite, State.regWrite_of_target hm hg hr, hword, State.afterWrite_plain hb hd,
    State.fieldsWrite_eq _ _ hfields, hvals, hcommit, hhalt, State.stageWrite_nil, State.haltWrite_nil]
  rfl

theorem State.mem_tickW_putTick (s : State) (f : Fld) (v : Nat) : (f.key, v % 2 ^ f.w) ∈ (s.putTick f v).tickW :=
  List.mem_append_right _ (List.mem_singleton.2 rfl)

/-- A value that waits for the edge is what the field shows (R12, R81). -/
theorem State.seen_putTick_same (s : State) (f : Fld) (v : Nat) : (s.putTick f v).seen f = v % 2 ^ f.w := by
  have hnew : [(f.key, v % 2 ^ f.w)].filter (fun e => decide (e.1 = f.key)) = [(f.key, v % 2 ^ f.w)] := by simp
  simp only [State.seen, State.putTick, List.filter_append, hnew, List.getLast?_concat]

theorem registerWrite_single (s : State) (a d : Nat) (ix : List Nat) (v : BitVec 32) (g : Target) (f : RField)
    (hm : s.mode ≠ mRESET) (hl : s.mode ≠ mLIMP) (hg : s.target a = some g) (hr : g.reserved v.toNat = 0)
    (hreg : g.reg = some (d, ix)) (hf : g.fields = [f]) (hacc : f.acc = .rw) (hn : s.noMan g f = false)
    (ho : s.ownWrite d (ix.headD 0) v.toNat = none) (hb : bit v.toNat 31 = false) (hd : d ≠ R.LKT_CTL_PAUSE.reg) :
    (f.cls = .live → ∃ t, exec (.registerWrite a v) s = .next t ∧
      t.get f.fld = bits v.toNat f.lo f.fld.w ∧ OnlyRegs [f.fld] s t) ∧
    (f.cls = .tick → bits v.toNat f.lo f.fld.w ≠ s.seen f.fld → ∃ t, exec (.registerWrite a v) s = .next t ∧
      (f.fld.key, bits v.toNat f.lo f.fld.w) ∈ t.tickW ∧ t.seen f.fld = bits v.toNat f.lo f.fld.w ∧
      t = { s with tickW := t.tickW }) := by
  have hmod : bits v.toNat f.lo f.fld.w % 2 ^ f.fld.w = bits v.toNat f.lo f.fld.w := Nat.mod_mod _ _
  have hexec := registerWrite_field hm hl hg hr hreg hf hn ho hb hd
  refine ⟨fun hlive => ⟨s.put f.fld (bits v.toNat f.lo f.fld.w), ?_, ?_, onlyRegs_put _ _ _⟩,
    fun htick hv => ⟨s.putTick f.fld (bits v.toNat f.lo f.fld.w), ?_, ?_, ?_, rfl⟩⟩
  · rw [hexec (.inl hlive)]
    simp only [State.plainWrite, hacc, hlive]
  · rw [State.get_put_same, hmod]
  · rw [hexec (.inr htick)]
    simp only [State.plainWrite, hacc, htick, if_neg hv]
  · have hmem := s.mem_tickW_putTick f.fld (bits v.toNat f.lo f.fld.w)
    rwa [hmod] at hmem
  · rw [State.seen_putTick_same, hmod]

/-! ### The commit of a staged value (R82) -/

theorem commit_waits (s : State) (r : BitVec 8) (p : Fin 10000) (h : r.toNat ∈ regions)
    (hp : ∀ c ∈ s.commits, c.1 ≠ r.toNat) :
    ∃ t e, exec (.commit r p) s = .next t ∧ (r.toNat, e) ∈ t.commits ∧ s.chr.tick < e ∧ t.staged = s.staged ∧
      t.get R.ALM_COMMIT_RESULT = 1 := by
  refine ⟨_, if p.val ≤ 9800 then s.chr.tick + 1 else s.chr.tick + 2, exec_commit_accepted p h hp, ?_, ?_, by simp,
    State.get_put_same _ _ _⟩
  · rw [State.put_commits, State.put_commits]
    exact List.mem_append_right _ (List.mem_singleton.2 rfl)
  · split_ifs <;> omega

theorem commitApply_group (s : State) (r : BitVec 8) (e : Nat) (f : Fld) (x : Nat × Nat × Nat)
    (h : (r.toNat, e) ∈ s.commits) (he : e ≤ s.chr.tick) (hr : r.toNat < 8) (hf : f.key ≠ R.ALM_COMMIT_RESULT.key)
    (hx : (s.staged.filter fun y => y.1 == r.toNat && y.2.1 == f.key).getLast? = some x) :
    ∃ t, exec (.commitApply r) s = .next t ∧ t.get f = x.2.2 ∧ t.get R.ALM_COMMIT_RESULT = 2 := by
  refine ⟨_, exec_commitApply r s, ?_, State.get_result_commitApply_due h he⟩
  rw [State.commitApply_due h he, State.committed_group _ s _ hr]
  exact (State.get_stagedIn s _ hf).trans (by rw [hx]; rfl)

/-- Settles O24: a window's word by the class of its bytes, a register of one field by that field's class, and a staged
value by COMMIT and COMMIT_APPLY. That a refused word raises EV115 once is the model's deduction (log 12). -/
theorem registerWrites : Obligations.RegisterWrites := by
  unfold Obligations.RegisterWrites
  exact ⟨registerWrite_staged, registerWrite_locked, registerWrite_late, registerWrite_single, commit_waits,
    commitApply_group⟩

end Sys2Proof.Machine

/-! Requests of the Host Service Interface (R493 to R499): what a request that is taken comes to. -/

namespace Sys2Proof.Machine

/-! ### The state in which a request is looked at -/

/-- A host request moves the phase, and changes the interface's own state. -/
def State.hsiAt (s : State) (h : HsiHdr) (x : Hsi) : State := { s.atPhase h.phase with hsi := x }

theorem State.seeHost_eq (s : State) (h : HsiHdr) : s.seeHost h = { s with hsi := (s.seeHost h).hsi } := by
  unfold State.seeHost
  split <;> rfl

theorem State.useToken_eq (s : State) (h : HsiHdr) : s.useToken h = { s with hsi := (s.useToken h).hsi } := by
  unfold State.useToken
  split_ifs <;> rfl

theorem State.heard_eq (s : State) (h : HsiHdr) : s.heard h = s.hsiAt h (s.heard h).hsi := by
  have hsee := (s.atPhase h.phase).seeHost_eq h
  have huse := ((s.atPhase h.phase).seeHost h).useToken_eq h
  rw [State.heard, huse, hsee]
  rfl

@[simp] theorem State.heard_regs (s : State) (h : HsiHdr) : (s.heard h).regs = s.regs := by rw [State.heard_eq]; rfl
@[simp] theorem State.heard_mode (s : State) (h : HsiHdr) : (s.heard h).mode = s.mode := by rw [State.heard_eq]; rfl
@[simp] theorem State.heard_tick (s : State) (h : HsiHdr) : (s.heard h).chr.tick = s.chr.tick := by
  rw [State.heard_eq]; rfl
@[simp] theorem State.heard_alm (s : State) (h : HsiHdr) : (s.heard h).alm = s.alm := by rw [State.heard_eq]; rfl
@[simp] theorem State.heard_upd (s : State) (h : HsiHdr) : (s.heard h).upd = s.upd := by rw [State.heard_eq]; rfl
@[simp] theorem State.heard_nor (s : State) (h : HsiHdr) : (s.heard h).nor = s.nor := by rw [State.heard_eq]; rfl
@[simp] theorem State.heard_pwr (s : State) (h : HsiHdr) : (s.heard h).pwr = s.pwr := by rw [State.heard_eq]; rfl
@[simp] theorem State.heard_pending (s : State) (h : HsiHdr) : (s.heard h).pending = s.pending := by
  rw [State.heard_eq]; rfl
@[simp] theorem State.heard_bus (s : State) (h : HsiHdr) : (s.heard h).bus = s.bus := by rw [State.heard_eq]; rfl
@[simp] theorem State.heard_hlm (s : State) (h : HsiHdr) : (s.heard h).hlm = s.hlm := by rw [State.heard_eq]; rfl
@[simp] theorem State.heard_spd (s : State) (h : HsiHdr) : (s.heard h).spd = s.spd := by rw [State.heard_eq]; rfl
@[simp] theorem State.heard_mrd (s : State) (h : HsiHdr) : (s.heard h).mrd = s.mrd := by rw [State.heard_eq]; rfl

@[simp] theorem State.get_heard (s : State) (h : HsiHdr) (f : Fld) : (s.heard h).get f = s.get f :=
  State.get_congr (s.heard_regs h) f

theorem State.cfg_congr {s t : State} (h : s.regs = t.regs) (type i off n : Nat) :
    s.cfg type i off n = t.cfg type i off n := by
  induction n generalizing off with
  | zero => rfl
  | succ n ih => rw [State.cfg, State.cfg, State.get_congr h, ih]

@[simp] theorem State.cfg_heard (s : State) (h : HsiHdr) (type i off n : Nat) :
    (s.heard h).cfg type i off n = s.cfg type i off n := State.cfg_congr (s.heard_regs h) type i off n

@[simp] theorem State.seen_heard (s : State) (h : HsiHdr) (f : Fld) : (s.heard h).seen f = s.seen f := by
  rw [State.heard_eq]; rfl

@[simp] theorem State.inMode_heard (s : State) (h : HsiHdr) (l : List Nat) : (s.heard h).inMode l = s.inMode l := by
  rw [State.heard_eq]; rfl

@[simp] theorem State.gateCond_heard (s : State) (h : HsiHdr) (typ : Nat) : (s.heard h).gateCond typ = s.gateCond typ := by
  rw [State.heard_eq]; rfl

/-! ### The token and the hosts (R495, R497, R498) -/

@[simp] theorem State.token_seeHost (s : State) (h : HsiHdr) : (s.seeHost h).hsi.token = s.hsi.token := by
  unfold State.seeHost
  split <;> rfl

@[simp] theorem State.canSub_seeHost (s : State) (h : HsiHdr) : (s.seeHost h).hsi.canSub = s.hsi.canSub := by
  unfold State.seeHost
  split <;> rfl

@[simp] theorem State.canSub_useToken (s : State) (h : HsiHdr) : (s.useToken h).hsi.canSub = s.hsi.canSub := by
  unfold State.useToken
  split_ifs <;> rfl

@[simp] theorem State.hosts_useToken (s : State) (h : HsiHdr) : (s.useToken h).hsi.hosts = s.hsi.hosts := by
  unfold State.useToken
  split_ifs <;> rfl

theorem State.tokenOk_congr {s t : State} (ht : s.hsi.token = t.hsi.token) (hc : s.chr.tick = t.chr.tick) (h : HsiHdr) :
    s.tokenOk h = t.tokenOk h := by
  simp only [State.tokenOk, ht, hc]

/-- R498: a token that is used goes on being valid. -/
theorem State.tokenOk_useToken (s : State) (h : HsiHdr) : (s.useToken h).tokenOk h = s.tokenOk h := by
  unfold State.useToken
  cases hok : s.tokenOk h with
  | false => rw [if_neg (by decide), hok]
  | true =>
    rw [if_pos rfl]
    cases htok : s.hsi.token with
    | none => simp [State.tokenOk, htok] at hok
    | some k =>
      simp only [State.tokenOk, htok, Bool.and_eq_true, decide_eq_true_eq, Option.map_some] at hok ⊢
      obtain ⟨hk, hlt, -⟩ := hok
      exact ⟨hk, hlt, by omega⟩

@[simp] theorem State.tokenOk_heard (s : State) (h : HsiHdr) : (s.heard h).tokenOk h = s.tokenOk h := by
  rw [State.heard, State.tokenOk_useToken]
  exact State.tokenOk_congr (State.token_seeHost _ h) (by rw [State.seeHost_eq]) h

@[simp] theorem State.canSub_heard (s : State) (h : HsiHdr) : (s.heard h).hsi.canSub = s.hsi.canSub := by
  rw [State.heard, State.canSub_useToken, State.canSub_seeHost]
  rfl

theorem State.isSome_token_useToken (s : State) (h : HsiHdr) :
    (s.useToken h).hsi.token.isSome = s.hsi.token.isSome := by
  unfold State.useToken
  split_ifs
  · exact Option.isSome_map
  · rfl

@[simp] theorem State.isSome_token_heard (s : State) (h : HsiHdr) :
    (s.heard h).hsi.token.isSome = s.hsi.token.isSome := by
  rw [State.heard, State.isSome_token_useToken, State.token_seeHost]
  rfl

theorem State.isSome_token_of_tokenOk {s : State} {h : HsiHdr} (hok : s.tokenOk h = true) : s.hsi.token.isSome = true := by
  cases htok : s.hsi.token with
  | none => simp [State.tokenOk, htok] at hok
  | some k => rfl

theorem find?_concat_of_none {α : Type} {p : α → Bool} {l : List α} {x : α} (hl : l.find? p = none) (hx : p x = true) :
    (l ++ [x]).find? p = some x := by
  rw [List.find?_append, hl, Option.none_or, List.find?_cons_of_pos hx]

theorem find?_filter_eq_none {α : Type} {p : α → Bool} {l : List α} (q : α → Bool) (hl : l.find? p = none) :
    (l.filter q).find? p = none := by
  rw [List.find?_eq_none] at hl ⊢
  exact fun x hx => hl x (List.mem_of_mem_filter hx)

/-- R495: the host of a request is tracked, with the nonce that it holds. -/
theorem State.hostOf_seeHost (s : State) (h : HsiHdr) :
    ∃ x, (s.seeHost h).hostOf h = some x ∧ x.nonce = (s.hostOf h).bind (·.nonce) := by
  cases hhost : s.hostOf h with
  | some x =>
    have hx : isHost h.ip.toNat h.port.toNat x = true := List.find?_some hhost
    refine ⟨{ x with last := s.chr.tick, seen := s.chr.tick }, ?_, rfl⟩
    simp only [State.seeHost, hhost]
    refine find?_concat_of_none ?_ hx
    simp [List.find?_eq_none]
  | none =>
    refine ⟨{ ip := h.ip.toNat, port := h.port.toNat, last := s.chr.tick }, ?_, rfl⟩
    simp only [State.seeHost, hhost]
    refine find?_concat_of_none ?_ (by simp [isHost])
    split_ifs
    · exact hhost
    · split
      · exact find?_filter_eq_none _ hhost
      · exact hhost

theorem State.hostOf_congr {s t : State} (h : s.hsi.hosts = t.hsi.hosts) (x : HsiHdr) : s.hostOf x = t.hostOf x := by
  rw [State.hostOf, State.hostOf, h]

theorem State.hostOf_heard (s : State) (h : HsiHdr) :
    ∃ x, (s.heard h).hostOf h = some x ∧ x.nonce = (s.hostOf h).bind (·.nonce) := by
  rw [State.heard, State.hostOf_congr (State.hosts_useToken _ h)]
  exact (s.atPhase h.phase).hostOf_seeHost h

/-- A change of the host's entry that keeps whose it is. -/
theorem State.hostOf_modHost {s : State} {h : HsiHdr} {f : HsiHost → HsiHost}
    (hf : ∀ x, (f x).ip = x.ip ∧ (f x).port = x.port) :
    (s.modHost h f).hostOf h = (s.hostOf h).map f := by
  have hcomp : (isHost h.ip.toNat h.port.toNat ∘ fun x => if isHost h.ip.toNat h.port.toNat x then f x else x) =
      isHost h.ip.toNat h.port.toNat := by
    funext x
    have hx : isHost h.ip.toNat h.port.toNat (f x) = isHost h.ip.toNat h.port.toNat x := by
      simp only [isHost, (hf x).1, (hf x).2]
    dsimp only [Function.comp]
    split_ifs
    · exact hx
    · rfl
  rw [State.hostOf, State.modHost, List.find?_map, hcomp]
  cases hhost : s.hsi.hosts.find? (isHost h.ip.toNat h.port.toNat) with
  | none => rw [State.hostOf, hhost]; rfl
  | some x =>
    rw [State.hostOf, hhost, Option.map_some, if_pos (List.find?_some hhost)]
    rfl

/-! ### A request that is taken (R493 to R499) -/

theorem State.request_taken {s : State} {h : HsiHdr} {typ : Nat} {tok : Bool} {act : State → Ans}
    (ht : s.HsiTakes h typ tok) :
    s.request h typ tok act = if (act (s.heard h)).undef then .fault .reservedFieldWritten
      else .next ((act (s.heard h)).st.replyTo h typ (act (s.heard h)).status (act (s.heard h)).cond
        (act (s.heard h)).body) := by
  obtain ⟨hup, hport, hrec, hdup, hgate, htok⟩ := ht
  have hopen : ¬ (!(s.atPhase h.phase).hsiUp || !(s.atPhase h.phase).hsiPort h.eth ||
      ((s.atPhase h.phase).alm.recovery && h.eth != 2)) = true := by
    rw [show (s.atPhase h.phase).hsiUp = true from hup, show (s.atPhase h.phase).hsiPort h.eth = true from hport]
    simpa [State.atPhase] using hrec
  have hdup' : (s.atPhase h.phase).dupReply h = none := hdup
  have hgate' : (((s.atPhase h.phase).seeHost h).useToken h).gateCond typ = none := (s.gateCond_heard h typ).trans hgate
  have hheld : ¬ (tok && !(s.atPhase h.phase).tokenOk h) = true := by
    rw [show (s.atPhase h.phase).tokenOk h = s.tokenOk h from rfl]
    cases tok
    · simp
    · simp [htok rfl]
  rw [State.request, if_neg hopen]
  simp only [hdup', hgate', if_neg hheld]
  rfl

/-- What the request's meaning leaves, with the reply stored for its host. -/
theorem request_ok {s u : State} {h : HsiHdr} {typ : Nat} {tok : Bool} {act : State → Ans} {body : List Nat}
    (ht : s.HsiTakes h typ tok) (ha : act (s.heard h) = .ok u body) :
    s.request h typ tok act = .next (u.replyTo h typ 0 0 body) := by
  rw [State.request_taken ht, ha]
  rfl

theorem State.replyTo_eq (s : State) (h : HsiHdr) (typ status cond : Nat) (body : List Nat) :
    s.replyTo h typ status cond body = { s with hsi := (s.replyTo h typ status cond body).hsi } := rfl

theorem request_refused {s : State} {h : HsiHdr} {typ c : Nat} {tok : Bool} {act : State → Ans} {body : List Nat}
    (ht : s.HsiTakes h typ tok) (ha : act (s.heard h) = .refuse (s.heard h) c body) :
    ∃ t, s.request h typ tok act = .next t ∧ HsiRefused h typ c body s t := by
  refine ⟨(s.heard h).replyTo h typ 1 c body, ?_, rfl, fun f _ => s.get_heard h f, ?_⟩
  · rw [State.request_taken ht, ha]
    rfl
  · rw [State.heard_eq]
    rfl

/-- What the meaning changes beside the interface, the request changes. -/
theorem onlyHsi_replyTo {s u : State} {h : HsiHdr} {ks : List Fld} (hr : SameRegs ks s u)
    (he : u = { s.atPhase h.phase with regs := u.regs, hsi := u.hsi }) (typ status cond : Nat) (body : List Nat) :
    OnlyHsi h ks s (u.replyTo h typ status cond body) := by
  refine ⟨hr, ?_⟩
  rw [State.replyTo_eq, he]

end Sys2Proof.Machine

/-! What hosts command of the control plane and the modes (R60, R64, R224, R383, R500). -/

namespace Sys2Proof.Machine

/-! ### Values at the coming edge (R81, R500) -/

theorem exec_setpoint (h : HsiHdr) (l : List (Nat × BitVec 32)) (s : State) :
    exec (.setpoint h l) s = execSetpoint h l s := rfl
theorem exec_mailbox (h : HsiHdr) (l : List (Nat × BitVec 32 × Nat × Nat)) (s : State) :
    exec (.mailbox h l) s = execMailbox h l s := rfl
theorem exec_am (h : HsiHdr) (ch req : Nat) (man : BitVec 32) (s : State) :
    exec (.am h ch req man) s = execAm h ch req man s := rfl
theorem exec_reset (h : HsiHdr) (s : State) : exec (.reset h) s = execReset h s := rfl
theorem exec_shutdown (h : HsiHdr) (s : State) : exec (.shutdown h) s = execShutdown h s := rfl

theorem State.nextTick_heard (s : State) (h : HsiHdr) : (s.heard h).nextTick = leBytes 4 (s.chr.tick + 1) := by
  rw [State.nextTick, State.heard_tick]

theorem State.seen_putTick_other (s : State) {f g : Fld} (h : g.key ≠ f.key) (v : Nat) :
    (s.putTick f v).seen g = s.seen g := by
  have hnew : [(f.key, v % 2 ^ f.w)].filter (fun e => decide (e.1 = g.key)) = [] := by simpa using Ne.symm h
  have hold : (s.tickW.filter fun e => decide (e.1 ≠ f.key)).filter (fun e => decide (e.1 = g.key)) =
      s.tickW.filter fun e => decide (e.1 = g.key) := by
    rw [List.filter_filter]
    refine List.filter_congr fun e _ => ?_
    by_cases he : e.1 = g.key <;> simp [he, h]
  simp only [State.seen, State.putTick, List.filter_append, hnew, hold, List.append_nil]
  rfl

/-- A value that waits changes nothing else. -/
theorem onlyHsi_tickW {s u : State} {h : HsiHdr} (hu : u = { s.heard h with tickW := u.tickW })
    (typ : Nat) (body : List Nat) :
    OnlyHsi h [] { s with tickW := (u.replyTo h typ 0 0 body).tickW } (u.replyTo h typ 0 0 body) := by
  refine onlyHsi_replyTo (fun f _ => ?_) ?_ typ 0 0 body
  · rw [hu]
    exact s.get_heard h f
  · rw [hu, State.heard_eq]
    rfl

/-- R500: the set-points of a SETPOINT, one after another. -/
def State.setpoints (s : State) (l : List (Nat × BitVec 32)) : State :=
  l.foldl (fun s e => s.putTick (R.HLM_SP_VALUE e.1) e.2.toNat) s

theorem State.setpoints_eq (s : State) (l : List (Nat × BitVec 32)) :
    s.setpoints l = { s with tickW := (s.setpoints l).tickW } :=
  List.foldlRecOn (motive := fun t : State => t = { s with tickW := t.tickW }) l _ rfl
    fun t ht e _ => by rw [State.putTick, ht]

theorem key_spValue_inj {c d : Nat} (h : (R.HLM_SP_VALUE c).key = (R.HLM_SP_VALUE d).key) : c = d := by
  simp only [R.HLM_SP_VALUE, Fld.at] at h
  omega

/-- A channel shows the last set-point given for it. -/
theorem State.seen_setpoints (s : State) (l₁ l₂ : List (Nat × BitVec 32)) (ch : Nat) (v : BitVec 32)
    (h : ∀ e ∈ l₂, e.1 ≠ ch) : (s.setpoints (l₁ ++ (ch, v) :: l₂)).seen (R.HLM_SP_VALUE ch) = v.toNat := by
  have hput : ((s.setpoints l₁).putTick (R.HLM_SP_VALUE ch) v.toNat).seen (R.HLM_SP_VALUE ch) = v.toNat := by
    rw [State.seen_putTick_same]
    exact Nat.mod_eq_of_lt v.isLt
  rw [State.setpoints, List.foldl_append, List.foldl_cons]
  exact List.foldlRecOn (motive := fun t : State => t.seen (R.HLM_SP_VALUE ch) = v.toNat) l₂ _ hput
    fun t ht e he => (State.seen_putTick_other t (fun hk => h e he (key_spValue_inj hk).symm) _).trans ht

theorem hsi_setpoint (s : State) (h : HsiHdr) (l : List (Nat × BitVec 32)) (ht : s.HsiTakes h 0x0010 false) :
    (s.mode ≠ mSERVICE → l ≠ [] → l.length ≤ 32 → (∀ e ∈ l, e.1 < 128) →
      ∃ t, exec (.setpoint h l) s = .next t ∧ HsiOk h 0x0010 (leBytes 4 (s.chr.tick + 1)) t ∧
        (∀ l₁ ch v l₂, l = l₁ ++ (ch, v) :: l₂ → (∀ e ∈ l₂, e.1 ≠ ch) → t.seen (R.HLM_SP_VALUE ch) = v.toNat) ∧
        OnlyHsi h [] { s with tickW := t.tickW } t) ∧
    (s.mode = mSERVICE → ∃ t, exec (.setpoint h l) s = .next t ∧ HsiRefused h 0x0010 7 [] s t) ∧
    (s.mode ≠ mSERVICE → l = [] ∨ 32 < l.length ∨ (∃ e ∈ l, 128 ≤ e.1) →
      ∃ t, exec (.setpoint h l) s = .next t ∧ HsiRefused h 0x0010 12 [] s t) := by
  rw [exec_setpoint, execSetpoint]
  refine ⟨fun hm hl hn hc => ?_, fun hm => request_refused ht (if_pos ((s.heard_mode h).trans hm)), fun hm hbad => ?_⟩
  · have hgood : ¬ (l.isEmpty || decide (32 < l.length) || l.any fun e => decide (128 ≤ e.1)) = true := by
      have hany : ∀ e ∈ l, ¬ 128 ≤ e.1 := fun e he => Nat.not_le.2 (hc e he)
      simpa [hl, hn] using hc
    refine ⟨((s.heard h).setpoints l).replyTo h 0x0010 0 0 (leBytes 4 (s.chr.tick + 1)), request_ok ht ?_, rfl,
      fun l₁ ch v l₂ he hne => ?_, onlyHsi_tickW ((s.heard h).setpoints_eq l) _ _⟩
    · rw [← s.nextTick_heard h]
      exact (if_neg (by rwa [State.heard_mode])).trans (if_neg hgood)
    · rw [he]
      exact (s.heard h).seen_setpoints l₁ l₂ ch v hne
  · have hbad' : (l.isEmpty || decide (32 < l.length) || l.any fun e => decide (128 ≤ e.1)) = true := by
      simpa only [Bool.or_eq_true, List.isEmpty_iff, decide_eq_true_eq, List.any_eq_true, or_assoc] using hbad
    exact request_refused ht ((if_neg (by rwa [State.heard_mode])).trans (if_pos hbad'))

/-! ### Mailbox words (R383) -/

@[simp] theorem State.driven_heard (s : State) (h : HsiHdr) (w : Nat) : (s.heard h).driven w = s.driven w := by
  rw [State.heard_eq]
  rfl

/-- R383: the words of a MAILBOX, one after another. -/
def State.mbxWords (s : State) (l : List (Nat × BitVec 32 × Nat × Nat)) : State :=
  l.foldl (fun s e => s.mbxWrite e.1 e.2.1.toNat (e.2.2.1 == 1) e.2.2.2) s

theorem State.mbxWords_eq (s : State) (l : List (Nat × BitVec 32 × Nat × Nat)) (hl : ∀ e ∈ l, e.2.2.2 < 256) :
    s.mbxWords l =
      { s with spd.mbxW := s.spd.mbxW ++ l.map fun e => ⟨e.1, e.2.1.toNat, e.2.2.1 == 1, e.2.2.2⟩ } := by
  induction l generalizing s with
  | nil => simp [State.mbxWords]
  | cons e l ih =>
    have hval : e.2.1.toNat % 2 ^ 32 = e.2.1.toNat := Nat.mod_eq_of_lt e.2.1.isLt
    have hexp : e.2.2.2 % 256 = e.2.2.2 := Nat.mod_eq_of_lt (hl e List.mem_cons_self)
    rw [State.mbxWords, List.foldl_cons, ← State.mbxWords, ih _ fun x hx => hl x (List.mem_cons_of_mem _ hx),
      State.mbxWrite, hval, hexp]
    simp

theorem hsi_mailbox (s : State) (h : HsiHdr) (l : List (Nat × BitVec 32 × Nat × Nat)) (ht : s.HsiTakes h 0x0011 false)
    (hl : l ≠ []) (hn : l.length ≤ 32) (hc : ∀ e ∈ l, e.1 < 65536 ∧ e.2.2.1 < 2 ∧ e.2.2.2 < 256) :
    ((∀ e ∈ l, s.driven e.1 = false) → ∃ t, exec (.mailbox h l) s = .next t ∧
      HsiOk h 0x0011 (List.replicate l.length 1) t ∧
      t.spd.mbxW = s.spd.mbxW ++ l.map (fun e => ⟨e.1, e.2.1.toNat, e.2.2.1 == 1, e.2.2.2⟩) ∧
      OnlyHsi h [] { s with spd := t.spd } t) ∧
    ((∃ e ∈ l, s.driven e.1 = true) → ∃ t, exec (.mailbox h l) s = .next t ∧ HsiRefused h 0x0011 13 [] s t) := by
  have hgood : ¬ (l.isEmpty || decide (32 < l.length) ||
      l.any fun e => decide (65535 < e.1 ∨ 1 < e.2.2.1 ∨ 255 < e.2.2.2)) = true := by
    have hany : (l.any fun e => decide (65535 < e.1 ∨ 1 < e.2.2.1 ∨ 255 < e.2.2.2)) = false := by
      refine List.any_eq_false.2 fun e he => ?_
      obtain ⟨h1, h2, h3⟩ := hc e he
      rw [decide_eq_true_eq]
      omega
    rw [hany, Bool.or_false]
    simp [hl, hn]
  have hwords := (s.heard h).mbxWords_eq l fun e he => (hc e he).2.2
  rw [exec_mailbox, execMailbox]
  refine ⟨fun hfree => ⟨((s.heard h).mbxWords l).replyTo h 0x0011 0 0 (List.replicate l.length 1), request_ok ht ?_, rfl,
    ?_, ?_⟩, fun hdriven => request_refused ht ((if_neg hgood).trans (if_pos ?_))⟩
  · have hnone : ¬ (l.any fun e => (s.heard h).driven e.1) = true := by simpa using hfree
    rw [← List.map_const']
    exact (if_neg hgood).trans (if_neg hnone)
  · rw [State.replyTo_eq, hwords]
    dsimp only
    rw [State.heard_spd]
  · refine onlyHsi_replyTo (fun f _ => ?_) ?_ _ _ _ _
    · rw [hwords]
      exact s.get_heard h f
    · rw [State.replyTo_eq, hwords, State.heard_eq]
      rfl
  · simpa using hdriven

/-! ### Manual values (R224) -/

@[simp] theorem State.hctl_heard (s : State) (h : HsiHdr) (c off n : Nat) : (s.heard h).hctl c off n = s.hctl c off n :=
  s.cfg_heard h 0x0302 c off n

/-- R224: what an AM writes: the request where the channel has a manual mode and does not show it, and the manual value. -/
def State.amWritten (s : State) (ch req : Nat) (man : BitVec 32) : State :=
  (if s.hctl ch 0x0E 1 = 0 ∨ req = s.seen (R.HLM_AM_REQ ch) then s else s.putTick (R.HLM_AM_REQ ch) req).putTick
    (R.HLM_MAN_VALUE ch) man.toNat

theorem State.amWritten_eq (s : State) (ch req : Nat) (man : BitVec 32) :
    s.amWritten ch req man = { s with tickW := (s.amWritten ch req man).tickW } := by
  unfold State.amWritten
  split_ifs <;> rfl

theorem State.seen_amWritten_man (s : State) (ch req : Nat) (man : BitVec 32) :
    (s.amWritten ch req man).seen (R.HLM_MAN_VALUE ch) = man.toNat := by
  rw [State.amWritten, State.seen_putTick_same]
  exact Nat.mod_eq_of_lt man.isLt

theorem State.seen_amWritten_req (s : State) (ch : Nat) {req : Nat} (man : BitVec 32) (hr : req < 2) :
    (s.amWritten ch req man).seen (R.HLM_AM_REQ ch) =
      if s.hctl ch 0x0E 1 = 0 then s.seen (R.HLM_AM_REQ ch) else req := by
  have hkey : (R.HLM_AM_REQ ch).key ≠ (R.HLM_MAN_VALUE ch).key := by
    simp only [R.HLM_AM_REQ, R.HLM_MAN_VALUE, Fld.at]
    omega
  have hreq : req % 2 ^ (R.HLM_AM_REQ ch).w = req := Nat.mod_eq_of_lt hr
  rw [State.amWritten, State.seen_putTick_other _ hkey]
  by_cases hman : s.hctl ch 0x0E 1 = 0
  · rw [if_pos (.inl hman), if_pos hman]
  · rw [if_neg hman]
    split_ifs with hsame
    · exact (hsame.resolve_left hman).symm
    · rw [State.seen_putTick_same, hreq]

theorem hsi_am (s : State) (h : HsiHdr) (ch req : Nat) (man : BitVec 32) (ht : s.HsiTakes h 0x0012 false) :
    (ch < 128 → req < 2 → ∃ t, exec (.am h ch req man) s = .next t ∧ HsiOk h 0x0012 (leBytes 4 (s.chr.tick + 1)) t ∧
      t.seen (R.HLM_MAN_VALUE ch) = man.toNat ∧
      t.seen (R.HLM_AM_REQ ch) = (if s.hctl ch 0x0E 1 = 0 then s.seen (R.HLM_AM_REQ ch) else req) ∧
      OnlyHsi h [] { s with tickW := t.tickW } t) ∧
    (128 ≤ ch ∨ 2 ≤ req → ∃ t, exec (.am h ch req man) s = .next t ∧ HsiRefused h 0x0012 12 [] s t) := by
  rw [exec_am, execAm]
  refine ⟨fun hc hr => ⟨((s.heard h).amWritten ch req man).replyTo h 0x0012 0 0 (leBytes 4 (s.chr.tick + 1)),
    request_ok ht ?_, rfl, (s.heard h).seen_amWritten_man ch req man, ?_,
    onlyHsi_tickW (State.amWritten_eq _ ch req man) _ _⟩,
    fun hbad => request_refused ht (if_pos (hbad.imp_right id))⟩
  · rw [← s.nextTick_heard h]
    exact if_neg (by omega)
  · rw [← s.hctl_heard h, ← s.seen_heard h]
    exact (s.heard h).seen_amWritten_req ch man hr

/-! ### Modes (R60, R69, R157) -/

@[simp] theorem State.standstill_heard (s : State) (h : HsiHdr) : (s.heard h).standstill = s.standstill := by
  rw [State.heard_eq]
  rfl

theorem State.flag_heard (s : State) (h : HsiHdr) (f : Fld) : (s.heard h).flag f = s.flag f := by
  rw [State.flag, State.flag, State.get_heard]

theorem State.modeCond_heard (s : State) (h : HsiHdr) (g : Nat) : (s.heard h).modeCond h g = s.modeCond h g := by
  simp only [State.modeCond, State.heard_mode, State.inMode_heard, State.flag_heard, State.standstill_heard,
    State.heard_upd, State.tokenOk_heard]

theorem State.flag_eq_false {s : State} {f : Fld} (h : s.get f = 0) : s.flag f = false := by simp [State.flag, h]

theorem State.flag_eq_true {s : State} {f : Fld} (h : s.get f ≠ 0) : s.flag f = true := by simp [State.flag, h]

/-- The mode changes that R60 and Table 2.2 let a host command, with their causes. -/
theorem State.modeCond_taken {s : State} {h : HsiHdr} {g cause : Nat}
    (hg : (s.mode = mSTANDBY ∧ (g = mROAD ∨ g = mFIELD) ∧ s.get R.UPD_STAT_MIXED = 0 ∧ s.upd.lock = false ∧
        s.get R.ALM_MODE_RING_READY ≠ 0 ∧ cause = 0x20) ∨
      (((s.mode = mROAD ∧ g = mFIELD) ∨ (s.mode = mFIELD ∧ g = mROAD)) ∧ s.get R.ALM_MODE_RING_READY ≠ 0 ∧
        cause = 0x20) ∨
      ((s.mode = mROAD ∨ s.mode = mFIELD) ∧ g = mSTANDBY ∧ s.standstill = true ∧ cause = 0x20) ∨
      (s.mode = mSTANDBY ∧ g = mSERVICE ∧ s.tokenOk h = true ∧ cause = 0x21) ∨
      (s.mode = mSERVICE ∧ g = mSTANDBY ∧ s.tokenOk h = true ∧ cause = 0x22) ∨
      ((s.mode = mSTANDBY ∨ s.mode = mROAD ∨ s.mode = mFIELD) ∧ g = mLIMP ∧ cause = 0x34)) :
    s.modeCond h g = (0, cause) := by
  rcases hg with ⟨hm, hroad, hmix, hlock, hready, rfl⟩ | ⟨hm, hready, rfl⟩ | ⟨hm, rfl, hstill, rfl⟩ |
    ⟨hm, rfl, htok, rfl⟩ | ⟨hm, rfl, htok, rfl⟩ | ⟨hm, rfl, rfl⟩
  · rcases hroad with rfl | rfl <;>
      simp [State.modeCond, hm, State.flag_eq_false hmix, hlock, State.flag_eq_true hready, mSTANDBY, mROAD, mFIELD, mLIMP]
  · rcases hm with ⟨hm, rfl⟩ | ⟨hm, rfl⟩ <;>
      simp [State.modeCond, hm, State.flag_eq_true hready, mSTANDBY, mROAD, mFIELD, mLIMP]
  · rcases hm with hm | hm <;> simp [State.modeCond, hm, hstill, mSTANDBY, mROAD, mFIELD, mLIMP]
  · simp [State.modeCond, hm, htok, mSTANDBY, mROAD, mFIELD, mLIMP, mSERVICE]
  · simp [State.modeCond, hm, htok, mSTANDBY, mROAD, mFIELD, mLIMP, mSERVICE]
  · rcases hm with hm | hm | hm <;> simp [State.modeCond, State.inMode, hm, mSTANDBY, mROAD, mFIELD, mLIMP]

theorem State.modeCond_refused {s : State} {h : HsiHdr} {g c : Nat}
    (hg : (s.mode = mSTANDBY ∧ (g = mROAD ∨ g = mFIELD) ∧ s.get R.UPD_STAT_MIXED ≠ 0 ∧ c = 6) ∨
      (s.mode = mSTANDBY ∧ (g = mROAD ∨ g = mFIELD) ∧ s.get R.UPD_STAT_MIXED = 0 ∧ s.upd.lock = true ∧ c = 5) ∨
      (s.mode = mSTANDBY ∧ (g = mROAD ∨ g = mFIELD) ∧ s.get R.UPD_STAT_MIXED = 0 ∧ s.upd.lock = false ∧
        s.get R.ALM_MODE_RING_READY = 0 ∧ c = 2) ∨
      (s.mode = mSERVICE ∧ (g = mROAD ∨ g = mFIELD) ∧ s.upd.lock = true ∧ c = 5) ∨
      (((s.mode = mROAD ∧ g = mFIELD) ∨ (s.mode = mFIELD ∧ g = mROAD)) ∧ s.get R.ALM_MODE_RING_READY = 0 ∧ c = 2) ∨
      ((s.mode = mROAD ∨ s.mode = mFIELD) ∧ g = mSTANDBY ∧ s.standstill = false ∧ c = 3) ∨
      (((s.mode = mSTANDBY ∧ g = mSERVICE) ∨ (s.mode = mSERVICE ∧ g = mSTANDBY)) ∧ s.tokenOk h = false ∧ c = 4) ∨
      (s.mode = mLIMP ∧ 3 ≤ g ∧ g ≤ 7 ∧ c = 1) ∨ ((g < 3 ∨ 7 < g) ∧ c = 12)) :
    s.modeCond h g = (c, 0) ∧ c ≠ 0 := by
  rcases hg with ⟨hm, hroad, hmix, rfl⟩ | ⟨hm, hroad, hmix, hlock, rfl⟩ | ⟨hm, hroad, hmix, hlock, hready, rfl⟩ |
    ⟨hm, hroad, hlock, rfl⟩ | ⟨hm, hready, rfl⟩ | ⟨hm, rfl, hstill, rfl⟩ | ⟨hm, htok, rfl⟩ | ⟨hm, hlo, hhi, rfl⟩ | ⟨hg, rfl⟩
  · refine ⟨?_, by decide⟩
    rcases hroad with rfl | rfl <;> simp [State.modeCond, hm, State.flag_eq_true hmix, mSTANDBY, mROAD, mFIELD, mLIMP]
  · refine ⟨?_, by decide⟩
    rcases hroad with rfl | rfl <;>
      simp [State.modeCond, hm, State.flag_eq_false hmix, hlock, mSTANDBY, mROAD, mFIELD, mLIMP]
  · refine ⟨?_, by decide⟩
    rcases hroad with rfl | rfl <;>
      simp [State.modeCond, hm, State.flag_eq_false hmix, hlock, State.flag_eq_false hready, mSTANDBY, mROAD, mFIELD, mLIMP]
  · refine ⟨?_, by decide⟩
    rcases hroad with rfl | rfl <;>
      simp [State.modeCond, hm, hlock, mSTANDBY, mROAD, mFIELD, mLIMP, mSERVICE]
  · refine ⟨?_, by decide⟩
    rcases hm with ⟨hm, rfl⟩ | ⟨hm, rfl⟩ <;>
      simp [State.modeCond, hm, State.flag_eq_false hready, mSTANDBY, mROAD, mFIELD, mLIMP]
  · refine ⟨?_, by decide⟩
    rcases hm with hm | hm <;> simp [State.modeCond, hm, hstill, mSTANDBY, mROAD, mFIELD, mLIMP]
  · refine ⟨?_, by decide⟩
    rcases hm with ⟨hm, rfl⟩ | ⟨hm, rfl⟩ <;>
      simp [State.modeCond, hm, htok, mSTANDBY, mROAD, mFIELD, mLIMP, mSERVICE]
  · refine ⟨?_, by decide⟩
    have hrange : ¬ (g < 3 ∨ 7 < g) := by omega
    simp [State.modeCond, State.inMode, hrange, hm, mSTANDBY, mROAD, mFIELD, mLIMP, mSERVICE]
  · exact ⟨if_pos hg, by decide⟩

/-- What MODE answers by its condition. -/
def modeAns (s : State) (g : Nat) (x : Nat × Nat) : Ans :=
  match x with
  | (0, cause) => .ok (s.reqMode g cause) s.nextTick
  | (c, _) => .refuse s c

theorem modeAns_refused (s : State) (g cause : Nat) {c : Nat} (h : c ≠ 0) : modeAns s g (c, cause) = .refuse s c := by
  obtain ⟨n, rfl⟩ := Nat.exists_eq_succ_of_ne_zero h
  rfl

theorem exec_mode (h : HsiHdr) (g : Nat) (s : State) :
    exec (.mode h g) s = s.request h 0x0013 false fun u => modeAns u g (u.modeCond h g) := rfl

theorem hsi_mode_taken {s : State} {h : HsiHdr} {g cause : Nat} (ht : s.HsiTakes h 0x0013 false)
    (hc : s.modeCond h g = (0, cause)) :
    ∃ t, exec (.mode h g) s = .next t ∧ HsiOk h 0x0013 (leBytes 4 (s.chr.tick + 1)) t ∧
      t.alm.modeReq = s.alm.modeReq ++ [(g, cause)] ∧ t.mode = s.mode ∧
      OnlyHsi h [] { s with alm.modeReq := t.alm.modeReq } t := by
  refine ⟨((s.heard h).reqMode g cause).replyTo h 0x0013 0 0 (leBytes 4 (s.chr.tick + 1)), ?_, rfl, ?_, s.heard_mode h, ?_⟩
  · rw [exec_mode]
    refine request_ok ht ?_
    rw [State.modeCond_heard, hc, ← s.nextTick_heard h]
    rfl
  · rw [State.replyTo_eq, State.reqMode_modeReq, State.heard_alm]
  · refine onlyHsi_replyTo (fun f _ => ?_) ?_ _ _ _ _
    · exact s.get_heard h f
    · rw [State.replyTo_eq, State.reqMode, State.heard_eq]
      rfl

theorem hsi_mode_refused {s : State} {h : HsiHdr} {g c : Nat} (ht : s.HsiTakes h 0x0013 false)
    (hc : s.modeCond h g = (c, 0) ∧ c ≠ 0) :
    ∃ t, exec (.mode h g) s = .next t ∧ HsiRefused h 0x0013 c [] s t := by
  rw [exec_mode]
  refine request_refused ht ?_
  rw [State.modeCond_heard, hc.1]
  exact modeAns_refused _ g 0 hc.2

/-! ### Reset and shutdown (R64) -/

theorem hsi_reset (s : State) (h : HsiHdr) (ht : s.HsiTakes h 0x0014 true) :
    ∃ t, exec (.reset h) s = .next t ∧ HsiOk h 0x0014 [] t ∧ ResetEntered 0x02 s t ∧ t.nor = s.nor := by
  have hreset : ResetEntered 0x02 s ((s.heard h).enterReset 0x02) :=
    resetEntered_enterReset (by decide) (s.heard_mode h) (s.heard_pending h)
  have hnor : ((s.heard h).enterReset 0x02).nor = s.nor := (State.enterReset_nor _ _).trans (s.heard_nor h)
  rw [exec_reset, execReset]
  exact ⟨((s.heard h).enterReset 0x02).replyTo h 0x0014 0 0 [], request_ok ht rfl, rfl, hreset, hnor⟩

theorem hsi_shutdown (s : State) (h : HsiHdr) (ht : s.HsiTakes h 0x0015 false) :
    ∃ t, exec (.shutdown h) s = .next t ∧ HsiOk h 0x0015 [] t ∧ t.get R.PWR_STATUS_SHUTREQ = 1 ∧ t.pwr.shutSrc = 1 ∧
      (s.inMode [mROAD, mFIELD, mLIMP] = true → t.pwr.pdBegun = s.pwr.pdBegun) ∧
      (s.inMode [mROAD, mFIELD, mLIMP] = false → s.upd.lock = true → t.pwr.pdBegun = s.pwr.pdBegun) ∧
      (s.inMode [mROAD, mFIELD, mLIMP] = false → s.upd.lock = false → t.pwr.pdBegun = true) ∧
      OnlyHsi h [R.PWR_STATUS_SHUTREQ] { s with pwr := t.pwr } t := by
  obtain ⟨hreq, hsrc, hsame, heq⟩ := (s.heard h).shutdownReq_shown 1
  obtain ⟨hdrive, hlocked, hbegun⟩ := (s.heard h).shutdownReq_pdBegun 1
  rw [State.inMode_heard] at hdrive hlocked hbegun
  rw [State.heard_pwr] at hdrive hlocked
  rw [State.heard_upd] at hlocked hbegun
  rw [exec_shutdown, execShutdown]
  refine ⟨((s.heard h).shutdownReq 1).replyTo h 0x0015 0 0 [], request_ok ht rfl, rfl, hreq, hsrc, hdrive, hlocked, hbegun,
    ?_⟩
  refine onlyHsi_replyTo (fun f hf => ?_) ?_ _ _ _ _
  · exact (hsame f hf).trans (s.get_heard h f)
  · rw [State.replyTo_eq, heq, State.heard_eq]
    rfl

end Sys2Proof.Machine

/-! What hosts command of the buses, the ring, the channels and the token (R497, R498, R502, R507). -/

namespace Sys2Proof.Machine

/-! ### Shared facts -/

@[simp] theorem leBytes_length (n v : Nat) : (leBytes n v).length = n := by
  induction n generalizing v with
  | zero => rfl
  | succ n ih => rw [leBytes, List.length_cons, ih]

theorem getD_modify_same {α : Type} {l : List α} (f : α → α) {i : Nat} (h : i < l.length) (d : α) :
    (l.modify i f).getD i d = f (l.getD i d) := by
  rw [List.getD_eq_getElem?_getD, List.getD_eq_getElem?_getD, List.getElem?_modify, List.getElem?_eq_getElem h]
  simp

theorem State.heard_shaped_bus {s : State} (h : HsiHdr) (hs : s.Shaped) : (s.heard h).bus.length = 6 := by
  obtain ⟨-, -, -, -, -, -, -, -, -, -, hbus, -⟩ := hs
  rw [State.heard_bus, hbus]

theorem State.heard_shaped_chans {s : State} (h : HsiHdr) (hs : s.Shaped) : (s.heard h).hlm.chans.length = 128 := by
  obtain ⟨-, -, hchans, -⟩ := hs
  rw [State.heard_hlm, hchans]

/-! ### Frames on the CAN buses (R412, R507) -/

/-- The frame that the words of an entry give. -/
def canTxFrame (e : List (BitVec 32)) : CanFrame :=
  frameOfWords (e.getD 0 0).toNat ((e.getD 1 0).toNat % 256)
    ((List.range 16).flatMap fun k => leBytes 4 (e.getD (2 + k) 0).toNat)

/-- One entry of a CAN_TX is submitted, and its result is listed. -/
def canTxStep (c : Nat) (x : State × List Nat) (e : List (BitVec 32)) : State × List Nat :=
  ((x.1.txSubmit c 3 ((e.getD 1 0).toNat / 65536) (canTxFrame e)).1,
    x.2 ++ [(x.1.txSubmit c 3 ((e.getD 1 0).toNat / 65536) (canTxFrame e)).2])

theorem exec_canTx (h : HsiHdr) (c : Nat) (l : List (List (BitVec 32))) (s : State) :
    exec (.canTx h c l) s = s.request h 0x0060 false fun u =>
      if 6 ≤ c ∨ l.isEmpty ∨ 16 < l.length then .refuse u 12
      else .ok (l.foldl (canTxStep c) (u, [])).1 (l.foldl (canTxStep c) (u, [])).2 := rfl

theorem length_foldl_canTxStep (c : Nat) (l : List (List (BitVec 32))) (x : State × List Nat) :
    (l.foldl (canTxStep c) x).2.length = x.2.length + l.length := by
  induction l generalizing x with
  | nil => rfl
  | cons e l ih =>
    rw [List.foldl_cons, ih, canTxStep]
    simp only [List.length_append, List.length_cons, List.length_nil]
    omega

theorem State.txSubmit_stopped {s : State} {c : Nat} (h : s.mode = mLIMP ∨ s.busStopped c = true) (src tag : Nat)
    (f : CanFrame) : s.txSubmit c src tag f = (s, 3) := if_pos h

theorem foldl_canTxStep_stopped {s : State} {c : Nat} (h : s.mode = mLIMP ∨ s.busStopped c = true)
    (l : List (List (BitVec 32))) (rs : List Nat) :
    l.foldl (canTxStep c) (s, rs) = (s, rs ++ List.replicate l.length 3) := by
  induction l generalizing rs with
  | nil => simp
  | cons e l ih =>
    have hstep : canTxStep c (s, rs) e = (s, rs ++ [3]) := by
      rw [canTxStep, State.txSubmit_stopped h]
    rw [List.foldl_cons, hstep, ih, List.append_assoc]
    rfl

/-- R412: an entry that no transmit object submits goes to the tail. -/
theorem queueIn_of_src {e : TxEntry} (h : e.src ≠ 1) (q : List TxEntry) : queueIn e q = q ++ [e] := by
  induction q with
  | nil => rfl
  | cons x q ih =>
    have hb : e.before x = false := by simp [TxEntry.before, h]
    rw [queueIn, hb, if_neg (by decide), ih]
    rfl

theorem State.busSubmit_taken {s : State} {c : Nat} {e : TxEntry} (hc : c < s.bus.length) (he : e.src ≠ 1)
    (hq : (s.busOf c).queue.length < 32) (hf : s.carries c e.frame = true) :
    (s.busSubmit c e).2 = true ∧ ((s.busSubmit c e).1.busOf c).queue = (s.busOf c).queue ++ [e] := by
  rw [State.busSubmit, if_pos ⟨hq, hf⟩, queueIn_of_src he]
  refine ⟨rfl, ?_⟩
  rw [State.busQueue, State.busOf, State.put_bus, State.modBus, getD_modify_same _ hc]

theorem State.busSubmit_dropped {s : State} {c : Nat} {e : TxEntry}
    (h : 32 ≤ (s.busOf c).queue.length ∨ s.carries c e.frame = false) :
    (s.busSubmit c e).2 = false ∧ (s.busSubmit c e).1.bus = s.bus := by
  have hno : ¬ ((s.busOf c).queue.length < 32 ∧ s.carries c e.frame = true) := by
    rintro ⟨hq, hf⟩
    rcases h with h | h
    · omega
    · simp [hf] at h
  rw [State.busSubmit, if_neg hno]
  exact ⟨rfl, by simp⟩

theorem State.txSubmit_running {s : State} {c : Nat} (hm : s.mode ≠ mLIMP) (hb : s.busStopped c = false) (src tag : Nat)
    (f : CanFrame) :
    s.txSubmit c src tag f =
      ((s.busSubmit c { frame := f, src := src, tag := tag, arrived := s.chr.tick }).1,
        if (s.busSubmit c { frame := f, src := src, tag := tag, arrived := s.chr.tick }).2 then 1 else 2) := by
  have hno : ¬ (s.mode = mLIMP ∨ s.busStopped c = true) := by simp [hm, hb]
  exact if_neg hno

@[simp] theorem State.busStopped_heard (s : State) (h : HsiHdr) (c : Nat) : (s.heard h).busStopped c = s.busStopped c := by
  rw [State.heard_eq]
  rfl

@[simp] theorem State.busOf_heard (s : State) (h : HsiHdr) (c : Nat) : (s.heard h).busOf c = s.busOf c := by
  rw [State.busOf, State.heard_bus, State.busOf]

@[simp] theorem State.carries_heard (s : State) (h : HsiHdr) (c : Nat) (f : CanFrame) :
    (s.heard h).carries c f = s.carries c f := by
  rw [State.heard_eq]
  rfl

theorem hsi_canTx (s : State) (h : HsiHdr) (c : Fin 6) (l : List (List (BitVec 32))) (hs : s.Shaped)
    (ht : s.HsiTakes h 0x0060 false) :
    (l ≠ [] → l.length ≤ 16 → ∃ t rs, exec (.canTx h c l) s = .next t ∧ HsiOk h 0x0060 rs t ∧ rs.length = l.length ∧
      (s.mode = mLIMP ∨ s.busStopped c = true → rs = List.replicate l.length 3 ∧ t.bus = s.bus) ∧
      ∀ e f, l = [e] → s.mode ≠ mLIMP → s.busStopped c = false →
        f = frameOfWords (e.getD 0 0).toNat ((e.getD 1 0).toNat % 256)
          ((List.range 16).flatMap fun k => leBytes 4 (e.getD (2 + k) 0).toNat) →
        ((s.busOf c).queue.length < 32 → s.carries c f = true → rs = [1] ∧
          ∃ x, (t.busOf c).queue = (s.busOf c).queue ++ [x] ∧ x.src = 3 ∧ x.frame = f ∧
          x.frame.id = (e.getD 0 0).toNat % 2 ^ 29 ∧ x.tag = (e.getD 1 0).toNat / 65536 ∧ x.arrived = s.chr.tick) ∧
        (32 ≤ (s.busOf c).queue.length ∨ s.carries c f = false → rs = [2] ∧ t.bus = s.bus)) ∧
    (l = [] ∨ 16 < l.length → ∃ t, exec (.canTx h c l) s = .next t ∧ HsiRefused h 0x0060 12 [] s t) := by
  have hclt := c.isLt
  rw [exec_canTx]
  refine ⟨fun hl hn => ?_, fun hbad => request_refused ht (if_pos (by simpa using .inr hbad))⟩
  have hgood : ¬ (6 ≤ c.val ∨ l.isEmpty = true ∨ 16 < l.length) := by
    rw [List.isEmpty_iff, not_or, not_or]
    exact ⟨by omega, hl, by omega⟩
  refine ⟨(l.foldl (canTxStep c) (s.heard h, [])).1.replyTo h 0x0060 0 0 (l.foldl (canTxStep c) (s.heard h, [])).2,
    (l.foldl (canTxStep c) (s.heard h, [])).2, request_ok ht (if_neg hgood), rfl, ?_, fun hstop => ?_,
    fun e f he hm hb hf => ?_⟩
  · rw [length_foldl_canTxStep, List.length_nil, Nat.zero_add]
  · rw [foldl_canTxStep_stopped (by rwa [State.heard_mode, State.busStopped_heard])]
    exact ⟨rfl, s.heard_bus h⟩
  · have hm' : (s.heard h).mode ≠ mLIMP := by rwa [State.heard_mode]
    have hb' : (s.heard h).busStopped c = false := by rwa [State.busStopped_heard]
    have hlen := State.heard_shaped_bus h hs
    subst he hf
    rw [List.foldl_cons, List.foldl_nil, canTxStep, State.txSubmit_running hm' hb', State.replyTo_eq]
    refine ⟨fun hq hcar => ?_, fun hdrop => ?_⟩
    · obtain ⟨hok, hqueue⟩ := State.busSubmit_taken (s := s.heard h) (c := c)
        (e := { frame := canTxFrame e, src := 3, tag := (e.getD 1 0).toNat / 65536, arrived := (s.heard h).chr.tick })
        (by omega) (show 3 ≠ 1 by decide) (by rwa [State.busOf_heard]) (by rw [State.carries_heard]; exact hcar)
      rw [State.busOf_heard] at hqueue
      exact ⟨by rw [hok]; rfl, _, hqueue, rfl, rfl, rfl, rfl, s.heard_tick h⟩
    · obtain ⟨hno, hbus⟩ := State.busSubmit_dropped (s := s.heard h) (c := c)
        (e := { frame := canTxFrame e, src := 3, tag := (e.getD 1 0).toNat / 65536, arrived := (s.heard h).chr.tick })
        (by rw [State.busOf_heard, State.carries_heard]; exact hdrop)
      exact ⟨by rw [hno]; rfl, hbus.trans (s.heard_bus h)⟩

/-! ### CAN subscriptions and trouble codes (R507) -/

theorem exec_canSub (h : HsiHdr) (mask life : Nat) (s : State) :
    exec (.canSub h mask life) s = execCanSub h mask life s := rfl

theorem hsi_canSub (s : State) (h : HsiHdr) (mask life : Nat) (ht : s.HsiTakes h 0x0061 false) :
    ∃ t, exec (.canSub h mask life) s = .next t ∧ HsiOk h 0x0061 [] t ∧ OnlyHsi h [] s t ∧
      (h.ip.toNat * 65536 + h.port.toNat, mask, s.chr.tick + 10000 * life) ∈ t.hsi.canSub ∧
      ∀ x, x.1 ≠ h.ip.toNat * 65536 + h.port.toNat → (x ∈ t.hsi.canSub ↔ x ∈ s.hsi.canSub) := by
  rw [exec_canSub, execCanSub]
  refine ⟨_, request_ok ht rfl, rfl, onlyHsi_replyTo (fun f _ => ?_) ?_ _ _ _ _, ?_, fun x hx => ?_⟩
  · exact s.get_heard h f
  · rw [State.heard_eq]
    rfl
  · rw [← s.heard_tick h]
    exact List.mem_append_right _ (List.mem_singleton.2 rfl)
  · have hne : x ≠ (h.ip.toNat * 65536 + h.port.toNat, mask, (s.heard h).chr.tick + 10000 * life) :=
      fun he => hx (congrArg Prod.fst he)
    refine List.mem_append.trans ?_
    rw [List.mem_filter, List.mem_singleton, or_iff_left hne, State.canSub_heard]
    simp [hx]

theorem exec_dtcSet (h : HsiHdr) (c : Nat) (l : List (BitVec 32)) (s : State) :
    exec (.dtcSet h c l) s = execDtcSet h c l s := rfl

theorem State.iso_modIso {s : State} {c : Nat} (hc : c < s.bus.length) (f : Iso → Iso) :
    (s.modIso c f).iso c = f (s.iso c) := by
  rw [State.iso, State.modIso, State.busOf, State.modBus, getD_modify_same _ hc]
  rfl

@[simp] theorem State.iso_heard (s : State) (h : HsiHdr) (c : Nat) : (s.heard h).iso c = s.iso c := by
  rw [State.iso, State.busOf_heard, State.iso]

/-- R421: the codes that are set, and those that they replace. -/
theorem State.iso_setDtcs {s : State} {c : Nat} (hc : c < s.bus.length) (l : List Nat) :
    ((s.setDtcs c l).iso c).active = l ∧
      (((s.setDtcs c l).iso c).changed = true ↔ (s.iso c).changed = true ∨ (s.iso c).active ≠ l) ∧
      (∀ d, d ∈ (s.iso c).active → d ∉ l → d ∈ ((s.setDtcs c l).iso c).prev) ∧
      ((s.setDtcs c l).iso c).addr = (s.iso c).addr := by
  rw [State.setDtcs, State.iso_modIso hc]
  refine ⟨rfl, by simp, fun d hd hn => ?_, rfl⟩
  by_cases hp : d ∈ (s.iso c).prev
  · exact List.mem_append_left _ (List.mem_filter.2 ⟨hp, by simpa using hn⟩)
  · exact List.mem_append_right _ (List.mem_filter.2 ⟨hd, by simp [hn, hp]⟩)

theorem State.iso_replyTo (s : State) (h : HsiHdr) (typ status cond : Nat) (body : List Nat) (c : Nat) :
    (s.replyTo h typ status cond body).iso c = s.iso c := rfl

theorem State.setDtcs_eq (s : State) (c : Nat) (l : List Nat) :
    s.setDtcs c l = { s with bus := (s.setDtcs c l).bus } := rfl

theorem hsi_dtcSet (s : State) (h : HsiHdr) (c : Nat) (l : List (BitVec 32)) (hs : s.Shaped)
    (ht : s.HsiTakes h 0x0062 false) :
    (c < 2 → l.length ≤ 32 → ∃ t, exec (.dtcSet h c l) s = .next t ∧ HsiOk h 0x0062 [] t ∧
      (t.iso c).active = l.map (·.toNat) ∧ ((t.iso c).changed = true ↔ (s.iso c).changed = true ∨
        (s.iso c).active ≠ l.map (·.toNat)) ∧
      (∀ d, d ∈ (s.iso c).active → d ∉ l.map (·.toNat) → d ∈ (t.iso c).prev) ∧ (t.iso c).addr = (s.iso c).addr ∧
      OnlyHsi h [] { s with bus := t.bus } t) ∧
    (2 ≤ c ∨ 32 < l.length → ∃ t, exec (.dtcSet h c l) s = .next t ∧ HsiRefused h 0x0062 12 [] s t) := by
  rw [exec_dtcSet, execDtcSet]
  refine ⟨fun hc hl => ?_, fun hbad => request_refused ht (if_pos hbad)⟩
  have hlen := State.heard_shaped_bus h hs
  obtain ⟨hact, hch, hprev, haddr⟩ := State.iso_setDtcs (s := s.heard h) (c := c) (by omega) (l.map (·.toNat))
  rw [State.iso_heard] at hch hprev haddr
  refine ⟨((s.heard h).setDtcs c (l.map (·.toNat))).replyTo h 0x0062 0 0 [], request_ok ht (if_neg (by omega)), rfl, ?_⟩
  rw [State.iso_replyTo]
  refine ⟨hact, hch, hprev, haddr, onlyHsi_replyTo (fun f _ => ?_) ?_ _ _ _ _⟩
  · exact s.get_heard h f
  · rw [State.replyTo_eq, State.setDtcs_eq, State.heard_eq]
    rfl

/-! ### Ring resets (R502) -/

theorem exec_ringReset (h : HsiHdr) (mask : BitVec 64) (edge : Nat) (s : State) :
    exec (.ringReset h mask edge) s = execRingReset h mask edge s := rfl

@[simp] theorem State.followsRing_heard (s : State) (h : HsiHdr) : (s.heard h).followsRing = s.followsRing := by
  rw [State.heard_eq]
  rfl

theorem State.announce_shown {s : State} {e : Nat} (he : e < s.mrd.ann.length) (hm : s.alm.mgmtFailed = false)
    (hf : s.followsRing = false) (type tick arg : Nat) :
    ((s.announce e type tick arg).mrd.ann.getD e {}).type = type ∧
      ((s.announce e type tick arg).mrd.ann.getD e {}).tick = tick ∧
      ((s.announce e type tick arg).mrd.ann.getD e {}).arg = arg ∧
      s.announce e type tick arg = { s with mrd := (s.announce e type tick arg).mrd } := by
  have hno : ¬ (s.alm.mgmtFailed || s.followsRing) = true := by simp [hm, hf]
  rw [State.announce, if_neg hno]
  have hset (a : RingAnn) : (s.mrd.ann.set e a).getD e {} = a := by
    rw [List.getD_eq_getElem?_getD, List.getElem?_set_self he, Option.getD_some]
  dsimp only
  rw [hset]
  exact ⟨rfl, rfl, rfl, rfl⟩

theorem hsi_ringReset (s : State) (h : HsiHdr) (mask : BitVec 64) (edge : Nat) (ht : s.HsiTakes h 0x0090 true)
    (ha : s.mrd.ann.length = 8) (hm : s.alm.mgmtFailed = false) (hf : s.followsRing = false) :
    (mask.getLsbD 0 = false → s.chr.tick + 4 ≤ edge → ∃ t, exec (.ringReset h mask edge) s = .next t ∧
      HsiOk h 0x0090 [] t ∧ (t.mrd.ann.getD 6 {}).type = 4 ∧ (t.mrd.ann.getD 6 {}).tick = edge ∧
      (t.mrd.ann.getD 6 {}).arg = mask.toNat ∧ OnlyHsi h [] { s with mrd := t.mrd } t) ∧
    (mask.getLsbD 0 = true → ∃ t, exec (.ringReset h mask edge) s = .next t ∧ HsiRefused h 0x0090 12 [] s t) ∧
    (mask.getLsbD 0 = false → edge < s.chr.tick + 4 →
      ∃ t, exec (.ringReset h mask edge) s = .next t ∧ HsiRefused h 0x0090 11 [] s t) := by
  rw [exec_ringReset, execRingReset]
  refine ⟨fun hself hlate => ?_, fun hself => request_refused ht (if_pos hself), fun hself hsoon => ?_⟩
  · obtain ⟨htype, htick, harg, heq⟩ := State.announce_shown (s := s.heard h) (e := 6) (by rw [State.heard_mrd, ha]; decide)
      (by rw [State.heard_alm, hm]) (by rw [State.followsRing_heard, hf]) 4 edge mask.toNat
    refine ⟨((s.heard h).announce 6 4 edge mask.toNat).replyTo h 0x0090 0 0 [], request_ok ht ?_, rfl, htype, htick, harg,
      onlyHsi_replyTo (fun f _ => ?_) ?_ _ _ _ _⟩
    · refine (if_neg (ne_true_of_eq_false hself)).trans (if_neg ?_)
      rw [State.heard_tick]
      omega
    · rw [heq]
      exact s.get_heard h f
    · rw [State.replyTo_eq, heq, State.heard_eq]
      rfl
  · refine request_refused ht ((if_neg (ne_true_of_eq_false hself)).trans (if_pos ?_))
    rwa [State.heard_tick]

end Sys2Proof.Machine

/-! What hosts command of the channels in SERVICE, and the service token (R497, R498, R502; O59). -/

namespace Sys2Proof.Machine

/-! ### Channels (R221 to R225) -/

theorem State.chan_modChan {s : State} {c : Nat} (hc : c < s.hlm.chans.length) (f : Chan → Chan) :
    (s.modChan c f).chan c = f (s.chan c) := by
  rw [State.chan, State.modChan, getD_modify_same _ hc, State.chan]

theorem State.length_chans_modChan (s : State) (c : Nat) (f : Chan → Chan) :
    (s.modChan c f).hlm.chans.length = s.hlm.chans.length := List.length_modify ..

theorem State.chan_congr {s t : State} (h : s.hlm = t.hlm) (c : Nat) : s.chan c = t.chan c := by
  rw [State.chan, State.chan, h]

/-- R222: a hand-over takes the channel to HANDOVER with its cause and its target. -/
theorem State.startHo_shown {s : State} {c : Nat} (hc : c < s.hlm.chans.length) (cause target : Nat) :
    (s.startHo c cause target).chState c = 6 ∧ (s.startHo c cause target).get (R.HLM_HOV_CAUSE c) = cause % 8 ∧
      ((s.startHo c cause target).chan c).target = target ∧ ((s.startHo c cause target).chan c).svc = (s.chan c).svc := by
  have hchan : (s.startHo c cause target).chan c = { s.chan c with target := target, hoTold := false, paused := false } := by
    have hhlm : (s.startHo c cause target).hlm =
        (s.modChan c fun x => { x with target := target, hoTold := false, paused := false }).hlm := by
      rw [State.startHo, State.chEvent, State.raise_hlm, State.puts_hlm]
    rw [State.chan_congr hhlm, State.chan_modChan hc]
  refine ⟨?_, ?_, by rw [hchan], by rw [hchan]⟩
  · rw [State.chState, State.startHo, State.chEvent, State.get_raise, State.puts, State.get_puts_other, State.get_put_same]
    · rfl
    · simp only [List.forall_mem_cons, List.not_mem_nil, false_imp_iff, implies_true, and_true, R.HLM_CHST_STATE,
        R.HLM_HOV_ACTIVE, R.HLM_HOV_CAUSE, R.HLM_HOV_TICKS, R.HLM_HOVD_VALUE, Fld.at]
      omega
    · simp only [R.HLM_CHST_STATE, R.LOG_LOST_VALUE, Fld.at]
      omega
  · rw [State.startHo, State.chEvent, State.get_raise, State.puts, State.puts, State.puts, State.get_puts_other,
      State.get_put_same]
    · rfl
    · simp only [List.forall_mem_cons, List.not_mem_nil, false_imp_iff, implies_true, and_true,
        R.HLM_HOV_CAUSE, R.HLM_HOV_TICKS, R.HLM_HOVD_VALUE, Fld.at]
      omega
    · simp only [R.HLM_HOV_CAUSE, R.LOG_LOST_VALUE, Fld.at]
      omega

theorem State.startLaw_shown {s : State} {c : Nat} (hc : c < s.hlm.chans.length) (cause : Nat) :
    (s.startLaw c cause).chState c = 6 ∧ ((s.startLaw c cause).chan c).target = 2 ∧
      ((s.startLaw c cause).chan c).svc = (s.chan c).svc := by
  have hlen : c < (((s.put (R.HLM_AM_AM c) (b2n (s.hctl c 0x0E 1 != 0))).put (R.HLM_AM_REQ c)
      (b2n (s.hctl c 0x0E 1 != 0))).modChan c fun x =>
        { x with fresh := true, rawLaw := none, why := 0, result := none }).hlm.chans.length := by
    rw [State.length_chans_modChan, State.put_hlm, State.put_hlm]
    exact hc
  obtain ⟨hst, -, htarget, hsvc⟩ := State.startHo_shown hlen cause 2
  refine ⟨hst, htarget, hsvc.trans ?_⟩
  rw [State.chan_modChan (by rw [State.put_hlm, State.put_hlm]; exact hc), State.chan, State.put_hlm, State.put_hlm]
  rfl

theorem State.stopLaw_shown {s : State} {c : Nat} (hc : c < s.hlm.chans.length) (target why : Nat) :
    (s.stopLaw c target why).chState c = 6 ∧ ((s.stopLaw c target why).chan c).target = target ∧
      ((s.stopLaw c target why).chan c).svc = (s.chan c).svc := by
  have hlen : c < (s.modChan c fun x => { x with
      why := why, result := none, back := target == 4, missed := if target = 4 then x.missed else 0 }).hlm.chans.length := by
    rw [State.length_chans_modChan]
    exact hc
  obtain ⟨hst, -, htarget, hsvc⟩ := State.startHo_shown hlen 1 target
  refine ⟨hst, htarget, hsvc.trans ?_⟩
  rw [State.chan_modChan hc]

/-! ### Service drives (R502) -/

@[simp] theorem State.chanB_heard (s : State) (h : HsiHdr) (c off n : Nat) : (s.heard h).chanB c off n = s.chanB c off n :=
  s.cfg_heard h 0x0300 c off n

@[simp] theorem State.chanOn_heard (s : State) (h : HsiHdr) (c : Nat) : (s.heard h).chanOn c = s.chanOn c := by
  rw [State.heard_eq]
  rfl

@[simp] theorem State.sinkOff_heard (s : State) (h : HsiHdr) (c : Nat) : (s.heard h).sinkOff c = s.sinkOff c := by
  rw [State.heard_eq]
  rfl

@[simp] theorem State.chState_heard (s : State) (h : HsiHdr) (c : Nat) : (s.heard h).chState c = s.chState c :=
  s.get_heard h _

@[simp] theorem State.chan_heard (s : State) (h : HsiHdr) (c : Nat) : (s.heard h).chan c = s.chan c :=
  State.chan_congr (s.heard_hlm h) c

@[simp] theorem State.lawAllowed_heard (s : State) (h : HsiHdr) (c : Nat) : (s.heard h).lawAllowed c = s.lawAllowed c := by
  rw [State.heard_eq]
  rfl

@[simp] theorem State.ttBlocked_heard (s : State) (h : HsiHdr) (g : Nat) : (s.heard h).ttBlocked g = s.ttBlocked g := by
  rw [State.heard_eq]
  rfl

theorem exec_svcDrive (h : HsiHdr) (ch : Nat) (rel : Bool) (raw : BitVec 32) (s : State) :
    exec (.svcDrive h ch rel raw) s = execSvcDrive h ch rel raw s := rfl

/-- R502: the value that a service drive gives a channel, or that its release takes away. -/
def State.svcSet (s : State) (ch : Nat) (v : Option Int) : State := s.modChan ch fun x => { x with svc := v }

theorem State.svcSet_kept (s : State) (ch : Nat) (v : Option Int) :
    (s.svcSet ch v).sinkOff ch = s.sinkOff ch ∧ (s.svcSet ch v).chState ch = s.chState ch ∧
      (s.svcSet ch v).lawAllowed ch = s.lawAllowed ch ∧ (s.svcSet ch v).ttBlocked (ch / 16) = s.ttBlocked (ch / 16) ∧
      (s.svcSet ch v).hlm.chans.length = s.hlm.chans.length :=
  ⟨rfl, rfl, rfl, rfl, List.length_modify ..⟩

theorem State.chan_svcSet {s : State} {ch : Nat} (hc : ch < s.hlm.chans.length) (v : Option Int) :
    ((s.svcSet ch v).chan ch).svc = v ∧ ((s.svcSet ch v).chan ch).removed = (s.chan ch).removed := by
  rw [State.svcSet, State.chan_modChan hc]
  exact ⟨rfl, rfl⟩

/-- R502: a driven channel is handed over to its value. -/
def State.svcDriven (s : State) (ch : Nat) (v : Int) : State :=
  if s.sinkOff ch || s.chState ch == 5 then s.svcSet ch (some v)
  else (s.svcSet ch (some v)).startHo ch 3 (if s.chState ch = 6 then (s.chan ch).target else s.chState ch)

/-- R502: a released channel is handed over to its law, or to SAFE_RAW. -/
def State.svcFreed (s : State) (ch : Nat) : State :=
  let u := s.svcSet ch none
  if u.sinkOff ch || u.chState ch == 5 then u
  else if u.lawRuns ch && !u.ttBlocked (ch / 16) then u.startLaw ch 0
  else if (u.chan ch).removed then u.stopLaw ch 4 4 else u.stopLaw ch 1 0

/-- What SVC_DRIVE answers where the mode and the channel let it act. -/
theorem svcDrive_ans {s u : State} {h : HsiHdr} {ch : Nat} {rel : Bool} {raw : BitVec 32} (ht : s.HsiTakes h 0x0091 true)
    (hm : s.mode = mSERVICE) (hc : ch < 128) (hon : s.chanOn ch = true) (hd : s.chanB ch 0x1C 4 ≠ 0)
    (hu : (if rel then (if ((s.heard h).chan ch).svc.isNone then s.heard h else (s.heard h).svcFreed ch)
      else (s.heard h).svcDriven ch (satSink (s.chanB ch 0x1C 4) raw.toInt)) = u) :
    exec (.svcDrive h ch rel raw) s = .next (u.replyTo h 0x0091 0 0 []) := by
  have hmode : ¬ (s.heard h).mode ≠ mSERVICE := by rw [State.heard_mode]; exact not_not.2 hm
  have hgood : ¬ (128 ≤ ch ∨ (s.heard h).chanOn ch = false ∨ (s.heard h).chanB ch 0x1C 4 = 0) := by
    rw [State.chanOn_heard, State.chanB_heard, hon]
    simp only [Bool.true_eq_false, false_or]
    omega
  rw [exec_svcDrive, execSvcDrive]
  refine request_ok ht ((if_neg hmode).trans ((if_neg hgood).trans ?_))
  subst hu
  cases rel with
  | true =>
    rw [if_pos rfl, if_pos rfl]
    split_ifs
    · rfl
    · rfl
  | false =>
    rw [if_neg (by decide), if_neg (by decide), ← s.chanB_heard h]
    rfl

theorem hsi_svcDrive_refused (s : State) (h : HsiHdr) (ch : Nat) (rel : Bool) (raw : BitVec 32)
    (ht : s.HsiTakes h 0x0091 true) :
    (s.mode ≠ mSERVICE → ∃ t, exec (.svcDrive h ch rel raw) s = .next t ∧ HsiRefused h 0x0091 7 [] s t) ∧
    (s.mode = mSERVICE → 128 ≤ ch ∨ s.chanOn ch = false ∨ s.chanB ch 0x1C 4 = 0 →
      ∃ t, exec (.svcDrive h ch rel raw) s = .next t ∧ HsiRefused h 0x0091 12 [] s t) := by
  rw [exec_svcDrive, execSvcDrive]
  refine ⟨fun hm => request_refused ht (if_pos (by rwa [State.heard_mode])), fun hm hbad => ?_⟩
  exact request_refused ht ((if_neg (by rw [State.heard_mode]; exact not_not.2 hm)).trans
    (if_pos (by rwa [State.chanOn_heard, State.chanB_heard])))

theorem State.svcDriven_shown {s : State} {ch : Nat} (hc : ch < s.hlm.chans.length) (hoff : s.sinkOff ch = false)
    (hst : s.chState ch ≠ 5) (v : Int) :
    ((s.svcDriven ch v).chan ch).svc = some v ∧ (s.svcDriven ch v).chState ch = 6 ∧
      (s.svcDriven ch v).get (R.HLM_HOV_CAUSE ch) = 3 ∧
      (s.chState ch ≠ 6 → ((s.svcDriven ch v).chan ch).target = s.chState ch) := by
  obtain ⟨-, -, -, -, hlen⟩ := s.svcSet_kept ch (some v)
  obtain ⟨hstate, hcause, htarget, hsvc⟩ := State.startHo_shown (s := s.svcSet ch (some v)) (c := ch) (by omega) 3
    (if s.chState ch = 6 then (s.chan ch).target else s.chState ch)
  have hact : ¬ (s.sinkOff ch || s.chState ch == 5) = true := by simp [hoff, hst]
  rw [State.svcDriven, if_neg hact]
  exact ⟨hsvc.trans (State.chan_svcSet hc (some v)).1, hstate, hcause, fun h6 => htarget.trans (if_neg h6)⟩

theorem State.svcFreed_shown {s : State} {ch : Nat} (hc : ch < s.hlm.chans.length) (hoff : s.sinkOff ch = false)
    (hst : s.chState ch ≠ 5) (hr : (s.chan ch).removed = false) :
    ((s.svcFreed ch).chan ch).svc = none ∧ (s.svcFreed ch).chState ch = 6 ∧
      ((s.svcFreed ch).chan ch).target = if s.lawAllowed ch = true ∧ s.ttBlocked (ch / 16) = false then 2 else 1 := by
  obtain ⟨hkoff, hkst, hkall, hktt, hlen⟩ := s.svcSet_kept ch none
  obtain ⟨hnone, hkr⟩ := State.chan_svcSet hc none
  have hact : ¬ ((s.svcSet ch none).sinkOff ch || (s.svcSet ch none).chState ch == 5) = true := by
    simp [hkoff, hkst, hoff, hst]
  have hkept : ¬ ((s.svcSet ch none).chan ch).removed = true := by simp [hkr, hr]
  have hlaw : ((s.svcSet ch none).lawRuns ch && !(s.svcSet ch none).ttBlocked (ch / 16)) = true ↔
      s.lawAllowed ch = true ∧ s.ttBlocked (ch / 16) = false := by
    simp [State.lawRuns, hkall, hktt, hkr, hr]
  rw [State.svcFreed, if_neg hact, if_neg hkept]
  by_cases hruns : s.lawAllowed ch = true ∧ s.ttBlocked (ch / 16) = false
  · rw [if_pos (hlaw.2 hruns), if_pos hruns]
    obtain ⟨hstate, htarget, hsvc⟩ := State.startLaw_shown (s := s.svcSet ch none) (c := ch) (by omega) 0
    exact ⟨hsvc.trans hnone, hstate, htarget⟩
  · rw [if_neg (mt hlaw.1 hruns), if_neg hruns]
    obtain ⟨hstate, htarget, hsvc⟩ := State.stopLaw_shown (s := s.svcSet ch none) (c := ch) (by omega) 1 0
    exact ⟨hsvc.trans hnone, hstate, htarget⟩

theorem hsi_svcDrive (s : State) (h : HsiHdr) (ch : Nat) (rel : Bool) (raw : BitVec 32) (hs : s.Shaped)
    (ht : s.HsiTakes h 0x0091 true) :
    (s.mode ≠ mSERVICE → ∃ t, exec (.svcDrive h ch rel raw) s = .next t ∧ HsiRefused h 0x0091 7 [] s t) ∧
    (s.mode = mSERVICE → 128 ≤ ch ∨ s.chanOn ch = false ∨ s.chanB ch 0x1C 4 = 0 →
      ∃ t, exec (.svcDrive h ch rel raw) s = .next t ∧ HsiRefused h 0x0091 12 [] s t) ∧
    (s.mode = mSERVICE → ch < 128 → s.chanOn ch = true → s.chanB ch 0x1C 4 ≠ 0 → s.sinkOff ch = false → s.chState ch ≠ 5 →
      (s.chan ch).removed = false →
      (∃ t, exec (.svcDrive h ch false raw) s = .next t ∧ HsiOk h 0x0091 [] t ∧
        (t.chan ch).svc = some (satSink (s.chanB ch 0x1C 4) raw.toInt) ∧ t.chState ch = 6 ∧
        t.get (R.HLM_HOV_CAUSE ch) = 3 ∧ (s.chState ch ≠ 6 → (t.chan ch).target = s.chState ch)) ∧
      ((s.chan ch).svc ≠ none → ∃ t, exec (.svcDrive h ch true raw) s = .next t ∧ HsiOk h 0x0091 [] t ∧
        (t.chan ch).svc = none ∧ t.chState ch = 6 ∧
        (t.chan ch).target = (if s.lawAllowed ch = true ∧ s.ttBlocked (ch / 16) = false then 2 else 1))) := by
  obtain ⟨hmode, hbad⟩ := hsi_svcDrive_refused s h ch rel raw ht
  refine ⟨hmode, hbad, fun hm hc hon hd hoff hst hr => ?_⟩
  have hlen := State.heard_shaped_chans h hs
  have hoff' : (s.heard h).sinkOff ch = false := by rw [State.sinkOff_heard, hoff]
  have hst' : (s.heard h).chState ch ≠ 5 := by rwa [State.chState_heard]
  have hr' : ((s.heard h).chan ch).removed = false := by rw [State.chan_heard, hr]
  constructor
  · have hshown := State.svcDriven_shown (by omega) hoff' hst' (satSink (s.chanB ch 0x1C 4) raw.toInt)
    rw [State.chState_heard] at hshown
    exact ⟨_, svcDrive_ans ht hm hc hon hd (if_neg (by decide)), rfl, hshown⟩
  · intro hsvc
    have hshown := State.svcFreed_shown (by omega) hoff' hst' hr'
    rw [State.lawAllowed_heard, State.ttBlocked_heard] at hshown
    have hsome : ¬ ((s.heard h).chan ch).svc.isNone = true := by
      rw [State.chan_heard, Option.isNone_iff_eq_none]
      exact hsvc
    exact ⟨_, svcDrive_ans ht hm hc hon hd ((if_pos rfl).trans (if_neg hsome)), rfl, hshown⟩

/-! ### Service tokens (R497, R498) -/

theorem exec_tokenReq (h : HsiHdr) (s : State) : exec (.tokenReq h) s = execTokenReq h s := rfl
theorem exec_tokenDrop (h : HsiHdr) (s : State) : exec (.tokenDrop h) s = execTokenDrop h s := rfl
theorem exec_tokenExpiry (s : State) : exec .tokenExpiry s = execTokenExpiry s := rfl

theorem State.hostOf_replyTo (s : State) (h : HsiHdr) (typ status cond : Nat) (body : List Nat) :
    ∃ r, (s.replyTo h typ status cond body).hostOf h = (s.hostOf h).map fun x => { x with reply := some r } :=
  ⟨_, State.hostOf_modHost fun _ => ⟨rfl, rfl⟩⟩

/-- A reply leaves the nonce of its host. -/
theorem State.nonce_replyTo (s : State) (h : HsiHdr) (typ status cond : Nat) (body : List Nat) :
    ((s.replyTo h typ status cond body).hostOf h).bind (·.nonce) = (s.hostOf h).bind (·.nonce) := by
  obtain ⟨r, hr⟩ := s.hostOf_replyTo h typ status cond body
  rw [hr]
  cases s.hostOf h <;> rfl

theorem State.nonce_heard (s : State) (h : HsiHdr) :
    ((s.heard h).hostOf h).bind (·.nonce) = (s.hostOf h).bind (·.nonce) := by
  obtain ⟨x, hx, hn⟩ := s.hostOf_heard h
  rw [hx]
  exact hn

/-- The nonce that a request's host is given, or that it uses up. -/
theorem State.nonce_modHost {s u : State} {h : HsiHdr} (hu : u.hsi.hosts = (s.heard h).hsi.hosts)
    (n : Option (List Nat × Nat)) :
    ((u.modHost h fun x => { x with nonce := n }).hostOf h).bind (·.nonce) = n := by
  obtain ⟨x, hx, -⟩ := s.hostOf_heard h
  rw [State.hostOf_modHost (f := fun x => { x with nonce := n }) fun _ => ⟨rfl, rfl⟩, State.hostOf_congr hu, hx]
  rfl

theorem hsi_tokenReq (s : State) (h : HsiHdr) (ht : s.HsiTakes h 0x00F0 false) :
    ∃ t n, exec (.tokenReq h) s = .next t ∧ HsiOk h 0x00F0 n t ∧ n.length = 16 ∧
      (t.hostOf h).bind (·.nonce) = some (n, s.chr.tick) ∧ t.hsi.token.isSome = s.hsi.token.isSome ∧
      OnlyHsi h [] { s with freeCtr := s.freeCtr + 1 } t := by
  rw [exec_tokenReq, execTokenReq]
  refine ⟨_, leBytes 16 ((s.heard h).free 128).1, request_ok ht rfl, rfl, leBytes_length 16 _, ?_, s.isSome_token_heard h,
    onlyHsi_replyTo (fun f _ => ?_) ?_ _ _ _ _⟩
  · rw [State.nonce_replyTo, ← s.heard_tick h]
    exact State.nonce_modHost rfl _
  · exact s.get_heard h f
  · rw [State.heard_eq]
    rfl

@[simp] theorem State.tokenMax_heard (s : State) (h : HsiHdr) : (s.heard h).tokenMax = s.tokenMax := by
  rw [State.heard_eq]
  rfl

@[simp] theorem State.usable_heard (s : State) (h : HsiHdr) : (s.heard h).usable = s.usable := by
  rw [State.usable, State.heard_nor, State.usable]

@[simp] theorem State.grantText_heard (s : State) (h : HsiHdr) (n : List Nat) (life : Nat) :
    (s.heard h).grantText n life h = s.grantText n life h := by
  rw [State.heard_eq]
  rfl

theorem State.now_heard (s : State) (h : HsiHdr) : (s.heard h).now = (s.atPhase h.phase).now := by
  rw [State.heard_eq]
  rfl

/-- R497: what the grant leaves: the host's token, and its nonce used up. -/
def State.granted (s : State) (h : HsiHdr) (life : Nat) : State :=
  ({ (s.free 64).2 with
    hsi.token := some ⟨(s.free 64).1, h.ip.toNat, h.port.toNat, s.chr.tick + 10000 * life, s.chr.tick⟩ } : State).modHost h
      fun x => { x with nonce := none }

/-- What TOKEN_GRANT answers by the nonce that its host holds. -/
def grantAns (s : State) (h : HsiHdr) (slot life : Nat) (sig : List Byte) (nonce : Option (List Nat × Nat)) : Ans :=
  match nonce with
  | none => .refuse s 4
  | some n =>
    if bit s.usable slot && Config.ecdsaOk slot (s.grantText n.1 life h) sig then
      .ok (s.granted h life) (leBytes 8 (s.free 64).1 ++ leBytes 8 (s.now + 800000000 * life))
    else .refuse s 4

theorem exec_tokenGrant (h : HsiHdr) (slot life : Nat) (sig : List Byte) (s : State) :
    exec (.tokenGrant h slot life sig) s = s.request h 0x00F1 false fun u =>
      if 3 < slot ∨ life < 60 ∨ u.tokenMax < life then .refuse u 12
      else grantAns u h slot life sig (((u.hostOf h).bind (·.nonce)).filter fun n => decide (u.chr.tick < n.2 + 100000)) :=
  rfl

/-- R497: a nonce stands for 10 s. -/
theorem State.nonce_fresh {s : State} {h : HsiHdr} {n : List Nat × Nat} (hn : (s.hostOf h).bind (·.nonce) = some n)
    (hk : s.chr.tick < n.2 + 100000) :
    (((s.heard h).hostOf h).bind (·.nonce)).filter (fun n => decide ((s.heard h).chr.tick < n.2 + 100000)) = some n := by
  rw [State.nonce_heard, hn, State.heard_tick, Option.filter_some, if_pos (decide_eq_true hk)]

theorem hsi_tokenGrant (s : State) (h : HsiHdr) (slot life : Nat) (sig : List Byte) (n : List Nat) (k : Nat)
    (ht : s.HsiTakes h 0x00F1 false) :
    (slot ≤ 3 → 60 ≤ life → life ≤ s.tokenMax → (s.hostOf h).bind (·.nonce) = some (n, k) → s.chr.tick < k + 100000 →
      (bit s.usable slot = true → Config.ecdsaOk slot (s.grantText n life h) sig = true →
        ∃ t v, exec (.tokenGrant h slot life sig) s = .next t ∧
          t.hsi.token = some ⟨v, h.ip.toNat, h.port.toNat, s.chr.tick + 10000 * life, s.chr.tick⟩ ∧
          HsiOk h 0x00F1 (leBytes 8 v ++ leBytes 8 ((s.atPhase h.phase).now + 800000000 * life)) t ∧
          (t.hostOf h).bind (·.nonce) = none ∧ OnlyHsi h [] { s with freeCtr := s.freeCtr + 1 } t) ∧
      (bit s.usable slot = false ∨ Config.ecdsaOk slot (s.grantText n life h) sig = false →
        ∃ t, exec (.tokenGrant h slot life sig) s = .next t ∧ HsiRefused h 0x00F1 4 [] s t)) ∧
    (3 < slot ∨ life < 60 ∨ s.tokenMax < life →
      ∃ t, exec (.tokenGrant h slot life sig) s = .next t ∧ HsiRefused h 0x00F1 12 [] s t) ∧
    (slot ≤ 3 → 60 ≤ life → life ≤ s.tokenMax → (s.hostOf h).bind (·.nonce) = none →
      ∃ t, exec (.tokenGrant h slot life sig) s = .next t ∧ HsiRefused h 0x00F1 4 [] s t) := by
  have hgood (hslot : slot ≤ 3) (hlo : 60 ≤ life) (hhi : life ≤ s.tokenMax) :
      ¬ (3 < slot ∨ life < 60 ∨ (s.heard h).tokenMax < life) := by
    rw [State.tokenMax_heard]
    omega
  rw [exec_tokenGrant]
  refine ⟨fun hslot hlo hhi hn hk => ⟨fun hbit hsig => ?_, fun hbad => request_refused ht ?_⟩,
    fun hbad => request_refused ht (if_pos (by rwa [State.tokenMax_heard])),
    fun hslot hlo hhi hn => request_refused ht ((if_neg (hgood hslot hlo hhi)).trans ?_)⟩
  · have hok : (bit (s.heard h).usable slot && Config.ecdsaOk slot ((s.heard h).grantText n life h) sig) = true := by
      rw [State.usable_heard, State.grantText_heard, hbit, hsig]
      rfl
    refine ⟨((s.heard h).granted h life).replyTo h 0x00F1 0 0 (leBytes 8 ((s.heard h).free 64).1 ++
      leBytes 8 ((s.atPhase h.phase).now + 800000000 * life)), ((s.heard h).free 64).1, request_ok ht ?_, ?_, rfl, ?_,
      onlyHsi_replyTo (fun f _ => ?_) ?_ _ _ _ _⟩
    · rw [if_neg (hgood hslot hlo hhi), State.nonce_fresh hn hk, grantAns]
      dsimp only
      rw [if_pos hok, State.now_heard]
    · rw [← s.heard_tick h]
      rfl
    · rw [State.nonce_replyTo]
      exact State.nonce_modHost rfl none
    · exact s.get_heard h f
    · rw [State.heard_eq]
      rfl
  · have hno : ¬ (bit (s.heard h).usable slot && Config.ecdsaOk slot ((s.heard h).grantText n life h) sig) = true := by
      rw [State.usable_heard, State.grantText_heard, Bool.and_eq_true, not_and_or, Bool.not_eq_true, Bool.not_eq_true]
      exact hbad
    rw [if_neg (hgood hslot hlo hhi), State.nonce_fresh hn hk, grantAns]
    exact if_neg hno
  · rw [State.nonce_heard, hn]
    rfl

/-- R498: what the end of the token leaves. -/
theorem State.endToken_shown {s : State} (h : s.hsi.token.isSome = true) :
    s.endToken.hsi.token = none ∧
      s.endToken.alm.modeReq = s.alm.modeReq ++ (if s.mode = mSERVICE then [(mSTANDBY, 0x22)] else []) ∧
      s.endToken = { s with hsi.token := none, alm.modeReq := s.endToken.alm.modeReq } := by
  have hsome : ¬ s.hsi.token.isNone = true := by
    rw [Option.isNone_iff_eq_none]
    exact Option.isSome_iff_ne_none.1 h
  have hmode : ({ s with hsi.token := none } : State).mode = s.mode := rfl
  rw [State.endToken, if_neg hsome]
  dsimp only
  rw [hmode]
  split_ifs
  · exact ⟨rfl, rfl, rfl⟩
  · exact ⟨rfl, (List.append_nil _).symm, rfl⟩

theorem hsi_tokenDrop (s : State) (h : HsiHdr) (ht : s.HsiTakes h 0x00F2 true) :
    ∃ t, exec (.tokenDrop h) s = .next t ∧ HsiOk h 0x00F2 [] t ∧ t.hsi.token = none ∧
      t.alm.modeReq = s.alm.modeReq ++ (if s.mode = mSERVICE then [(mSTANDBY, 0x22)] else []) ∧
      OnlyHsi h [] { s with alm.modeReq := t.alm.modeReq } t := by
  obtain ⟨-, -, -, -, -, htok⟩ := id ht
  have hsome : (s.heard h).hsi.token.isSome = true :=
    (s.isSome_token_heard h).trans (State.isSome_token_of_tokenOk (htok rfl))
  obtain ⟨hnone, hreq, heq⟩ := State.endToken_shown hsome
  rw [State.heard_alm, State.heard_mode] at hreq
  rw [exec_tokenDrop, execTokenDrop]
  refine ⟨(s.heard h).endToken.replyTo h 0x00F2 0 0 [], request_ok ht rfl, rfl, hnone, hreq,
    onlyHsi_replyTo (fun f _ => ?_) ?_ _ _ _ _⟩
  · rw [heq]
    exact s.get_heard h f
  · rw [State.replyTo_eq, heq, State.heard_eq]
    rfl

theorem tokenExpiry_ends (s : State) :
    (∀ k, s.hsi.token = some k →
      (k.expiry ≤ s.chr.tick ∨ k.used + 600000 ≤ s.chr.tick → ∃ t, exec .tokenExpiry s = .next t ∧ t.hsi.token = none ∧
        t.alm.modeReq = s.alm.modeReq ++ (if s.mode = mSERVICE then [(mSTANDBY, 0x22)] else []) ∧
        t = { s with hsi.token := none, alm.modeReq := t.alm.modeReq }) ∧
      (s.chr.tick < k.expiry → s.chr.tick < k.used + 600000 → exec .tokenExpiry s = .next s)) ∧
    (s.hsi.token = none → exec .tokenExpiry s = .next s) := by
  rw [exec_tokenExpiry, execTokenExpiry]
  refine ⟨fun k hk => ?_, fun hnone => by rw [hnone]⟩
  rw [hk]
  refine ⟨fun hover => ⟨s.endToken, congrArg Host.Outcome.next (if_pos hover), State.endToken_shown (by rw [hk]; rfl)⟩,
    fun hlife hidle => congrArg Host.Outcome.next (if_neg (by omega))⟩

/-- Settles O59: a request that passes the gate of R493 to R499 is its command's meaning in the state that heard it, with the
reply stored. The order of the refusals (log 82), the writes at acceptance (log 83), the token's life (log 85) and the frames
that a controller cannot carry (log 132) are the model's readings. -/
theorem hsiCommands : Obligations.HsiCommands := by
  unfold Obligations.HsiCommands
  exact ⟨hsi_setpoint, hsi_mailbox, hsi_am,
    fun s h g ht => ⟨fun _ hg => hsi_mode_taken ht (State.modeCond_taken hg),
      fun _ hg => hsi_mode_refused ht (State.modeCond_refused hg)⟩,
    hsi_reset, hsi_shutdown, hsi_canTx, hsi_canSub, hsi_dtcSet, hsi_ringReset, hsi_svcDrive, hsi_tokenReq, hsi_tokenGrant,
    hsi_tokenDrop, tokenExpiry_ends⟩

end Sys2Proof.Machine

/-! Events whose command moves the Chronometer's state on: the record is as it would be where MT64 shows the same. -/

namespace Sys2Proof.Machine

/-! ### Records of the same moment (R443) -/

/-- A record shows of the Chronometer MT64 alone. -/
theorem LogGains.of_now_eq {ks : List Fld} {s u t : State} {c : Nat} {ps : List Nat} (g : LogGains c ps u t)
    (h : SameRegs ks s u) (hl : u.log = s.log) (hn : u.now = s.now)
    (hk : ∀ f ∈ [R.LOG_MASK_VALUE (c / 32), R.ALM_MODE_MODE, R.CHR_DISC_TAI_VALID], f.key ∉ ks.map Fld.key) :
    LogGains c ps s t := by
  have hmask := h _ (hk (R.LOG_MASK_VALUE (c / 32)) (by simp))
  have hmode : u.mode = s.mode := h _ (hk R.ALM_MODE_MODE (by simp))
  have htai := h _ (hk R.CHR_DISC_TAI_VALID (by simp))
  simpa only [LogGains, State.masked, State.mkRec, hn, hmask, hmode, htai, hl] using g

/-- A record that joined the queue stands first of what joins after it. -/
theorem LogGains.logNext {s t u : State} {c : Nat} {ps : List Nat} (g : LogGains c ps s t)
    (h : t.log.queue <+: u.log.queue) : LogNext c ps s u :=
  fun hup hmask hroom => g hup hmask hroom ▸ h

theorem State.enqueue_queue_prefix (s : State) (r : LogRec) : s.log.queue <+: (s.enqueue r).log.queue := by
  rcases s.enqueue_cases r with ⟨_, e⟩ | ⟨_, e⟩ <;> rw [e]
  · exact List.prefix_append _ _
  · exact List.prefix_rfl

theorem State.raise_queue_prefix (s : State) (c : Nat) (ps : List Nat) :
    s.log.queue <+: (s.raise c ps).log.queue := by
  rcases s.raiseE_cases false c ps with ⟨_, _, e⟩ | ⟨_, e⟩ | e <;> rw [State.raise, e]
  exact State.enqueue_queue_prefix s _

/-! ### Lists kept by a key -/

/-- An entry that takes the place of those of its key is the one found for that key. -/
theorem find?_filter_append_same {α : Type} {p : α → Bool} (l : List α) {x : α} (h : p x = true) :
    (l.filter (fun y => !p y) ++ [x]).find? p = some x := by
  have hnone : (l.filter fun y => !p y).find? p = none := by simp
  rw [List.find?_append, hnone, List.find?_singleton, if_pos h, Option.none_or]

/-- For any other key the entry is found that was found before. -/
theorem find?_filter_append_other {α : Type} {p q : α → Bool} (l : List α) {x : α} (hx : q x = false)
    (hpq : ∀ y, q y = true → p y = true) : (l.filter p ++ [x]).find? q = l.find? q := by
  have hkeep : ∀ y, (decide (p y = true ∧ q y = true)) = q y := fun y => by
    rw [Bool.eq_iff_iff, decide_eq_true_iff]
    exact ⟨And.right, fun h => ⟨hpq y h, h⟩⟩
  rw [List.find?_append, List.find?_singleton, if_neg (by simp [hx]), Option.or_none, List.find?_filter]
  exact congrArg (List.find? · l) (funext hkeep)

end Sys2Proof.Machine

/-! The reads of the Chronometer (O16). -/

namespace Sys2Proof.Machine

theorem exec_chrMt64LoRead (m : Nat) (p : Fin 10000) (s : State) :
    exec (.chrMt64LoRead m p) s = .next ((s.atPhase p).readMtLo m) := rfl

theorem exec_chrTickLoRead (m : Nat) (s : State) : exec (.chrTickLoRead m) s = .next (s.readTickLo m) := rfl

theorem exec_chrXingRead (s : State) :
    exec .chrXingRead s = .next { s.put R.CHR_XING_LOST 0 with
      rdata := 2 ^ 16 * s.get R.CHR_XING_LAST_ID + s.get R.CHR_XING_LOST } := rfl

/-! ### A master's latches (R123) -/

theorem State.latch_setLatch_same (s : State) (m mt tick : Nat) : (s.setLatch m mt tick).latch m = (mt, tick) := by
  have hfind := find?_filter_append_same (p := fun l : Nat × Nat × Nat => l.1 == m) s.chr.latches (x := (m, mt, tick))
    (beq_self_eq_true m)
  exact congrArg (fun o : Option (Nat × Nat × Nat) => (o.map (·.2)).getD (0, 0)) hfind

theorem State.latch_setLatch_other (s : State) {m n : Nat} (h : n ≠ m) (mt tick : Nat) :
    (s.setLatch m mt tick).latch n = s.latch n := by
  have hfind := find?_filter_append_other (p := fun l : Nat × Nat × Nat => l.1 != m) (q := fun l => l.1 == n)
    s.chr.latches (x := (m, mt, tick)) (by simpa using h.symm) (fun y hy => by
      rw [beq_iff_eq] at hy
      simpa [hy] using h)
  exact congrArg (fun o : Option (Nat × Nat × Nat) => (o.map (·.2)).getD (0, 0)) hfind

theorem State.now_atPhase (s : State) (p : Fin 10000) :
    (s.atPhase p).now = if s.chr.running then s.chr.base + 8 * p.val else 0 := by
  simp only [State.now, State.atPhase, Nat.mod_eq_of_lt p.isLt]

theorem chrMt64LoRead_latches (s : State) (m : Nat) (p : Fin 10000) :
    ∃ t, exec (.chrMt64LoRead m p) s = .next t ∧
      t.rdata = (if s.chr.running then s.chr.base + 8 * p.val else 0) % 2 ^ 32 ∧
      (t.latch m).1 = (if s.chr.running then s.chr.base + 8 * p.val else 0) / 2 ^ 32 % 2 ^ 32 ∧
      (t.latch m).2 = (s.latch m).2 ∧ (∀ n, n ≠ m → t.latch n = s.latch n) ∧
      t = { s with chr.latches := t.chr.latches, chr.phase := p.val, rdata := t.rdata } := by
  have hsame : ((s.atPhase p).readMtLo m).latch m = ((s.atPhase p).now / 2 ^ 32 % 2 ^ 32, (s.latch m).2) :=
    State.latch_setLatch_same (s.atPhase p) m _ _
  rw [← s.now_atPhase p]
  refine ⟨_, exec_chrMt64LoRead m p s, rfl, by rw [hsame], by rw [hsame],
    fun n hn => State.latch_setLatch_other (s.atPhase p) hn _ _, ?_⟩
  simp only [State.readMtLo, State.setLatch, State.atPhase, Nat.mod_eq_of_lt p.isLt]

theorem chrTickLoRead_latches (s : State) (m : Nat) :
    ∃ t, exec (.chrTickLoRead m) s = .next t ∧ t.rdata = s.chr.tick % 2 ^ 32 ∧
      (t.latch m).2 = s.chr.tick / 2 ^ 32 % 2 ^ 16 ∧ (t.latch m).1 = (s.latch m).1 ∧
      (∀ n, n ≠ m → t.latch n = s.latch n) ∧ t = { s with chr.latches := t.chr.latches, rdata := t.rdata } := by
  have hsame : (s.readTickLo m).latch m = ((s.latch m).1, s.chr.tick / 2 ^ 32 % 2 ^ 16) :=
    State.latch_setLatch_same s m _ _
  exact ⟨_, exec_chrTickLoRead m s, rfl, by rw [hsame], by rw [hsame],
    fun n hn => State.latch_setLatch_other s hn _ _, rfl⟩

/-- R114: the read shows the crossing's counter and clears it. -/
theorem chrXingRead_clears (s : State) :
    ∃ t, exec .chrXingRead s = .next t ∧
      t.rdata = 2 ^ 16 * s.get R.CHR_XING_LAST_ID + s.get R.CHR_XING_LOST ∧ t.get R.CHR_XING_LOST = 0 ∧
      OnlyRead [R.CHR_XING_LOST] s t :=
  ⟨_, exec_chrXingRead s, rfl, State.get_put_same s R.CHR_XING_LOST 0, sameRegs_put s R.CHR_XING_LOST 0, rfl⟩

/-- Settles O16: a read of a low word sets its master's latch of the high word, and no other. -/
theorem chronometerReads : Obligations.ChronometerReads := by
  unfold Obligations.ChronometerReads
  exact ⟨chrMt64LoRead_latches, chrTickLoRead_latches, chrXingRead_clears⟩

end Sys2Proof.Machine

/-! Snapshot slots (O17). -/

namespace Sys2Proof.Machine

/-! ### GO of CHR_SNAP_CTL (R102) -/

/-- SNAP_ARM's writes of CHR_SNAP_AT and CHR_SNAP_CTL. -/
def State.snapAsked (s : State) (slot t : Nat) : State :=
  s.puts [(R.CHR_SNAP_AT_AT_LO, t), (R.CHR_SNAP_CTL_AT_HI, t / 2 ^ 32), (R.CHR_SNAP_CTL_SLOT, slot)]

def snapAskedFlds : List Fld := [R.CHR_SNAP_AT_AT_LO, R.CHR_SNAP_CTL_AT_HI, R.CHR_SNAP_CTL_SLOT]

theorem onlyRegs_snapAsked (s : State) (slot t : Nat) : OnlyRegs snapAskedFlds s (s.snapAsked slot t) :=
  onlyRegs_puts s [(R.CHR_SNAP_AT_AT_LO, t), (R.CHR_SNAP_CTL_AT_HI, t / 2 ^ 32), (R.CHR_SNAP_CTL_SLOT, slot)]

theorem State.snapAsked_chr (s : State) (slot t : Nat) : (s.snapAsked slot t).chr = s.chr := State.puts_chr s _

theorem exec_snapArm (k : Fin 4) (n : BitVec 48) (s : State) :
    exec (.snapArm k n) s = .next ((s.snapAsked k n.toNat).snapArm k n.toNat) := rfl

theorem State.snapArm_busy {s : State} {slot : Nat} (h : (s.chr.snaps.getD slot {}).armed = true) (t : Nat) :
    s.snapArm slot t = s.put R.CHR_SNAP_CTL_RESULT 4 := if_pos h

theorem State.snapArm_late {s : State} {slot t : Nat} (h : (s.chr.snaps.getD slot {}).armed = false)
    (ht : t < s.chr.tick + 2) : s.snapArm slot t = (s.put R.CHR_SNAP_CTL_RESULT 3).raise 11 [slot, t] := by
  rw [State.snapArm, if_neg (ne_true_of_eq_false h), if_pos ht]

theorem State.snapArm_taken {s : State} {slot t : Nat} (h : (s.chr.snaps.getD slot {}).armed = false)
    (ht : s.chr.tick + 2 ≤ t) : s.snapArm slot t =
      ((s.setSnap slot { armed := true, t := t }).put R.CHR_SNAP_CTL_RESULT 1).announce slot 1 t 0 := by
  rw [State.snapArm, if_neg (ne_true_of_eq_false h), if_neg (by omega)]

theorem State.announce_chr (s : State) (e type tick arg : Nat) : (s.announce e type tick arg).chr = s.chr := by
  unfold State.announce
  split_ifs <;> rfl

theorem State.get_announce (s : State) (e type tick arg : Nat) (f : Fld) :
    (s.announce e type tick arg).get f = s.get f :=
  State.get_congr (s.announce_regs e type tick arg) f

theorem State.get_armed_setSnap (s : State) (slot : Nat) (x : Snap) :
    (s.setSnap slot x).get R.CHR_SNAP_STAT_ARMED = setBit (s.get R.CHR_SNAP_STAT_ARMED) slot x.armed % 16 :=
  State.get_put_same _ R.CHR_SNAP_STAT_ARMED _

theorem snapArm_arms (s : State) (k : Fin 4) (n : BitVec 48) (h : (s.chr.snaps.getD k {}).armed = false)
    (hn : s.chr.tick + 2 ≤ n.toNat) :
    ∃ t, exec (.snapArm k n) s = .next t ∧ t.get R.CHR_SNAP_CTL_RESULT = 1 ∧
      t.chr.snaps = s.chr.snaps.set k { armed := true, t := n.toNat } ∧
      t.get R.CHR_SNAP_STAT_ARMED = setBit (s.get R.CHR_SNAP_STAT_ARMED) k true % 16 := by
  have hchr := s.snapAsked_chr k n.toNat
  have harmed : (s.snapAsked k n.toNat).get R.CHR_SNAP_STAT_ARMED = s.get R.CHR_SNAP_STAT_ARMED :=
    (onlyRegs_snapAsked s k n.toNat).1 _ (by decide)
  refine ⟨_, by rw [exec_snapArm, State.snapArm_taken (by rw [hchr, h]) (by rw [hchr]; exact hn)], ?_, ?_, ?_⟩
  · rw [State.get_announce, State.get_put_same]
    rfl
  · rw [State.announce_chr, ← hchr]
    rfl
  · rw [State.get_announce, State.get_put_other _ (by decide), State.get_armed_setSnap, harmed]

theorem snapArm_busy (s : State) (k : Fin 4) (n : BitVec 48) (h : (s.chr.snaps.getD k {}).armed = true) :
    ∃ t, exec (.snapArm k n) s = .next t ∧ t.get R.CHR_SNAP_CTL_RESULT = 4 ∧ t = { s with regs := t.regs } := by
  have hchr := s.snapAsked_chr k n.toNat
  refine ⟨_, by rw [exec_snapArm, State.snapArm_busy (by rw [hchr, h])], State.get_put_same _ _ _, ?_⟩
  exact (onlyRegs_trans (onlyRegs_snapAsked s k n.toNat) (onlyRegs_put _ R.CHR_SNAP_CTL_RESULT 4)).2

theorem snapArm_late (s : State) (k : Fin 4) (n : BitVec 48) (h : (s.chr.snaps.getD k {}).armed = false)
    (hn : n.toNat < s.chr.tick + 2) :
    ∃ t, exec (.snapArm k n) s = .next t ∧ t.get R.CHR_SNAP_CTL_RESULT = 3 ∧ t.chr = s.chr ∧
      LogGains 11 [k, n.toNat] s t := by
  have hchr := s.snapAsked_chr k n.toNat
  refine ⟨_, by rw [exec_snapArm, State.snapArm_late (by rw [hchr, h]) (by rw [hchr]; exact hn)], ?_, ?_, ?_⟩
  · rw [State.get_raise _ _ _ (by decide), State.get_put_same]
    rfl
  · rw [State.raise_chr, State.put_chr, hchr]
  · exact (logGains_raise _ 11 _).of_sameRegs
      (sameRegs_trans (onlyRegs_snapAsked s k n.toNat).1 (sameRegs_put _ R.CHR_SNAP_CTL_RESULT 3))
      (State.puts_log s _) hchr (by decide)

/-! ### A slot that fires (R102, R206) -/

/-- The registers and the slot at the edge it names. -/
def State.snapFired (s : State) (slot : Nat) (x : Snap) : State :=
  ((s.setSnap slot x).put R.CHR_SNAP_CTL_RESULT 2).orBits R.CHR_SNAP_STAT_FIRED (2 ^ slot)

theorem exec_snapFire {s : State} {k : Fin 4} (h : (s.chr.snaps.getD k {}).armed = true)
    (ht : (s.chr.snaps.getD k {}).t = s.chr.tick) :
    exec (.snapFire k) s =
      .next ((s.snapFired k { armed := false, t := s.chr.tick, mt := s.chr.base }).takeLatched k) := by
  refine (if_pos ⟨h, ht⟩).trans ?_
  rw [← ht]
  rfl

/-- R203, R206: the slot holds blocks, those that the edge latched for it or those of the present moment. -/
theorem State.takeLatched_shown (s : State) (slot : Nat) :
    (∃ b, (s.takeLatched slot).hlm.snaps.find? (fun q => q.1 == slot) = some (slot, b)) ∧
      s.takeLatched slot = { s with hlm := (s.takeLatched slot).hlm } := by
  have hfound (l : List (Nat × List (List Nat))) (b : List (List Nat)) :
      (l.filter (fun q => q.1 != slot) ++ [(slot, b)]).find? (fun q => q.1 == slot) = some (slot, b) :=
    find?_filter_append_same (p := fun q : Nat × List (List Nat) => q.1 == slot) l (beq_self_eq_true slot)
  unfold State.takeLatched
  split
  · next b _ =>
    refine ⟨⟨b, ?_⟩, rfl⟩
    dsimp only
    rw [← List.filter_filter]
    exact hfound _ b
  · exact ⟨⟨_, hfound s.hlm.snaps _⟩, rfl⟩

theorem onlyRegs_snapFired (s : State) (slot : Nat) (x : Snap) :
    OnlyRegs [R.CHR_SNAP_STAT_ARMED, R.CHR_SNAP_CTL_RESULT, R.CHR_SNAP_STAT_FIRED]
      { s with chr.snaps := s.chr.snaps.set slot x } (s.snapFired slot x) :=
  onlyRegs_trans (onlyRegs_trans (onlyRegs_put _ _ _) (onlyRegs_put _ _ _)) (onlyRegs_put _ _ _)

theorem snapFire_fires (s : State) (k : Fin 4) (h : (s.chr.snaps.getD k {}).armed = true)
    (ht : (s.chr.snaps.getD k {}).t = s.chr.tick) :
    ∃ t, exec (.snapFire k) s = .next t ∧ t.get R.CHR_SNAP_CTL_RESULT = 2 ∧
      t.get R.CHR_SNAP_STAT_FIRED = (s.get R.CHR_SNAP_STAT_FIRED ||| 2 ^ k.val) % 16 ∧
      t.chr.snaps = s.chr.snaps.set k { armed := false, t := s.chr.tick, mt := s.chr.base } ∧
      (∃ b, t.hlm.snaps.find? (fun q => q.1 == k.val) = some (k.val, b)) ∧
      OnlyRegs [R.CHR_SNAP_CTL_RESULT, R.CHR_SNAP_STAT_FIRED, R.CHR_SNAP_STAT_ARMED]
        { s with chr := t.chr, hlm := t.hlm } t := by
  obtain ⟨hfound, heq⟩ := (s.snapFired k { armed := false, t := s.chr.tick, mt := s.chr.base }).takeLatched_shown k
  have hregs := onlyRegs_snapFired s k { armed := false, t := s.chr.tick, mt := s.chr.base }
  refine ⟨_, exec_snapFire h ht, ?_, ?_, ?_, hfound, ?_⟩
  · rw [heq]
    exact (State.get_put_other _ (by decide) _).trans (State.get_put_same _ R.CHR_SNAP_CTL_RESULT 2)
  · rw [heq]
    refine (State.get_orBits_same _ R.CHR_SNAP_STAT_FIRED _).trans ?_
    rw [State.get_put_other _ (by decide), State.setSnap, State.get_put_other _ (by decide)]
    rfl
  · rw [heq]
    rfl
  · rw [heq]
    refine ⟨fun f hf => hregs.1 f fun hk => hf ?_, rfl⟩
    simp only [List.map_cons, List.map_nil, List.mem_cons, List.not_mem_nil, or_false] at hk ⊢
    tauto

/-- Settles O17: GO is answered by the slot, then by the tick count that it names; a slot fires at that tick count. That an
armed slot answers busy whatever tick count is named is the model's choice (log 93). -/
theorem snapshots : Obligations.Snapshots := by
  unfold Obligations.Snapshots
  exact ⟨snapArm_arms, snapArm_busy, snapArm_late, snapFire_fires⟩

end Sys2Proof.Machine

/-! Stamp queues and class P crossings (O18). -/

namespace Sys2Proof.Machine

/-! ### Stamp queues (R95) -/

theorem State.stampQ_point (s : State) (p : Nat) : (s.stampQ p).point = p := by
  rw [State.stampQ]
  cases hfind : s.chr.stamps.find? fun q => q.point == p with
  | none => rfl
  | some q => simpa using List.find?_some hfind

theorem State.stampQ_setStampQ_same (s : State) (q : StampQ) : (s.setStampQ q).stampQ q.point = q := by
  have hfind := find?_filter_append_same (p := fun x : StampQ => x.point == q.point) s.chr.stamps
    (beq_self_eq_true q.point)
  exact congrArg (fun o : Option StampQ => o.getD { point := q.point }) hfind

theorem State.stampQ_setStampQ_other (s : State) {q : StampQ} {p : Nat} (h : p ≠ q.point) :
    (s.setStampQ q).stampQ p = s.stampQ p := by
  have hfind := find?_filter_append_other (p := fun x : StampQ => x.point != q.point) (q := fun x => x.point == p)
    s.chr.stamps (x := q) (by simpa using h.symm) (fun y hy => by
      rw [beq_iff_eq] at hy
      simpa [hy] using h)
  exact congrArg (fun o : Option StampQ => o.getD { point := p }) hfind

theorem State.stampQ_congr {s t : State} (h : s.chr.stamps = t.chr.stamps) (p : Nat) : s.stampQ p = t.stampQ p := by
  rw [State.stampQ, State.stampQ, h]

theorem exec_stamp {s : State} (p : Fin 66) (n : Nat) (h : s.chr.running = true) :
    exec (.stamp p n) s = .next (if (s.stampQ p).stamps.length < 8 then
        s.setStampQ { s.stampQ p with stamps := (s.stampQ p).stamps ++ [n] }
      else (s.setStampQ { s.stampQ p with lost := (s.stampQ p).lost + 1 }).raise 12 [p, (s.stampQ p).lost + 1]) :=
  congrArg Host.Outcome.next (if_neg (by simp [h]))

theorem stamp_queues (s : State) (p : Fin 66) (n : Nat) (h : s.chr.running = true) :
    ∃ t, exec (.stamp p n) s = .next t ∧
      ((s.stampQ p).stamps.length < 8 → (t.stampQ p).stamps = (s.stampQ p).stamps ++ [n] ∧
        t = { s with chr.stamps := t.chr.stamps }) ∧
      (8 ≤ (s.stampQ p).stamps.length → (t.stampQ p).stamps = (s.stampQ p).stamps ∧
        (t.stampQ p).lost = (s.stampQ p).lost + 1 ∧ LogGains 12 [p, (s.stampQ p).lost + 1] s t) ∧
      ∀ q, q ≠ p.val → t.stampQ q = s.stampQ q := by
  have hpoint := s.stampQ_point p
  have hsame (q : StampQ) (hq : q.point = p.val) : (s.setStampQ q).stampQ p = q := hq ▸ s.stampQ_setStampQ_same q
  have hraise (t : State) (c : Nat) (ps : List Nat) (q : Nat) : (t.raise c ps).stampQ q = t.stampQ q :=
    State.stampQ_congr (by rw [State.raise_chr]) q
  rw [exec_stamp p n h]
  by_cases hroom : (s.stampQ p).stamps.length < 8
  · refine ⟨_, by rw [if_pos hroom], fun _ => ⟨?_, rfl⟩, fun hfull => absurd hroom (Nat.not_lt.2 hfull), fun q hq => ?_⟩
    · rw [hsame]
      exact hpoint
    · exact State.stampQ_setStampQ_other s (by rwa [hpoint])
  · refine ⟨_, by rw [if_neg hroom], fun hlt => absurd hlt hroom, fun _ => ⟨?_, ?_, ?_⟩, fun q hq => ?_⟩
    · rw [hraise, hsame]
      exact hpoint
    · rw [hraise, hsame]
      exact hpoint
    · exact (logGains_raise _ 12 _).of_now_eq (ks := []) (fun _ _ => rfl) rfl rfl (by decide)
    · rw [hraise]
      exact State.stampQ_setStampQ_other s (by rwa [hpoint])

/-! ### Crossings (R114) -/

theorem State.xing_id (s : State) (n : Nat) : (s.xing n).id = n := by
  rw [State.xing]
  cases hfind : s.chr.xings.find? fun x => x.id == n with
  | none => rfl
  | some x => simpa using List.find?_some hfind

theorem State.xing_setXing_same (s : State) {x : Xing} {n : Nat} (h : x.id = n) : (s.setXing x).xing n = x := by
  subst h
  have hfind := find?_filter_append_same (p := fun y : Xing => y.id == x.id) s.chr.xings (beq_self_eq_true x.id)
  exact congrArg (fun o : Option Xing => o.getD { id := x.id }) hfind

theorem State.xing_setXing_other (s : State) {x : Xing} {n : Nat} (h : n ≠ x.id) :
    (s.setXing x).xing n = s.xing n := by
  have hfind := find?_filter_append_other (p := fun y : Xing => y.id != x.id) (q := fun y => y.id == n)
    s.chr.xings (x := x) (by simpa using h.symm) (fun y hy => by
      rw [beq_iff_eq] at hy
      simpa [hy] using h)
  exact congrArg (fun o : Option Xing => o.getD { id := n }) hfind

theorem State.xing_congr {s t : State} (h : s.chr = t.chr) (n : Nat) : s.xing n = t.xing n := by
  rw [State.xing, State.xing, h]

/-- R114: the loss counter and the crossing's identifier, as the end of an episode shows them. -/
def State.episodeShown (s : State) (x : Xing) : State :=
  ((s.setXing { x with lost := 0 }).bump R.CHR_XING_LOST x.lost).put R.CHR_XING_LAST_ID x.id

theorem State.endEpisode_none (s : State) {x : Xing} (h : x.lost = 0) : s.endEpisode x = s := if_pos h

theorem State.endEpisode_lost (s : State) {x : Xing} (h : x.lost ≠ 0) :
    s.endEpisode x = (s.episodeShown x).raise 9 [x.id, x.lost] := if_neg h

theorem State.xing_endEpisode_lost (s : State) {x : Xing} (h : x.lost ≠ 0) :
    (s.endEpisode x).xing x.id = { x with lost := 0 } := by
  rw [State.endEpisode_lost s h, State.xing_congr (State.raise_chr _ _ _)]
  exact State.xing_setXing_same s (x := { x with lost := 0 }) rfl

theorem sameRegs_episodeShown (s : State) (x : Xing) :
    SameRegs [R.CHR_XING_LOST, R.CHR_XING_LAST_ID] s (s.episodeShown x) :=
  sameRegs_trans (sameRegs_put (s.setXing { x with lost := 0 }) R.CHR_XING_LOST _) (sameRegs_put _ R.CHR_XING_LAST_ID _)

theorem State.get_lost_endEpisode (s : State) {x : Xing} (h : x.lost ≠ 0) :
    (s.endEpisode x).get R.CHR_XING_LOST = min (s.get R.CHR_XING_LOST + x.lost) 65535 := by
  rw [State.endEpisode_lost s h, State.get_raise _ _ _ (by decide), State.episodeShown, State.get_put_other _ (by decide),
    State.bump, State.get_put_same]
  exact Nat.mod_eq_of_lt (Nat.lt_succ_of_le (Nat.min_le_right _ _))

theorem State.get_lastId_endEpisode (s : State) {x : Xing} (h : x.lost ≠ 0) :
    (s.endEpisode x).get R.CHR_XING_LAST_ID = x.id % 2 ^ 16 := by
  rw [State.endEpisode_lost s h, State.get_raise _ _ _ (by decide)]
  exact State.get_put_same _ R.CHR_XING_LAST_ID x.id

theorem logGains_endEpisode (s : State) {x : Xing} (h : x.lost ≠ 0) : LogGains 9 [x.id, x.lost] s (s.endEpisode x) := by
  rw [State.endEpisode_lost s h]
  exact (logGains_raise _ 9 _).of_now_eq (sameRegs_episodeShown s x) rfl rfl (by decide)

theorem State.endEpisode_queue_prefix (s : State) (x : Xing) : s.log.queue <+: (s.endEpisode x).log.queue := by
  by_cases h : x.lost = 0
  · rw [State.endEpisode_none s h]
  · rw [State.endEpisode_lost s h]
    exact State.raise_queue_prefix (s.episodeShown x) 9 _

/-! ### Pulses and acknowledges (R114, R118) -/

/-- R114: what a source pulse makes of its crossing. -/
def Xing.pulsed (x : Xing) : Xing :=
  if x.busy = false then { x with busy := true }
  else if x.pend < 15 then { x with pend := x.pend + 1 } else { x with lost := x.lost + 1 }

theorem exec_xingPulse_source (id : BitVec 16) (s : State) :
    exec (.xingPulse id false) s = .next (s.setXing (s.xing id.toNat).pulsed) := by
  rw [Xing.pulsed]
  by_cases hb : (s.xing id.toNat).busy = false
  · rw [if_pos hb]
    exact if_pos (by rw [hb]; rfl)
  · rw [if_neg hb]
    refine (if_neg (by simpa using hb)).trans ?_
    by_cases hp : (s.xing id.toNat).pend < 15
    · rw [if_pos hp, if_pos hp]
    · rw [if_neg hp, if_neg hp]

/-- R114: an acknowledge launches one of the pulses that wait. -/
def Xing.acked (x : Xing) : Xing := { x with pend := x.pend - 1 }

theorem exec_xingPulse_ack (id : BitVec 16) (s : State) :
    exec (.xingPulse id true) s = if (s.xing id.toNat).pend = 0 then
        .next (s.setXing { s.xing id.toNat with busy := false })
      else
        .next (if (s.xing id.toNat).acked.pend = 0 then
            (s.setXing (s.xing id.toNat).acked).endEpisode (s.xing id.toNat).acked
          else s.setXing (s.xing id.toNat).acked) := rfl

theorem Xing.pulsed_id (x : Xing) : x.pulsed.id = x.id := by
  unfold Xing.pulsed
  split_ifs <;> rfl

theorem xingPulse_source (s : State) (id : BitVec 16) :
    ∃ t, exec (.xingPulse id false) s = .next t ∧
      t = { s with chr.xings := t.chr.xings } ∧ (∀ n, n ≠ id.toNat → t.xing n = s.xing n) ∧
      t.xing id.toNat =
        (if (s.xing id.toNat).busy = false then { s.xing id.toNat with busy := true }
         else if (s.xing id.toNat).pend < 15 then { s.xing id.toNat with pend := (s.xing id.toNat).pend + 1 }
         else { s.xing id.toNat with lost := (s.xing id.toNat).lost + 1 }) := by
  have hid : (s.xing id.toNat).pulsed.id = id.toNat := (s.xing id.toNat).pulsed_id.trans (s.xing_id _)
  exact ⟨_, exec_xingPulse_source id s, rfl, fun n hn => State.xing_setXing_other s (by rwa [hid]),
    State.xing_setXing_same s hid⟩

theorem xingPulse_ack_idle (s : State) (id : BitVec 16) (h : (s.xing id.toNat).pend = 0) :
    ∃ t, exec (.xingPulse id true) s = .next t ∧ t.xing id.toNat = { s.xing id.toNat with busy := false } ∧
      t = { s with chr.xings := t.chr.xings } :=
  ⟨_, by rw [exec_xingPulse_ack, if_pos h], State.xing_setXing_same s (s.xing_id _), rfl⟩

/-- The last of the pulses that wait ends a saturation episode. -/
theorem xingPulse_ack_ends {s : State} {id : BitVec 16} {x : Xing} (hid : x.id = id.toNat) (hl : x.lost ≠ 0) :
    ((s.setXing x).endEpisode x).xing id.toNat = { x with lost := 0 } ∧
      ((s.setXing x).endEpisode x).get R.CHR_XING_LOST = min (s.get R.CHR_XING_LOST + x.lost) 65535 ∧
      ((s.setXing x).endEpisode x).get R.CHR_XING_LAST_ID = id.toNat ∧
      LogGains 9 [id.toNat, x.lost] s ((s.setXing x).endEpisode x) := by
  have hlog := logGains_endEpisode (s.setXing x) hl
  rw [← hid]
  refine ⟨State.xing_endEpisode_lost _ hl, State.get_lost_endEpisode _ hl, ?_,
    hlog.of_now_eq (ks := []) (fun _ _ => rfl) rfl rfl (by decide)⟩
  rw [State.get_lastId_endEpisode _ hl, hid]
  exact Nat.mod_eq_of_lt id.isLt

theorem xingPulse_ack_pending (s : State) (id : BitVec 16) (h : 0 < (s.xing id.toNat).pend) :
    ∃ t, exec (.xingPulse id true) s = .next t ∧ (t.xing id.toNat).pend = (s.xing id.toNat).pend - 1 ∧
      (t.xing id.toNat).busy = (s.xing id.toNat).busy ∧
      ((s.xing id.toNat).pend = 1 → (s.xing id.toNat).lost ≠ 0 → (t.xing id.toNat).lost = 0 ∧
        t.get R.CHR_XING_LOST = min (s.get R.CHR_XING_LOST + (s.xing id.toNat).lost) 65535 ∧
        t.get R.CHR_XING_LAST_ID = id.toNat ∧ LogGains 9 [id.toNat, (s.xing id.toNat).lost] s t) := by
  have hid : (s.xing id.toNat).acked.id = id.toNat := s.xing_id id.toNat
  have hset : (s.setXing (s.xing id.toNat).acked).xing id.toNat = (s.xing id.toNat).acked :=
    State.xing_setXing_same s hid
  rw [exec_xingPulse_ack, if_neg h.ne']
  by_cases hlast : (s.xing id.toNat).acked.pend = 0
  · rw [if_pos hlast]
    by_cases hlost : (s.xing id.toNat).acked.lost = 0
    · rw [State.endEpisode_none _ hlost]
      exact ⟨_, rfl, by rw [hset]; rfl, by rw [hset]; rfl, fun _ hne => absurd hlost hne⟩
    · obtain ⟨hxing, hcount, hlastId, hlog⟩ := xingPulse_ack_ends (s := s) hid hlost
      exact ⟨_, rfl, by rw [hxing]; rfl, by rw [hxing]; rfl, fun _ _ => ⟨by rw [hxing], hcount, hlastId, hlog⟩⟩
  · rw [if_neg hlast]
    refine ⟨_, rfl, by rw [hset]; rfl, by rw [hset]; rfl, fun hone => absurd ?_ hlast⟩
    rw [Xing.acked, hone]

/-- R119, R120: a crossing that is reset has nothing pending, nothing in flight and nothing lost. -/
theorem State.xing_resetXing_same (s : State) (n : Nat) : (s.resetXing n).xing n = { id := n } := by
  rw [State.resetXing]
  by_cases hlost : (s.xing n).lost = 0
  · rw [hlost]
    exact State.xing_setXing_same s rfl
  · exact State.xing_endEpisode_lost _ (x := { id := n, lost := (s.xing n).lost }) hlost

theorem exec_xingAckTimeout (id : BitVec 16) (s : State) :
    exec (.xingAckTimeout id) s = .next ((s.raise 10 [id.toNat]).resetXing id.toNat) := rfl

theorem xingAckTimeout_resets (s : State) (id : BitVec 16) :
    ∃ t, exec (.xingAckTimeout id) s = .next t ∧ t.xing id.toNat = { id := id.toNat } ∧ LogNext 10 [id.toNat] s t :=
  ⟨_, exec_xingAckTimeout id s, State.xing_resetXing_same _ _,
    (logGains_raise s 10 [id.toNat]).logNext (State.endEpisode_queue_prefix ((s.raise 10 [id.toNat]).setXing _) _)⟩

/-- Settles O18: a stamp and a pulse each move one entry of their list; an episode ends when its pulses have drained, or the
crossing is reset. The point's number in EV012 is the model's numbering (log 16); that a pulse beyond the fifteenth is lost
and a missing acknowledge resets the crossing is the model's deduction (log 42). -/
theorem stampsAndCrossings : Obligations.StampsAndCrossings := by
  unfold Obligations.StampsAndCrossings
  exact ⟨stamp_queues, xingPulse_source, xingPulse_ack_idle, xingPulse_ack_pending, xingAckTimeout_resets⟩

end Sys2Proof.Machine

/-! The time at TICK_EDGE (O25). -/

namespace Sys2Proof.Machine

/-! ### What the commits of the edge leave (R203) -/

/-- But for what waits, COMMIT_APPLY leaves the view of the edge alone. -/
theorem State.discarded_commitApply (s : State) (r : Nat) : (s.commitApply r).view.discarded = s.view.discarded := by
  by_cases h : ∃ e, (r, e) ∈ s.commits ∧ e ≤ s.chr.tick
  · obtain ⟨e, hmem, hle⟩ := h
    rw [State.view_commitApply_due hmem hle]
    rfl
  · rw [State.commitApply_not_due fun e he => Nat.not_le.1 fun hle => h ⟨e, he, hle⟩]

theorem State.discarded_commitEdge (s : State) : s.commitEdge.view.discarded = s.view.discarded :=
  List.foldlRecOn (motive := fun t : State => t.view.discarded = s.view.discarded) _ _ rfl
    fun t ht r _ => (t.discarded_commitApply r).trans ht

theorem EdgeView.discarded_eq {v w : EdgeView} (h : v = w ∨ v = w.discarded) : v.discarded = w.discarded := by
  rcases h with rfl | rfl
  · rfl
  · rfl

/-- But for what waits, the view after the edge is that of the advance, with the TICK-class writes acted. -/
theorem State.discarded_tickEdge (s : State) (x : TickIn) :
    (s.edgeEnded (s.edgeActed x) x).view.discarded = { s.advance.view with tickW := [] }.discarded := by
  rw [EdgeView.discarded_eq (s.view_tickEdge x), State.edgeCommitted, State.discarded_commitEdge, State.view_tickWrites,
    State.view_hovEdge, State.view_latchSnaps, State.view_rateEdge]

theorem tickEdge_advances (s : State) (x : TickIn) (h : s.chr.running = true) :
    ∃ t, exec (.tickEdge x) s = .next t ∧ t.chr.tick = (s.chr.tick + 1) % 2 ^ 48 ∧
      t.chr.base = (s.chr.base + 80000) % 2 ^ 64 ∧ t.chr.phase = 0 ∧ t.tickW = [] ∧ t.pending = s.pending := by
  have hview := s.discarded_tickEdge x
  exact ⟨_, exec_tickEdge x h, congrArg EdgeView.tick hview, congrArg EdgeView.base hview, congrArg EdgeView.phase hview,
    congrArg EdgeView.tickW hview, congrArg EdgeView.pending hview⟩

theorem exec_tickEdge_stopped {s : State} (x : TickIn) (h : s.chr.running = false) : exec (.tickEdge x) s = .next s :=
  if_pos (by rw [h]; rfl)

/-- Settles O25: no step of the edge but the advance touches the time (`EdgeView`), and the TICK-class writes act once. -/
theorem tickEdgeTime : Obligations.TickEdgeTime := by
  unfold Obligations.TickEdgeTime
  exact ⟨tickEdge_advances, fun s x h => exec_tickEdge_stopped x h⟩

end Sys2Proof.Machine

/-! What the discipline's operations leave alone: the sources' events, the Logbook's records, and registers. -/

namespace Sys2Proof.Machine

/-! ### Sources and records -/

/-- The discipline sources are as they were, and the Logbook's queue has at most grown. -/
def RefsKept (s t : State) : Prop := t.chr.refs = s.chr.refs ∧ s.log.queue <+: t.log.queue

theorem RefsKept.refl (s : State) : RefsKept s s := ⟨rfl, List.prefix_rfl⟩

theorem RefsKept.trans {s t u : State} (h : RefsKept s t) (g : RefsKept t u) : RefsKept s u :=
  ⟨g.1.trans h.1, h.2.trans g.2⟩

theorem RefsKept.ite {c : Prop} [Decidable c] {s t u : State} (h : RefsKept s t) (g : RefsKept s u) :
    RefsKept s (if c then t else u) := by
  split_ifs
  · exact h
  · exact g

/-- An update of the rest of the state. -/
theorem RefsKept.of_eq {s t : State} (h : t.chr.refs = s.chr.refs) (hl : t.log = s.log) : RefsKept s t :=
  ⟨h, hl ▸ List.prefix_rfl⟩

theorem refsKept_put (s : State) (f : Fld) (v : Nat) : RefsKept s (s.put f v) := RefsKept.of_eq rfl rfl

theorem refsKept_puts (s : State) (l : List (Fld × Nat)) : RefsKept s (s.puts l) :=
  RefsKept.of_eq (by rw [State.puts_chr]) (State.puts_log s l)

theorem refsKept_raise (s : State) (c : Nat) (ps : List Nat) : RefsKept s (s.raise c ps) :=
  ⟨by rw [State.raise_chr], State.raise_queue_prefix s c ps⟩

theorem refsKept_reseed (s : State) (i : Nat) : RefsKept s (s.reseed i) := RefsKept.of_eq rfl rfl

theorem refsKept_unlock (s : State) (i why : Nat) : RefsKept s (s.unlock i why) :=
  ((refsKept_reseed s i).trans (refsKept_puts _ _)).trans (refsKept_raise _ 48 [i, why])

theorem refsKept_taiChanged (s : State) : RefsKept s s.taiChanged := by
  refine List.foldlRecOn (motive := RefsKept s) _ _ (RefsKept.refl s) fun t ht i _ => ht.trans ?_
  exact (refsKept_unlock t i 4).ite ((refsKept_reseed t i).ite (RefsKept.refl t))

theorem refsKept_setTai (s : State) (v : Bool) : RefsKept s (s.setTai v) :=
  (RefsKept.refl s).ite ((refsKept_put s _ _).trans (refsKept_taiChanged _))

theorem refsKept_discTo (s : State) (st : Nat) : RefsKept s (s.discTo st) :=
  (RefsKept.refl s).ite <|
    (RefsKept.of_eq (t := ({ s with chr.inTol := 0, chr.outTol := 0 } : State).put R.CHR_DISC_STATE st) rfl rfl).trans
      (refsKept_raise _ 3 _)

theorem refsKept_useSource (s : State) (code : Nat) : RefsKept s (s.useSource code) := by
  have hput : RefsKept s { s.put R.CHR_DISC_SOURCE code with chr.rateEst := (s.ref code).rate } := RefsKept.of_eq rfl rfl
  unfold State.useSource
  exact RefsKept.ite (hput.trans (RefsKept.of_eq rfl rfl)) (hput.trans (refsKept_discTo _ 1))

theorem refsKept_pickSource (s : State) : RefsKept s s.pickSource := by
  unfold State.pickSource
  dsimp only
  split
  · exact RefsKept.refl s
  · split
    · exact (RefsKept.refl s).ite (refsKept_useSource s _)
    · exact RefsKept.refl s

/-! ### Steps that are announced (R107, R466) -/

theorem refsKept_announce (s : State) (e type tick arg : Nat) : RefsKept s (s.announce e type tick arg) :=
  (RefsKept.refl s).ite (RefsKept.of_eq rfl rfl)

theorem refsKept_withdraw (s : State) : RefsKept s s.withdraw := (refsKept_announce s 5 0 0 0).ite (RefsKept.refl s)

theorem refsKept_carryWaypoint (s : State) : RefsKept s s.carryWaypoint := by
  unfold State.carryWaypoint
  split
  · exact (refsKept_announce s 5 3 _ _).ite (refsKept_withdraw s)
  · exact refsKept_withdraw s

theorem refsKept_retimeWaypoint (s : State) : RefsKept s s.retimeWaypoint := by
  unfold State.retimeWaypoint
  split
  · exact RefsKept.ite ((RefsKept.of_eq (t := s.setAt _) rfl rfl).trans (refsKept_carryWaypoint _)) (RefsKept.refl s)
  · exact RefsKept.refl s

theorem refsKept_announceStep (s : State) (n : Int) : RefsKept s (s.announceStep n) := by
  refine RefsKept.trans ?_ (refsKept_retimeWaypoint _)
  exact RefsKept.trans (RefsKept.of_eq rfl rfl) (refsKept_announce _ 4 2 _ _)

theorem refsKept_considerStep (s : State) (off : Int) : RefsKept s (s.considerStep off) := by
  have hwait : RefsKept s ((({ s with chr.stepWait := some off } : State).put R.CHR_DISC_STEP_PENDING 1).setTai false) :=
    RefsKept.trans (RefsKept.of_eq rfl rfl) (refsKept_setTai _ false)
  refine RefsKept.ite ((refsKept_announceStep s _).ite (RefsKept.refl s)) (RefsKept.ite ?_ ?_)
  · exact hwait.ite (hwait.trans (refsKept_raise _ 7 _))
  · exact RefsKept.ite (RefsKept.of_eq rfl rfl) (RefsKept.refl s)

/-! ### The servo (R107, R108) -/

theorem refsKept_judge (s : State) (off : Int) : RefsKept s (s.judge off) := by
  have hcount (i o : Nat) : RefsKept s { s with chr.inTol := i, chr.outTol := o } := RefsKept.of_eq rfl rfl
  refine RefsKept.ite ((hcount _ _).trans ((refsKept_discTo _ 2).trans (refsKept_setTai _ true))) (RefsKept.ite ?_ ?_)
  · exact (hcount _ _).trans (refsKept_discTo _ 1)
  · exact hcount _ _

theorem refsKept_servo (s : State) (code : Nat) (off : Int) (whole : Bool) : RefsKept s (s.servo code off whole) := by
  have hmeasured : RefsKept s (if whole then (s.put R.CHR_OFFSET_VALUE (ofInt 32 (satS 32 off))).considerStep off
      else s.put R.CHR_OFFSET_VALUE (ofInt 32 (satS 32 off))) :=
    RefsKept.ite ((refsKept_put s _ _).trans (refsKept_considerStep _ off)) (refsKept_put s _ _)
  have hrate (t : State) (v : Nat) (rest : Int) : RefsKept t ((t.put R.CHR_DISC_SLEWING v).setRate rest) :=
    RefsKept.of_eq rfl rfl
  unfold State.servo
  refine (RefsKept.refl s).ite (RefsKept.ite ?_ ?_)
  · exact (hmeasured.trans (hrate _ _ _)).trans (refsKept_judge _ off)
  · exact hmeasured.trans (hrate _ _ _)

end Sys2Proof.Machine

/-! The states of the discipline and the step of MT64 (O20). -/

namespace Sys2Proof.Machine

/-! ### Sources (R103) -/

theorem State.ref_congr {s t : State} (h : s.chr.refs = t.chr.refs) (c : Nat) : s.ref c = t.ref c := by
  rw [State.ref, State.ref, h]

theorem State.ref_modRef_same {s : State} {c : Nat} (h : c - 1 < s.chr.refs.length) (f : Ref → Ref) :
    (s.modRef c f).ref c = f (s.ref c) := getD_modify_same f h {}

theorem State.ref_modRef_other (s : State) {c d : Nat} (h : c - 1 ≠ d - 1) (f : Ref → Ref) :
    (s.modRef c f).ref d = s.ref d := getD_modify_other _ f h {}

/-- A source's events are listed: the list of the sources reaches it. -/
theorem State.refs_length_of_edge {s : State} {c e : Nat} (h : (s.ref c).edge = some e) : c - 1 < s.chr.refs.length := by
  by_contra hlen
  rw [State.ref, List.getD_eq_default _ _ (Nat.not_lt.1 hlen)] at h
  cases h

/-- A source that loses its run. -/
def Ref.dropped (r : Ref) : Ref := { r with good := 0, qualTick := none, fast := 0 }

theorem State.disqualify_eq (s : State) (c : Nat) : s.disqualify c = (s.modRef c Ref.dropped).pickSource := rfl

theorem State.good_dropped (s : State) (c : Nat) : ((s.modRef c Ref.dropped).ref c).good = 0 := by
  by_cases h : c - 1 < s.chr.refs.length
  · rw [State.ref_modRef_same h, Ref.dropped]
  · have hlen : (s.chr.refs.modify (c - 1) Ref.dropped).length ≤ c - 1 := by
      rw [List.length_modify]
      exact Nat.not_lt.1 h
    rw [State.ref, State.modRef, List.getD_eq_default _ _ hlen]

theorem State.good_disqualify (s : State) (c : Nat) : ((s.disqualify c).ref c).good = 0 := by
  rw [State.disqualify_eq, State.ref_congr (refsKept_pickSource _).1, State.good_dropped]

theorem State.pickSource_none {s : State} (h : ∀ c ∈ s.srcOrder, s.qualified c = false) : s.pickSource = s := by
  have hnone : s.srcOrder.find? s.qualified = none := List.find?_eq_none.2 fun c hc => by simp [h c hc]
  unfold State.pickSource
  dsimp only
  rw [hnone, ite_self]

theorem State.srcOrder_ne_zero {s : State} {c : Nat} (h : c ∈ s.srcOrder) : c ≠ 0 := by
  simpa using List.mem_takeWhile_imp h

/-- With no other source qualified a source that is disqualified leaves the discipline as it is (Table 3.5). -/
theorem State.disqualify_alone {s : State} {code : Nat} (h0 : code ≠ 0)
    (h : ∀ c ∈ s.srcOrder, c ≠ code → s.qualified c = false) : s.disqualify code = s.modRef code Ref.dropped := by
  rw [State.disqualify_eq]
  refine State.pickSource_none fun c hc => ?_
  by_cases hcode : c = code
  · rw [hcode, State.qualified, State.good_dropped]
    rfl
  · have hne := State.srcOrder_ne_zero (s := s) hc
    rw [State.qualified, State.ref_modRef_other s (by omega)]
    exact h c hc hcode

/-! ### Registers below the Plotter's, and the Chronometer (R106, R266) -/

theorem State.get_setTai (s : State) (v : Bool) {f : Fld} (h : f.key < 8 * blockBase 4)
    (hf : f.key ≠ R.CHR_DISC_TAI_VALID.key) : (s.setTai v).get f = s.get f := by
  unfold State.setTai
  split_ifs
  · rfl
  · rw [(srcOnly_taiChanged _).1 f h, State.get_put_other _ hf]

theorem State.setTai_chr (s : State) (v : Bool) : (s.setTai v).chr = s.chr := by
  unfold State.setTai
  split_ifs
  · rfl
  · rw [(srcOnly_taiChanged _).2]
    rfl

theorem State.lost_ne_of_below {f : Fld} (h : f.key < 8 * blockBase 4) : f.key ≠ R.LOG_LOST_VALUE.key :=
  (h.trans (by decide)).ne

/-- R106: the discipline's state with the runs of offsets ended. -/
def State.discSet (s : State) (st : Nat) : State :=
  ({ s with chr.inTol := 0, chr.outTol := 0 } : State).put R.CHR_DISC_STATE st

theorem State.discTo_other {s : State} {st : Nat} (h : s.get R.CHR_DISC_STATE ≠ st) :
    s.discTo st = (s.discSet st).raise 3 [st, s.get R.CHR_DISC_SOURCE] := if_neg h

theorem State.get_discTo (s : State) (st : Nat) {f : Fld} (h : f.key < 8 * blockBase 4)
    (hf : f.key ≠ R.CHR_DISC_STATE.key) : (s.discTo st).get f = s.get f := by
  unfold State.discTo
  split_ifs
  · rfl
  · rw [State.get_raise _ _ _ (State.lost_ne_of_below h), State.get_put_other _ hf]
    rfl

theorem logGains_discTo {s : State} {st : Nat} (h : s.get R.CHR_DISC_STATE ≠ st) :
    LogGains 3 [st, s.get R.CHR_DISC_SOURCE] s (s.discTo st) := by
  rw [State.discTo_other h]
  exact (logGains_raise (s.discSet st) 3 _).of_now_eq
    (sameRegs_put ({ s with chr.inTol := 0, chr.outTol := 0 } : State) R.CHR_DISC_STATE st) rfl rfl (by decide)

theorem State.discTo_holdTick (s : State) (st : Nat) : (s.discTo st).chr.holdTick = s.chr.holdTick := by
  unfold State.discTo
  split_ifs
  · rfl
  · rw [State.raise_chr]
    rfl

theorem State.discTo_rateWant (s : State) (st : Nat) : (s.discTo st).chr.rateWant = s.chr.rateWant := by
  unfold State.discTo
  split_ifs
  · rfl
  · rw [State.raise_chr]
    rfl

/-! ### The loss of the reference (Table 3.5) -/

/-- HOLDOVER begins: its tick count, and the correction that CHR_RATE shows. -/
def State.heldOver (s : State) : State :=
  { s with chr.holdTick := s.chr.tick, chr.rateWant := toInt 32 (s.get R.CHR_RATE_VALUE) }

theorem State.holdover_other {s : State} (h : s.get R.CHR_DISC_STATE ≠ 3) :
    s.holdover = (s.heldOver.discTo 3).setTai true := if_neg h

theorem State.get_holdover {s : State} {f : Fld} (hf : f.key < 8 * blockBase 4)
    (hne : f.key ∉ [R.CHR_DISC_STATE, R.CHR_DISC_TAI_VALID].map Fld.key) : s.holdover.get f = s.get f := by
  simp only [List.map_cons, List.map_nil, List.mem_cons, List.not_mem_nil, or_false, not_or] at hne
  obtain ⟨hstate, htai⟩ := hne
  unfold State.holdover
  split_ifs
  · rfl
  · exact (State.get_setTai _ true hf htai).trans (State.get_discTo s.heldOver 3 hf hstate)

theorem refsKept_holdover (s : State) : RefsKept s s.holdover := by
  have hheld : RefsKept s s.heldOver := RefsKept.of_eq rfl rfl
  exact (RefsKept.refl s).ite ((hheld.trans (refsKept_discTo _ 3)).trans (refsKept_setTai _ true))

theorem State.holdTick_holdover {s : State} (h : s.get R.CHR_DISC_STATE ≠ 3) : s.holdover.chr.holdTick = s.chr.tick := by
  rw [State.holdover_other h, State.setTai_chr, State.discTo_holdTick]
  rfl

theorem logNext_holdover {s : State} (h : s.get R.CHR_DISC_STATE ≠ 3) :
    LogNext 3 [3, s.get R.CHR_DISC_SOURCE] s s.holdover := by
  have hgains : LogGains 3 [3, s.get R.CHR_DISC_SOURCE] s (s.heldOver.discTo 3) :=
    (logGains_discTo (s := s.heldOver) h).of_now_eq (ks := []) (fun _ _ => rfl) rfl rfl (by decide)
  rw [State.holdover_other h]
  exact hgains.logNext (refsKept_setTai _ true).2

theorem exec_referenceLost {s : State} (h : s.get R.CHR_DISC_STATE = 2) :
    exec .referenceLost s = .next (s.holdover.disqualify (s.get R.CHR_DISC_SOURCE)) := if_neg (not_not.2 h)

theorem referenceLost_holds (s : State) (h2 : s.get R.CHR_DISC_STATE = 2) (hsrc : s.get R.CHR_DISC_SOURCE ≠ 0)
    (hq : ∀ c ∈ s.srcOrder, c ≠ s.get R.CHR_DISC_SOURCE → s.qualified c = false) :
    ∃ t, exec .referenceLost s = .next t ∧ t.get R.CHR_DISC_STATE = 3 ∧ t.chr.holdTick = s.chr.tick ∧
      (t.ref (s.get R.CHR_DISC_SOURCE)).good = 0 ∧ LogNext 3 [3, s.get R.CHR_DISC_SOURCE] s t := by
  have h3 : s.get R.CHR_DISC_STATE ≠ 3 := by omega
  have horder : s.holdover.srcOrder = s.srcOrder := by
    rw [State.srcOrder, State.srcOrder, State.get_holdover (by decide) (by decide)]
  have halone : s.holdover.disqualify (s.get R.CHR_DISC_SOURCE) =
      s.holdover.modRef (s.get R.CHR_DISC_SOURCE) Ref.dropped := by
    refine State.disqualify_alone hsrc fun c hc hne => ?_
    rw [State.qualified, State.ref_congr (refsKept_holdover s).1]
    exact hq c (horder ▸ hc) hne
  refine ⟨_, exec_referenceLost h2, ?_, ?_, State.good_disqualify _ _, ?_⟩
  · rw [halone]
    exact s.get_discState_holdover
  · rw [halone]
    exact State.holdTick_holdover h3
  · rw [halone]
    exact logNext_holdover h3

/-! ### The end of HOLDOVER (R106) -/

theorem exec_holdoverExpiry {s : State} (h3 : s.get R.CHR_DISC_STATE = 3)
    (hn : 10000 * s.get R.CHR_REF_HOLDOVER_S ≤ s.chr.tick - s.chr.holdTick) :
    exec .holdoverExpiry s = .next (s.freeRun.raise 8 [(s.chr.tick - s.chr.holdTick) / 10000]) := if_pos ⟨h3, hn⟩

/-- FREE before TAI_VALID changes: the correction wanted is 0, and no source is in use. -/
def State.freed (s : State) : State :=
  (({ s with chr.rateWant := 0 } : State).discTo 0).puts [(R.CHR_DISC_SOURCE, 0), (R.CHR_DISC_SLEWING, 0)]

theorem State.freeRun_eq (s : State) : s.freeRun = s.freed.setTai false := rfl

theorem State.get_freed (s : State) {f : Fld} (h : f.key < 8 * blockBase 4)
    (hf : f.key ∉ [R.CHR_DISC_STATE, R.CHR_DISC_SOURCE, R.CHR_DISC_SLEWING].map Fld.key) : s.freed.get f = s.get f := by
  simp only [List.map_cons, List.map_nil, List.mem_cons, List.not_mem_nil, or_false, not_or] at hf
  obtain ⟨hstate, hsource, hslewing⟩ := hf
  rw [State.freed, State.get_puts_other]
  · exact State.get_discTo ({ s with chr.rateWant := 0 } : State) 0 h hstate
  · simpa only [List.forall_mem_cons, List.not_mem_nil, false_imp_iff, implies_true, and_true] using ⟨hsource, hslewing⟩

theorem State.freed_shown (s : State) :
    s.freed.get R.CHR_DISC_STATE = 0 ∧ s.freed.get R.CHR_DISC_SOURCE = 0 ∧ s.freed.chr.rateWant = 0 := by
  refine ⟨?_, ?_, ?_⟩
  · rw [State.freed, State.get_puts_other _ _ _ (by decide), State.get_discState_discTo _ (by decide)]
  · rw [State.freed, State.puts, State.get_puts_other _ _ _ (by decide), State.get_put_same, Nat.zero_mod]
  · rw [State.freed, State.puts_chr, State.discTo_rateWant]

theorem logGains_freed {s : State} (h : s.get R.CHR_DISC_STATE ≠ 0) :
    LogGains 3 [0, s.get R.CHR_DISC_SOURCE] s s.freed := by
  have hdisc := logGains_discTo (s := ({ s with chr.rateWant := 0 } : State)) h
  exact (hdisc.of_now_eq (ks := []) (fun _ _ => rfl) rfl rfl (by decide)).of_log_eq (State.puts_log _ _)

theorem holdoverExpiry_frees (s : State) (h3 : s.get R.CHR_DISC_STATE = 3)
    (hn : 10000 * s.get R.CHR_REF_HOLDOVER_S ≤ s.chr.tick - s.chr.holdTick) :
    ∃ t, exec .holdoverExpiry s = .next t ∧ t.get R.CHR_DISC_STATE = 0 ∧ t.get R.CHR_DISC_SOURCE = 0 ∧
      t.chr.rateWant = 0 ∧ t.get R.CHR_RATE_VALUE = s.get R.CHR_RATE_VALUE ∧
      LogNext 3 [0, s.get R.CHR_DISC_SOURCE] s t := by
  obtain ⟨hstate, hsource, hwant⟩ := s.freed_shown
  have hget {f : Fld} (hf : f.key < 8 * blockBase 4) (hne : f.key ≠ R.CHR_DISC_TAI_VALID.key) (ps : List Nat) :
      (s.freeRun.raise 8 ps).get f = s.freed.get f := by
    rw [State.get_raise _ _ _ (State.lost_ne_of_below hf), State.freeRun_eq, State.get_setTai _ _ hf hne]
  refine ⟨_, exec_holdoverExpiry h3 hn, ?_, ?_, ?_, ?_, ?_⟩
  · rw [hget (by decide) (by decide), hstate]
  · rw [hget (by decide) (by decide), hsource]
  · rw [State.raise_chr, State.freeRun_eq, State.setTai_chr, hwant]
  · rw [hget (by decide) (by decide), State.get_freed s (by decide) (by decide)]
  · exact (logGains_freed (by omega)).logNext ((refsKept_setTai _ false).trans (refsKept_raise _ 8 _)).2

/-! ### The change to a preferred source (R103) -/

theorem exec_sourceSwitch {s : State} {c : Fin 5} {n : Nat} (htakes : s.takesRef c = true)
    (hpref : c.val ∈ s.srcOrder.takeWhile (fun d => decide (d ≠ s.get R.CHR_DISC_SOURCE))) (hq : s.qualified c = true)
    (hn : (s.ref c).qualTick = some n) (hage : n + 600000 ≤ s.chr.tick)
    (hst : s.get R.CHR_DISC_STATE = 1 ∨ s.get R.CHR_DISC_STATE = 2) :
    exec (.sourceSwitch c) s = .next (s.useSource c) := by
  have hmem : s.get R.CHR_DISC_STATE ∈ [1, 2] := by simpa using hst
  change execSourceSwitch c s = _
  rw [execSourceSwitch, hn]
  exact if_pos ⟨htakes, hpref, hq, hage, hmem⟩

theorem State.useSource_shown {s : State} {c : Nat} (hc : c < 8) :
    (s.useSource c).get R.CHR_DISC_SOURCE = c ∧ (s.useSource c).get R.CHR_DISC_STATE = 1 := by
  have hput : (s.put R.CHR_DISC_SOURCE c).get R.CHR_DISC_SOURCE = c := State.get_put_of_lt s hc
  unfold State.useSource
  dsimp only
  split_ifs with h1
  · exact ⟨hput, h1⟩
  · refine ⟨(State.get_discTo _ 1 (by decide) (by decide)).trans hput, State.get_discState_discTo _ (by decide)⟩

theorem sourceSwitch_switches (s : State) (c : Fin 5) (n : Nat) (htakes : s.takesRef c = true)
    (hpref : c.val ∈ s.srcOrder.takeWhile (fun d => decide (d ≠ s.get R.CHR_DISC_SOURCE))) (hq : s.qualified c = true)
    (hn : (s.ref c).qualTick = some n) (hage : n + 600000 ≤ s.chr.tick)
    (hst : s.get R.CHR_DISC_STATE = 1 ∨ s.get R.CHR_DISC_STATE = 2) :
    ∃ t, exec (.sourceSwitch c) s = .next t ∧ t.get R.CHR_DISC_SOURCE = c.val ∧ t.get R.CHR_DISC_STATE = 1 :=
  ⟨_, exec_sourceSwitch htakes hpref hq hn hage hst, State.useSource_shown (c.isLt.trans (by decide))⟩

/-! ### The step of MT64 (R107) -/

/-- The state in which a step acts: at the edge, with the stations that heard the announcement stepped. -/
def State.stepHeard (s : State) : State :=
  { s.atPhase 0 with mrd.stations := s.mrd.stations.map fun (x : Station) => x.stepAt s.chr.tick }

/-- MT64 stepped, with what waits for the step gone. -/
def State.stepTaken (s : State) (d : Int) : State :=
  ({ s with
    chr.base := ofInt 64 ((s.chr.base : Int) + d)
    chr.step := none
    chr.stepWait := none
    chr.refs := s.chr.refs.map fun (r : Ref) => { r with edge := r.edge.map fun e => ((e : Int) + d).toNat } } : State).puts
    [(R.CHR_DISC_STEPPED, 1), (R.CHR_DISC_STEP_PENDING, 0)]

theorem State.stepMt_eq (s : State) (d : Int) : s.stepMt d =
    ((s.stepTaken d).raise 4 [ofInt 64 d, ofInt 64 d / 2 ^ 32, (s.stepTaken d).chr.tick]).pltStep d := rfl

theorem exec_mt64Step {s : State} {n : Int} (h : s.chr.step = some (s.chr.tick, n)) (hq : s.quiet = true) :
    exec .mt64Step s = .next (s.stepHeard.stepMt (80000 * n)) := by
  have hdue : (s.atPhase 0).stepDue = some (80000 * n) := by
    have hstep : (s.atPhase 0).chr.step = some (s.chr.tick, n) := h
    rw [State.stepDue, hstep]
    exact if_pos rfl
  change execMt64Step s = _
  unfold execMt64Step
  dsimp only
  rw [hdue]
  exact if_pos hq

/-- The Plotter's scale of time is no register, and no part of the Chronometer or the Logbook. -/
theorem State.pltStep_kept (s : State) (d : Int) :
    (s.pltStep d).chr = s.chr ∧ (s.pltStep d).log = s.log ∧ (s.pltStep d).regs = s.regs := ⟨rfl, rfl, rfl⟩

theorem State.stepTaken_chr (s : State) (d : Int) :
    (s.stepTaken d).chr.base = ofInt 64 ((s.chr.base : Int) + d) ∧ (s.stepTaken d).chr.tick = s.chr.tick ∧
      (s.stepTaken d).chr.step = none := ⟨rfl, rfl, rfl⟩

theorem State.stepTaken_regs (s : State) (d : Int) :
    SameRegs [R.CHR_DISC_STEPPED, R.CHR_DISC_STEP_PENDING] s (s.stepTaken d) ∧
      (s.stepTaken d).get R.CHR_DISC_STEPPED = 1 ∧ (s.stepTaken d).get R.CHR_DISC_STEP_PENDING = 0 := by
  refine ⟨fun f hf => (onlyRegs_puts _ _).1 f hf, ?_, State.get_put_same _ R.CHR_DISC_STEP_PENDING 0⟩
  exact (State.get_put_other _ (by decide) 0).trans (State.get_put_same _ R.CHR_DISC_STEPPED 1)

theorem mt64Step_steps (s : State) (n : Int) (h : s.chr.step = some (s.chr.tick, n)) (hq : s.quiet = true) :
    ∃ t, exec .mt64Step s = .next t ∧ t.chr.base = ofInt 64 ((s.chr.base : Int) + 80000 * n) ∧
      t.chr.tick = s.chr.tick ∧ t.chr.step = none ∧ t.get R.CHR_DISC_STEPPED = 1 ∧
      t.get R.CHR_DISC_STEP_PENDING = 0 ∧
      LogGains 4 [ofInt 64 (80000 * n), ofInt 64 (80000 * n) / 2 ^ 32, s.chr.tick] { s with chr := t.chr } t := by
  obtain ⟨hregs, hstepped, hpending⟩ := s.stepHeard.stepTaken_regs (80000 * n)
  have hchr : (s.stepHeard.stepMt (80000 * n)).chr = (s.stepHeard.stepTaken (80000 * n)).chr := by
    rw [State.stepMt_eq, (State.pltStep_kept _ _).1, State.raise_chr]
  have hget (f : Fld) (hf : f.key ≠ R.LOG_LOST_VALUE.key) :
      (s.stepHeard.stepMt (80000 * n)).get f = (s.stepHeard.stepTaken (80000 * n)).get f :=
    (State.get_congr (State.pltStep_kept _ _).2.2 f).trans (State.get_raise _ _ _ hf)
  refine ⟨_, exec_mt64Step h hq, by rw [hchr]; rfl, by rw [hchr]; rfl, by rw [hchr]; rfl,
    (hget _ (by decide)).trans hstepped, (hget _ (by decide)).trans hpending, ?_⟩
  rw [hchr]
  exact ((logGains_raise (s.stepHeard.stepTaken (80000 * n)) 4 _).of_now_eq
    (s := { s with chr := (s.stepHeard.stepTaken (80000 * n)).chr }) hregs rfl rfl (by decide)).of_log_eq
      (State.pltStep_kept _ _).2.1

/-! ### The rate (R108) -/

theorem toInt_bounds (n : Nat) : -2 ^ 31 ≤ toInt 32 n ∧ toInt 32 n < 2 ^ 31 := by
  unfold toInt
  split_ifs <;> omega

theorem toInt_ofInt {v : Int} (hlo : -2 ^ 31 ≤ v) (hhi : v < 2 ^ 31) : toInt 32 (ofInt 32 v) = v := by
  unfold toInt ofInt
  split_ifs <;> omega

/-- A value within `d` of another moves toward a third and no further. -/
theorem clamp_toward {now d want : Int} (hd : 0 ≤ d) :
    (clamp (now - d) (now + d) want - now).natAbs ≤ d.natAbs ∧ min now want ≤ clamp (now - d) (now + d) want ∧
      clamp (now - d) (now + d) want ≤ max now want := by
  unfold clamp
  omega

theorem rateEdge_bounded (s : State) (h : s.chr.rateWant.natAbs ≤ (ppm 120).natAbs) :
    10000 * (toInt 32 (s.rateEdge.get R.CHR_RATE_VALUE) - toInt 32 (s.get R.CHR_RATE_VALUE)).natAbs ≤ (ppm 200).natAbs ∧
      s.rateEdge.chr.rateWant = s.chr.rateWant := by
  have hrate : s.rateEdge.get R.CHR_RATE_VALUE = ofInt 32 (clamp (toInt 32 (s.get R.CHR_RATE_VALUE) - ppm 200 / 10000)
      (toInt 32 (s.get R.CHR_RATE_VALUE) + ppm 200 / 10000) s.chr.rateWant) :=
    State.get_put_of_lt s (f := R.CHR_RATE_VALUE) (ofInt_lt 32 _)
  have hnow := toInt_bounds (s.get R.CHR_RATE_VALUE)
  obtain ⟨hstep, hlo, hhi⟩ := clamp_toward (now := toInt 32 (s.get R.CHR_RATE_VALUE)) (d := ppm 200 / 10000)
    (want := s.chr.rateWant) (by decide)
  have h120 : (ppm 120).natAbs = 1006632960 := rfl
  have hd : (ppm 200 / 10000).natAbs = 167772 := rfl
  have h200 : (ppm 200).natAbs = 1677721600 := rfl
  refine ⟨?_, rfl⟩
  rw [hrate, toInt_ofInt (by omega) (by omega)]
  omega

/-- Settles O20: each change of state goes by `State.discTo`, which raises EV003. Its source at the entry to FREE is the one that
was in use (log 96); that CHR_RATE reaches its correction within the bound of R108 is the model's reading (log 45). -/
theorem disciplineStates : Obligations.DisciplineStates := by
  unfold Obligations.DisciplineStates
  exact ⟨referenceLost_holds, holdoverExpiry_frees, sourceSwitch_switches, mt64Step_steps, rateEdge_bounded⟩

end Sys2Proof.Machine

/-! The reference events of the discipline (O19). -/

namespace Sys2Proof.Machine

/-! ### Stamps taken with an event (R95) -/

/-- Taking a stamp changes the queues of the stamp points alone. -/
theorem State.takeStamp_eq (s : State) (p : Nat) :
    s.takeStamp p = { s with chr.stamps := (s.takeStamp p).chr.stamps } := by
  unfold State.takeStamp
  split
  · rfl
  · rfl

theorem State.tookStamp_eq (s : State) (p : Nat) (x : Option Nat) :
    s.tookStamp p x = { s with chr.stamps := (s.tookStamp p x).chr.stamps } := by
  unfold State.tookStamp
  split_ifs
  · exact s.takeStamp_eq p
  · rfl

theorem State.tookStamp_of_ne_none (s : State) (p : Nat) {x : Option Nat} (h : x ≠ none) :
    s.tookStamp p x = s.takeStamp p := if_pos (Option.isSome_iff_ne_none.2 h)

theorem State.stamps_takeStamp_same (s : State) (p : Nat) :
    ((s.takeStamp p).stampQ p).stamps = (s.stampQ p).stamps.tail := by
  have hset (l : List Nat) : (s.setStampQ { s.stampQ p with stamps := l }).stampQ p = { s.stampQ p with stamps := l } := by
    have h := s.stampQ_setStampQ_same { s.stampQ p with stamps := l }
    rwa [show ({ s.stampQ p with stamps := l } : StampQ).point = p from s.stampQ_point p] at h
  unfold State.takeStamp
  split
  · next h => rw [h]; rfl
  · next l h => rw [hset, h]; rfl

theorem State.stampQ_takeStamp_other (s : State) {p q : Nat} (h : q ≠ p) : (s.takeStamp p).stampQ q = s.stampQ q := by
  unfold State.takeStamp
  split
  · rfl
  · exact State.stampQ_setStampQ_other s (by rwa [s.stampQ_point p])

/-! ### The run of a source (R103) -/

/-- A source with one more good event. -/
def Ref.credited (r : Ref) (tick : Nat) : Ref :=
  { r with good := r.good + 1, qualTick := if r.good = 7 then some tick else r.qualTick }

theorem State.ref_goodRef {s : State} {c : Nat} (h : c - 1 < s.chr.refs.length) :
    (s.goodRef c).ref c = (s.ref c).credited s.chr.tick := by
  rw [State.goodRef, State.ref_congr (refsKept_pickSource _).1, State.ref_modRef_same h]
  rfl

theorem State.ref_goodRef_servo {s : State} {c : Nat} (h : c - 1 < s.chr.refs.length) (off : Int) (whole : Bool) :
    ((s.goodRef c).servo c off whole).ref c = (s.ref c).credited s.chr.tick := by
  rw [State.ref_congr (refsKept_servo _ c off whole).1, State.ref_goodRef h]

theorem refs_length_modRef (s : State) (c : Nat) (f : Ref → Ref) :
    (s.modRef c f).chr.refs.length = s.chr.refs.length := List.length_modify ..

/-- A measured rate is noted with its source. -/
def Ref.rated (r : Ref) (rate : Int) (fast : Nat) : Ref := { r with rate := rate, fast := fast }

/-- R104, R108: a measured rate error, with the run of those above 20 ppm. -/
def State.rateTaken (s : State) (c : Nat) (rate : Int) (fast : Nat) : State :=
  (if s.get R.CHR_DISC_SOURCE = c then { s with chr.rateEst := rate } else s).modRef c (·.rated rate fast)

/-- Table 3.9: EV002 at the eighth of the run. -/
def State.rateNoted (s : State) (c : Nat) (rate : Int) (fast : Nat) : State :=
  if fast = 8 then ((s.rateTaken c rate fast).put R.CHR_CLKSTAT_TCXO_RATE 1).raise 2 [ofInt 32 (satS 32 rate)]
  else s.rateTaken c rate fast

theorem State.rateTaken_refs (s : State) (c : Nat) (rate : Int) (fast : Nat) :
    (s.rateTaken c rate fast).chr.refs = s.chr.refs.modify (c - 1) (·.rated rate fast) := by
  unfold State.rateTaken
  split_ifs
  · rfl
  · rfl

theorem State.rateNoted_refs (s : State) (c : Nat) (rate : Int) (fast : Nat) :
    (s.rateNoted c rate fast).chr.refs = s.chr.refs.modify (c - 1) (·.rated rate fast) := by
  unfold State.rateNoted
  split_ifs
  · rw [State.raise_chr]
    exact s.rateTaken_refs c rate fast
  · exact s.rateTaken_refs c rate fast

/-- A span of no time measures nothing. -/
theorem State.measureRate_cases (s : State) (c : Nat) (span got : Int) :
    s.measureRate c span got = s ∨ ∃ rate fast, s.measureRate c span got = s.rateNoted c rate fast := by
  by_cases h : span ≤ 0
  · exact .inl (if_pos h)
  · exact .inr ⟨_, _, if_neg h⟩

/-- What a measured rate error changes of the sources. -/
theorem State.measureRate_refs (s : State) (c : Nat) (span got : Int) :
    (s.measureRate c span got).chr.refs = s.chr.refs ∨
      ∃ rate fast, (s.measureRate c span got).chr.refs = s.chr.refs.modify (c - 1) (·.rated rate fast) := by
  rcases s.measureRate_cases c span got with h | ⟨rate, fast, h⟩
  · exact .inl (by rw [h])
  · exact .inr ⟨rate, fast, by rw [h, State.rateNoted_refs]⟩

theorem State.measureRate_good (s : State) (c : Nat) (span got : Int) :
    ((s.measureRate c span got).ref c).good = (s.ref c).good := by
  rcases s.measureRate_refs c span got with h | ⟨rate, fast, h⟩
  · rw [State.ref_congr h]
  · have hmod : (s.measureRate c span got).ref c = (s.modRef c (·.rated rate fast)).ref c := State.ref_congr h c
    rw [hmod]
    by_cases hlen : c - 1 < s.chr.refs.length
    · rw [State.ref_modRef_same hlen]
      rfl
    · rw [State.ref, State.ref, List.getD_eq_default _ _ (Nat.not_lt.1 hlen), List.getD_eq_default]
      rw [refs_length_modRef]
      exact Nat.not_lt.1 hlen

theorem State.measureRate_length (s : State) (c : Nat) (span got : Int) :
    (s.measureRate c span got).chr.refs.length = s.chr.refs.length := by
  rcases s.measureRate_refs c span got with h | ⟨rate, fast, h⟩ <;> rw [h]
  exact List.length_modify ..

theorem State.leaveUnnamed_length (s : State) (input c e : Nat) :
    (s.leaveUnnamed input c e).chr.refs.length = s.chr.refs.length := by
  rw [State.leaveUnnamed, (refsKept_servo _ c _ false).1, State.disqualify_eq, (refsKept_pickSource _).1,
    refs_length_modRef, State.raise_chr]

theorem State.disqualify_queue_prefix (s : State) (c : Nat) : s.log.queue <+: (s.disqualify c).log.queue :=
  (refsKept_pickSource (s.modRef c Ref.dropped)).2

/-! ### PPS edges (R104) -/

/-- The register of a PPS input's delay. -/
def ppsDelayFld (k : Fin 2) : Fld := if k = 0 then R.CHR_PPS_DLY_PPS0 else R.CHR_PPS_DLY_PPS1

/-- An edge with its stamp taken, at its phase. -/
def State.ppsTook (s : State) (k : Fin 2) (raw : Nat) : State := (s.tookStamp (ptPps k) (some raw)).atPhase (raw / 8)

/-- The edge's time, its delay removed. -/
def State.ppsTime (s : State) (k : Fin 2) (raw : Nat) : Nat := raw - ppsDelay (s.get (ppsDelayFld k))

theorem State.ppsTook_eq (s : State) (k : Fin 2) (raw : Nat) :
    s.ppsTook k raw =
      { s with chr.stamps := (s.tookStamp (ptPps k) (some raw)).chr.stamps, chr.phase := raw / 8 % 10000 } := by
  rw [State.ppsTook, State.tookStamp_eq]
  rfl

theorem State.ppsTook_refs (s : State) (k : Fin 2) (raw : Nat) : (s.ppsTook k raw).chr.refs = s.chr.refs := by
  rw [State.ppsTook_eq]

theorem State.ppsTook_takes {s : State} {k : Fin 2} {raw c : Nat} (h : s.takesRef c = true) :
    (s.ppsTook k raw).takesRef c = true := by
  rw [State.ppsTook_eq]
  exact h

theorem exec_ppsEdge_none (k : Fin 2) (s : State) : exec (.ppsEdge k none) s = .next (s.atPhase s.chr.phase) :=
  if_pos (.inr rfl)

/-- What an edge that the servo takes is checked for (R104), `a` being its time. -/
def State.ppsCheck (s : State) (k : Fin 2) (a : Nat) : Option Nat → Out
  | none => .next (s.ppsAccept k (k.val + 1) a 0 none)
  | some e =>
    if (a : Int) - e < second - 8000 then .next ((s.raise 5 [k, 0]).disqualify (k.val + 1))
    else if 10 * (second : Int) ≤ (a : Int) - e then
      .next (((s.raise 5 [k, 2]).modRef (k.val + 1) fun r => { r with edge := none, sec := none, named := false }).disqualify
        (k.val + 1))
    else if 8000 < ((a : Int) - e - second * roundDiv ((a : Int) - e) second).natAbs then
      .next ((s.raise 5 [k, 1]).disqualify (k.val + 1))
    else .next (s.ppsAccept k (k.val + 1) a (roundDiv ((a : Int) - e) second).toNat (some e))

theorem exec_ppsEdge {s : State} {k : Fin 2} {raw : Nat} (h : s.takesRef (k.val + 1) = true) :
    exec (.ppsEdge k (some raw)) s =
      (s.ppsTook k raw).ppsCheck k ((s.ppsTook k raw).ppsTime k raw) ((s.ppsTook k raw).ref (k.val + 1)).edge := by
  have htakes : ¬ (!(s.ppsTook k raw).takesRef (k.val + 1) ∨ some raw = none) := by
    rw [State.ppsTook_takes h]
    simp
  refine (if_neg htakes).trans ?_
  rfl

/-- An edge that is accepted, at the time `a`: of what follows only a second that is known counts (R104, R110). -/
def State.ppsMarked (s : State) (c a : Nat) (sec : Option Nat) (named : Bool) : State :=
  (s.markRef c a).modRef c fun r => { r with sec := sec, named := named }

theorem State.ppsAccept_first (s : State) (input c a : Nat) :
    s.ppsAccept input c a 0 none = s.ppsMarked c a none false := by
  have hnamed : (s.mode == mLIMP && (none : Option Nat).isSome) = false := Bool.and_false _
  exact congrArg (s.ppsMarked c a none) hnamed

/-- R104: what an edge after another one measures; the other one serves for rate and phase alone if nothing named it. -/
def State.ppsMeasured (s : State) (input c a k e : Nat) : State :=
  let u := s.measureRate c (second * k) ((a : Int) - e)
  if (s.ref c).named || (u.mode == mLIMP && (s.ref c).sec.isSome) then u else u.leaveUnnamed input c e

/-- R110: the edge with the second that follows from the one before, which names it in LIMP. -/
def State.ppsNamed (s : State) (c a : Nat) (next : Option Nat) : State :=
  let u := s.ppsMarked c a next (s.mode == mLIMP && next.isSome)
  match next with
  | some t => if u.mode = mLIMP then (u.goodRef c).servo c ((second * t : Nat) - (a : Int)) true else u
  | none => u

theorem State.ppsAccept_next (s : State) (input c a k e : Nat) :
    s.ppsAccept input c a k (some e) = (s.ppsMeasured input c a k e).ppsNamed c a ((s.ref c).sec.map (· + k)) := rfl

theorem State.ppsMeasured_length (s : State) (input c a k e : Nat) :
    (s.ppsMeasured input c a k e).chr.refs.length = s.chr.refs.length := by
  have hmeasured := s.measureRate_length c (second * k) ((a : Int) - e)
  unfold State.ppsMeasured
  dsimp only
  split_ifs
  · exact hmeasured
  · rw [State.leaveUnnamed_length, hmeasured]

theorem State.ref_ppsMarked {s : State} {c : Nat} (h : c - 1 < s.chr.refs.length) (a : Nat) (sec : Option Nat)
    (named : Bool) : (s.ppsMarked c a sec named).ref c =
      { s.ref c with edge := some a, sec := sec, named := named, tickAt := s.chr.tick, corrAt := s.chr.corrSum } := by
  have hlen : c - 1 < (s.markRef c a).chr.refs.length := by rwa [State.markRef, refs_length_modRef]
  rw [State.ppsMarked, State.ref_modRef_same hlen, State.markRef, State.ref_modRef_same h]

theorem State.ppsMarked_length (s : State) (c a : Nat) (sec : Option Nat) (named : Bool) :
    (s.ppsMarked c a sec named).chr.refs.length = s.chr.refs.length := by
  rw [State.ppsMarked, refs_length_modRef, State.markRef, refs_length_modRef]

theorem State.edge_ppsNamed {s : State} {c : Nat} (h : c - 1 < s.chr.refs.length) (a : Nat) (next : Option Nat) :
    ((s.ppsNamed c a next).ref c).edge = some a := by
  have hmarked : ((s.ppsMarked c a next (s.mode == mLIMP && next.isSome)).ref c).edge = some a := by
    rw [State.ref_ppsMarked h]
  have hlen : c - 1 < (s.ppsMarked c a next (s.mode == mLIMP && next.isSome)).chr.refs.length := by
    rwa [State.ppsMarked_length]
  unfold State.ppsNamed
  dsimp only
  split
  · split_ifs
    · rw [State.ref_goodRef_servo hlen]
      exact hmarked
    · exact hmarked
  · exact hmarked

theorem State.edge_ppsAccept_next {s : State} {c : Nat} (h : c - 1 < s.chr.refs.length) (input a k e : Nat) :
    ((s.ppsAccept input c a k (some e)).ref c).edge = some a := by
  rw [State.ppsAccept_next, State.edge_ppsNamed (by rwa [State.ppsMeasured_length])]

theorem ppsEdge_first (s : State) (k : Fin 2) (raw : Nat) (h : s.takesRef (k.val + 1) = true)
    (he : (s.ref (k.val + 1)).edge = none) :
    ∃ t, exec (.ppsEdge k (some raw)) s = .next t ∧ t.chr.refs = s.chr.refs.modify k.val (fun r => { r with
      edge := some (raw - ppsDelay (s.get (if k = 0 then R.CHR_PPS_DLY_PPS0 else R.CHR_PPS_DLY_PPS1))),
      sec := none, named := false, tickAt := s.chr.tick, corrAt := s.chr.corrSum }) := by
  have hedge : ((s.ppsTook k raw).ref (k.val + 1)).edge = none := by rw [State.ref_congr (s.ppsTook_refs k raw), he]
  rw [exec_ppsEdge h, hedge]
  refine ⟨_, congrArg Host.Outcome.next (State.ppsAccept_first _ _ _ _), ?_⟩
  rw [s.ppsTook_eq k raw]
  exact List.modify_modify_eq ..

theorem ppsEdge_early (s : State) (k : Fin 2) (raw e : Nat) (h : s.takesRef (k.val + 1) = true)
    (he : (s.ref (k.val + 1)).edge = some e)
    (hearly : raw - ppsDelay (s.get (if k = 0 then R.CHR_PPS_DLY_PPS0 else R.CHR_PPS_DLY_PPS1)) + 8000 < e + second) :
    ∃ t, exec (.ppsEdge k (some raw)) s = .next t ∧ (t.ref (k.val + 1)).good = 0 ∧
      LogNext 5 [k, 0] (s.atPhase (raw / 8)) t := by
  have hedge : ((s.ppsTook k raw).ref (k.val + 1)).edge = some e := by rw [State.ref_congr (s.ppsTook_refs k raw), he]
  have htime : (s.ppsTook k raw).ppsTime k raw + 8000 < e + second := by
    rw [s.ppsTook_eq k raw]
    exact hearly
  rw [exec_ppsEdge h, hedge]
  refine ⟨_, if_pos (by omega), State.good_disqualify _ _, ?_⟩
  have hgains : LogGains 5 [k, 0] (s.atPhase (raw / 8)) ((s.ppsTook k raw).raise 5 [k, 0]) := by
    refine (logGains_raise (s.ppsTook k raw) 5 _).of_now_eq (ks := []) (fun f _ => ?_) ?_ ?_ (by decide)
    all_goals
      rw [s.ppsTook_eq k raw]
      rfl
  exact hgains.logNext (State.disqualify_queue_prefix _ _)

theorem ppsEdge_onTime (s : State) (k : Fin 2) (raw e : Nat) (h : s.takesRef (k.val + 1) = true)
    (he : (s.ref (k.val + 1)).edge = some e)
    (htime : raw - ppsDelay (s.get (if k = 0 then R.CHR_PPS_DLY_PPS0 else R.CHR_PPS_DLY_PPS1)) = e + second) :
    ∃ t, exec (.ppsEdge k (some raw)) s = .next t ∧ (t.ref (k.val + 1)).edge = some (e + second) := by
  have hrefs := State.ref_congr (s.ppsTook_refs k raw) (k.val + 1)
  have hedge : ((s.ppsTook k raw).ref (k.val + 1)).edge = some e := by rw [hrefs, he]
  have htime' : (s.ppsTook k raw).ppsTime k raw = e + second := by
    rw [s.ppsTook_eq k raw]
    exact htime
  have hd : ((e + second : Nat) : Int) - e = second := by omega
  have hround : roundDiv (second : Int) second = 1 := by decide
  have haccept : (s.ppsTook k raw).ppsCheck k (e + second) (some e) =
      .next ((s.ppsTook k raw).ppsAccept k (k.val + 1) (e + second) 1 (some e)) := by
    rw [State.ppsCheck, hd, if_neg (by decide), if_neg (by decide), hround, if_neg (by decide)]
    rfl
  rw [exec_ppsEdge h, hedge, htime', haccept]
  exact ⟨_, rfl, State.edge_ppsAccept_next (State.refs_length_of_edge hedge) _ _ _ _⟩

/-! ### Times of day (R104, R270) -/

/-- The message is taken. -/
def State.todTaken (s : State) (k : Fin 2) (sec a : Nat) : State :=
  { s with plt.tods := s.plt.tods.erase (k.val, sec, a) }

theorem exec_timeOfDay {s : State} {k : Fin 2} {sec a e : Nat}
    (ht : s.plt.tods.find? (fun x => x.1 == k.val) = some (k.val, sec, a)) (h : s.takesRef (k.val + 1) = true)
    (he : (s.ref (k.val + 1)).edge = some e) (hn : (s.ref (k.val + 1)).named = false) (hlo : e ≤ a)
    (hhi : a ≤ e + 720000000) :
    exec (.timeOfDay k) s = .next (((((s.todTaken k sec a).modRef (k.val + 1) fun r =>
      { r with sec := some sec, named := true }).goodRef (k.val + 1)).servo (k.val + 1)
        ((second * sec : Nat) - (e : Int)) true)) := by
  have hedge : ((s.todTaken k sec a).ref (k.val + 1)).edge = some e := he
  have hcond : (s.todTaken k sec a).takesRef (k.val + 1) = true ∧
      (!((s.todTaken k sec a).ref (k.val + 1)).named) = true ∧ e ≤ a ∧ a ≤ e + 720000000 :=
    ⟨h, congrArg (!·) hn, hlo, hhi⟩
  change execTimeOfDay k s = _
  unfold execTimeOfDay
  rw [ht]
  change (match ((s.todTaken k sec a).ref (k.val + 1)).edge with | none => _ | some e => _) = _
  rw [hedge]
  exact if_pos hcond

theorem timeOfDay_names (s : State) (k : Fin 2) (sec a e : Nat)
    (ht : s.plt.tods.find? (fun x => x.1 == k.val) = some (k.val, sec, a)) (h : s.takesRef (k.val + 1) = true)
    (he : (s.ref (k.val + 1)).edge = some e) (hn : (s.ref (k.val + 1)).named = false) (hlo : e ≤ a)
    (hhi : a ≤ e + 720000000) :
    ∃ t, exec (.timeOfDay k) s = .next t ∧ (t.ref (k.val + 1)).sec = some sec ∧ (t.ref (k.val + 1)).named = true ∧
      (t.ref (k.val + 1)).good = (s.ref (k.val + 1)).good + 1 := by
  have hlen : k.val + 1 - 1 < (s.todTaken k sec a).chr.refs.length := State.refs_length_of_edge he
  refine ⟨_, exec_timeOfDay ht h he hn hlo hhi, ?_⟩
  rw [State.ref_goodRef_servo (by rwa [refs_length_modRef]), State.ref_modRef_same hlen]
  exact ⟨rfl, rfl, rfl⟩

/-! ### Sync and path delay (R105) -/

theorem exec_gptpSync_none (k : Fin 2) (origin : Nat) (s : State) : exec (.gptpSync k none origin) s = .next s :=
  if_pos (.inr (.inr (.inr rfl)))

/-- A Sync with its stamp taken, after the rate that it measures. -/
def State.syncMeasured (s : State) (c org rx : Nat) : State :=
  match (s.ref c).edge, (s.ref c).sec with
  | some rx0, some org0 => s.measureRate c ((org : Int) - org0) ((rx : Int) - rx0)
  | _, _ => s

theorem State.syncMeasured_kept (s : State) (c org rx : Nat) :
    (s.syncMeasured c org rx).chr.refs.length = s.chr.refs.length ∧
      ((s.syncMeasured c org rx).ref c).good = (s.ref c).good := by
  unfold State.syncMeasured
  split
  · exact ⟨State.measureRate_length _ _ _ _, State.measureRate_good _ _ _ _⟩
  · exact ⟨rfl, rfl⟩

theorem exec_gptpSync {s : State} {k : Fin 2} {rx : Nat} (origin : Nat) (h : s.takesRef (k.val + 3) = true)
    (hg : s.gptpMode k ≠ 0) (hm : (s.gptpPort k).master = false) :
    ∃ off, exec (.gptpSync k (some rx) origin) s = .next
      ((((((s.takeStamp (ptEth k 0)).syncMeasured (k.val + 3) ((origin * 4 + 2) / 5) rx).ppsMarked (k.val + 3) rx
        (some ((origin * 4 + 2) / 5)) true).goodRef (k.val + 3)).servo (k.val + 3) off true)) := by
  have htake : ¬ (!(s.takeStamp (ptEth k 0)).takesRef (k.val + 3) ∨ (s.takeStamp (ptEth k 0)).gptpMode k = 0 ∨
      ((s.takeStamp (ptEth k 0)).gptpPort k).master ∨ some rx = none) := by
    rw [s.takeStamp_eq]
    change ¬ (!s.takesRef (k.val + 3) ∨ s.gptpMode k = 0 ∨ (s.gptpPort k).master ∨ some rx = none)
    simp [h, hg, hm]
  exact ⟨_, if_neg htake⟩

theorem gptpSync_counts (s : State) (k : Fin 2) (rx origin : Nat) (h : s.takesRef (k.val + 3) = true)
    (hg : s.gptpMode k ≠ 0) (hm : (s.gptpPort k).master = false) (hs : s.Shaped) :
    ∃ t, exec (.gptpSync k (some rx) origin) s = .next t ∧ (t.ref (k.val + 3)).edge = some rx ∧
      (t.ref (k.val + 3)).sec = some ((origin * 4 + 2) / 5) ∧
      (t.ref (k.val + 3)).good = (s.ref (k.val + 3)).good + 1 := by
  obtain ⟨hrefs, -⟩ := hs
  obtain ⟨off, hexec⟩ := exec_gptpSync (rx := rx) origin h hg hm
  have htook : (s.takeStamp (ptEth k 0)).chr.refs = s.chr.refs := by rw [s.takeStamp_eq]
  obtain ⟨hlen, hgood⟩ := (s.takeStamp (ptEth k 0)).syncMeasured_kept (k.val + 3) ((origin * 4 + 2) / 5) rx
  have hroom : k.val + 3 - 1 <
      ((s.takeStamp (ptEth k 0)).syncMeasured (k.val + 3) ((origin * 4 + 2) / 5) rx).chr.refs.length := by
    rw [hlen, htook]
    omega
  refine ⟨_, hexec, ?_⟩
  rw [State.ref_goodRef_servo (by rwa [State.ppsMarked_length]), State.ref_ppsMarked hroom]
  refine ⟨rfl, rfl, congrArg (· + 1) ?_⟩
  rw [hgood, State.ref_congr htook]

/-- The exchange's stamps are taken. -/
def State.pdelayTook (s : State) (k : Fin 2) (x : PdelayIn) : State :=
  (s.tookStamp (ptEth k 1) x.tx).tookStamp (ptEth k 0) x.rx

theorem State.pdelayTook_eq (s : State) (k : Fin 2) (x : PdelayIn) :
    s.pdelayTook k x = { s with chr.stamps := (s.pdelayTook k x).chr.stamps } := by
  rw [State.pdelayTook, State.tookStamp_eq, State.tookStamp_eq s]

theorem exec_gptpPdelayResp (k : Fin 2) (x : PdelayIn) (s : State) :
    exec (.gptpPdelayResp k x) s = .next (if s.gptpMode k = 0 ∨ x.tx = none ∨ x.rx = none then s.pdelayTook k x
      else (s.pdelayTook k x).modRef (k.val + 3) fun r => { r with delay := x.delay }) := by
  have hmode : (s.pdelayTook k x).gptpMode k = s.gptpMode k := by
    rw [s.pdelayTook_eq k x]
    rfl
  rw [← hmode]
  rfl

theorem State.stamps_pdelayTook (s : State) (k : Fin 2) {x : PdelayIn} (ht : x.tx ≠ none) (hr : x.rx ≠ none) :
    ((s.pdelayTook k x).stampQ (ptEth k 1)).stamps = (s.stampQ (ptEth k 1)).stamps.tail ∧
      ((s.pdelayTook k x).stampQ (ptEth k 0)).stamps = (s.stampQ (ptEth k 0)).stamps.tail := by
  have hne : ptEth k 1 ≠ ptEth k 0 := by
    unfold ptEth
    omega
  rw [State.pdelayTook, State.tookStamp_of_ne_none _ _ hr, State.tookStamp_of_ne_none _ _ ht]
  refine ⟨?_, ?_⟩
  · rw [State.stampQ_takeStamp_other _ hne, State.stamps_takeStamp_same]
  · rw [State.stamps_takeStamp_same, State.stampQ_takeStamp_other _ hne.symm]

theorem gptpPdelayResp_measures (s : State) (k : Fin 2) (x : PdelayIn) (hg : s.gptpMode k ≠ 0) (ht : x.tx ≠ none)
    (hr : x.rx ≠ none) (hs : s.Shaped) :
    ∃ t, exec (.gptpPdelayResp k x) s = .next t ∧ (t.ref (k.val + 3)).delay = x.delay ∧
      (t.stampQ (ptEth k 1)).stamps = (s.stampQ (ptEth k 1)).stamps.tail ∧
      (t.stampQ (ptEth k 0)).stamps = (s.stampQ (ptEth k 0)).stamps.tail ∧
      t = { s with chr.refs := t.chr.refs, chr.stamps := t.chr.stamps } ∧
      ∀ c, c ≠ k.val + 3 → c ≠ 0 → t.ref c = s.ref c := by
  obtain ⟨hlen, -⟩ := hs
  obtain ⟨htx, hrx⟩ := s.stamps_pdelayTook k ht hr
  have hrefs : (s.pdelayTook k x).chr.refs = s.chr.refs := by rw [s.pdelayTook_eq k x]
  have hexec := exec_gptpPdelayResp k x s
  rw [if_neg (by simp [hg, ht, hr])] at hexec
  refine ⟨_, hexec, ?_, htx, hrx, ?_, fun c hc hc0 => ?_⟩
  · rw [State.ref_modRef_same (by rw [hrefs]; omega)]
  · rw [s.pdelayTook_eq k x]
    rfl
  · rw [State.ref_modRef_other _ (by omega), State.ref_congr hrefs]

theorem gptpPdelayResp_idle (s : State) (k : Fin 2) (x : PdelayIn) (h : s.gptpMode k = 0 ∨ x.tx = none ∨ x.rx = none) :
    ∃ t, exec (.gptpPdelayResp k x) s = .next t ∧ t = { s with chr.stamps := t.chr.stamps } :=
  ⟨_, by rw [exec_gptpPdelayResp, if_pos h], s.pdelayTook_eq k x⟩

/-- Settles O19: an event that counts comes to `State.goodRef` and the servo, which leave what the event noted of its source. The
rounding of delays and origins to MT units is the model's choice (log 95); that an event without its stamp is none, and that
the stamps which there are leave their queues, is its deduction (log 101). -/
theorem referenceEvents : Obligations.ReferenceEvents := by
  unfold Obligations.ReferenceEvents
  exact ⟨fun s k raw h he _ => ppsEdge_first s k raw h he, ppsEdge_early, ppsEdge_onTime, timeOfDay_names, gptpSync_counts,
    gptpPdelayResp_measures, gptpPdelayResp_idle, fun s k => exec_ppsEdge_none k s,
    fun s k origin => exec_gptpSync_none k origin s⟩

end Sys2Proof.Machine

/-! Broadcasts (R205): a GO and the edge that makes its word act (O41). -/

namespace Sys2Proof.Machine

theorem exec_broadcast (v : BitVec 32) (w : Fin 16) (m : BitVec 8) (s : State) :
    exec (.broadcast v w m) s = .next ((s.puts [(R.HLM_BC_VAL_VALUE, v.toNat), (R.HLM_BC_CTL_GMASK, m.toNat),
      (R.HLM_BC_CTL_WORD, w)]).broadcast v.toNat w m.toNat) := rfl

theorem exec_broadcastAct (s : State) : exec .broadcastAct s = .next s.broadcastEdge := rfl

/-! ### GO of HLM_BC_CTL -/

/-- The fields that a GO of HLM_BC_CTL writes. -/
def State.broadcastAsked (s : State) (v w m : Nat) : State :=
  s.puts [(R.HLM_BC_VAL_VALUE, v), (R.HLM_BC_CTL_GMASK, m), (R.HLM_BC_CTL_WORD, w)]

/-- The word takes one cycle for each of at most eight groups. -/
theorem State.bcTick_of_early {s : State} (m : Nat) (h : s.chr.phase ≤ 9988) : s.bcTick m = s.chr.tick := by
  have hlen := List.length_filter_le (fun g => bit m g) (List.range 8)
  rw [List.length_range] at hlen
  rw [State.bcTick, if_pos (by omega)]

theorem State.mem_bcPend_broadcast (s : State) (v w m : Nat) (g : Fin 8) :
    (g.val, w, v, s.bcTick m) ∈ (s.broadcast v w m).hlm.bcPend ↔
      bit m g = true ∨ (g.val, w, v, s.bcTick m) ∈ s.hlm.bcPend := by
  rw [State.broadcast, List.mem_append, or_comm]
  simp [g.isLt]

theorem broadcast_pends (s : State) (v : BitVec 32) (w : Fin 16) (m : BitVec 8) :
    ∃ t, exec (.broadcast v w m) s = .next t ∧ t.get R.HLM_BC_VAL_VALUE = v.toNat ∧
      t.get R.HLM_BC_CTL_GMASK = m.toNat ∧ t.get R.HLM_BC_CTL_WORD = w ∧
      (∀ g : Fin 8, (g.val, w.val, v.toNat, s.bcTick m.toNat) ∈ t.hlm.bcPend ↔
        bit m.toNat g = true ∨ (g.val, w.val, v.toNat, s.bcTick m.toNat) ∈ s.hlm.bcPend) ∧
      (s.chr.phase ≤ 9988 → s.bcTick m.toNat = s.chr.tick) ∧
      OnlyRegs [R.HLM_BC_VAL_VALUE, R.HLM_BC_CTL_GMASK, R.HLM_BC_CTL_WORD] { s with hlm.bcPend := t.hlm.bcPend } t := by
  have hregs := (onlyRegs_puts s
    [(R.HLM_BC_VAL_VALUE, v.toNat), (R.HLM_BC_CTL_GMASK, m.toNat), (R.HLM_BC_CTL_WORD, w.val)]).1
  refine ⟨_, exec_broadcast v w m s, ?_, ?_, ?_,
    (s.broadcastAsked v.toNat w m.toNat).mem_bcPend_broadcast v.toNat w m.toNat, State.bcTick_of_early m.toNat, hregs, rfl⟩
  · have hput : (s.broadcastAsked v.toNat w m.toNat).get R.HLM_BC_VAL_VALUE = v.toNat := by
      rw [State.broadcastAsked, State.puts, State.puts, State.puts, State.puts, State.get_put_other _ (by decide),
        State.get_put_other _ (by decide)]
      exact State.get_put_of_lt s v.isLt
    exact hput
  · have hput : (s.broadcastAsked v.toNat w m.toNat).get R.HLM_BC_CTL_GMASK = m.toNat := by
      rw [State.broadcastAsked, State.puts, State.puts, State.puts, State.puts, State.get_put_other _ (by decide)]
      exact State.get_put_of_lt _ m.isLt
    exact hput
  · have hput : (s.broadcastAsked v.toNat w m.toNat).get R.HLM_BC_CTL_WORD = w := State.get_put_of_lt _ w.isLt
    exact hput

/-! ### The edge -/

/-- A broadcast word in force. -/
def State.bcPut (s : State) (b : Nat × Nat × Nat × Nat) : State := s.put (R.HLM_BCW_VALUE b.1 b.2.1) b.2.2.1

def bcFld (b : Nat × Nat × Nat × Nat) : Fld := R.HLM_BCW_VALUE b.1 b.2.1

theorem State.broadcastEdge_eq (s : State) :
    s.broadcastEdge = (s.hlm.bcPend.filter fun b => decide (b.2.2.2 < s.chr.tick)).foldl State.bcPut
      { s with hlm.bcPend := s.hlm.bcPend.filter fun b => decide (s.chr.tick ≤ b.2.2.2) } := rfl

theorem onlyRegs_foldl_bcPut (l : List (Nat × Nat × Nat × Nat)) (s : State) :
    OnlyRegs (l.map bcFld) s (l.foldl State.bcPut s) := by
  induction l generalizing s with
  | nil => exact onlyRegs_refl _ s
  | cons b l ih => exact onlyRegs_trans (onlyRegs_put s (bcFld b) b.2.2.1) (ih _)

theorem State.hlm_foldl_bcPut (l : List (Nat × Nat × Nat × Nat)) (s : State) : (l.foldl State.bcPut s).hlm = s.hlm := by
  rw [(onlyRegs_foldl_bcPut l s).2]

theorem broadcastAct_last (s : State) (g : Fin 8) (w : Fin 16) (v : BitVec 32) (n : Nat)
    (l : List (Nat × Nat × Nat × Nat)) (hn : n < s.chr.tick) (hl : s.hlm.bcPend = l ++ [(g.val, w.val, v.toNat, n)]) :
    ∃ t, exec .broadcastAct s = .next t ∧ t.get (R.HLM_BCW_VALUE g w) = v.toNat ∧
      t.hlm.bcPend = l.filter (fun b => decide (s.chr.tick ≤ b.2.2.2)) ∧
      OnlyRegs (s.hlm.bcPend.map fun b => R.HLM_BCW_VALUE b.1 b.2.1) { s with hlm.bcPend := t.hlm.bcPend } t := by
  have hpend : s.broadcastEdge.hlm.bcPend = s.hlm.bcPend.filter fun b => decide (s.chr.tick ≤ b.2.2.2) := by
    rw [State.broadcastEdge_eq, State.hlm_foldl_bcPut]
  refine ⟨_, exec_broadcastAct s, ?_, ?_, ?_⟩
  · have hdue : (s.hlm.bcPend.filter fun b => decide (b.2.2.2 < s.chr.tick)) =
        (l.filter fun b => decide (b.2.2.2 < s.chr.tick)) ++ [(g.val, w.val, v.toNat, n)] := by
      rw [hl, List.filter_append, List.filter_cons_of_pos (by simpa using hn), List.filter_nil]
    rw [State.broadcastEdge_eq, hdue, List.foldl_append]
    exact State.get_put_of_lt _ v.isLt
  · rw [hpend, hl, List.filter_append, List.filter_cons_of_neg (by simpa using hn), List.filter_nil, List.append_nil]
  · rw [hpend, State.broadcastEdge_eq]
    exact onlyRegs_mono (onlyRegs_foldl_bcPut _ _) fun f hf =>
      List.map_subset bcFld (List.filter_subset_self _) hf

theorem broadcastAct_none (s : State) (h : ∀ b ∈ s.hlm.bcPend, s.chr.tick ≤ b.2.2.2) :
    exec .broadcastAct s = .next s := by
  have hdue : (s.hlm.bcPend.filter fun b => decide (b.2.2.2 < s.chr.tick)) = [] :=
    List.filter_eq_nil_iff.2 fun b hb => by simpa using h b hb
  have hleft : (s.hlm.bcPend.filter fun b => decide (s.chr.tick ≤ b.2.2.2)) = s.hlm.bcPend :=
    List.filter_eq_self.2 fun b hb => decide_eq_true (h b hb)
  rw [exec_broadcastAct, State.broadcastEdge_eq, hdue, hleft]
  rfl

end Sys2Proof.Machine

/-! What an operation on Helm's channels leaves as it was, and what decides how a channel goes on after its reset. -/

namespace Sys2Proof.Machine

/-! ### Registers of a channel -/

/-- The keys of a channel's own registers: its window of Table 5.9, and that of HLM_AM and HLM_HOV. -/
def chanKey (c k : Nat) : Prop :=
  8 * (0xF000311000 + 0x10000 * (c / 16) + 0x100 * (c % 16)) ≤ k ∧
      k < 8 * (0xF000311000 + 0x10000 * (c / 16) + 0x100 * (c % 16)) + 0x800 ∨
    8 * (0xF000316000 + 0x10000 * (c / 16) + 0x40 * (c % 16)) ≤ k ∧
      k < 8 * (0xF000316000 + 0x10000 * (c / 16) + 0x40 * (c % 16)) + 0x200

/-- No register belongs to two channels. -/
theorem chanKey_unique {c d k : Nat} (hc : chanKey c k) (hd : chanKey d k) : c = d := by
  unfold chanKey at hc hd
  omega

/-- The keys that an operation on the channels `l` may write: their registers, the contacts, and the count of lost
records. -/
def chansKey (l : List Nat) (k : Nat) : Prop :=
  (∃ c ∈ l, chanKey c k) ∨ k = R.DIO_OUT_STATE.key ∨ k = R.LOG_LOST_VALUE.key

theorem chansKey_mono {l m : List Nat} {k : Nat} (h : ∀ c ∈ l, c ∈ m) (hk : chansKey l k) : chansKey m k := by
  obtain ⟨c, hc, hck⟩ | hk := hk
  · exact .inl ⟨c, h c hc, hck⟩
  · exact .inr hk

/-- Nothing but the channels `l`, their registers, their sinks, and events. -/
structure ChansOnly (l : List Nat) (s t : State) : Prop where
  alm : t.alm = s.alm
  chr : t.chr = s.chr
  uvLost : t.pwr.uvLost = s.pwr.uvLost
  hlm : t.hlm = { s.hlm with chans := t.hlm.chans, arith := t.hlm.arith, badIn := t.hlm.badIn }
  length : t.hlm.chans.length = s.hlm.chans.length
  chan : ∀ d, d ∉ l → t.chan d = s.chan d
  get : ∀ f : Fld, ¬ chansKey l f.key → t.get f = s.get f

theorem ChansOnly.refl (l : List Nat) (s : State) : ChansOnly l s s :=
  ⟨rfl, rfl, rfl, rfl, rfl, fun _ _ => rfl, fun _ _ => rfl⟩

theorem ChansOnly.trans {l : List Nat} {s t u : State} (h : ChansOnly l s t) (g : ChansOnly l t u) : ChansOnly l s u where
  alm := g.alm.trans h.alm
  chr := g.chr.trans h.chr
  uvLost := g.uvLost.trans h.uvLost
  hlm := by rw [g.hlm, h.hlm]
  length := g.length.trans h.length
  chan d hd := (g.chan d hd).trans (h.chan d hd)
  get f hf := (g.get f hf).trans (h.get f hf)

theorem ChansOnly.mono {l m : List Nat} {s t : State} (h : ChansOnly l s t) (hs : ∀ c ∈ l, c ∈ m) : ChansOnly m s t :=
  { h with chan := fun d hd => h.chan d (mt (hs d) hd), get := fun f hf => h.get f (mt (chansKey_mono hs) hf) }

theorem chansOnly_put {l : List Nat} (s : State) {f : Fld} (v : Nat) (h : chansKey l f.key) : ChansOnly l s (s.put f v) where
  alm := rfl
  chr := rfl
  uvLost := rfl
  hlm := rfl
  length := rfl
  chan _ _ := rfl
  get g hg := State.get_put_other s (fun hk : g.key = f.key => hg (hk ▸ h)) v

theorem chansOnly_puts {l : List Nat} (es : List (Fld × Nat)) (s : State) (h : ∀ e ∈ es, chansKey l e.1.key) :
    ChansOnly l s (s.puts es) := by
  induction es generalizing s with
  | nil => exact ChansOnly.refl l s
  | cons e es ih =>
    exact (chansOnly_put s e.2 (h e List.mem_cons_self)).trans (ih _ fun x hx => h x (List.mem_cons_of_mem _ hx))

theorem chansOnly_raise (l : List Nat) (s : State) (c : Nat) (ps : List Nat) : ChansOnly l s (s.raise c ps) where
  alm := s.raise_alm c ps
  chr := s.raise_chr c ps
  uvLost := by rw [s.raise_pwr_eq c ps]
  hlm := by rw [s.raise_hlm c ps]
  length := by rw [s.raise_hlm c ps]
  chan d _ := State.chan_congr (s.raise_hlm c ps) d
  get f hf := State.get_raise s c ps fun hk => hf (.inr (.inr hk))

theorem chansOnly_modChan {l : List Nat} (s : State) {c : Nat} (f : Chan → Chan) (h : c ∈ l) :
    ChansOnly l s (s.modChan c f) where
  alm := rfl
  chr := rfl
  uvLost := rfl
  hlm := rfl
  length := s.length_chans_modChan c f
  chan d hd := getD_modify_other _ _ (fun e : c = d => hd (e ▸ h)) _
  get _ _ := rfl

/-- What runs beside the channels: the errors noted for a computation, and the sinks. -/
theorem chansOnly_rest (l : List Nat) (s : State) (a : List Nat) (b : List (Nat × Nat)) (d : Dio) :
    ChansOnly l s { s with hlm.arith := a, hlm.badIn := b, dio := d } :=
  ⟨rfl, rfl, rfl, rfl, rfl, fun _ _ => rfl, fun _ _ => rfl⟩

/-- An operation on each channel of a list. -/
theorem chansOnly_eachChan {f : State → Nat → State} (hf : ∀ t c, ChansOnly [c] t (f t c)) (l : List Nat) (s : State) :
    ChansOnly l s (s.eachChan l f) :=
  List.foldlRecOn (motive := ChansOnly l s) l f (ChansOnly.refl l s) fun t ht c hc =>
    ht.trans ((hf t c).mono fun _ hd => List.mem_singleton.1 hd ▸ hc)

/-- The operation on one channel of a list without repetitions stands between the operations on the others. -/
theorem eachChan_at {f : State → Nat → State} (hf : ∀ t c, ChansOnly [c] t (f t c)) {l : List Nat} (hn : l.Nodup)
    {c : Nat} (hc : c ∈ l) (s : State) :
    ∃ a b u, c ∉ a ∧ c ∉ b ∧ (∀ d ∈ a, d ∈ l) ∧ ChansOnly a s u ∧ ChansOnly b (f u c) (s.eachChan l f) := by
  obtain ⟨a, b, rfl⟩ := List.append_of_mem hc
  have hcross := List.nodup_append.1 hn
  refine ⟨a, b, s.eachChan a f, fun ha => hcross.2.2 c ha c List.mem_cons_self rfl, (List.nodup_cons.1 hcross.2.1).1,
    fun d hd => List.mem_append_left _ hd, chansOnly_eachChan hf a s, ?_⟩
  have hsplit : s.eachChan (a ++ c :: b) f = (f (s.eachChan a f) c).eachChan b f := List.foldl_append
  exact hsplit ▸ chansOnly_eachChan hf b _

/-! ### What the operations on other channels leave of a channel -/

theorem chanKey_CHST_STATE (c : Nat) : chanKey c (R.HLM_CHST_STATE c).key := by
  simp only [chanKey, R.HLM_CHST_STATE, Fld.at]
  omega

theorem chanKey_CHRAW (c : Nat) : chanKey c (R.HLM_CHRAW_VALUE c).key := by
  simp only [chanKey, R.HLM_CHRAW_VALUE, Fld.at]
  omega

theorem ChansOnly.get_other {l : List Nat} {s t : State} (h : ChansOnly l s t) {c : Nat} (hc : c ∉ l) {f : Fld}
    (hf : chanKey c f.key) (h128 : c < 128) : t.get f = s.get f := by
  refine h.get f ?_
  rintro (⟨d, hd, hk⟩ | hk | hk)
  · exact hc (chanKey_unique hf hk ▸ hd)
  · simp only [chanKey, R.DIO_OUT_STATE, Fld.at] at hf hk
    omega
  · simp only [chanKey, R.LOG_LOST_VALUE, Fld.at] at hf hk
    omega

theorem ChansOnly.chState {l : List Nat} {s t : State} (h : ChansOnly l s t) {c : Nat} (hc : c ∉ l) (h128 : c < 128) :
    t.chState c = s.chState c :=
  h.get_other hc (chanKey_CHST_STATE c) h128

theorem ChansOnly.rstReq {l : List Nat} {s t : State} (h : ChansOnly l s t) : t.hlm.rstReq = s.hlm.rstReq := by rw [h.hlm]

theorem ChansOnly.rstEnd {l : List Nat} {s t : State} (h : ChansOnly l s t) : t.hlm.rstEnd = s.hlm.rstEnd := by rw [h.hlm]

/-- Outside the channels' windows an operation leaves a register of Helm alone. -/
theorem ChansOnly.get_group {l : List Nat} {s t : State} (h : ChansOnly l s t) {f : Fld} (hf : f.key % 0x80000 < 0x1000)
    (hlost : f.key ≠ R.LOG_LOST_VALUE.key) : t.get f = s.get f := by
  refine h.get f ?_
  rintro (⟨d, hd, hk⟩ | hk | hk)
  · unfold chanKey at hk
    omega
  · simp only [R.DIO_OUT_STATE, Fld.at] at hk
    omega
  · exact hlost hk

/-! ### What decides how a channel goes on -/

/-- The keys of the records, the mode, the faults of the outputs, and the state of the timetables. -/
def groundKey (k : Nat) : Prop :=
  2 ^ 51 ≤ k ∨ k = R.ALM_MODE_MODE.key ∨ k = R.DIO_OFLT_OC.key ∨
    8 * 0xF001100000 ≤ k ∧ k < 8 * 0xF001100000 + 0x800 ∧ k % 0x80 < 4 ∨ k % 0x80000 = 2 ∨ k % 0x80000 = 3

/-- Records, mode, outputs and timetables stand. -/
structure SameGround (s t : State) : Prop where
  alm : t.alm = s.alm
  uvLost : t.pwr.uvLost = s.pwr.uvLost
  get : ∀ f : Fld, groundKey f.key → t.get f = s.get f

theorem SameGround.trans {s t u : State} (h : SameGround s t) (g : SameGround t u) : SameGround s u :=
  ⟨g.alm.trans h.alm, g.uvLost.trans h.uvLost, fun f hf => (g.get f hf).trans (h.get f hf)⟩

theorem sameGround_put (s : State) {f : Fld} (v : Nat) (h : ¬ groundKey f.key) : SameGround s (s.put f v) :=
  ⟨rfl, rfl, fun g hg => State.get_put_other s (fun hk : g.key = f.key => h (hk ▸ hg)) v⟩

theorem ChansOnly.sameGround {l : List Nat} {s t : State} (h : ChansOnly l s t) (h128 : ∀ c ∈ l, c < 128) :
    SameGround s t := by
  refine ⟨h.alm, h.uvLost, fun f hf => h.get f ?_⟩
  simp only [groundKey, R.ALM_MODE_MODE, R.DIO_OFLT_OC, Fld.at] at hf
  rintro (⟨d, hd, hk⟩ | hk | hk)
  · have hd128 := h128 d hd
    unfold chanKey at hk
    omega
  · simp only [R.DIO_OUT_STATE, Fld.at] at hk
    omega
  · simp only [R.LOG_LOST_VALUE, Fld.at] at hk
    omega

section
variable {s t : State} (h : SameGround s t)
include h

theorem SameGround.cfg (type i off n : Nat) : t.cfg type i off n = s.cfg type i off n := by
  induction n generalizing off with
  | zero => rfl
  | succ n ih =>
    have hbyte : groundKey (recByte type i off).key := by
      simp only [groundKey, recByte]
      omega
    rw [State.cfg, State.cfg, h.get _ hbyte, ih]

theorem SameGround.chanB (c off n : Nat) : t.chanB c off n = s.chanB c off n := h.cfg 0x0300 c off n

theorem SameGround.chanOn (c : Nat) : t.chanOn c = s.chanOn c := by
  unfold State.chanOn State.has
  rw [h.alm]

theorem SameGround.groupChans (g : Nat) : t.groupChans g = s.groupChans g := by
  unfold State.groupChans
  rw [funext h.chanOn]

theorem SameGround.mode : t.mode = s.mode := h.get _ (.inr (.inl rfl))

theorem SameGround.lawAllowed (c : Nat) : t.lawAllowed c = s.lawAllowed c := by
  unfold State.lawAllowed
  rw [h.chanOn, h.chanB, h.chanB, h.mode]

theorem SameGround.ttBlocked (g : Nat) : t.ttBlocked g = s.ttBlocked g := by
  have hstale : groundKey (R.HLM_GSTAT_TT_STALE g).key := by
    simp only [groundKey, R.HLM_GSTAT_TT_STALE, Fld.at]
    omega
  have hfail : groundKey (R.HLM_GSTAT_TT_FAIL g).key := by
    simp only [groundKey, R.HLM_GSTAT_TT_FAIL, Fld.at]
    omega
  unfold State.ttBlocked State.flag
  rw [h.get _ hstale, h.get _ hfail]

theorem SameGround.pcOff {n : Nat} (hn : n < 16) : t.pcOff n = s.pcOff n := by
  have hkey : ∀ f ∈ [R.DIO_PC_STAT_OC n, R.DIO_PC_STAT_FAULTY n, R.DIO_PC_STAT_SUPPLY_LOST n], groundKey f.key := by
    simp only [List.forall_mem_cons, List.not_mem_nil, false_imp_iff, implies_true, and_true, groundKey,
      R.DIO_PC_STAT_OC, R.DIO_PC_STAT_FAULTY, R.DIO_PC_STAT_SUPPLY_LOST, Fld.at]
    omega
  unfold State.pcOff State.flag
  rw [h.get _ (hkey _ (by simp)), h.get _ (hkey (R.DIO_PC_STAT_FAULTY n) (by simp)),
    h.get _ (hkey (R.DIO_PC_STAT_SUPPLY_LOST n) (by simp)), h.uvLost]

theorem SameGround.sinkOff (c : Nat) : t.sinkOff c = s.sinkOff c := by
  have hoc : t.get R.DIO_OFLT_OC = s.get R.DIO_OFLT_OC := h.get _ (.inr (.inr (.inl rfl)))
  have hn : bits (s.chanB c 0x1C 4) 0 4 < 16 := Nat.mod_lt _ (by decide)
  unfold State.sinkOff
  dsimp only
  rw [h.chanB, h.pcOff hn, hoc]

theorem SameGround.safeRaw (c : Nat) : t.safeRaw c = s.safeRaw c := by
  unfold State.safeRaw State.chanI State.cfgI State.chanB
  rw [h.cfg, h.cfg]

end

end Sys2Proof.Machine

/-! A channel enters RESET, and goes on after it (R207). -/

namespace Sys2Proof.Machine

/-- Of fields put together, no two of which are one, each holds its value. -/
theorem State.get_puts_mem {es : List (Fld × Nat)} (hn : (es.map fun e => e.1.key).Nodup) {f : Fld} {v : Nat}
    (h : (f, v) ∈ es) (s : State) : (s.puts es).get f = v % 2 ^ f.w := by
  induction es generalizing s with
  | nil => cases h
  | cons e es ih =>
    obtain ⟨hfirst, hrest⟩ := List.nodup_cons.1 hn
    obtain rfl | h := List.mem_cons.1 h
    · rw [State.puts, State.get_puts_other _ _ _ fun x hx hk => hfirst (List.mem_map.2 ⟨x, hx, hk.symm⟩),
        State.get_put_same]
    · exact ih hrest h _

/-! ### The sink -/

/-- What a channel's sink takes: 0 while it is off (R234). -/
def State.sinkVal (s : State) (c : Nat) (v : Int) : Int := if s.sinkOff c then 0 else v

/-- HLM_CHRAW with what the sink takes. -/
def State.rawShown (s : State) (c : Nat) (v : Int) : State := s.put (R.HLM_CHRAW_VALUE c) (ofInt 32 (s.sinkVal c v))

theorem State.sinkWrite_eq (s : State) (c : Nat) (v : Int) :
    s.sinkWrite c v =
      if bits (s.chanB c 0x1C 4) 28 4 = 1 then
        (s.rawShown c v).modPc (bits (s.chanB c 0x1C 4) 0 4) fun p => { p with val := s.sinkVal c v }
      else if bits (s.chanB c 0x1C 4) 28 4 = 2 then
        (s.rawShown c v).put R.DIO_OUT_STATE (setBit ((s.rawShown c v).get R.DIO_OUT_STATE) (bits (s.chanB c 0x1C 4) 0 4)
          (s.sinkVal c v != 0 && (s.rawShown c v).dioOut (bits (s.chanB c 0x1C 4) 0 4)))
      else s.rawShown c v := rfl

/-- Beside HLM_CHRAW a value for a sink changes an output or the contacts. -/
theorem State.sinkWrite_cases (s : State) (c : Nat) (v : Int) :
    (∃ d, s.sinkWrite c v = { s.rawShown c v with dio := d }) ∨
      ∃ w, s.sinkWrite c v = (s.rawShown c v).put R.DIO_OUT_STATE w := by
  rw [State.sinkWrite_eq]
  split_ifs
  · exact .inl ⟨_, rfl⟩
  · exact .inr ⟨_, rfl⟩
  · exact .inl ⟨_, rfl⟩

theorem chansOnly_sinkWrite (s : State) (c : Nat) (v : Int) : ChansOnly [c] s (s.sinkWrite c v) := by
  have hraw : ChansOnly [c] s (s.rawShown c v) :=
    chansOnly_put s _ (.inl ⟨c, List.mem_singleton_self c, chanKey_CHRAW c⟩)
  obtain ⟨d, e⟩ | ⟨w, e⟩ := s.sinkWrite_cases c v <;> rw [e]
  · exact hraw.trans (chansOnly_rest [c] _ _ _ d)
  · exact hraw.trans (chansOnly_put _ w (.inr (.inl rfl)))

theorem State.sinkWrite_log (s : State) (c : Nat) (v : Int) : (s.sinkWrite c v).log = s.log := by
  obtain ⟨d, e⟩ | ⟨w, e⟩ := s.sinkWrite_cases c v <;> rw [e] <;> rfl

theorem State.sinkWrite_hlm (s : State) (c : Nat) (v : Int) : (s.sinkWrite c v).hlm = s.hlm := by
  obtain ⟨d, e⟩ | ⟨w, e⟩ := s.sinkWrite_cases c v <;> rw [e] <;> rfl

theorem State.get_sinkWrite (s : State) {c : Nat} (v : Int) {f : Fld} (h : f.key ≠ R.DIO_OUT_STATE.key) :
    (s.sinkWrite c v).get f = (s.rawShown c v).get f := by
  obtain ⟨d, e⟩ | ⟨w, e⟩ := s.sinkWrite_cases c v <;> rw [e]
  · rfl
  · exact State.get_put_other _ h w

/-- The contacts are no channel's registers. -/
theorem contacts_ne {c : Nat} (hc : c < 128) {f : Fld} (h : chanKey c f.key) : f.key ≠ R.DIO_OUT_STATE.key := by
  simp only [chanKey, R.DIO_OUT_STATE, Fld.at] at h ⊢
  omega

theorem State.get_sinkWrite_raw (s : State) {c : Nat} (hc : c < 128) (v : Int) :
    (s.sinkWrite c v).get (R.HLM_CHRAW_VALUE c) = if s.sinkOff c then 0 else ofInt 32 v := by
  have hval : ofInt 32 (s.sinkVal c v) = if s.sinkOff c then 0 else ofInt 32 v := apply_ite (ofInt 32) _ 0 v
  rw [State.get_sinkWrite s v (contacts_ne hc (chanKey_CHRAW c)), ← hval]
  exact State.get_put_of_lt s (ofInt_lt 32 _)

/-! ### RESET -/

/-- The record of a channel in RESET (R207, R222, R237, R502). -/
def Chan.reset (x : Chan) : Chan :=
  { man := x.man, spLast := x.spLast, removed := x.removed, why := if x.removed then 4 else 0, shed := x.shed
    svc := x.svc, lUo := x.lUo, lY := x.lY, lRaw := x.lRaw, lClip := x.lClip }

/-- Nothing waits any more for the computation that ran. -/
def State.runDropped (s : State) (c : Nat) : State :=
  { s with hlm.arith := s.hlm.arith.filter (· != c), hlm.badIn := s.hlm.badIn.filter fun b => b.1 != c }

/-- What a channel's registers show in RESET beside its sink. -/
def inResetPuts (c : Nat) : List (Fld × Nat) :=
  [(R.HLM_CHST_STATE c, 5), (R.HLM_CHST_CLIP c, 0), (R.HLM_CHST_INVCNT c, 0), (R.HLM_HOV_ACTIVE c, 0),
    (R.HLM_HOVD_VALUE c, 0), (R.HLM_OVR_CONSEC c, 0)]

/-- A channel in RESET, its sink still as it was. -/
def State.resetShown (s : State) (c : Nat) : State :=
  ((s.runDropped c).modChan c fun _ => (s.chan c).reset).puts (inResetPuts c)

theorem State.resetChan_eq (s : State) (c : Nat) :
    s.resetChan c = (s.resetShown c).sinkWrite c (s.safeRaw c) := rfl

theorem chanKey_inResetPuts (c : Nat) : ∀ e ∈ inResetPuts c, chanKey c e.1.key := by
  simp only [inResetPuts, List.forall_mem_cons, List.not_mem_nil, false_imp_iff, implies_true, and_true, chanKey,
    R.HLM_CHST_STATE, R.HLM_CHST_CLIP, R.HLM_CHST_INVCNT, R.HLM_HOV_ACTIVE, R.HLM_HOVD_VALUE, R.HLM_OVR_CONSEC, Fld.at]
  omega

theorem nodup_inResetPuts (c : Nat) : ((inResetPuts c).map fun e => e.1.key).Nodup := by
  simp only [inResetPuts, List.map_cons, List.map_nil, List.nodup_cons, List.mem_cons, List.not_mem_nil, or_false, not_or,
    not_false_eq_true, List.nodup_nil, and_true,
    R.HLM_CHST_STATE, R.HLM_CHST_CLIP, R.HLM_CHST_INVCNT, R.HLM_HOV_ACTIVE, R.HLM_HOVD_VALUE, R.HLM_OVR_CONSEC, Fld.at]
  omega

theorem chansOnly_resetShown (s : State) (c : Nat) : ChansOnly [c] s (s.resetShown c) :=
  ((chansOnly_rest [c] s _ _ s.dio).trans (chansOnly_modChan (s.runDropped c) _ (List.mem_singleton_self c))).trans
    (chansOnly_puts _ _ fun e he => .inl ⟨c, List.mem_singleton_self c, chanKey_inResetPuts c e he⟩)

theorem chansOnly_resetChan (s : State) (c : Nat) : ChansOnly [c] s (s.resetChan c) :=
  (chansOnly_resetShown s c).trans (chansOnly_sinkWrite _ c _)

theorem State.resetChan_log (s : State) (c : Nat) : (s.resetChan c).log = s.log := by
  rw [State.resetChan_eq, State.sinkWrite_log, State.resetShown, State.puts_log]
  rfl

theorem State.chan_resetChan {s : State} {c : Nat} (h : c < s.hlm.chans.length) :
    (s.resetChan c).chan c = (s.chan c).reset := by
  have hhlm : (s.resetChan c).hlm = ((s.runDropped c).modChan c fun _ => (s.chan c).reset).hlm := by
    rw [State.resetChan_eq, State.sinkWrite_hlm, State.resetShown, State.puts_hlm]
  rw [State.chan_congr hhlm, State.chan_modChan (s := s.runDropped c) h]

/-- HLM_CHRAW is none of the registers that show RESET. -/
theorem State.get_resetChan {s : State} {c : Nat} (hc : c < 128) {f : Fld} {v : Nat} (h : (f, v) ∈ inResetPuts c) :
    (s.resetChan c).get f = v % 2 ^ f.w := by
  have hkey : ∀ e ∈ inResetPuts c, e.1.key ≠ (R.HLM_CHRAW_VALUE c).key := by
    simp only [inResetPuts, List.forall_mem_cons, List.not_mem_nil, false_imp_iff, implies_true, and_true,
      R.HLM_CHST_STATE, R.HLM_CHST_CLIP, R.HLM_CHST_INVCNT, R.HLM_HOV_ACTIVE, R.HLM_HOVD_VALUE, R.HLM_OVR_CONSEC,
      R.HLM_CHRAW_VALUE, Fld.at]
    omega
  rw [State.resetChan_eq, State.get_sinkWrite _ _ (contacts_ne hc (chanKey_inResetPuts c _ h)), State.rawShown,
    State.get_put_other _ (hkey _ h)]
  exact State.get_puts_mem (nodup_inResetPuts c) h _

theorem State.chState_resetChan (s : State) {c : Nat} (hc : c < 128) : (s.resetChan c).chState c = 5 :=
  State.get_resetChan hc (List.mem_cons_self)

theorem State.get_resetChan_raw (s : State) {c : Nat} (hc : c < 128) :
    (s.resetChan c).get (R.HLM_CHRAW_VALUE c) = if s.sinkOff c then 0 else ofInt 32 (s.safeRaw c) := by
  have hoff := ((chansOnly_resetShown s c).sameGround (by simpa using hc)).sinkOff c
  rw [State.resetChan_eq, State.get_sinkWrite_raw _ hc, hoff]

/-! ### The end of RESET -/

/-- The registers of a hand-over. -/
def hoPuts (s : State) (c cause : Nat) : List (Fld × Nat) :=
  [(R.HLM_CHST_STATE c, 6), (R.HLM_HOV_ACTIVE c, 1), (R.HLM_HOV_CAUSE c, cause), (R.HLM_HOV_TICKS c, 0),
    (R.HLM_HOVD_VALUE c, s.hovd c)]

/-- A channel whose hand-over leads to a state. -/
def State.hoMarked (s : State) (c target : Nat) : State :=
  s.modChan c fun x => { x with target := target, hoTold := false, paused := false }

theorem State.startHo_eq (s : State) (c cause target : Nat) :
    s.startHo c cause target =
      ((s.hoMarked c target).puts (hoPuts (s.hoMarked c target) c cause)).chEvent c 0x12 cause := rfl

theorem chanKey_hoPuts (s : State) (c cause : Nat) : ∀ e ∈ hoPuts s c cause, chanKey c e.1.key := by
  simp only [hoPuts, List.forall_mem_cons, List.not_mem_nil, false_imp_iff, implies_true, and_true, chanKey,
    R.HLM_CHST_STATE, R.HLM_HOV_ACTIVE, R.HLM_HOV_CAUSE, R.HLM_HOV_TICKS, R.HLM_HOVD_VALUE, Fld.at]
  omega

theorem nodup_hoPuts (s : State) (c cause : Nat) : ((hoPuts s c cause).map fun e => e.1.key).Nodup := by
  simp only [hoPuts, List.map_cons, List.map_nil, List.nodup_cons, List.mem_cons, List.not_mem_nil, or_false, not_or,
    not_false_eq_true, List.nodup_nil, and_true, R.HLM_CHST_STATE, R.HLM_HOV_ACTIVE, R.HLM_HOV_CAUSE, R.HLM_HOV_TICKS,
    R.HLM_HOVD_VALUE, Fld.at]
  omega

theorem chansOnly_startHo (s : State) (c cause target : Nat) : ChansOnly [c] s (s.startHo c cause target) :=
  ((chansOnly_modChan s _ (List.mem_singleton_self c)).trans
    (chansOnly_puts _ (s.hoMarked c target) fun e he =>
      .inl ⟨c, List.mem_singleton_self c, chanKey_hoPuts (s.hoMarked c target) c cause e he⟩)).trans
    (chansOnly_raise [c] _ _ _)

theorem State.hovActive_startHo (s : State) (c cause target : Nat) :
    (s.startHo c cause target).get (R.HLM_HOV_ACTIVE c) = 1 := by
  have hlost : (R.HLM_HOV_ACTIVE c).key ≠ R.LOG_LOST_VALUE.key := by
    simp only [R.HLM_HOV_ACTIVE, R.LOG_LOST_VALUE, Fld.at]
    omega
  rw [State.startHo_eq, State.chEvent, State.get_raise _ _ _ hlost]
  exact State.get_puts_mem (nodup_hoPuts _ c cause) (List.mem_cons_of_mem _ List.mem_cons_self) _

theorem keeps_raw_startHo (s : State) (c cause target : Nat) :
    Keeps (R.HLM_CHRAW_VALUE c) s (s.startHo c cause target) := by
  have hputs : ∀ e ∈ hoPuts (s.hoMarked c target) c cause, (R.HLM_CHRAW_VALUE c).key ≠ e.1.key := by
    simp only [hoPuts, List.forall_mem_cons, List.not_mem_nil, false_imp_iff, implies_true, and_true, R.HLM_CHRAW_VALUE,
      R.HLM_CHST_STATE, R.HLM_HOV_ACTIVE, R.HLM_HOV_CAUSE, R.HLM_HOV_TICKS, R.HLM_HOVD_VALUE, Fld.at]
    omega
  have hlost : (R.HLM_CHRAW_VALUE c).key ≠ R.LOG_LOST_VALUE.key := by
    simp only [R.HLM_CHRAW_VALUE, R.LOG_LOST_VALUE, Fld.at]
    omega
  exact ((keeps_of_regs (s := s) (t := s.hoMarked c target) rfl).trans (keeps_puts _ _ hputs)).trans (keeps_raise hlost _ _ _)

/-- A law that starts, before its hand-over. -/
def State.lawFresh (s : State) (c : Nat) : State :=
  (s.puts [(R.HLM_AM_AM c, b2n (s.hctl c 0x0E 1 != 0)), (R.HLM_AM_REQ c, b2n (s.hctl c 0x0E 1 != 0))]).modChan c fun x =>
    { x with fresh := true, rawLaw := none, why := 0, result := none }

theorem State.startLaw_eq (s : State) (c cause : Nat) : s.startLaw c cause = (s.lawFresh c).startHo c cause 2 := rfl

theorem chansOnly_startLaw (s : State) (c cause : Nat) : ChansOnly [c] s (s.startLaw c cause) := by
  have hkeys : ∀ e ∈ [(R.HLM_AM_AM c, b2n (s.hctl c 0x0E 1 != 0)), (R.HLM_AM_REQ c, b2n (s.hctl c 0x0E 1 != 0))],
      chanKey c e.1.key := by
    simp only [List.forall_mem_cons, List.not_mem_nil, false_imp_iff, implies_true, and_true, chanKey, R.HLM_AM_AM,
      R.HLM_AM_REQ, Fld.at]
    omega
  exact ((chansOnly_puts _ s fun e he => .inl ⟨c, List.mem_singleton_self c, hkeys e he⟩).trans
    (chansOnly_modChan _ _ (List.mem_singleton_self c))).trans (chansOnly_startHo (s.lawFresh c) c cause 2)

theorem keeps_raw_startLaw (s : State) (c cause : Nat) :
    Keeps (R.HLM_CHRAW_VALUE c) s (s.startLaw c cause) := by
  have hputs : ∀ e ∈ [(R.HLM_AM_AM c, b2n (s.hctl c 0x0E 1 != 0)), (R.HLM_AM_REQ c, b2n (s.hctl c 0x0E 1 != 0))],
      (R.HLM_CHRAW_VALUE c).key ≠ e.1.key := by
    simp only [List.forall_mem_cons, List.not_mem_nil, false_imp_iff, implies_true, and_true, R.HLM_CHRAW_VALUE,
      R.HLM_AM_AM, R.HLM_AM_REQ, Fld.at]
    omega
  exact ((keeps_puts s _ hputs).trans (keeps_of_regs (t := s.lawFresh c) rfl)).trans (keeps_raw_startHo _ c cause 2)

/-- A channel in STOPPED. -/
def State.chanStopped (s : State) (c : Nat) : State := s.put (R.HLM_CHST_STATE c) 1

theorem chansOnly_chState (s : State) (c v : Nat) : ChansOnly [c] s (s.put (R.HLM_CHST_STATE c) v) :=
  chansOnly_put s v (.inl ⟨c, List.mem_singleton_self c, chanKey_CHST_STATE c⟩)

theorem keeps_raw_chState (s : State) (c v : Nat) : Keeps (R.HLM_CHRAW_VALUE c) s (s.put (R.HLM_CHST_STATE c) v) := by
  refine keeps_put s v ?_
  simp only [R.HLM_CHRAW_VALUE, R.HLM_CHST_STATE, Fld.at]
  omega

theorem State.chState_put (s : State) (c : Nat) {v : Nat} (h : v < 8) : (s.put (R.HLM_CHST_STATE c) v).chState c = v :=
  State.get_put_of_lt s (f := R.HLM_CHST_STATE c) h

/-- A channel whose sink is off is in SAFE (R234). -/
def State.chanSafe (s : State) (c : Nat) : State :=
  (s.modChan c fun x => { x with why := 3, target := 4, back := true }).put (R.HLM_CHST_STATE c) 4

theorem State.afterReset_eq (s : State) (c : Nat) :
    s.afterReset c =
      if (s.chanStopped c).sinkOff c then (s.chanStopped c).chanSafe c
      else if (s.chan c).svc.isSome then (s.chanStopped c).startHo c 3 1
      else if (s.chan c).removed then (s.chanStopped c).put (R.HLM_CHST_STATE c) 4
      else if (s.chanStopped c).lawAllowed c && !(s.chanStopped c).ttBlocked (c / 16) then (s.chanStopped c).startLaw c 0
      else s.chanStopped c := rfl

theorem chansOnly_afterReset (s : State) (c : Nat) : ChansOnly [c] s (s.afterReset c) := by
  have hstop : ChansOnly [c] s (s.chanStopped c) := chansOnly_chState s c 1
  rw [State.afterReset_eq]
  split_ifs
  · exact (hstop.trans (chansOnly_modChan _ _ (List.mem_singleton_self c))).trans (chansOnly_chState _ c 4)
  · exact hstop.trans (chansOnly_startHo _ c 3 1)
  · exact hstop.trans (chansOnly_chState _ c 4)
  · exact hstop.trans (chansOnly_startLaw _ c 0)
  · exact hstop

theorem keeps_raw_afterReset (s : State) (c : Nat) : Keeps (R.HLM_CHRAW_VALUE c) s (s.afterReset c) := by
  have hstop : Keeps (R.HLM_CHRAW_VALUE c) s (s.chanStopped c) := keeps_raw_chState s c 1
  rw [State.afterReset_eq]
  split_ifs
  · exact (hstop.trans (keeps_of_regs rfl)).trans (keeps_raw_chState _ c 4)
  · exact hstop.trans (keeps_raw_startHo _ c 3 1)
  · exact hstop.trans (keeps_raw_chState _ c 4)
  · exact hstop.trans (keeps_raw_startLaw _ c 0)
  · exact hstop

/-- How a channel goes on after its reset, from its state before (R207). -/
structure GoesOn (c : Nat) (s t : State) : Prop where
  applied : t.applied c = s.applied c
  off : s.sinkOff c = true → t.chState c = 4
  driven : s.sinkOff c = false → (s.chan c).svc ≠ none →
    t.chState c = 6 ∧ (t.chan c).target = 1 ∧ t.get (R.HLM_HOV_CAUSE c) = 3
  removed : s.sinkOff c = false → (s.chan c).svc = none → (s.chan c).removed = true → t.chState c = 4
  law : s.sinkOff c = false → (s.chan c).svc = none → (s.chan c).removed = false → s.lawAllowed c = true →
    s.ttBlocked (c / 16) = false →
    t.chState c = 6 ∧ (t.chan c).target = 2 ∧ t.get (R.HLM_HOV_ACTIVE c) = 1 ∧ t.get (R.HLM_HOV_CAUSE c) = 0
  stopped : s.sinkOff c = false → (s.chan c).svc = none → (s.chan c).removed = false →
    s.lawAllowed c = false ∨ s.ttBlocked (c / 16) = true → t.chState c = 1

theorem goesOn_afterReset {s : State} {c : Nat} (hc : c < 128) (hlen : c < s.hlm.chans.length) :
    GoesOn c s (s.afterReset c) := by
  have hground : SameGround s (s.chanStopped c) := (chansOnly_chState s c 1).sameGround (by simpa using hc)
  have hraw := keeps_raw_afterReset s c
  have heq := s.afterReset_eq c
  rw [hground.sinkOff, hground.lawAllowed, hground.ttBlocked] at heq
  refine ⟨congrArg (toInt 32) hraw, fun hoff => ?_, fun hoff hsvc => ?_, fun hoff hsvc hrem => ?_,
    fun hoff hsvc hrem hlaw htt => ?_, fun hoff hsvc hrem hno => ?_⟩
  · rw [heq, if_pos hoff]
    exact State.chState_put _ c (by decide)
  · obtain ⟨hst, hcause, htarget, -⟩ := State.startHo_shown (s := s.chanStopped c) hlen 3 1
    rw [heq, if_neg (by simp [hoff]), if_pos (Option.isSome_iff_ne_none.2 hsvc)]
    exact ⟨hst, htarget, hcause⟩
  · rw [heq, if_neg (by simp [hoff]), if_neg (by simp [hsvc]), if_pos hrem]
    exact State.chState_put _ c (by decide)
  · have hfresh : c < ((s.chanStopped c).lawFresh c).hlm.chans.length := by
      rw [State.lawFresh, State.length_chans_modChan, State.puts_hlm]
      exact hlen
    obtain ⟨hst, hcause, htarget, -⟩ := State.startHo_shown hfresh 0 2
    rw [heq, if_neg (by simp [hoff]), if_neg (by simp [hsvc]), if_neg (by simp [hrem]), if_pos (by simp [hlaw, htt]),
      State.startLaw_eq]
    exact ⟨hst, htarget, State.hovActive_startHo _ c 0 2, hcause⟩
  · have hkeep : ¬ (s.lawAllowed c && !s.ttBlocked (c / 16)) = true := by
      rcases hno with h | h <;> simp [h]
    rw [heq, if_neg (by simp [hoff]), if_neg (by simp [hsvc]), if_neg (by simp [hrem]), if_neg hkeep]
    exact State.chState_put s c (by decide)

end Sys2Proof.Machine

/-! Channel resets (R207): a request acts, and the reset ends (O41). -/

namespace Sys2Proof.Machine

theorem exec_channelReset (ch : Fin 128) (s : State) : exec (.channelReset ch) s = .next (s.chanReset ch) := rfl

theorem exec_channelResetEnd (ch : Fin 128) (s : State) : exec (.channelResetEnd ch) s = .next (s.chanResetEnd ch) := rfl

/-! ### The record of an event, and what it shows (R443) -/

/-- A record shows of the registers its mask, the mode and TAI_VALID, and of the rest the Logbook and MT64. -/
theorem LogGains.of_shown {s u t : State} {c : Nat} {ps : List Nat} (g : LogGains c ps u t)
    (h : ∀ f ∈ [R.LOG_MASK_VALUE (c / 32), R.ALM_MODE_MODE, R.CHR_DISC_TAI_VALID], u.get f = s.get f)
    (hl : u.log = s.log) (hn : u.now = s.now) : LogGains c ps s t := by
  have hmask := h (R.LOG_MASK_VALUE (c / 32)) (by simp)
  have hmode : u.mode = s.mode := h R.ALM_MODE_MODE (by simp)
  have htai := h R.CHR_DISC_TAI_VALID (by simp)
  simpa only [LogGains, State.masked, State.mkRec, hn, hmask, hmode, htai, hl] using g

/-- Helm's groups raise the sources 32 to 47, whose masks are in one register. -/
theorem ChansOnly.shown {l : List Nat} {s t : State} (h : ChansOnly l s t) {n : Nat} (hn : n / 32 = 1) :
    ∀ f ∈ [R.LOG_MASK_VALUE (n / 32), R.ALM_MODE_MODE, R.CHR_DISC_TAI_VALID], t.get f = s.get f := by
  rw [hn]
  exact fun f hf => h.get_group
    ((by decide : ∀ f ∈ [R.LOG_MASK_VALUE 1, R.ALM_MODE_MODE, R.CHR_DISC_TAI_VALID], f.key % 0x80000 < 0x1000) f hf)
    ((by decide : ∀ f ∈ [R.LOG_MASK_VALUE 1, R.ALM_MODE_MODE, R.CHR_DISC_TAI_VALID], f.key ≠ R.LOG_LOST_VALUE.key) f hf)

theorem ChansOnly.now {l : List Nat} {s t : State} (h : ChansOnly l s t) : t.now = s.now := by
  rw [State.now, State.now, h.chr]

/-! ### Requests -/

theorem testBit_setBit_false (n i : Nat) : (setBit n i false).testBit i = false := by
  rw [setBit, if_neg Bool.false_ne_true]
  split_ifs with h
  · have hsplit : n = 2 ^ i + (n - 2 ^ i) := (Nat.add_sub_of_le (Nat.ge_two_pow_of_testBit h)).symm
    rw [hsplit, Nat.testBit_two_pow_add_eq] at h
    simpa using h
  · simpa using h

theorem State.clearReq_eq (s : State) (c : Nat) :
    s.clearReq c = { s.put (R.HLM_GRST_CH (c / 16)) (setBit (s.get (R.HLM_GRST_CH (c / 16))) (c % 16) false) with
      hlm.rstReq := s.hlm.rstReq.filter fun r => r.1 != c } := rfl

theorem onlyRegs_clearReq (s : State) (c : Nat) :
    OnlyRegs [R.HLM_GRST_CH (c / 16)] { s with hlm.rstReq := (s.clearReq c).hlm.rstReq } (s.clearReq c) :=
  onlyRegs_put { s with hlm.rstReq := (s.clearReq c).hlm.rstReq } _ _

theorem State.get_clearReq (s : State) {c : Nat} {f : Fld} (h : f.key ≠ (R.HLM_GRST_CH (c / 16)).key) :
    (s.clearReq c).get f = s.get f :=
  State.get_put_other s h _

theorem sameGround_clearReq (s : State) {c : Nat} (hc : c < 128) : SameGround s (s.clearReq c) := by
  refine ⟨rfl, rfl, fun f hf => s.get_clearReq ?_⟩
  simp only [groundKey, R.ALM_MODE_MODE, R.DIO_OFLT_OC, Fld.at] at hf
  simp only [R.HLM_GRST_CH, Fld.at]
  omega

theorem State.bit_clearReq (s : State) (c : Nat) :
    bit ((s.clearReq c).get (R.HLM_GRST_CH (c / 16))) (c % 16) = false := by
  have hput : (s.clearReq c).get (R.HLM_GRST_CH (c / 16)) =
      setBit (s.get (R.HLM_GRST_CH (c / 16))) (c % 16) false % 2 ^ 16 := State.get_put_same s _ _
  rw [hput, bit, Nat.testBit_mod_two_pow, testBit_setBit_false, Bool.and_false]

theorem State.mem_rstReq_clearReq {s : State} {c : Nat} {r : Nat × Nat} :
    r ∈ (s.clearReq c).hlm.rstReq ↔ r ∈ s.hlm.rstReq ∧ r.1 ≠ c := by
  rw [State.clearReq_eq, List.mem_filter, bne_iff_ne]

/-! ### The reset acts -/

theorem any_due {l : List (Nat × Nat)} {c n k : Nat} (h : (c, n) ∈ l) (hn : n < k) :
    (l.any fun r => r.1 == c && decide (r.2 < k)) = true :=
  List.any_eq_true.2 ⟨(c, n), h, by simpa using hn⟩

theorem not_any_due {l : List (Nat × Nat)} {c k : Nat} (h : ∀ r ∈ l, r.1 = c → k ≤ r.2) :
    ¬ (l.any fun r => r.1 == c && decide (r.2 < k)) = true := by
  rw [List.any_eq_true]
  rintro ⟨r, hr, hdue⟩
  simp only [Bool.and_eq_true, beq_iff_eq, decide_eq_true_eq] at hdue
  exact absurd (h r hr hdue.1) (by omega)

theorem any_ended {l : List (Nat × Nat)} {c n k : Nat} (h : (c, n) ∈ l) (hn : n ≤ k) :
    (l.any fun r => r.1 == c && decide (r.2 ≤ k)) = true :=
  List.any_eq_true.2 ⟨(c, n), h, by simpa using hn⟩

theorem not_any_ended {l : List (Nat × Nat)} {c k : Nat} (h : ∀ r ∈ l, r.1 = c → k < r.2) :
    ¬ (l.any fun r => r.1 == c && decide (r.2 ≤ k)) = true := by
  rw [List.any_eq_true]
  rintro ⟨r, hr, hdue⟩
  simp only [Bool.and_eq_true, beq_iff_eq, decide_eq_true_eq] at hdue
  exact absurd (h r hr hdue.1) (by omega)

/-- A channel in RESET, with the edge that ends it. -/
def State.rstBegun (s : State) (c : Nat) : State :=
  { s.resetChan c with
    hlm.rstEnd := ((s.resetChan c).hlm.rstEnd.filter fun r => r.1 != c) ++ [(c, (s.resetChan c).chr.tick + 1)] }

theorem State.chanReset_due {s : State} {c n : Nat} (h : (c, n) ∈ s.hlm.rstReq) (hn : n < s.chr.tick) :
    s.chanReset c =
      if (s.clearReq c).flag (R.HLM_GSTAT_RESETTING (c / 16)) || !(s.clearReq c).chanOn c then s.clearReq c
      else ((s.clearReq c).rstBegun c).chEvent c 0x03 (((s.clearReq c).resetChan c).chr.tick % 2 ^ 32) :=
  if_pos (any_due h hn)

theorem State.flag_clearReq (s : State) (c : Nat) :
    (s.clearReq c).flag (R.HLM_GSTAT_RESETTING (c / 16)) = s.flag (R.HLM_GSTAT_RESETTING (c / 16)) := by
  rw [State.flag, State.flag, State.get_clearReq]
  simp only [R.HLM_GSTAT_RESETTING, R.HLM_GRST_CH, Fld.at]
  omega

/-- In a group reset, or for a channel without a record, the request alone goes. -/
theorem channelReset_idle (s : State) (ch : Fin 128) (n : Nat) (h : (ch.val, n) ∈ s.hlm.rstReq) (hn : n < s.chr.tick)
    (hidle : s.chanOn ch = false ∨ s.get (R.HLM_GSTAT_RESETTING (ch / 16)) ≠ 0) :
    ∃ t, exec (.channelReset ch) s = .next t ∧ bit (t.get (R.HLM_GRST_CH (ch / 16))) (ch % 16) = false ∧
      (∀ r ∈ t.hlm.rstReq, r.1 ≠ ch.val) ∧ OnlyRegs [R.HLM_GRST_CH (ch / 16)] { s with hlm.rstReq := t.hlm.rstReq } t := by
  have hoff : ((s.clearReq ch).flag (R.HLM_GSTAT_RESETTING (ch / 16)) || !(s.clearReq ch).chanOn ch) = true := by
    rw [State.flag_clearReq, (sameGround_clearReq s ch.isLt).chanOn, State.flag]
    rcases hidle with h | h <;> simp [h]
  refine ⟨_, ?_, s.bit_clearReq ch, fun r hr => (State.mem_rstReq_clearReq.1 hr).2, onlyRegs_clearReq s ch⟩
  rw [exec_channelReset, State.chanReset_due h hn, if_pos hoff]

theorem channelReset_none (s : State) (ch : Fin 128) (h : ∀ r ∈ s.hlm.rstReq, r.1 = ch.val → s.chr.tick ≤ r.2) :
    exec (.channelReset ch) s = .next s := by
  rw [exec_channelReset, State.chanReset, if_neg (not_any_due h)]

/-- A request for a channel's reset that acts, before its event. -/
def State.rstTaken (s : State) (c : Nat) : State := (s.clearReq c).rstBegun c

theorem State.get_rstTaken (s : State) (c : Nat) (f : Fld) : (s.rstTaken c).get f = ((s.clearReq c).resetChan c).get f := rfl

/-- HLM_GRST is no channel's register. -/
theorem grst_group (c : Nat) :
    (R.HLM_GRST_CH (c / 16)).key % 0x80000 < 0x1000 ∧ (R.HLM_GRST_CH (c / 16)).key ≠ R.LOG_LOST_VALUE.key := by
  simp only [R.HLM_GRST_CH, R.LOG_LOST_VALUE, Fld.at]
  omega

theorem mem_inResetPuts_OVR (c : Nat) : (R.HLM_OVR_CONSEC c, 0) ∈ inResetPuts c := by simp [inResetPuts]

theorem mem_inResetPuts_INVCNT (c : Nat) : (R.HLM_CHST_INVCNT c, 0) ∈ inResetPuts c := by simp [inResetPuts]

/-- What the reset of a channel leaves in its registers (R207). -/
theorem State.rstTaken_shown (s : State) {c : Nat} (hc : c < 128) :
    (s.rstTaken c).chState c = 5 ∧
      (s.rstTaken c).get (R.HLM_CHRAW_VALUE c) = (if s.sinkOff c then 0 else ofInt 32 (s.safeRaw c)) ∧
      (s.rstTaken c).get (R.HLM_OVR_CONSEC c) = 0 ∧ (s.rstTaken c).get (R.HLM_CHST_INVCNT c) = 0 ∧
      bit ((s.rstTaken c).get (R.HLM_GRST_CH (c / 16))) (c % 16) = false := by
  have hground := sameGround_clearReq s hc
  have hraw : (s.rstTaken c).get (R.HLM_CHRAW_VALUE c) =
      if (s.clearReq c).sinkOff c then 0 else ofInt 32 ((s.clearReq c).safeRaw c) := State.get_resetChan_raw _ hc
  rw [hground.sinkOff, hground.safeRaw] at hraw
  have hbit := s.bit_clearReq c
  rw [← (chansOnly_resetChan (s.clearReq c) c).get_group (grst_group c).1 (grst_group c).2] at hbit
  exact ⟨State.chState_resetChan _ hc, hraw, State.get_resetChan hc (mem_inResetPuts_OVR c),
    State.get_resetChan hc (mem_inResetPuts_INVCNT c), hbit⟩

/-- What the reset of a channel leaves in Helm's lists and records. -/
theorem State.rstTaken_hlm {s : State} {c : Nat} (hlen : c < s.hlm.chans.length) :
    (c, s.chr.tick + 1) ∈ (s.rstTaken c).hlm.rstEnd ∧ (∀ r ∈ (s.rstTaken c).hlm.rstReq, r.1 ≠ c) ∧
      (s.rstTaken c).chan c = (s.chan c).reset := by
  refine ⟨?_, ?_, State.chan_resetChan (s := s.clearReq c) hlen⟩
  · have htick : ((s.clearReq c).resetChan c).chr.tick = s.chr.tick := by
      rw [(chansOnly_resetChan (s.clearReq c) c).chr]
      rfl
    rw [← htick]
    exact List.mem_append_right _ (List.mem_singleton_self _)
  · have hreq : (s.rstTaken c).hlm.rstReq = (s.clearReq c).hlm.rstReq :=
      (chansOnly_resetChan (s.clearReq c) c).rstReq
    exact fun r hr => (State.mem_rstReq_clearReq.1 (hreq ▸ hr)).2

/-- The other channels' registers stand. -/
theorem State.get_rstTaken_other (s : State) {c d : Nat} (hcd : d ≠ c) (hd : d < 128) {f : Fld} (hf : chanKey d f.key) :
    (s.rstTaken c).get f = s.get f := by
  rw [State.get_rstTaken, (chansOnly_resetChan (s.clearReq c) c).get_other (mt List.mem_singleton.1 hcd) hf hd]
  refine s.get_clearReq ?_
  simp only [chanKey] at hf
  simp only [R.HLM_GRST_CH, Fld.at]
  omega

theorem logGains_rstTaken (s : State) {c : Nat} (hc : c < 128) (ps : List Nat) :
    LogGains (32 + 2 * (c / 16)) ps s ((s.rstTaken c).raise (32 + 2 * (c / 16)) ps) := by
  refine (logGains_raise _ _ _).of_shown (fun f hf => ?_) (State.resetChan_log _ c) (chansOnly_resetChan (s.clearReq c) c).now
  refine ((chansOnly_resetChan (s.clearReq c) c).shown (by omega) f hf).trans (s.get_clearReq ?_)
  simp only [List.mem_cons, List.not_mem_nil, or_false] at hf
  simp only [R.HLM_GRST_CH, Fld.at]
  rcases hf with rfl | rfl | rfl <;> simp only [R.LOG_MASK_VALUE, R.ALM_MODE_MODE, R.CHR_DISC_TAI_VALID, Fld.at] <;> omega

theorem channelReset_acts (s : State) (ch : Fin 128) (n : Nat) (hs : s.Shaped) (h : (ch.val, n) ∈ s.hlm.rstReq)
    (hn : n < s.chr.tick) (hon : s.chanOn ch = true) (hrun : s.get (R.HLM_GSTAT_RESETTING (ch / 16)) = 0) :
    ∃ t, exec (.channelReset ch) s = .next t ∧ t.chState ch = 5 ∧ (ch.val, s.chr.tick + 1) ∈ t.hlm.rstEnd ∧
      t.get (R.HLM_CHRAW_VALUE ch) = (if s.sinkOff ch then 0 else ofInt 32 (s.safeRaw ch)) ∧
      t.get (R.HLM_OVR_CONSEC ch) = 0 ∧ t.get (R.HLM_CHST_INVCNT ch) = 0 ∧ (∀ r ∈ t.hlm.rstReq, r.1 ≠ ch.val) ∧
      bit (t.get (R.HLM_GRST_CH (ch / 16))) (ch % 16) = false ∧ (t.chan ch).fresh = true ∧ (t.chan ch).run = none ∧
      LogGains (32 + 2 * (ch / 16)) [ch, 3, s.chr.tick % 2 ^ 32] s t ∧
      ∀ c : Nat, c < 128 → c ≠ ch.val → t.chan c = s.chan c ∧ t.chState c = s.chState c := by
  obtain ⟨-, -, hlen, -⟩ := hs
  have hgo : ¬ ((s.clearReq ch).flag (R.HLM_GSTAT_RESETTING (ch / 16)) || !(s.clearReq ch).chanOn ch) = true := by
    rw [State.flag_clearReq, (sameGround_clearReq s ch.isLt).chanOn, State.flag, hon, hrun]
    decide
  have htick : ((s.clearReq ch).resetChan ch).chr.tick = s.chr.tick := by
    rw [(chansOnly_resetChan (s.clearReq ch) ch).chr]
    rfl
  obtain ⟨hst, hraw, hovr, hinv, hbit⟩ := s.rstTaken_shown ch.isLt
  obtain ⟨hend, hreq, hchan⟩ := State.rstTaken_hlm (s := s) (c := ch) (by rw [hlen]; exact ch.isLt)
  have honly : ChansOnly [] (s.rstTaken ch) ((s.rstTaken ch).chEvent ch 3 (s.chr.tick % 2 ^ 32)) := chansOnly_raise _ _ _ _
  refine ⟨(s.rstTaken ch).chEvent ch 3 (s.chr.tick % 2 ^ 32), ?_, (honly.chState List.not_mem_nil ch.isLt).trans hst,
    honly.rstEnd ▸ hend, (honly.get_other List.not_mem_nil (chanKey_CHRAW ch) ch.isLt).trans hraw,
    (honly.get_other List.not_mem_nil (chanKey_inResetPuts ch _ (mem_inResetPuts_OVR ch)) ch.isLt).trans hovr,
    (honly.get_other List.not_mem_nil (chanKey_inResetPuts ch _ (mem_inResetPuts_INVCNT ch)) ch.isLt).trans hinv,
    honly.rstReq ▸ hreq, ?_, ?_, ?_, logGains_rstTaken s ch.isLt _, fun c hc hne => ⟨?_, ?_⟩⟩
  · rw [exec_channelReset, State.chanReset_due h hn, if_neg hgo, htick]
    rfl
  · rw [honly.get_group (grst_group ch).1 (grst_group ch).2]
    exact hbit
  · rw [honly.chan ch List.not_mem_nil, hchan]
    rfl
  · rw [honly.chan ch List.not_mem_nil, hchan]
    rfl
  · exact (honly.chan c List.not_mem_nil).trans ((chansOnly_resetChan (s.clearReq ch) ch).chan c (mt List.mem_singleton.1 hne))
  · exact (honly.chState List.not_mem_nil hc).trans (State.get_rstTaken_other s hne hc (chanKey_CHST_STATE c))

/-! ### The reset ends -/

/-- A channel whose reset has run its time. -/
def State.rstOver (s : State) (c : Nat) : State := { s with hlm.rstEnd := s.hlm.rstEnd.filter fun r => r.1 != c }

theorem State.chanResetEnd_due {s : State} {c n : Nat} (h : (c, n) ∈ s.hlm.rstEnd) (hn : n ≤ s.chr.tick) :
    s.chanResetEnd c = (s.rstOver c).afterReset c :=
  if_pos (any_ended h hn)

theorem channelResetEnd_goesOn (s : State) (ch : Fin 128) (n : Nat) (hs : s.Shaped) (h : (ch.val, n) ∈ s.hlm.rstEnd)
    (hn : n ≤ s.chr.tick) :
    ∃ t, exec (.channelResetEnd ch) s = .next t ∧ (∀ r ∈ t.hlm.rstEnd, r.1 ≠ ch.val) ∧ t.applied ch = s.applied ch ∧
      (s.sinkOff ch = true → t.chState ch = 4) ∧
      (s.sinkOff ch = false → (s.chan ch).svc ≠ none →
        t.chState ch = 6 ∧ (t.chan ch).target = 1 ∧ t.get (R.HLM_HOV_CAUSE ch) = 3) ∧
      (s.sinkOff ch = false → (s.chan ch).svc = none → (s.chan ch).removed = true → t.chState ch = 4) ∧
      (s.sinkOff ch = false → (s.chan ch).svc = none → (s.chan ch).removed = false →
        (s.lawAllowed ch = true → s.ttBlocked (ch / 16) = false →
          t.chState ch = 6 ∧ (t.chan ch).target = 2 ∧ t.get (R.HLM_HOV_ACTIVE ch) = 1 ∧ t.get (R.HLM_HOV_CAUSE ch) = 0) ∧
        (s.lawAllowed ch = false ∨ s.ttBlocked (ch / 16) = true → t.chState ch = 1)) ∧
      ∀ c : Nat, c < 128 → c ≠ ch.val → t.chan c = s.chan c ∧ t.chState c = s.chState c := by
  obtain ⟨-, -, hlen, -⟩ := hs
  have honly := chansOnly_afterReset (s.rstOver ch) ch
  have hgoes := goesOn_afterReset (s := s.rstOver ch) ch.isLt (ch.isLt.trans_eq hlen.symm)
  have hexec : exec (.channelResetEnd ch) s = .next ((s.rstOver ch).afterReset ch) := by
    rw [exec_channelResetEnd, State.chanResetEnd_due h hn]
  refine ⟨_, hexec, fun r hr => ?_, hgoes.applied, hgoes.off, hgoes.driven, hgoes.removed,
    fun hoff hsvc hrem => ⟨hgoes.law hoff hsvc hrem, hgoes.stopped hoff hsvc hrem⟩,
    fun c hc hne => ⟨honly.chan c (mt List.mem_singleton.1 hne), honly.chState (mt List.mem_singleton.1 hne) hc⟩⟩
  rw [honly.rstEnd] at hr
  simpa using (List.mem_filter.1 hr).2

theorem channelResetEnd_none (s : State) (ch : Fin 128) (h : ∀ r ∈ s.hlm.rstEnd, r.1 = ch.val → s.chr.tick < r.2) :
    exec (.channelResetEnd ch) s = .next s := by
  have hnot : ¬ (s.hlm.rstEnd.any fun r => r.1 == ch.val && decide (r.2 ≤ s.chr.tick)) = true := not_any_ended h
  rw [exec_channelResetEnd, State.chanResetEnd, if_neg hnot]

end Sys2Proof.Machine

/-! Group resets (R208): the group with its crossings and requests, and how its channels go on (O41). -/

namespace Sys2Proof.Machine

theorem exec_groupReset (g : Fin 8) (s : State) : exec (.groupReset g) s = .next (s.groupReset g) := rfl

theorem exec_groupResetEnd (g : Fin 8) (s : State) : exec (.groupResetEnd g) s = .next (s.groupResetEnd g) := rfl

theorem State.mem_groupChans {s : State} {g c : Nat} (h : c ∈ s.groupChans g) : c / 16 = g := by
  obtain ⟨i, hi, rfl⟩ := List.mem_map.1 (List.mem_filter.1 h).1
  have hi := List.mem_range.1 hi
  omega

theorem State.nodup_groupChans (s : State) (g : Nat) : (s.groupChans g).Nodup :=
  ((List.nodup_range).map fun i j hij => by omega).filter _

/-! ### The group's crossings (R120) -/

/-- Nothing but crossings, with their counter and their events. -/
structure XingsOnly (s t : State) : Prop where
  alm : t.alm = s.alm
  uvLost : t.pwr.uvLost = s.pwr.uvLost
  hlm : t.hlm = s.hlm
  chr : t.chr = { s.chr with xings := t.chr.xings }
  get : ∀ f : Fld, f.key ∉ [R.CHR_XING_LOST.key, R.CHR_XING_LAST_ID.key, R.LOG_LOST_VALUE.key] → t.get f = s.get f

theorem XingsOnly.refl (s : State) : XingsOnly s s := ⟨rfl, rfl, rfl, rfl, fun _ _ => rfl⟩

theorem XingsOnly.trans {s t u : State} (h : XingsOnly s t) (g : XingsOnly t u) : XingsOnly s u :=
  ⟨g.alm.trans h.alm, g.uvLost.trans h.uvLost, g.hlm.trans h.hlm, by rw [g.chr, h.chr],
    fun f hf => (g.get f hf).trans (h.get f hf)⟩

theorem xingsOnly_setXing (s : State) (x : Xing) : XingsOnly s (s.setXing x) := ⟨rfl, rfl, rfl, rfl, fun _ _ => rfl⟩

theorem xingsOnly_endEpisode (s : State) (x : Xing) : XingsOnly s (s.endEpisode x) := by
  by_cases h : x.lost = 0
  · rw [State.endEpisode_none s h]
    exact XingsOnly.refl s
  · rw [State.endEpisode_lost s h]
    refine ⟨State.raise_alm _ _ _, ?_, State.raise_hlm _ _ _, ?_, fun f hf => ?_⟩
    · rw [State.raise_pwr_eq]
      rfl
    · rw [State.raise_chr]
      rfl
    · simp only [List.mem_cons, List.not_mem_nil, or_false, not_or] at hf
      obtain ⟨hlost, hlast, hlog⟩ := hf
      rw [State.get_raise _ _ _ hlog]
      exact sameRegs_episodeShown s x f (by simp [hlost, hlast])

theorem xingsOnly_resetXing (s : State) (id : Nat) : XingsOnly s (s.resetXing id) :=
  (xingsOnly_setXing s _).trans (xingsOnly_endEpisode _ _)

theorem xingsOnly_resetGroupXings (s : State) (g : Nat) : XingsOnly s (s.resetGroupXings g) :=
  List.foldlRecOn (motive := XingsOnly s) _ _ (XingsOnly.refl s) fun _ ht id _ => ht.trans (xingsOnly_resetXing _ id)

/-- No crossing has an episode of saturation to report. -/
def State.noneLost (s : State) : Prop := ∀ x ∈ s.chr.xings, x.lost = 0

theorem State.lost_xing {s : State} (h : s.noneLost) (id : Nat) : (s.xing id).lost = 0 := by
  rw [State.xing]
  cases hfind : s.chr.xings.find? fun x => x.id == id with
  | none => rfl
  | some x => exact h x (List.mem_of_find?_eq_some hfind)

theorem State.resetXing_quiet {s : State} (h : s.noneLost) (id : Nat) : s.resetXing id = s.setXing { id := id } := by
  have hlost := State.lost_xing h id
  unfold State.resetXing
  dsimp only
  rw [hlost, State.endEpisode_none _ rfl]

theorem State.noneLost_setXing {s : State} (h : s.noneLost) (id : Nat) : (s.setXing { id := id }).noneLost := by
  intro x hx
  obtain hx | hx := List.mem_append.1 hx
  · exact h x (List.mem_filter.1 hx).1
  · rw [List.mem_singleton.1 hx]

/-- Without an episode to report the reset of crossings raises no event. -/
theorem State.log_resetGroupXings {s : State} (h : s.noneLost) (g : Nat) : (s.resetGroupXings g).log = s.log := by
  have hquiet : (s.resetGroupXings g).noneLost ∧ (s.resetGroupXings g).log = s.log :=
    List.foldlRecOn (motive := fun t : State => t.noneLost ∧ t.log = s.log) _ _ ⟨h, rfl⟩ fun t ht id _ => by
      rw [State.resetXing_quiet ht.1 id]
      exact ⟨State.noneLost_setXing ht.1 id, ht.2⟩
  exact hquiet.2

/-! ### The requests for the group's channels -/

theorem State.mem_rstReq_foldl_clearReq {l : List Nat} {s : State} {r : Nat × Nat} :
    r ∈ (l.foldl State.clearReq s).hlm.rstReq ↔ r ∈ s.hlm.rstReq ∧ r.1 ∉ l := by
  induction l generalizing s with
  | nil => simp
  | cons c l ih => rw [List.foldl_cons, ih, State.mem_rstReq_clearReq, List.mem_cons, not_or, and_assoc]

/-- Of the channels' requests those of the group `g` that are due go. -/
def State.grpDue (s : State) (g : Nat) : List Nat :=
  (s.hlm.rstReq.filter fun r => r.1 / 16 == g && decide (r.2 < s.chr.tick)).map (·.1)

theorem State.mem_grpDue {s : State} {g c : Nat} :
    c ∈ s.grpDue g ↔ ∃ n, (c, n) ∈ s.hlm.rstReq ∧ c / 16 = g ∧ n < s.chr.tick := by
  simp [State.grpDue]

/-- Nothing but a group's requests for channel resets, with their bits in HLM_GRST. -/
structure ReqsOnly (g : Nat) (s t : State) : Prop where
  rest : t = { s with regs := t.regs, hlm.rstReq := t.hlm.rstReq }
  get : ∀ f : Fld, f.key ≠ (R.HLM_GRST_CH g).key → t.get f = s.get f

theorem reqsOnly_foldl_clearReq {g : Nat} (l : List Nat) (s : State) (h : ∀ c ∈ l, c / 16 = g) :
    ReqsOnly g s (l.foldl State.clearReq s) :=
  List.foldlRecOn (motive := ReqsOnly g s) l _ ⟨rfl, fun _ _ => rfl⟩ fun t ht c hc =>
    ⟨by rw [State.clearReq_eq, ht.rest]; rfl, fun f hf => (t.get_clearReq (h c hc ▸ hf)).trans (ht.get f hf)⟩

/-! ### The group's reset acts -/

/-- The group's requests are taken, and its reset ends two edges on. -/
def State.grpListed (s : State) (g : Nat) : State :=
  { (s.grpDue g).foldl State.clearReq s with
    hlm.grpReq := ((s.grpDue g).foldl State.clearReq s).hlm.grpReq.filter fun r => r.1 != g
    hlm.grpRst := ((s.grpDue g).foldl State.clearReq s).hlm.grpRst.filter (· != g)
    hlm.rstEnd := ((s.grpDue g).foldl State.clearReq s).hlm.rstEnd.filter fun r => !(r.1 / 16 == g)
    hlm.grpEnd := (((s.grpDue g).foldl State.clearReq s).hlm.grpEnd.filter fun r => r.1 != g) ++
      [(g, ((s.grpDue g).foldl State.clearReq s).chr.tick + 2)] }

/-- HLM_GRST and HLM_GSTAT of a group whose reset acts. -/
def State.grpShown (s : State) (g : Nat) : State := ((s.grpListed g).put (R.HLM_GRST_GROUP g) 0).put (R.HLM_GSTAT_RESETTING g) 1

/-- A group's reset, before its channels. -/
def State.grpBegun (s : State) (g : Nat) : State := (s.grpShown g).resetGroupXings g

theorem State.groupReset_due {s : State} {g : Nat} (h : (∃ n, (g, n) ∈ s.hlm.grpReq ∧ n < s.chr.tick) ∨ g ∈ s.hlm.grpRst) :
    s.groupReset g = (((s.grpBegun g).eachChan ((s.grpBegun g).groupChans g) State.resetChan).grpEvent g 0
      ((s.grpBegun g).chr.tick % 2 ^ 32)) := by
  refine if_pos ?_
  rw [Bool.or_eq_true, List.contains_iff_mem]
  exact h.imp_left fun ⟨n, hmem, hn⟩ => any_due hmem hn

theorem groupReset_none (s : State) (g : Fin 8) (h : ∀ r ∈ s.hlm.grpReq, r.1 = g.val → s.chr.tick ≤ r.2)
    (hrst : g.val ∉ s.hlm.grpRst) : exec (.groupReset g) s = .next s := by
  rw [exec_groupReset, State.groupReset, if_neg]
  rw [Bool.or_eq_true, List.contains_iff_mem, not_or]
  exact ⟨not_any_due h, hrst⟩

theorem reqsOnly_grpDue (s : State) (g : Nat) : ReqsOnly g s ((s.grpDue g).foldl State.clearReq s) :=
  reqsOnly_foldl_clearReq _ s fun c hc => by
    obtain ⟨n, -, hg, -⟩ := State.mem_grpDue.1 hc
    exact hg

/-- The fields that the reset of a group writes beside its channels. -/
def grpFlds (g : Nat) : List Fld :=
  [R.HLM_GRST_CH g, R.HLM_GRST_GROUP g, R.HLM_GSTAT_RESETTING g, R.CHR_XING_LOST, R.CHR_XING_LAST_ID, R.LOG_LOST_VALUE]

theorem sameRegs_grpBegun (s : State) (g : Nat) : SameRegs (grpFlds g) s (s.grpBegun g) := by
  intro f hf
  simp only [grpFlds, List.map_cons, List.map_nil, List.mem_cons, List.not_mem_nil, or_false, not_or] at hf
  obtain ⟨hch, hgroup, hresetting, hlost, hlast, hlog⟩ := hf
  calc (s.grpBegun g).get f
      = (s.grpShown g).get f := (xingsOnly_resetGroupXings _ g).get f (by simp [hlost, hlast, hlog])
    _ = ((s.grpListed g).put (R.HLM_GRST_GROUP g) 0).get f := State.get_put_other _ hresetting 1
    _ = (s.grpListed g).get f := State.get_put_other _ hgroup 0
    _ = s.get f := (reqsOnly_grpDue s g).get f hch

theorem sameGround_grpBegun (s : State) {g : Nat} (hg : g < 8) : SameGround s (s.grpBegun g) := by
  have hx := xingsOnly_resetGroupXings (s.grpShown g) g
  refine ⟨hx.alm.trans (by rw [State.grpShown, State.put_alm, State.put_alm, State.grpListed, (reqsOnly_grpDue s g).rest]),
    hx.uvLost.trans (by rw [State.grpShown, State.put_pwr, State.put_pwr, State.grpListed, (reqsOnly_grpDue s g).rest]),
    fun f hf => sameRegs_grpBegun s g f ?_⟩
  simp only [groundKey, R.ALM_MODE_MODE, R.DIO_OFLT_OC, Fld.at] at hf
  simp only [grpFlds, List.map_cons, List.map_nil, List.mem_cons, List.not_mem_nil, or_false, R.HLM_GRST_CH,
    R.HLM_GRST_GROUP, R.HLM_GSTAT_RESETTING, R.CHR_XING_LOST, R.CHR_XING_LAST_ID, R.LOG_LOST_VALUE, Fld.at]
  omega

theorem State.get_grpBegun_chan (s : State) {g c : Nat} {f : Fld} (hf : chanKey c f.key) :
    (s.grpBegun g).get f = s.get f := by
  refine sameRegs_grpBegun s g f ?_
  simp only [chanKey] at hf
  simp only [grpFlds, List.map_cons, List.map_nil, List.mem_cons, List.not_mem_nil, or_false, R.HLM_GRST_CH,
    R.HLM_GRST_GROUP, R.HLM_GSTAT_RESETTING, R.CHR_XING_LOST, R.CHR_XING_LAST_ID, R.LOG_LOST_VALUE, Fld.at]
  omega

theorem State.grpBegun_regs (s : State) (g : Nat) :
    (s.grpBegun g).get (R.HLM_GSTAT_RESETTING g) = 1 ∧ (s.grpBegun g).get (R.HLM_GRST_GROUP g) = 0 := by
  have hx := xingsOnly_resetGroupXings (s.grpShown g) g
  have hkey : ∀ f ∈ [R.HLM_GSTAT_RESETTING g, R.HLM_GRST_GROUP g],
      f.key ∉ [R.CHR_XING_LOST.key, R.CHR_XING_LAST_ID.key, R.LOG_LOST_VALUE.key] := by
    rw [List.forall_mem_cons, List.forall_mem_singleton]
    simp only [List.not_mem_nil, List.mem_cons, or_false, R.HLM_GRST_GROUP, R.HLM_GSTAT_RESETTING, R.CHR_XING_LOST,
      R.CHR_XING_LAST_ID, R.LOG_LOST_VALUE, Fld.at]
    omega
  have hne : (R.HLM_GRST_GROUP g).key ≠ (R.HLM_GSTAT_RESETTING g).key := by
    simp only [R.HLM_GRST_GROUP, R.HLM_GSTAT_RESETTING, Fld.at]
    omega
  refine ⟨(hx.get _ (hkey _ (by simp))).trans (State.get_put_same _ _ 1), (hx.get _ (hkey _ (by simp))).trans ?_⟩
  exact (State.get_put_other _ hne 1).trans (State.get_put_same _ _ 0)

theorem State.grpBegun_chr (s : State) (g : Nat) : (s.grpBegun g).chr = { s.chr with xings := (s.grpBegun g).chr.xings } := by
  have hlisted : (s.grpShown g).chr = s.chr := by
    rw [State.grpShown, State.put_chr, State.put_chr, State.grpListed, (reqsOnly_grpDue s g).rest]
  have hx := (xingsOnly_resetGroupXings (s.grpShown g) g).chr
  rwa [hlisted] at hx

theorem State.grpBegun_hlm (s : State) (g : Nat) :
    (s.grpBegun g).hlm = { s.hlm with
      rstReq := ((s.grpDue g).foldl State.clearReq s).hlm.rstReq
      grpReq := s.hlm.grpReq.filter fun r => r.1 != g
      grpRst := s.hlm.grpRst.filter (· != g)
      rstEnd := s.hlm.rstEnd.filter fun r => !(r.1 / 16 == g)
      grpEnd := (s.hlm.grpEnd.filter fun r => r.1 != g) ++ [(g, s.chr.tick + 2)] } := by
  have hx : (s.grpBegun g).hlm = (s.grpListed g).hlm := (xingsOnly_resetGroupXings (s.grpShown g) g).hlm
  rw [hx, State.grpListed, (reqsOnly_grpDue s g).rest]

theorem State.log_grpBegun {s : State} (h : s.noneLost) (g : Nat) : (s.grpBegun g).log = s.log := by
  have hlog : (s.grpShown g).log = s.log := by
    rw [State.grpShown, State.put_log, State.put_log, State.grpListed, (reqsOnly_grpDue s g).rest]
  have hnone : (s.grpShown g).noneLost := by
    rw [State.noneLost, State.grpShown, State.put_chr, State.put_chr, State.grpListed, (reqsOnly_grpDue s g).rest]
    exact h
  exact (State.log_resetGroupXings hnone g).trans hlog

/-! ### The group's channels -/

/-- A group's reset, before its event. -/
def State.grpTaken (s : State) (g : Nat) : State := (s.grpBegun g).eachChan ((s.grpBegun g).groupChans g) State.resetChan

theorem chansOnly_grpTaken (s : State) {g : Nat} (hg : g < 8) :
    ChansOnly (s.groupChans g) (s.grpBegun g) (s.grpTaken g) := by
  rw [State.grpTaken, (sameGround_grpBegun s hg).groupChans]
  exact chansOnly_eachChan chansOnly_resetChan _ _

theorem State.lt_of_mem_groupChans {s : State} {g c : Nat} (hg : g < 8) (h : c ∈ s.groupChans g) : c < 128 := by
  have hc := State.mem_groupChans h
  omega

theorem State.grpTaken_chan (s : State) {g c : Nat} (hg : g < 8) (hc : c ∈ s.groupChans g) :
    (s.grpTaken g).chState c = 5 ∧
      (s.grpTaken g).get (R.HLM_CHRAW_VALUE c) = if s.sinkOff c then 0 else ofInt 32 (s.safeRaw c) := by
  have h128 := State.lt_of_mem_groupChans hg hc
  have hbegun := sameGround_grpBegun s hg
  obtain ⟨a, b, u, -, hb, hal, hbefore, hafter⟩ :=
    eachChan_at chansOnly_resetChan (s.nodup_groupChans g) hc (s.grpBegun g)
  have hground : SameGround s u :=
    hbegun.trans (hbefore.sameGround fun d hd => State.lt_of_mem_groupChans hg (hal d hd))
  rw [State.grpTaken, hbegun.groupChans, hafter.chState hb h128, hafter.get_other hb (chanKey_CHRAW c) h128,
    State.get_resetChan_raw u h128, hground.sinkOff, hground.safeRaw]
  exact ⟨State.chState_resetChan u h128, rfl⟩

theorem logGains_grpTaken {s : State} (h : s.noneLost) {g : Nat} (hg : g < 8) (ps : List Nat) :
    LogGains (33 + 2 * g) ps s ((s.grpTaken g).raise (33 + 2 * g) ps) := by
  have honly := chansOnly_grpTaken s hg
  have hcode : (33 + 2 * g) / 32 = 1 := by omega
  have hlog : (s.grpTaken g).log = (s.grpBegun g).log :=
    List.foldlRecOn (motive := fun t : State => t.log = (s.grpBegun g).log) _ _ rfl fun t ht c _ =>
      (t.resetChan_log c).trans ht
  refine (logGains_raise _ _ _).of_shown (fun f hf => (honly.shown hcode f hf).trans (sameRegs_grpBegun s g f ?_))
    (hlog.trans (State.log_grpBegun h g)) (honly.now.trans (by rw [State.now, State.now, State.grpBegun_chr]))
  simp only [List.mem_cons, List.not_mem_nil, or_false] at hf
  simp only [grpFlds, List.map_cons, List.map_nil, List.mem_cons, List.not_mem_nil, or_false, R.HLM_GRST_CH,
    R.HLM_GRST_GROUP, R.HLM_GSTAT_RESETTING, R.CHR_XING_LOST, R.CHR_XING_LAST_ID, R.LOG_LOST_VALUE, Fld.at]
  rcases hf with rfl | rfl | rfl <;> simp only [R.LOG_MASK_VALUE, R.ALM_MODE_MODE, R.CHR_DISC_TAI_VALID, Fld.at] <;> omega

/-- A group's own registers are no channel's. -/
theorem grp_group (g : Nat) : ∀ f ∈ [R.HLM_GSTAT_RESETTING g, R.HLM_GRST_GROUP g],
    f.key % 0x80000 < 0x1000 ∧ f.key ≠ R.LOG_LOST_VALUE.key := by
  rw [List.forall_mem_cons, List.forall_mem_singleton]
  simp only [R.HLM_GSTAT_RESETTING, R.HLM_GRST_GROUP, R.LOG_LOST_VALUE, Fld.at]
  omega

theorem groupReset_acts (s : State) (g : Fin 8)
    (h : (∃ n, (g.val, n) ∈ s.hlm.grpReq ∧ n < s.chr.tick) ∨ g.val ∈ s.hlm.grpRst) :
    ∃ t, exec (.groupReset g) s = .next t ∧ t.get (R.HLM_GSTAT_RESETTING g) = 1 ∧ t.get (R.HLM_GRST_GROUP g) = 0 ∧
      (g.val, s.chr.tick + 2) ∈ t.hlm.grpEnd ∧ (∀ r ∈ t.hlm.grpReq, r.1 ≠ g.val) ∧ g.val ∉ t.hlm.grpRst ∧
      (∀ r ∈ t.hlm.rstReq, r.1 / 16 = g.val → s.chr.tick ≤ r.2) ∧
      (∀ c ∈ s.groupChans g, t.chState c = 5 ∧
        t.get (R.HLM_CHRAW_VALUE c) = (if s.sinkOff c then 0 else ofInt 32 (s.safeRaw c))) ∧
      (∀ c : Nat, c < 128 → c / 16 ≠ g.val → t.chState c = s.chState c) ∧
      ((∀ x ∈ s.chr.xings, x.lost = 0) → LogGains (33 + 2 * g) [0, s.chr.tick % 2 ^ 32] s t) := by
  have htick : (s.grpBegun g).chr.tick = s.chr.tick := by rw [State.grpBegun_chr]
  have honly : ChansOnly (s.groupChans g) (s.grpBegun g) ((s.grpTaken g).grpEvent g 0 (s.chr.tick % 2 ^ 32)) :=
    (chansOnly_grpTaken s g.isLt).trans (chansOnly_raise _ _ _ _)
  have hraise : ChansOnly [] (s.grpTaken g) ((s.grpTaken g).grpEvent g 0 (s.chr.tick % 2 ^ 32)) := chansOnly_raise _ _ _ _
  have hresetting := grp_group g (R.HLM_GSTAT_RESETTING g) (by simp)
  have hgroup := grp_group g (R.HLM_GRST_GROUP g) (by simp)
  obtain ⟨hreset1, hgroup0⟩ := s.grpBegun_regs g
  have hgrp : ((s.grpTaken g).grpEvent g 0 (s.chr.tick % 2 ^ 32)).hlm = _ := honly.hlm
  rw [s.grpBegun_hlm g] at hgrp
  refine ⟨(s.grpTaken g).grpEvent g 0 (s.chr.tick % 2 ^ 32), ?_,
    (honly.get_group hresetting.1 hresetting.2).trans hreset1, (honly.get_group hgroup.1 hgroup.2).trans hgroup0,
    ?_, ?_, ?_, ?_, fun c hc => ?_, fun c hc hne => ?_, fun hnone => logGains_grpTaken hnone g.isLt _⟩
  · rw [exec_groupReset, State.groupReset_due h, htick]
    rfl
  · rw [hgrp]
    exact List.mem_append_right _ (List.mem_singleton_self _)
  · rw [hgrp]
    exact fun r hr => by simpa using (List.mem_filter.1 hr).2
  · rw [hgrp]
    simp
  · rw [hgrp]
    intro r hr hg
    obtain ⟨hmem, hnot⟩ := State.mem_rstReq_foldl_clearReq.1 hr
    exact Nat.le_of_not_lt fun hlt => hnot (State.mem_grpDue.2 ⟨r.2, hmem, hg, hlt⟩)
  · have h128 := State.lt_of_mem_groupChans g.isLt hc
    rw [hraise.chState List.not_mem_nil h128, hraise.get_other List.not_mem_nil (chanKey_CHRAW c) h128]
    exact s.grpTaken_chan g.isLt hc
  · rw [honly.chState (fun hmem => hne (State.mem_groupChans hmem)) hc]
    exact s.get_grpBegun_chan (chanKey_CHST_STATE c)

/-! ### The group's reset ends -/

/-- A group whose reset has run its time, before its channels go on. -/
def State.grpOver (s : State) (g : Nat) : State :=
  State.put { s with hlm.grpEnd := s.hlm.grpEnd.filter fun r => r.1 != g } (R.HLM_GSTAT_RESETTING g) 0

theorem State.groupResetEnd_due {s : State} {g n : Nat} (h : (g, n) ∈ s.hlm.grpEnd) (hn : n ≤ s.chr.tick) :
    s.groupResetEnd g = (s.grpOver g).eachChan ((s.grpOver g).groupChans g) State.afterReset :=
  if_pos (any_ended h hn)

theorem groupResetEnd_none (s : State) (g : Fin 8) (h : ∀ r ∈ s.hlm.grpEnd, r.1 = g.val → s.chr.tick < r.2) :
    exec (.groupResetEnd g) s = .next s := by
  have hnot : ¬ (s.hlm.grpEnd.any fun r => r.1 == g.val && decide (r.2 ≤ s.chr.tick)) = true := not_any_ended h
  rw [exec_groupResetEnd, State.groupResetEnd, if_neg hnot]

theorem sameGround_grpOver (s : State) {g : Nat} (hg : g < 8) : SameGround s (s.grpOver g) := by
  refine (⟨rfl, rfl, fun _ _ => rfl⟩ : SameGround s { s with hlm.grpEnd := s.hlm.grpEnd.filter fun r => r.1 != g }).trans
    (sameGround_put _ 0 ?_)
  simp only [groundKey, R.ALM_MODE_MODE, R.DIO_OFLT_OC, R.HLM_GSTAT_RESETTING, Fld.at]
  omega

theorem State.get_grpOver_chan (s : State) {g c : Nat} {f : Fld} (hf : chanKey c f.key) : (s.grpOver g).get f = s.get f := by
  refine State.get_put_other _ ?_ 0
  simp only [chanKey] at hf
  simp only [R.HLM_GSTAT_RESETTING, Fld.at]
  omega

/-- What acts before and leaves alone what decides how a channel goes on. -/
theorem GoesOn.of_before {c : Nat} {r s t : State} (h : GoesOn c s t) (hground : SameGround r s) (hchan : s.chan c = r.chan c)
    (hraw : s.applied c = r.applied c) : GoesOn c r t := by
  obtain ⟨happlied, hoff, hdriven, hremoved, hlaw, hstopped⟩ := h
  simp only [hground.sinkOff, hground.lawAllowed, hground.ttBlocked, hchan, hraw] at *
  exact ⟨happlied, hoff, hdriven, hremoved, hlaw, hstopped⟩

/-- What acts after on other channels. -/
theorem GoesOn.of_after {b : List Nat} {c : Nat} {s t u : State} (h : GoesOn c s t) (hc : c < 128) (hb : c ∉ b)
    (hafter : ChansOnly b t u) : GoesOn c s u := by
  have hkey : ∀ f ∈ [R.HLM_HOV_CAUSE c, R.HLM_HOV_ACTIVE c], chanKey c f.key := by
    rw [List.forall_mem_cons, List.forall_mem_singleton]
    simp only [chanKey, R.HLM_HOV_CAUSE, R.HLM_HOV_ACTIVE, Fld.at]
    omega
  have hraw : u.applied c = t.applied c := congrArg (toInt 32) (hafter.get_other hb (chanKey_CHRAW c) hc)
  have hcause := hafter.get_other hb (hkey (R.HLM_HOV_CAUSE c) (by simp)) hc
  have hactive := hafter.get_other hb (hkey (R.HLM_HOV_ACTIVE c) (by simp)) hc
  obtain ⟨happlied, hoff, hdriven, hremoved, hlaw, hstopped⟩ := h
  rw [← hafter.chState hb hc] at hoff hdriven hremoved hlaw hstopped
  rw [← hafter.chan c hb, ← hcause] at hdriven hlaw
  rw [← hactive] at hlaw
  exact ⟨hraw.trans happlied, hoff, hdriven, hremoved, hlaw, hstopped⟩

theorem goesOn_grpOver {s : State} (hlen : s.hlm.chans.length = 128) {g c : Nat} (hg : g < 8) (hc : c ∈ s.groupChans g) :
    GoesOn c s ((s.grpOver g).eachChan (s.groupChans g) State.afterReset) := by
  have h128 := State.lt_of_mem_groupChans hg hc
  obtain ⟨a, b, u, ha, hb, hal, hbefore, hafter⟩ :=
    eachChan_at chansOnly_afterReset (s.nodup_groupChans g) hc (s.grpOver g)
  have hground : SameGround s u :=
    (sameGround_grpOver s hg).trans (hbefore.sameGround fun d hd => State.lt_of_mem_groupChans hg (hal d hd))
  have hraw : u.get (R.HLM_CHRAW_VALUE c) = s.get (R.HLM_CHRAW_VALUE c) :=
    (hbefore.get_other ha (chanKey_CHRAW c) h128).trans (s.get_grpOver_chan (chanKey_CHRAW c))
  have hgoes : GoesOn c u (u.afterReset c) := goesOn_afterReset h128 (by rw [hbefore.length]; exact hlen ▸ h128)
  exact (hgoes.of_before hground (hbefore.chan c ha) (congrArg (toInt 32) hraw)).of_after h128 hb hafter

theorem groupResetEnd_goesOn (s : State) (g : Fin 8) (n : Nat) (hs : s.Shaped) (h : (g.val, n) ∈ s.hlm.grpEnd)
    (hn : n ≤ s.chr.tick) :
    ∃ t, exec (.groupResetEnd g) s = .next t ∧ t.get (R.HLM_GSTAT_RESETTING g) = 0 ∧
      (∀ r ∈ t.hlm.grpEnd, r.1 ≠ g.val) ∧
      (∀ c ∈ s.groupChans g, t.applied c = s.applied c ∧ (s.sinkOff c = true → t.chState c = 4) ∧
        (s.sinkOff c = false → (s.chan c).svc ≠ none → t.chState c = 6 ∧ (t.chan c).target = 1) ∧
        (s.sinkOff c = false → (s.chan c).svc = none → (s.chan c).removed = true → t.chState c = 4) ∧
        (s.sinkOff c = false → (s.chan c).svc = none → (s.chan c).removed = false →
          (s.lawAllowed c = true → s.ttBlocked g = false → t.chState c = 6 ∧ (t.chan c).target = 2) ∧
          (s.lawAllowed c = false ∨ s.ttBlocked g = true → t.chState c = 1))) ∧
      ∀ c : Nat, c < 128 → c / 16 ≠ g.val → t.chState c = s.chState c := by
  obtain ⟨-, -, hlen, -⟩ := hs
  have honly := chansOnly_eachChan chansOnly_afterReset (s.groupChans g) (s.grpOver g)
  have hresetting := grp_group g (R.HLM_GSTAT_RESETTING g) (by simp)
  have hexec : exec (.groupResetEnd g) s = .next ((s.grpOver g).eachChan (s.groupChans g) State.afterReset) := by
    rw [exec_groupResetEnd, State.groupResetEnd_due h hn, (sameGround_grpOver s g.isLt).groupChans]
  refine ⟨_, hexec, (honly.get_group hresetting.1 hresetting.2).trans (State.get_put_same _ _ 0), fun r hr => ?_,
    fun c hc => ?_, fun c hc hne => ?_⟩
  · rw [honly.hlm] at hr
    simpa using (List.mem_filter.1 hr).2
  · have hgoes := goesOn_grpOver hlen g.isLt hc
    refine ⟨hgoes.applied, hgoes.off, fun hoff hsvc => ?_, hgoes.removed, fun hoff hsvc hrem => ⟨fun hlaw htt => ?_, ?_⟩⟩
    · obtain ⟨hst, htarget, -⟩ := hgoes.driven hoff hsvc
      exact ⟨hst, htarget⟩
    · obtain ⟨hst, htarget, -⟩ := hgoes.law hoff hsvc hrem hlaw (State.mem_groupChans hc ▸ htt)
      exact ⟨hst, htarget⟩
    · exact State.mem_groupChans hc ▸ hgoes.stopped hoff hsvc hrem
  · rw [honly.chState (fun hmem => hne (State.mem_groupChans hmem)) hc]
    exact s.get_grpOver_chan (chanKey_CHST_STATE c)

/-- Settles O41. Choices of the model: a reset leaves a service drive and a removal by the ladder in force (log entry 61), and a
channel's request that falls due while its group is in reset, up to its last edge, is covered (log entry 119). -/
theorem helmResetsAndBroadcasts : Obligations.HelmResetsAndBroadcasts := by
  unfold Obligations.HelmResetsAndBroadcasts
  exact ⟨channelReset_acts, channelReset_idle, channelReset_none, channelResetEnd_goesOn, channelResetEnd_none,
    fun s g _ => groupReset_acts s g, groupReset_none, groupResetEnd_goesOn, groupResetEnd_none, broadcast_pends,
    broadcastAct_last, broadcastAct_none⟩

end Sys2Proof.Machine

/-! A station's outputs and states (O36). -/

namespace Sys2Proof.Machine

/-! ### Outputs (R141, R142) -/

/-- The usable copies of the last tick's D-pass; in tick 0 there was none. -/
def Station.lastUsable (x : Station) (tick : Nat) : List (List Nat) :=
  if tick = 0 then [] else x.usable (tick - 1)

/-- R141, R142: the outputs that the usable copies `u` leave. -/
def Station.applied (x : Station) : List (List Nat) → Station
  | [] => { x with hold := x.hold + 1 }
  | p :: ps =>
    if ps.all (· == p) then
      if x.state = 4 ∨ x.state = 5 then { x with outputs := p, outSafe := false, hold := 0, state := 4 }
      else { x with hold := 0 }
    else { x with hold := x.hold + 1, cntDiff := x.cntDiff + 1 }

/-- R141: the copies that are missing are counted first. -/
def Station.outputTick (x : Station) (tick : Nat) : Station :=
  Station.applied { x with cntMiss := x.cntMiss + (2 - (x.lastUsable tick).length) } (x.lastUsable tick)

theorem exec_stationOutputApply (st : Fin 64) (s : State) :
    exec (.stationOutputApply st) s = .next (s.modStation st fun x => x.outputTick s.chr.tick) := by
  change execStationOutputApply st s = _
  refine congrArg (fun g => Host.Outcome.next (s.modStation st g)) (funext fun x => ?_)
  simp only [Station.outputTick, Station.lastUsable]
  generalize (if s.chr.tick = 0 then [] else x.usable (s.chr.tick - 1)) = u
  cases u <;> rfl

/-- Equal copies, or one alone, become the outputs of a station in RUN or SAFE, which runs. -/
theorem applied_agreed {x : Station} {p : List Nat} {ps : List (List Nat)} (h : x.state = 4 ∨ x.state = 5)
    (hp : ps.all (· == p) = true) : (x.applied (p :: ps)).outputs = p ∧ (x.applied (p :: ps)).outSafe = false ∧
      (x.applied (p :: ps)).hold = 0 ∧ (x.applied (p :: ps)).state = 4 := by
  rw [Station.applied, if_pos hp, if_pos h]
  exact ⟨rfl, rfl, rfl, rfl⟩

theorem Station.lastUsable_pos {x : Station} {tick : Nat} (h : 0 < tick) : x.lastUsable tick = x.usable (tick - 1) :=
  if_neg h.ne'

theorem Station.lastUsable_nil {x : Station} {tick : Nat} (h : tick = 0 ∨ x.usable (tick - 1) = []) :
    x.lastUsable tick = [] := by
  unfold Station.lastUsable
  split_ifs with h0
  · rfl
  · exact h.resolve_left h0

theorem outputTick_agreed {x : Station} {tick : Nat} {p : List Nat} (ht : 0 < tick) (h : x.state = 4 ∨ x.state = 5)
    (hu : x.usable (tick - 1) = [p] ∨ x.usable (tick - 1) = [p, p]) :
    (x.outputTick tick).outputs = p ∧ (x.outputTick tick).outSafe = false ∧ (x.outputTick tick).hold = 0 ∧
      (x.outputTick tick).state = 4 := by
  rw [Station.outputTick, Station.lastUsable_pos ht]
  obtain hu | hu := hu <;> rw [hu] <;> exact applied_agreed h (by simp)

theorem outputTick_wanting {x : Station} {tick : Nat} (h : tick = 0 ∨ x.usable (tick - 1) = []) :
    (x.outputTick tick).outputs = x.outputs ∧ (x.outputTick tick).hold = x.hold + 1 := by
  rw [Station.outputTick, Station.lastUsable_nil h]
  exact ⟨rfl, rfl⟩

/-! ### The changes of state (R142, R144, R167) -/

/-- R142: the station has wanted data for its HOLD_TICKS, and goes to its safe state. -/
def Station.safed (x : Station) : Station := { x with state := 5, outSafe := true }

/-- R144, R146, R147: without passes a station listens, and its time is no longer good. -/
def Station.deaf (x : Station) : Station :=
  { x with state := 1, synced := false, timeOk := false, goodPass := 0, badPass := 0, outSafe := true, est := none }

theorem exec_stationSafe (st : Fin 64) (s : State) :
    exec (.stationSafe st) s = .next (s.modStation st fun x =>
      if x.state = 4 ∧ s.cfg 0x0201 st 0x12 1 ≤ x.hold then x.safed else x) := rfl

theorem exec_noPassTimeout (st : Fin 64) (s : State) :
    exec (.noPassTimeout st) s = .next (s.modStation st fun x =>
      if x.state = 0 ∨ s.chr.tick < x.lastPass + 8 then x else x.deaf) := rfl

/-- R167: the station unloaded; the master loads it again, alone, where it is assigned an image. -/
def State.stationUnloaded (s : State) (st : Fin 64) : State :=
  let again := s.mastering && s.cfg 0x0201 st 0x13 1 != 0xFF && !s.mrd.reload.contains st.val
  { s.modStation st Station.unload with
    mrd.loaded := s.mrd.loaded.filter (· != st.val)
    mrd.reload := if again then s.mrd.reload ++ [st.val] else s.mrd.reload
    mrd.loadFailed := s.mrd.loadFailed.filter (· != st.val)
    mrd.loadTries := s.mrd.loadTries.filter fun (p : Nat × Nat) => p.1 != st.val }

theorem exec_stationReset_named {s : State} {st : Fin 64} (ht : (s.station st).annReset.type = 4)
    (he : (s.station st).annReset.tick = s.chr.tick) (hb : bit (s.station st).annReset.arg st = true) :
    exec (.stationReset st) s = .next (s.stationUnloaded st) := by
  change execStationReset st s = _
  simp only [execStationReset, ht, he, hb, beq_self_eq_true, Bool.and_self, Bool.true_or, if_true]
  rfl

/-- R167: what the master notes of a station that is to be loaded again. -/
theorem mem_reload_stationUnloaded {s : State} {st : Fin 64} (hm : s.mastering = true)
    (hi : s.cfg 0x0201 st 0x13 1 ≠ 0xFF) : st.val ∈ (s.stationUnloaded st).mrd.reload := by
  have hreload : (s.stationUnloaded st).mrd.reload =
      if !s.mrd.reload.contains st.val then s.mrd.reload ++ [st.val] else s.mrd.reload := by
    simp only [State.stationUnloaded, hm, bne_iff_ne.2 hi, Bool.true_and]
  rw [hreload]
  split_ifs with h
  · simp
  · simpa using h

/-- Settles O36: each command changes the one station by a function of it; a RESET that names the station also clears what the
master keeps of its loads. -/
theorem ringStations : Obligations.RingStations := by
  unfold Obligations.RingStations
  refine ⟨fun s st p hs ht hst hu => ?_, fun s st hs hu => ?_, fun s st hs hst hh => ?_, fun s st hs hst hp => ?_,
    fun s st hs hst ht he hb => ?_⟩
  · refine ⟨_, exec_stationOutputApply st s, ?_⟩
    rw [State.station_modStation_same (hs.station_lt st)]
    obtain ⟨hout, hsafe, hhold, hstate⟩ := outputTick_agreed ht hst hu
    exact ⟨hout, hsafe, hhold, hstate, rfl⟩
  · refine ⟨_, exec_stationOutputApply st s, ?_⟩
    rw [State.station_modStation_same (hs.station_lt st)]
    obtain ⟨hout, hhold⟩ := outputTick_wanting hu
    exact ⟨hout, hhold, rfl⟩
  · refine ⟨_, exec_stationSafe st s, ?_⟩
    rw [State.station_modStation_same (hs.station_lt st), if_pos ⟨hst, hh⟩]
    exact ⟨rfl, rfl, rfl⟩
  · refine ⟨_, exec_noPassTimeout st s, ?_⟩
    rw [State.station_modStation_same (hs.station_lt st), if_neg (by omega)]
    exact ⟨rfl, rfl, rfl, rfl⟩
  · have hx : (s.stationUnloaded st).station st = (s.station st).unload :=
      State.station_modStation_same (hs.station_lt st) Station.unload
    refine ⟨_, exec_stationReset_named ht he hb, ?_⟩
    rw [hx]
    exact ⟨if_neg hst, rfl, rfl, rfl, by simp [State.stationUnloaded], by simp [State.stationUnloaded],
      mem_reload_stationUnloaded, rfl⟩

end Sys2Proof.Machine

/-! What handling, crossings and channels leave of the ring. -/

namespace Sys2Proof.Machine

/-! ### The ring stands -/

/-- The keys of MRD_STATUS. -/
abbrev ringStatusKey (k : Nat) : Prop := 8 * 0xF000200000 ≤ k ∧ k < 8 * 0xF000200000 + 32

/-- The ring's own state and MRD_STATUS stand, and the Logbook queue keeps what it holds. -/
structure RingStands (s t : State) : Prop where
  mrd : t.mrd = s.mrd
  get : ∀ f : Fld, ringStatusKey f.key → t.get f = s.get f
  queue : s.log.queue <+: t.log.queue

theorem RingStands.refl (s : State) : RingStands s s := ⟨rfl, fun _ _ => rfl, List.prefix_rfl⟩

theorem RingStands.trans {s t u : State} (h : RingStands s t) (g : RingStands t u) : RingStands s u :=
  ⟨g.mrd.trans h.mrd, fun f hf => (g.get f hf).trans (h.get f hf), h.queue.trans g.queue⟩

theorem RingStands.after {s t u : State} (g : RingStands t u) (h : RingStands s t) : RingStands s u := h.trans g

theorem RingStands.ite {c : Prop} [Decidable c] {s t u : State} (h : RingStands s t) (g : RingStands s u) :
    RingStands s (if c then t else u) := by
  split_ifs
  · exact h
  · exact g

theorem RingStands.of_eq {s t : State} (hm : t.mrd = s.mrd) (hr : t.regs = s.regs) (hl : t.log = s.log) :
    RingStands s t :=
  ⟨hm, fun f _ => State.get_congr hr f, hl ▸ List.prefix_rfl⟩

theorem RingStands.foldl {α : Type} {g : State → α → State} (h : ∀ t a, RingStands t (g t a)) (l : List α)
    (s : State) : RingStands s (l.foldl g s) :=
  List.foldlRecOn (motive := RingStands s) l g (RingStands.refl s) fun t ht a _ => ht.trans (h t a)

theorem ringStands_put (s : State) {f : Fld} (v : Nat) (h : ¬ ringStatusKey f.key) : RingStands s (s.put f v) :=
  ⟨rfl, fun _ hg => State.get_put_other s (fun hk => h (hk ▸ hg)) v, List.prefix_rfl⟩

theorem ringStands_puts (s : State) (l : List (Fld × Nat)) (h : ∀ e ∈ l, ¬ ringStatusKey e.1.key) :
    RingStands s (s.puts l) :=
  ⟨s.puts_mrd l, fun _ hg => State.get_puts_other s l _ fun e he hk => h e he (hk ▸ hg),
    (s.puts_log l).symm ▸ List.prefix_rfl⟩

theorem ringStatusKey_lost {f : Fld} (h : ringStatusKey f.key) : f.key ≠ R.LOG_LOST_VALUE.key := by
  simp only [ringStatusKey, R.LOG_LOST_VALUE, Fld.at] at h ⊢
  omega

theorem ringStands_raiseE (s : State) (esc : Bool) (c : Nat) (ps : List Nat) : RingStands s (s.raiseE esc c ps) := by
  refine ⟨s.raiseE_mrd esc c ps, fun f hf => State.get_raiseE s esc c ps (ringStatusKey_lost hf), ?_⟩
  rcases s.raiseE_cases esc c ps with ⟨_, _, e⟩ | ⟨_, e⟩ | e <;> rw [e]
  exact State.enqueue_queue_prefix s _

theorem ringStands_raise (s : State) (c : Nat) (ps : List Nat) : RingStands s (s.raise c ps) :=
  ringStands_raiseE s false c ps

/-! ### Crossings in reset (R120) -/

theorem ringStands_setXing (s : State) (x : Xing) : RingStands s (s.setXing x) := RingStands.of_eq rfl rfl rfl

theorem ringStands_endEpisode (s : State) (x : Xing) : RingStands s (s.endEpisode x) := by
  by_cases h : x.lost = 0
  · rw [State.endEpisode_none s h]
    exact RingStands.refl s
  · rw [State.endEpisode_lost s h]
    have hshown : RingStands s (s.episodeShown x) :=
      (ringStands_put _ _ (by decide)).after ((ringStands_put _ _ (by decide)).after (ringStands_setXing s _))
    exact hshown.trans (ringStands_raise _ 9 _)

theorem ringStands_resetDomain (s : State) (code : Nat) (port : Option Nat) : RingStands s (s.resetDomain code port) :=
  RingStands.foldl (g := State.resetXing)
    (fun t _ => (ringStands_endEpisode _ _).after (ringStands_setXing t _)) _ s

/-! ### The handling of a unit error (R429 to R440) -/

theorem ringStands_reqMode (s : State) (target cause : Nat) : RingStands s (s.reqMode target cause) :=
  RingStands.of_eq rfl rfl rfl

theorem ringStands_reqLimp (s : State) (cause : Nat) : RingStands s (s.reqLimp cause) :=
  (ringStands_reqMode s mLIMP cause).ite (RingStands.refl s)

theorem ringStands_setEntry (s : State) (i : Nat) (e : Option HEntry) : RingStands s (s.setEntry i e) :=
  RingStands.of_eq rfl rfl rfl

theorem ringStands_countUnit (s : State) (u sev : Nat) : RingStands s (s.countUnit u sev) := by
  unfold State.countUnit
  refine (RingStands.refl s).ite ?_
  dsimp only
  split
  · exact RingStands.of_eq rfl rfl rfl
  · refine RingStands.ite ?_ (RingStands.of_eq rfl rfl rfl)
    exact (ringStands_reqLimp _ _).after ((ringStands_raise _ 106 _).after (RingStands.of_eq rfl rfl rfl))

theorem ringStands_proveError (s : State) (sev : Nat) : RingStands s (s.proveError sev) := by
  unfold State.proveError
  exact RingStands.ite (RingStands.of_eq rfl rfl rfl) (RingStands.refl s)

theorem ringStands_isolate (s : State) (u : Nat) : RingStands s (s.isolate u) := by
  have hcell : RingStands s (s.modCell (unitCell u) fun c => { c with isolated := c.isolated ++ [unitPos u] }) :=
    RingStands.of_eq rfl rfl rfl
  refine hcell.trans (ringStands_puts _ _ ?_)
  simp only [List.forall_mem_cons, List.not_mem_nil, false_imp_iff, implies_true, and_true, ringStatusKey,
    R.HLM_GRES_SL_SPARE, R.HLM_FB_A, R.HLM_FB_NOSPARE, Fld.at]
  omega

theorem ringStands_deferEntry (s : State) (i : Nat) (e : HEntry) (reason : Nat) :
    RingStands s (s.deferEntry i e reason) :=
  (RingStands.refl s).ite ((ringStands_setEntry s i _).trans (ringStands_raise _ 103 _))

theorem ringStands_takeUnit (s : State) (i : Nat) (e : HEntry) : RingStands s (s.takeUnit i e) := by
  unfold State.takeUnit
  refine (ringStands_isolate s e.unit).ite (RingStands.ite ?_ (RingStands.refl s))
  split
  · exact ringStands_deferEntry s i e _
  · exact RingStands.refl s

theorem ringStands_openEntry (s : State) (e : HEntry) : RingStands s (s.openEntry e) := by
  unfold State.openEntry
  split
  · exact (ringStands_takeUnit _ _ e).after ((ringStands_setEntry _ _ _).after (RingStands.of_eq rfl rfl rfl))
  · exact (ringStands_raise s 109 _).trans (ringStands_put _ 1 (by decide))

theorem ringStands_unitError (s : State) (u sev code : Nat) (ps : List Nat) :
    RingStands s (s.unitError u sev code ps) := by
  have hraise := ringStands_raise s code ps
  unfold State.unitError
  refine (hraise.trans (ringStands_proveError _ sev)).ite ((hraise.trans (ringStands_countUnit _ u sev)).ite ?_)
  split
  · exact (hraise.trans ((ringStands_setEntry _ _ _).trans (ringStands_countUnit _ u sev))).ite
      ((ringStands_raiseE s true code ps).trans ((ringStands_setEntry _ _ _).trans
        ((ringStands_raise _ 102 _).trans (ringStands_countUnit _ u sev))))
  · exact hraise.trans ((ringStands_openEntry _ _).trans (ringStands_countUnit _ u sev))

/-! ### A channel at the takeover (R228) -/

theorem chanKey_not_ringStatus {c k : Nat} (h : chanKey c k) : ¬ ringStatusKey k := by
  unfold chanKey at h
  unfold ringStatusKey
  omega

theorem ringStands_sinkWrite (s : State) (c : Nat) (v : Int) : RingStands s (s.sinkWrite c v) := by
  have hraw : RingStands s (s.rawShown c v) := ringStands_put s _ (chanKey_not_ringStatus (chanKey_CHRAW c))
  obtain ⟨d, e⟩ | ⟨w, e⟩ := s.sinkWrite_cases c v <;> rw [e]
  · exact hraw.trans (RingStands.of_eq rfl rfl rfl)
  · exact hraw.trans (ringStands_put _ w (by decide))

theorem ringStands_startHo (s : State) (c cause target : Nat) : RingStands s (s.startHo c cause target) := by
  rw [State.startHo_eq]
  have hputs := ringStands_puts (s.hoMarked c target) _ fun e he =>
    chanKey_not_ringStatus (chanKey_hoPuts (s.hoMarked c target) c cause e he)
  have hmark : RingStands s (s.hoMarked c target) := RingStands.of_eq rfl rfl rfl
  exact (hmark.trans hputs).trans (ringStands_raise _ _ _)

theorem ringStands_takeoverChan (s : State) (last : List (Nat × List Nat)) (c : Nat) :
    RingStands s (s.takeoverChan last c) := by
  have hsink : RingStands s (match last.find? fun p => p.1 == bits (s.chanB c 0x1C 4) 8 6 with
      | some (_, bs) => s.sinkWrite c (toInt 32 (leNat ((bs.drop (4 * bits (s.chanB c 0x1C 4) 0 8)).take 4)))
      | none => s) := by
    split
    · exact ringStands_sinkWrite s c _
    · exact RingStands.refl s
  exact (RingStands.refl s).ite (hsink.trans ((ringStands_startHo _ c 5 2).ite ((ringStands_startHo _ c 5 4).ite
    ((ringStands_startHo _ c 5 1).ite ((ringStands_startHo _ c 5 _).ite (RingStands.refl _))))))

end Sys2Proof.Machine

/-! Link measurement, breaks, the takeover and the error counters (O37). -/

namespace Sys2Proof.Machine

/-! ### Probes and their replies (R137) -/

theorem exec_probe_on {s : State} {st : Fin 64} (q : BitVec 8) (h : (s.station st).state ≠ 0) :
    exec (.probe st q) s = .next { (s.atPhase 8000).modStation st fun x => { x with probeSeq := some q.toNat } with
      mrd.probes := [(st.val, 0, ProbeFrame.seal { ftype := 0x10, seq := q.toNat }),
        (st.val, 1, ProbeFrame.seal { ftype := 0x10, seq := q.toNat })] } :=
  if_neg fun hoff => h hoff.1

theorem exec_probeReceive_on {s : State} {st : Fin 64} (d : Fin 2) {f : ProbeFrame} (n : Nat)
    (h : (s.station st).state ≠ 0) (hf : f.ftype = 0x10) :
    exec (.probeReceive st d f n) s = .next { s with mrd.probes :=
      if f.crcOk then [(st.val, d.val, ProbeFrame.seal { ftype := 0x11, seq := f.seq, turn := n })] else [] } := by
  change execProbeReceive st d f n s = _
  cases hc : f.crcOk <;> simp [execProbeReceive, h, hf, hc]

/-! ### Exchanges (R145) -/

/-- The valid exchanges of one in link. -/
def Station.withDelays (x : Station) (d : Nat) (l : List Nat) : Station :=
  if d = 0 then { x with probeW := l } else { x with probeE := l }

theorem delays_withDelays (x : Station) (d : Nat) (l : List Nat) : (x.withDelays d l).delays d = l := by
  unfold Station.withDelays Station.delays
  split_ifs <;> rfl

/-- EV030 leaves the stations alone. -/
theorem State.noteDelay_station (s : State) (dir : Nat) (old new : Option Nat) (a : Nat) :
    (s.noteDelay dir old new).station a = s.station a := by
  have hst : (s.noteDelay dir old new).mrd.stations = s.mrd.stations := by
    simp only [State.noteDelay]
    split_ifs
    · rfl
    · rfl
    · rw [State.raise_mrd]
    · rfl
  rw [State.station, hst, State.station]

/-- An exchange that joins the mean of the last 1,024. -/
def State.joined (s : State) (st dir d : Nat) : State :=
  s.modStation st fun x => x.withDelays dir ((d :: (s.station st).delays dir).take 1024)

/-- Before the 64th exchange there is no mean to lie far from. -/
theorem State.exchange_of_none {s : State} {st dir : Nat} (d : Nat) (h : linkDelay ((s.station st).delays dir) = none) :
    s.exchange st dir d = if st = s.me then
      (s.joined st dir d).noteDelay dir none (linkDelay ((d :: (s.station st).delays dir).take 1024))
    else s.joined st dir d := by
  unfold State.exchange
  dsimp only
  rw [h]
  rfl

theorem exchange_joins {s : State} {st dir : Nat} (h : st < s.mrd.stations.length) (d : Nat)
    (hl : linkDelay ((s.station st).delays dir) = none) :
    ((s.exchange st dir d).station st).delays dir = (d :: (s.station st).delays dir).take 1024 := by
  have hjoin : ((s.joined st dir d).station st).delays dir = (d :: (s.station st).delays dir).take 1024 := by
    rw [State.joined, State.station_modStation_same h, delays_withDelays]
  rw [State.exchange_of_none d hl]
  split_ifs
  · rw [State.noteDelay_station, hjoin]
  · exact hjoin

/-- More than 2 ns above the mean an exchange is counted and does not join. -/
theorem exchange_far {s : State} {st dir d m : Nat} (h : st < s.mrd.stations.length)
    (hl : linkDelay ((s.station st).delays dir) = some m) (hd : m + 32 < d) :
    (s.exchange st dir d).station st =
      { s.station st with cntProbe := (s.station st).cntProbe + 1 } := by
  have hfar : 32 < ((d : Int) - m).natAbs := by omega
  unfold State.exchange
  simp only [hl, hfar, decide_true, if_true]
  exact State.station_modStation_same h _

/-- R95: the module's own station takes the stamps that came with the frames. -/
def State.replyStamped (s : State) (st : Fin 64) (dir : Fin 2) (t1 t4 : Option Nat) : State :=
  if st.val = s.me then (s.tookStamp (ptRing 1 dir) t1).tookStamp (ptRing 0 dir) t4 else s

theorem State.replyStamped_eq (s : State) (st : Fin 64) (dir : Fin 2) (t1 t4 : Option Nat) :
    s.replyStamped st dir t1 t4 = { s with chr.stamps := (s.replyStamped st dir t1 t4).chr.stamps } := by
  unfold State.replyStamped
  split_ifs
  · rw [State.tookStamp_eq, State.tookStamp_eq s]
  · rfl

theorem State.replyStamped_mrd (s : State) (st : Fin 64) (dir : Fin 2) (t1 t4 : Option Nat) :
    (s.replyStamped st dir t1 t4).mrd = s.mrd := by rw [State.replyStamped_eq]

theorem State.replyStamped_station (s : State) (st : Fin 64) (dir : Fin 2) (t1 t4 : Option Nat) (a : Nat) :
    (s.replyStamped st dir t1 t4).station a = s.station a := by
  rw [State.station, State.replyStamped_mrd, State.station]

theorem exec_replyReceive_some (st : Fin 64) (dir : Fin 2) (t1 t4 : Nat) (f : ProbeFrame) (s : State) :
    exec (.replyReceive st dir (some t1) (some t4) f) s =
      .next (if f.ftype = 0x11 ∧ f.crcOk ∧
          ((s.replyStamped st dir (some t1) (some t4)).station st).probeSeq = some f.seq then
        (s.replyStamped st dir (some t1) (some t4)).exchange st dir ((t4 - t1 - f.turn) / 2)
      else s.replyStamped st dir (some t1) (some t4)) := rfl

/-- A REPLY to the PROBE that waits is an exchange. -/
theorem exec_replyReceive_valid {s : State} {st : Fin 64} (dir : Fin 2) {f : ProbeFrame} (t1 t4 : Nat)
    (hf : f.ftype = 0x11) (hc : f.crcOk = true) (hq : (s.station st).probeSeq = some f.seq) :
    exec (.replyReceive st dir (some t1) (some t4) f) s =
      .next ((s.replyStamped st dir (some t1) (some t4)).exchange st dir ((t4 - t1 - f.turn) / 2)) := by
  rw [exec_replyReceive_some, if_pos ⟨hf, hc, (congrArg _ (s.replyStamped_station st dir _ _ st)).trans hq⟩]

/-- R95: an exchange that lacks a stamp is none. -/
theorem exec_replyReceive_missing (s : State) (st : Fin 64) (dir : Fin 2) (f : ProbeFrame) {t1 t4 : Option Nat}
    (h : t1 = none ∨ t4 = none) : exec (.replyReceive st dir t1 t4 f) s = .next (s.replyStamped st dir t1 t4) := by
  obtain rfl | rfl := h
  · rfl
  · cases t1 <;> rfl

/-! ### Breaks (R158, R437) -/

theorem deadFld_cases (d : Nat) : deadFld d = R.MRD_STATUS_CW_DEAD ∨ deadFld d = R.MRD_STATUS_CCW_DEAD := by
  unfold deadFld
  split_ifs <;> simp

theorem ringStatusKey_dead (d : Nat) : ringStatusKey (deadFld d).key := by
  obtain e | e := deadFld_cases d <;> rw [e] <;> decide

/-- An input declared dead (1) or alive (0), with EV019. -/
def State.deadShown (s : State) (d v : Nat) (ps : List Nat) : State := (s.put (deadFld d) v).raise 19 ps

theorem State.get_deadShown (s : State) (d : Nat) {v : Nat} (h : v < 2) (ps : List Nat) :
    (s.deadShown d v ps).get (deadFld d) = v := by
  rw [State.deadShown, State.get_raise _ _ _ (ringStatusKey_lost (ringStatusKey_dead d))]
  refine State.get_put_of_lt s ?_
  obtain e | e := deadFld_cases d <;> rw [e] <;> exact h

theorem onlyLogged_deadShown (s : State) (d v : Nat) (ps : List Nat) : OnlyLogged [deadFld d] s (s.deadShown d v ps) :=
  onlyLogged_trans (onlyLogged_put s (deadFld d) v) (onlyLogged_raise _ 19 ps)

theorem logGains_deadShown (s : State) (d v : Nat) (ps : List Nat) : LogGains 19 ps s (s.deadShown d v ps) := by
  refine (logGains_raise _ 19 ps).of_sameRegs (sameRegs_put s (deadFld d) v) rfl rfl ?_
  obtain e | e := deadFld_cases d <;> rw [e] <;> decide

theorem State.declareDead_of_dead {s : State} {d : Nat} (h : s.get (deadFld d) ≠ 0) : s.declareDead d = s :=
  if_pos (bne_iff_ne.2 h)

theorem State.declareDead_of_alive {s : State} {d : Nat} (h : s.get (deadFld d) = 0) :
    s.declareDead d = s.deadShown d 1 [d, 0] := if_neg (by simp [State.flag, h])

/-- A dead input stays one; of a live one the record comes first. -/
theorem declareDead_shown (s : State) (d : Nat) : (s.declareDead d).get (deadFld d) ≠ 0 ∧ (s.declareDead d).mrd = s.mrd ∧
    (s.get (deadFld d) = 0 → LogGains 19 [d, 0] s (s.declareDead d)) := by
  by_cases h : s.get (deadFld d) = 0
  · rw [State.declareDead_of_alive h, State.get_deadShown s d Nat.one_lt_two]
    exact ⟨one_ne_zero, State.raise_mrd _ _ _, fun _ => logGains_deadShown s d 1 _⟩
  · rw [State.declareDead_of_dead h]
    exact ⟨h, rfl, fun h0 => absurd h0 h⟩

/-- R158: the link down and the input dead. -/
def State.linkLost (s : State) (d : Nat) : State :=
  ({ s with mrd.linkUp := setBit s.mrd.linkUp d false, mrd.good := dirSet s.mrd.good d 0 } : State).declareDead d

/-- R120: with its crossings in reset. -/
def State.linkReset (s : State) (d : Nat) : State := (s.linkLost d).resetDomain (5 + d)

theorem exec_ringLinkDown (d : Fin 2) (s : State) :
    exec (.ringLinkDown d) s =
      .next (if (s.linkReset d).get R.MRD_STATUS_INSERT = 3 ∨ (s.linkReset d).get R.MRD_STATUS_INSERT = 4 then
        (s.linkReset d).unitError (portUnit d) 2 108 [portUnit d, 0] else s.linkReset d) := rfl

theorem ringLinkDown_declares (s : State) (d : Fin 2) :
    ∃ t, exec (.ringLinkDown d) s = .next t ∧ t.get (deadFld d) ≠ 0 ∧
      t.mrd.linkUp = setBit s.mrd.linkUp d false ∧ (s.get (deadFld d) = 0 → LogNext 19 [d, 0] s t) := by
  obtain ⟨hdead, hmrd, hlog⟩ := declareDead_shown
    { s with mrd.linkUp := setBit s.mrd.linkUp d false, mrd.good := dirSet s.mrd.good d 0 } d
  have hreset : RingStands (s.linkLost d) (s.linkReset d) := ringStands_resetDomain (s.linkLost d) (5 + d) none
  have hstands : RingStands (s.linkLost d)
      (if (s.linkReset d).get R.MRD_STATUS_INSERT = 3 ∨ (s.linkReset d).get R.MRD_STATUS_INSERT = 4 then
        (s.linkReset d).unitError (portUnit d) 2 108 [portUnit d, 0] else s.linkReset d) :=
    (hreset.trans (ringStands_unitError _ _ _ _ _)).ite hreset
  refine ⟨_, exec_ringLinkDown d s, ne_of_eq_of_ne (hstands.get _ (ringStatusKey_dead d)) hdead, ?_,
    fun h0 => LogGains.logNext (hlog h0) hstands.queue⟩
  rw [hstands.mrd]
  exact congrArg Mrd.linkUp hmrd

/-- R158: the run of valid headers at an input is over. -/
def State.runOver (s : State) (d : Nat) : State := { s with mrd.good := dirSet s.mrd.good d 0 }

theorem exec_inputDead_missed {s : State} {d : Fin 2} (h : 4 ≤ dirGet s.mrd.miss d) :
    exec (.inputDead d) s = .next ((s.runOver d).declareDead d) := congrArg Host.Outcome.next (if_pos h)

theorem inputDead_declares {s : State} {d : Fin 2} (hm : 4 ≤ dirGet s.mrd.miss d) (h : s.get (deadFld d) = 0) :
    ∃ t, exec (.inputDead d) s = .next t ∧ t.get (deadFld d) = 1 ∧ LogGains 19 [d, 0] s t := by
  have hdead : (s.runOver d).declareDead d = (s.runOver d).deadShown d 1 [d, 0] := State.declareDead_of_alive h
  exact ⟨_, by rw [exec_inputDead_missed hm, hdead], State.get_deadShown _ d Nat.one_lt_two _,
    logGains_deadShown (s.runOver d) d 1 _⟩

theorem inputAlive_returns {s : State} {d : Fin 2} (h : s.get (deadFld d) ≠ 0) (hh : bit s.mrd.heldDead d = false)
    (hg : 8 ≤ dirGet s.mrd.good d) :
    ∃ t, exec (.inputAlive d) s = .next t ∧ t.get (deadFld d) = 0 ∧ LogGains 19 [d, 1] s t ∧
      OnlyLogged [deadFld d] s t := by
  refine ⟨s.deadShown d 0 [d, 1], congrArg Host.Outcome.next (if_pos ?_), State.get_deadShown s d Nat.two_pos _,
    logGains_deadShown s d 0 _, onlyLogged_deadShown s d 0 _⟩
  simp [State.flag, h, hh, hg]

/-! ### The takeover (R163) -/

/-- S1 launches from the next tick, with EV026. -/
def State.tookOver (s : State) : State :=
  { (s.put R.MRD_STATUS_LAUNCH 1).raise 26 [s.chr.tick + 1] with mrd.launchFrom := s.chr.tick + 1 }

theorem exec_takeover {s : State} (h : s.mayTakeOver = true) :
    exec .takeover s = .next (s.tookOver.eachChan (List.range 128) fun t c => t.takeoverChan s.tookOver.mrd.dSeen c) := by
  change execTakeover s = _
  rw [execTakeover, if_neg (by simp [h])]
  rfl

theorem takeover_launches {s : State} (h : s.mayTakeOver = true) :
    ∃ t, exec .takeover s = .next t ∧ t.get R.MRD_STATUS_LAUNCH = 1 ∧ t.mrd.launchFrom = s.chr.tick + 1 ∧
      LogNext 26 [s.chr.tick + 1] s t := by
  have hchans : RingStands s.tookOver (s.tookOver.eachChan (List.range 128) fun t c =>
      t.takeoverChan s.tookOver.mrd.dSeen c) :=
    RingStands.foldl (fun t c => ringStands_takeoverChan t _ c) _ _
  have hlog : LogGains 26 [s.chr.tick + 1] s s.tookOver :=
    (logGains_raise (s.put R.MRD_STATUS_LAUNCH 1) 26 _).of_sameRegs (sameRegs_put s R.MRD_STATUS_LAUNCH 1) rfl rfl (by decide)
  refine ⟨_, exec_takeover h, (hchans.get R.MRD_STATUS_LAUNCH (by decide)).trans ?_, congrArg Mrd.launchFrom hchans.mrd,
    hlog.logNext hchans.queue⟩
  exact (State.get_raise _ 26 _ (by decide)).trans (State.get_put_of_lt s (by decide))

/-! ### The error counters (R169) -/

/-- A read of two counters returns them and clears them. -/
theorem readClear2_spec (s : State) {hi lo : Fld} (h : hi.key ≠ lo.key) :
    (s.readClear2 hi lo).rdata = 65536 * s.get hi + s.get lo ∧ (s.readClear2 hi lo).get hi = 0 ∧
      (s.readClear2 hi lo).get lo = 0 ∧ OnlyRead [hi, lo] s (s.readClear2 hi lo) := by
  have hregs := onlyRegs_trans (onlyRegs_put s hi 0) (onlyRegs_put (s.put hi 0) lo 0)
  refine ⟨rfl, ?_, (State.get_put_same (s.put hi 0) lo 0).trans (Nat.zero_mod _), hregs.1, rfl⟩
  exact (State.get_put_other _ h 0).trans ((State.get_put_same s hi 0).trans (Nat.zero_mod _))

/-- Settles O37. The half of an exchange is cut to 1/16 ns (log 125), and one that lacks a stamp is not valid (log 101). A break
and the takeover show their register and their event before what follows of them, which leaves the ring as it stands
(`RingStands`). -/
theorem ringMeasurementAndBreaks : Obligations.RingMeasurementAndBreaks := by
  unfold Obligations.RingMeasurementAndBreaks
  refine ⟨fun s st q h => ⟨_, exec_probe_on q h, rfl⟩,
    fun s st d f n h hf => ⟨_, exec_probeReceive_on d n h hf, rfl, rfl⟩,
    fun s st d f t1 t4 hs hf hc hq hl => ?_, fun s st d f t1 t4 m hs hf hc hq hl hd => ?_,
    fun s st d f t1 t4 h => ⟨_, exec_replyReceive_missing s st d f h, s.replyStamped_eq st d t1 t4⟩,
    ringLinkDown_declares, fun s d => inputDead_declares, fun s d => inputAlive_returns, fun s => takeover_launches,
    fun s => ⟨_, rfl, readClear2_spec s (by decide)⟩, fun s => ⟨_, rfl, readClear2_spec s (by decide)⟩⟩
  · have hst := s.replyStamped_station st d (some t1) (some t4) st
    refine ⟨_, exec_replyReceive_valid d t1 t4 hf hc hq, ?_⟩
    rw [exchange_joins (by rw [s.replyStamped_mrd]; exact hs.station_lt st) _ (by rw [hst]; exact hl), hst]
  · have hst := s.replyStamped_station st d (some t1) (some t4) st
    refine ⟨_, exec_replyReceive_valid d t1 t4 hf hc hq, ?_⟩
    rw [exchange_far (by rw [s.replyStamped_mrd]; exact hs.station_lt st) (by rw [hst]; exact hl) hd, hst]
    exact ⟨rfl, rfl⟩

end Sys2Proof.Machine

/-! The copies that return to the launcher, and the input table that they make (O34). -/

namespace Sys2Proof.Machine

/-! ### What the ring's registers and events leave of the input table -/

/-- The time, the copies of the tick and the input table of the next edge stand. -/
structure InputsStand (s t : State) : Prop where
  chr : t.chr = s.chr
  copies : t.mrd.copies = s.mrd.copies
  inNext : t.mrd.inNext = s.mrd.inNext

theorem InputsStand.refl (s : State) : InputsStand s s := ⟨rfl, rfl, rfl⟩

theorem InputsStand.trans {s t u : State} (h : InputsStand s t) (g : InputsStand t u) : InputsStand s u :=
  ⟨g.chr.trans h.chr, g.copies.trans h.copies, g.inNext.trans h.inNext⟩

theorem InputsStand.after {s t u : State} (g : InputsStand t u) (h : InputsStand s t) : InputsStand s u := h.trans g

theorem InputsStand.ite {c : Prop} [Decidable c] {s t u : State} (h : InputsStand s t) (g : InputsStand s u) :
    InputsStand s (if c then t else u) := by
  split_ifs
  · exact h
  · exact g

theorem inputsStand_put (s : State) (f : Fld) (v : Nat) : InputsStand s (s.put f v) := ⟨rfl, rfl, rfl⟩

theorem inputsStand_puts (s : State) (l : List (Fld × Nat)) : InputsStand s (s.puts l) :=
  ⟨s.puts_chr l, by rw [s.puts_mrd], by rw [s.puts_mrd]⟩

theorem inputsStand_raise (s : State) (c : Nat) (ps : List Nat) : InputsStand s (s.raise c ps) :=
  ⟨s.raise_chr c ps, by rw [s.raise_mrd], by rw [s.raise_mrd]⟩

theorem inputsStand_setStBit (s : State) (f : Nat → Fld) (a : Nat) (b : Bool) : InputsStand s (s.setStBit f a b) :=
  inputsStand_put s _ _

theorem inputsStand_refreshReady (s : State) : InputsStand s s.refreshReady := inputsStand_put s _ _

/-! ### A frame at an input of the module (R47, R150, R158, R437) -/

theorem inputsStand_yieldTo (s : State) (origin : Nat) : InputsStand s (s.yieldTo origin) := by
  have hyield : InputsStand s (((s.put R.MRD_STATUS_LAUNCH 0).put R.MRD_STATUS_YIELDED 1).raise 27 [origin]) :=
    ((inputsStand_put s _ _).trans (inputsStand_put _ _ _)).trans (inputsStand_raise _ 27 _)
  unfold State.yieldTo
  exact InputsStand.ite ((inputsStand_refreshReady _).after (hyield.trans ⟨rfl, rfl, rfl⟩)) hyield

/-- The round trip of a pass. -/
def State.rttShown (s : State) (f : RingFrame) (n : Nat) : State :=
  s.put (if f.dir = 0 then R.MRD_RTT_RTT_CW else R.MRD_RTT_RTT_CCW) (min n 65535)

/-- R154: an undeclared station is told of once. -/
def State.hopsShown (s : State) : State := ({ s with mrd.hopsTold := true } : State).raise 23 [0, 4]

theorem inputsStand_hopsShown (s : State) : InputsStand s s.hopsShown :=
  (inputsStand_raise { s with mrd.hopsTold := true } 23 _).after ⟨rfl, rfl, rfl⟩

theorem inputsStand_ownReturn (s : State) (f : RingFrame) (n : Nat) : InputsStand s (s.ownReturn f n) := by
  have hrtt : InputsStand s (s.rttShown f n) := inputsStand_put s _ _
  exact (InputsStand.refl s).ite ((hrtt.trans (inputsStand_hopsShown _)).ite hrtt)

/-- Of the announcements a C-pass carries none. -/
theorem inputsStand_hearMaster {s : State} {f : RingFrame} (h : f.ftype = 1) : InputsStand s (s.hearMaster f) := by
  have hc : f.ftype ≠ 2 := by omega
  unfold State.hearMaster
  dsimp only
  rw [if_pos hc]
  exact InputsStand.ite ⟨rfl, rfl, rfl⟩ ⟨rfl, rfl, rfl⟩

/-- A good header at an input, noted with its wrap. -/
def State.headerNoted (s : State) (f : RingFrame) : State :=
  let s := s.goodHeader (frameInput f)
  if f.wrap then { s with mrd.wrapTick := setBit s.mrd.wrapTick (frameInput f) true } else s

/-- R164: a launcher yields to the other origin. -/
def State.yielded (s : State) (f : RingFrame) : State :=
  if s.launching && f.origin != s.me then s.yieldTo f.origin else s

/-- What a good header tells the module, before its copies are kept. -/
def State.passHeard (s : State) (f : RingFrame) (n : Nat) : State :=
  let s := (s.headerNoted f).yielded f
  if s.launching then s.ownReturn f n else s.hearMaster f

theorem inputsStand_passHeard (s : State) {f : RingFrame} (n : Nat) (h : f.ftype = 1) :
    InputsStand s (s.passHeard f n) := by
  have hnoted : InputsStand s (s.headerNoted f) := InputsStand.ite ⟨rfl, rfl, rfl⟩ ⟨rfl, rfl, rfl⟩
  have hyielded : InputsStand (s.headerNoted f) ((s.headerNoted f).yielded f) :=
    (inputsStand_yieldTo _ _).ite (InputsStand.refl _)
  exact (hnoted.trans hyielded).trans ((inputsStand_ownReturn _ f n).ite (inputsStand_hearMaster h))

/-- The copies of a C-pass of the tick are kept until 99.00 µs. -/
def State.copiesKept (s : State) (f : RingFrame) : State :=
  if f.ftype = 1 ∧ f.tick = s.chr.tick ∧ s.chr.phase < 9900 then
    { s with mrd.copies := s.mrd.copies ++ f.slots.map fun x => (f.dir, x) } else s

theorem exec_passReceive_stopped {s : State} {f : RingFrame} (n : Nat)
    (h : s.dirCut (frameInput f) = true ∨ bit s.mrd.heldDead (frameInput f) = true) :
    exec (.passReceive f n) s = .next s :=
  if_pos (by obtain h | h := h <;> simp [h])

section
variable {s : State} {f : RingFrame} (n : Nat) (hi : s.inserted = true) (hcut : s.dirCut (frameInput f) = false)
  (hheld : bit s.mrd.heldDead (frameInput f) = false) (hf : f.ftype = 1 ∨ f.ftype = 2)
include hi hcut hheld hf

theorem exec_passReceive_open : exec (.passReceive f n) s =
    if !f.hcrcOk then .next (s.badHeader (frameInput f)) else .next ((s.passHeard f n).copiesKept f) :=
  if_neg (by obtain hf | hf := hf <;> simp [hi, hcut, hheld, hf])

/-- R158: a bad header is counted, and nothing of the frame is used. -/
theorem passReceive_bad (hc : f.hcrcOk = false) :
    ∃ t, exec (.passReceive f n) s = .next t ∧ t.mrd.copies = s.mrd.copies ∧
      t.get R.MRD_ERR_A_HCRC = min (s.get R.MRD_ERR_A_HCRC + 1) (2 ^ R.MRD_ERR_A_HCRC.w - 1) ∧
      t.mrd.bad = dirInc s.mrd.bad (frameInput f) ∧ OnlyRegs [R.MRD_ERR_A_HCRC] { s with mrd := t.mrd } t := by
  have hlt : min (s.get R.MRD_ERR_A_HCRC + 1) (2 ^ R.MRD_ERR_A_HCRC.w - 1) < 2 ^ R.MRD_ERR_A_HCRC.w :=
    (min_le_right _ _).trans_lt (by decide)
  refine ⟨s.badHeader (frameInput f), ?_, rfl, State.get_put_of_lt s hlt, rfl, ?_⟩
  · rw [exec_passReceive_open n hi hcut hheld hf, hc]
    rfl
  · exact onlyRegs_put { s with mrd := (s.badHeader (frameInput f)).mrd } R.MRD_ERR_A_HCRC _

end

/-- R150: the copies of a good C-pass of the tick join, when it has come in time. -/
theorem passReceive_good {s : State} {f : RingFrame} (n : Nat) (hi : s.inserted = true)
    (hcut : s.dirCut (frameInput f) = false) (hheld : bit s.mrd.heldDead (frameInput f) = false) (hf : f.ftype = 1)
    (hc : f.hcrcOk = true) (ht : f.tick = s.chr.tick) :
    ∃ t, exec (.passReceive f n) s = .next t ∧
      t.mrd.copies = (if s.chr.phase < 9900 then s.mrd.copies ++ f.slots.map (fun x => (f.dir, x)) else s.mrd.copies) := by
  have hstand := inputsStand_passHeard s n hf
  refine ⟨(s.passHeard f n).copiesKept f, ?_, ?_⟩
  · rw [exec_passReceive_open n hi hcut hheld (.inl hf), hc]
    rfl
  · simp only [State.copiesKept, hstand.chr, hf, ht, true_and]
    split_ifs
    · exact congrArg (· ++ _) hstand.copies
    · exact hstand.copies

/-! ### The input of one station (R150) -/

/-- R150: what the good copies of a station's C-slot make its input. -/
def State.inputOf (s : State) (a : Nat) : RingIn :=
  match s.goodCopies a with
  | [] => {}
  | c :: cs => if cs.all fun d => d == c then { valid := true, status := c.status, payload := c.payload } else {}

theorem State.inputOf_none {s : State} {a : Nat} (h : s.goodCopies a = []) : s.inputOf a = {} := by
  rw [State.inputOf, h]

theorem State.inputOf_agreed {s : State} {a : Nat} {c : RingSlot} {cs : List RingSlot} (h : s.goodCopies a = c :: cs)
    (he : ∀ d ∈ cs, d = c) : s.inputOf a = { valid := true, status := c.status, payload := c.payload } := by
  have hall : (cs.all fun d => d == c) = true := List.all_eq_true.2 fun d hd => beq_iff_eq.2 (he d hd)
  simp only [State.inputOf, h, hall, if_true]

theorem State.inputOf_differ {s : State} {a : Nat} {c : RingSlot} {cs : List RingSlot} (h : s.goodCopies a = c :: cs)
    (he : ∃ d ∈ cs, d ≠ c) : s.inputOf a = {} := by
  obtain ⟨d, hd, hne⟩ := he
  have hall : ¬ (cs.all fun d => d == c) = true := fun ha => hne (beq_iff_eq.1 (List.all_eq_true.1 ha d hd))
  simp only [State.inputOf, h, if_neg hall]

theorem State.inputOf_congr {s t : State} (h : t.mrd.copies = s.mrd.copies) (a : Nat) : t.inputOf a = s.inputOf a := by
  unfold State.inputOf State.goodCopies
  rw [h]

/-- Of the ring's own state the collection of a station changes its entry in the input table alone. -/
theorem State.collectOne_mrd (s : State) (a : Nat) : (s.collectOne a).mrd =
    { s.mrd with inNext := s.mrd.inNext.filter (fun p => p.1 != a) ++ [(a, s.inputOf a)] } := by
  have hgood (n : Nat) : (s.bump R.MRD_ERR_A_SLOTCRC n).goodCopies a = s.goodCopies a := rfl
  simp only [State.collectOne, hgood, State.inputOf]
  cases s.goodCopies a with
  | nil => exact State.raise_mrd _ 17 _
  | cons c cs =>
    dsimp only
    split_ifs
    · rfl
    · exact State.raise_mrd _ 18 _

/-- The input table holds what the copies make the station's input. -/
def Collected (a : Nat) (s : State) : Prop := s.mrd.inNext.find? (fun p => p.1 == a) = some (a, s.inputOf a)

theorem State.inputOf_collectOne (s : State) (b a : Nat) : (s.collectOne b).inputOf a = s.inputOf a :=
  State.inputOf_congr (by rw [State.collectOne_mrd]) a

theorem collected_collectOne_same (s : State) (a : Nat) : Collected a (s.collectOne a) := by
  rw [Collected, State.inputOf_collectOne, State.collectOne_mrd]
  exact find?_filter_append_same (p := fun p : Nat × RingIn => p.1 == a) s.mrd.inNext (beq_self_eq_true a)

theorem collected_collectOne {s : State} {a : Nat} (h : Collected a s) (b : Nat) : Collected a (s.collectOne b) := by
  by_cases hb : b = a
  · exact hb ▸ collected_collectOne_same s b
  · rw [Collected, State.inputOf_collectOne, State.collectOne_mrd]
    refine (find?_filter_append_other s.mrd.inNext (by simpa using hb) fun p hp => ?_).trans h
    rw [beq_iff_eq] at hp
    simpa [hp] using Ne.symm hb

/-- The order of the slots, and a station that has two, make no difference. -/
theorem collected_foldl {l : List Nat} {a : Nat} (h : a ∈ l) (s : State) : Collected a (l.foldl State.collectOne s) := by
  obtain ⟨l₁, l₂, rfl⟩ := List.append_of_mem h
  rw [List.foldl_append, List.foldl_cons]
  exact List.foldlRecOn (motive := Collected a) l₂ _ (collected_collectOne_same _ a) fun t ht b _ =>
    collected_collectOne ht b

theorem State.copies_foldl_collectOne (l : List Nat) (s : State) :
    (l.foldl State.collectOne s).mrd.copies = s.mrd.copies :=
  List.foldlRecOn (motive := fun t : State => t.mrd.copies = s.mrd.copies) l _ rfl fun t ht a _ => by
    rw [State.collectOne_mrd, ht]

/-! ### C_SLOT_COLLECT (R147, R150, R157, R162) -/

theorem inputsStand_notePresent (s : State) (a : Nat) (b : Bool) : InputsStand s (s.notePresent a b) := by
  have hbit := inputsStand_setStBit s R.MRD_PRESENT_BITS a b
  unfold State.notePresent
  exact hbit.ite ((inputsStand_raise _ 21 _).after (hbit.trans ⟨rfl, rfl, rfl⟩))

theorem inputsStand_noteRestart (s : State) (a : Nat) : InputsStand s (s.noteRestart a) := by
  unfold State.noteRestart
  exact InputsStand.ite ⟨rfl, rfl, rfl⟩ (InputsStand.refl s)

/-- EV024: a station's TIME_OK is lost. -/
def State.timeLost (s : State) (a : Nat) : State :=
  ({ s with mrd.timeOk := s.mrd.timeOk.filter (· != a) } : State).raise 24 [a]

theorem inputsStand_timeLost (s : State) (a : Nat) : InputsStand s (s.timeLost a) :=
  (inputsStand_raise { s with mrd.timeOk := s.mrd.timeOk.filter (· != a) } 24 _).after ⟨rfl, rfl, rfl⟩

/-- A station's TIME_OK as its STATUS tells it. -/
def State.timeNoted (s : State) (a status : Nat) : State :=
  if bit status 5 then { s with mrd.timeOk := a :: s.mrd.timeOk.filter (· != a) }
  else if s.mrd.timeOk.contains a then s.timeLost a
  else s

theorem inputsStand_timeNoted (s : State) (a status : Nat) : InputsStand s (s.timeNoted a status) := by
  unfold State.timeNoted
  exact InputsStand.ite ⟨rfl, rfl, rfl⟩ ((inputsStand_timeLost s a).ite (InputsStand.refl s))

theorem inputsStand_collectStatus (s : State) (a : Nat) : InputsStand s (s.collectStatus a) := by
  have hbits (r p : Bool) : InputsStand s ((s.setStBit R.MRD_RUN_BITS a r).notePresent a p) :=
    (inputsStand_setStBit s _ a r).trans (inputsStand_notePresent _ a p)
  unfold State.collectStatus
  split
  · exact hbits false false
  · next st _ =>
    have htime := (hbits (bit st 1) true).trans (inputsStand_timeNoted _ a st)
    exact (htime.trans (inputsStand_noteRestart _ a)).ite htime

theorem inputsStand_inputEvents (s : State) (d : Nat) : InputsStand s (s.inputEvents d) := by
  have hbad : InputsStand s (if dirGet s.mrd.badTick d = 0 then s else s.raise 16 [d, dirGet s.mrd.badTick d]) :=
    (InputsStand.refl s).ite (inputsStand_raise s 16 _)
  exact hbad.ite (hbad.trans (inputsStand_raise _ 20 _))

/-- The stations whose C-slots the module collects. -/
def State.collects (s : State) : List Nat := (s.cSlots.map (·.1)).filter fun a => a != s.me && a != s.launcher

/-- R162: the module's own station and the launcher, which fills no C-slot. -/
def State.presentShown (s : State) (la : Nat) : State :=
  if la = s.me then s.setStBit R.MRD_PRESENT_BITS s.me true
  else
    (s.setStBit R.MRD_PRESENT_BITS s.me
      (decide (2 ≤ (s.station s.me).state) && s.flag (R.MRD_CSLOT_EN s.me))).notePresent la
      (s.mrd.heardAt == some s.chr.tick)

/-- R147: every station collected has TIME_OK, the module's own too where it follows. -/
def State.allTimed (s : State) (la : Nat) (l : List Nat) (own : Station) : Bool :=
  ((l.filter fun a => (s.statusOf a).isSome).all fun a => s.mrd.timeOk.contains a) && (la == s.me || own.timeOk)

/-- The counts and flags of MRD_STATUS. -/
def State.ringShown (s : State) (la : Nat) (l : List Nat) (own : Station) : State :=
  let synton := s.allTimed la l own
  let s := if la = s.me && synton && !s.flag R.MRD_STATUS_SYNTON then s.takeDelayRef else s
  s.puts [
    (R.MRD_STATUS_PRESENT_N, ((List.range 64).filter fun a => stBit s R.MRD_PRESENT_BITS a).length),
    (R.MRD_STATUS_SYNTON, b2n synton),
    (R.MRD_STATUS_WRAP_SEEN, b2n (s.mrd.wrapTick != 0))]

/-- The tick's copies are done with. -/
def State.copiesDone (s : State) : State :=
  let s := (s.inputEvents 0).inputEvents 1
  ({ s with mrd.copies := [], mrd.badTick := (0, 0), mrd.wrapLast := s.mrd.wrapTick, mrd.wrapTick := 0 } : State).refreshReady

/-- Tables 4.23 and 4.26 for every station collected. -/
def State.statusCollected (s : State) : State :=
  s.collects.foldl State.collectStatus (s.collects.foldl State.collectOne (s.atPhase 9900))

theorem exec_cSlotCollect_inserted {s : State} (h : s.inserted = true) :
    exec .cSlotCollect s = .next (((s.statusCollected.presentShown s.launcher).ringShown s.launcher s.collects
      (s.statusCollected.station s.statusCollected.me)).copiesDone) :=
  if_neg (c := (!(s.atPhase 9900).inserted) = true) (by simp [show (s.atPhase 9900).inserted = s.inserted from rfl, h])

theorem inputsStand_presentShown (s : State) (la : Nat) : InputsStand s (s.presentShown la) :=
  (inputsStand_setStBit s _ _ true).ite ((inputsStand_setStBit s _ _ _).trans (inputsStand_notePresent _ la _))

theorem inputsStand_ringShown (s : State) (la : Nat) (l : List Nat) (own : Station) :
    InputsStand s (s.ringShown la l own) := by
  unfold State.ringShown
  exact (inputsStand_puts _ _).after (InputsStand.ite ⟨rfl, rfl, rfl⟩ (InputsStand.refl s))

theorem State.inNext_copiesDone (s : State) : s.copiesDone.mrd.inNext = s.mrd.inNext :=
  ((inputsStand_inputEvents s 0).trans (inputsStand_inputEvents _ 1)).inNext

/-- The input table after the collection: what the good copies make each station's input. -/
theorem cSlotCollect_inputs {s : State} {a : Nat} (h : s.inserted = true) (ha : a ∈ s.collects) :
    ∃ t, exec .cSlotCollect s = .next t ∧ t.mrd.copies = [] ∧
      t.mrd.inNext.find? (fun p => p.1 == a) = some (a, s.inputOf a) := by
  refine ⟨_, exec_cSlotCollect_inserted h, rfl, ?_⟩
  have hstatus : InputsStand (s.collects.foldl State.collectOne (s.atPhase 9900)) s.statusCollected :=
    List.foldlRecOn (motive := InputsStand _) s.collects _ (InputsStand.refl _) fun t ht b _ =>
      ht.trans (inputsStand_collectStatus t b)
  have hshown := (hstatus.trans (inputsStand_presentShown _ s.launcher)).trans
    (inputsStand_ringShown _ s.launcher s.collects (s.statusCollected.station s.statusCollected.me))
  have hfound : Collected a (s.collects.foldl State.collectOne (s.atPhase 9900)) := collected_foldl ha _
  rw [State.inNext_copiesDone, hshown.inNext, hfound]
  rw [State.inputOf_congr (s := s) (State.copies_foldl_collectOne s.collects (s.atPhase 9900))]

/-- Settles O34. Copies agree when STATUS and payload do (log 126); one that has not come by 99.00 µs is none (log 130). The
collection of a station changes its own entry of the input table alone (`State.collectOne_mrd`). -/
theorem ringCollection : Obligations.RingCollection := by
  unfold Obligations.RingCollection
  refine ⟨fun s f n hi hcut hheld hf => passReceive_bad n hi hcut hheld hf, fun s f n => passReceive_good n,
    fun s f n => exec_passReceive_stopped n, fun s a hi ha hme hla => ?_⟩
  have hcollects : a ∈ s.collects := List.mem_filter.2 ⟨ha, by simp [hme, hla]⟩
  obtain ⟨t, he, hcopies, hfound⟩ := cSlotCollect_inputs hi hcollects
  refine ⟨t, he, hcopies, fun hg => ?_, fun c cs hg hall => ?_, fun c cs hg hne => ?_⟩
  · rw [hfound, State.inputOf_none hg]
  · rw [hfound, State.inputOf_agreed hg hall]
  · rw [hfound, State.inputOf_differ hg hne]

end Sys2Proof.Machine

/-! The bytes of the ring's mail, and what a request leaves of the stations. -/

namespace Sys2Proof.Machine

/-! ### Little-endian numbers and padding (R9, R136) -/

theorem leNat_leBytes (n v : Nat) : leNat (leBytes n v) = v % 256 ^ n := by
  induction n generalizing v with
  | zero => exact (Nat.mod_one v).symm
  | succ n ih => rw [leBytes, leNat, ih, Nat.mod_mod, pow_succ', Nat.mod_mul]

theorem leNat_leBytes_of_lt {n v : Nat} (h : v < 256 ^ n) : leNat (leBytes n v) = v := by
  rw [leNat_leBytes, Nat.mod_eq_of_lt h]

theorem take_leBytes_append (n v : Nat) (l : List Nat) : (leBytes n v ++ l).take n = leBytes n v :=
  List.take_left' (leBytes_length n v)

theorem drop_leBytes_append (n v : Nat) (l : List Nat) : (leBytes n v ++ l).drop n = l :=
  List.drop_left' (leBytes_length n v)

/-- A list of numbers written one after another reads back, each in its width. -/
theorem natAt_flatMap_leBytes (n : Nat) (l : List Nat) :
    (List.range l.length).map (fun i => natAt (l.flatMap (leBytes n)) (n * i) n) = l.map (· % 256 ^ n) := by
  induction l with
  | nil => rfl
  | cons v l ih =>
    have hfirst : natAt ((v :: l).flatMap (leBytes n)) (n * 0) n = v % 256 ^ n := by
      rw [natAt, mul_zero, List.drop_zero, List.flatMap_cons, take_leBytes_append, leNat_leBytes]
    have hrest (i : Nat) : natAt ((v :: l).flatMap (leBytes n)) (n * (i + 1)) n = natAt (l.flatMap (leBytes n)) (n * i) n := by
      rw [natAt, List.flatMap_cons, mul_add_one, add_comm, ← List.drop_drop, drop_leBytes_append, natAt]
    rw [List.length_cons, List.range_succ_eq_map, List.map_cons, List.map_map, hfirst, List.map_cons, ← ih]
    exact congrArg _ (List.map_congr_left fun i _ => hrest i)

@[simp] theorem padTo_length (n : Nat) (l : List Nat) : (padTo n l).length = n := by
  simp [padTo]
  omega

theorem padTo_of_le {n : Nat} {l : List Nat} (h : l.length ≤ n) :
    padTo n l = l ++ List.replicate (n - l.length) 0 := by
  rw [padTo, List.take_of_length_le h]

/-- What a padded field says of its length is what it carries. -/
theorem take_padTo (n : Nat) (l : List Nat) : (padTo n l).take (min n l.length) = l.take n := by
  rw [padTo, List.take_append_of_le_length (by simp), List.take_take]
  obtain h | h := le_total n l.length
  · rw [min_eq_left h, min_self]
  · rw [min_eq_right h, min_eq_left h, List.take_length, List.take_of_length_le h]

/-! ### Requests and replies (R136) -/

/-- A mail's CRC does not cover itself. -/
@[simp] theorem mail_crcOk_seal (m : RingMail) : m.seal.crcOk = true := beq_self_eq_true (crc32 m.bytes)

/-- The request that goes out next. -/
def State.mailRequest (s : State) (addr : Nat) (bcast : Bool) (op : Nat) (payload : List Nat) : RingMail :=
  s.mailOf { addr, bcast, op, seq := (s.mrd.mailSeq + 1) % 256 } payload

theorem State.mailRequest_payload (s : State) (addr : Nat) (bcast : Bool) (op : Nat) (payload : List Nat) :
    (s.mailRequest addr bcast op payload).payload = padTo (s.get R.MRD_CFG_MAIL_LEN) payload := rfl

/-- The reply to a request. -/
def mailReply (a : Nat) (m : RingMail) (status : Nat) (p : List Nat) : RingMail :=
  RingMail.seal { addr := a, filled := true, len := min m.payload.length p.length, op := m.op, seq := m.seq, status
                  payload := padTo m.payload.length p }

theorem answer_one {x : Station} {m : RingMail} (h : m.bcast = false) (a tick status : Nat) (p : List Nat) :
    x.answer a m tick status p = { x with reply := some (tick, mailReply a m status p) } :=
  if_neg (by simp [h])

/-- Nobody answers a broadcast. -/
theorem answer_all {x : Station} {m : RingMail} (h : m.bcast = true) (a tick status : Nat) (p : List Nat) :
    x.answer a m tick status p = x := if_pos h

theorem answer_state (x : Station) (m : RingMail) (a tick status : Nat) (p : List Nat) :
    (x.answer a m tick status p).state = x.state := by
  cases h : m.bcast
  · rw [answer_one h]
  · rw [answer_all h]

/-- A request as the station notes it. -/
def Station.noted (x : Station) (m : RingMail) (tick : Nat) : Station := { x with asked := some (tick, m.seq) }

section
variable (x : Station) (a tick : Nat) (own : Bool) (id : List Nat) (m : RingMail)

theorem serve_busy : x.serve a own true id m tick = (x.noted m tick).answer a m tick 1 [] := rfl

theorem serve_loadBegin (h : m.op = 2) :
    x.serve a false false id m tick = ((x.noted m tick).beginLoad m.payload).answer a m tick 0 [] := by
  simp only [Station.serve, h, Bool.false_eq_true, and_false, reduceIte, Nat.reduceEqDiff]
  rfl

/-- R155: a block counts where it follows what the station has. -/
theorem serve_loadData (h : m.op = 3) : x.serve a false false id m tick =
    if x.state = 3 ∧ leNat (m.payload.take 4) = x.buf.length then Station.answer
      { x.noted m tick with buf := (x.buf ++ m.payload.drop 8).take x.imgLen } a m tick 0 []
    else (x.noted m tick).answer a m tick 2 [] := by
  simp only [Station.serve, h, Bool.false_eq_true, and_false, reduceIte, Nat.reduceEqDiff]
  rfl

theorem serve_loadEnd (h : m.op = 4) : x.serve a false false id m tick =
    (x.noted m tick).answer a m tick (if x.imageDigest = x.digest then 0 else 3) x.imageDigest := by
  simp only [Station.serve, h, Bool.false_eq_true, and_false, reduceIte, Nat.reduceEqDiff]
  rfl

/-- A station as it runs its image. -/
def Station.ran (x : Station) : Station :=
  { x with needLoad := false, hold := 0, state := if x.timeOk then 4 else 2 }

/-- R156: a station runs the whole image that it was to load. -/
theorem serve_run (h : m.op = 5) : x.serve a false false id m tick =
    if x.state = 3 ∧ x.imageDigest = x.digest ∧ x.buf ≠ [] then (x.noted m tick).ran.answer a m tick 0 []
    else (x.noted m tick).answer a m tick 4 [] := by
  simp only [Station.serve, h, Bool.false_eq_true, and_false, reduceIte, Nat.reduceEqDiff]
  rfl

theorem serve_snapRead (h : m.op = 6) {b : List Nat}
    (hb : x.snapBlocks (leNat (m.payload.take 6)) (m.payload.getD 6 0) m.payload.length = some b) :
    x.serve a own false id m tick = (x.noted m tick).answer a m tick 0 b := by
  simp only [Station.serve, h, Bool.false_eq_true, false_and, and_false, reduceIte, Nat.reduceEqDiff, Nat.reduceLeDiff]
  split
  · next b' hb' =>
    obtain rfl : b' = b := Option.some.inj (hb'.symm.trans hb)
    rfl
  · next hb' => cases hb'.symm.trans hb

theorem serve_stats (h : m.op = 7) : x.serve a own false id m tick =
    (x.noted m tick).answer a m tick 0 (x.counters.flatMap (leBytes 4)) := by
  simp only [Station.serve, h, Bool.false_eq_true, false_and, and_false, reduceIte, Nat.reduceEqDiff, Nat.reduceLeDiff]
  rfl

/-- R166: what a station reads out leaves its state. -/
theorem serve_state (busy : Bool) (h : 6 ≤ m.op) : (x.serve a own busy id m tick).state = x.state := by
  have h5 : ¬ (2 ≤ m.op ∧ m.op ≤ 5 ∧ own = true) := by omega
  have hop (n : Nat) (hn : n < 6) : m.op ≠ n := by omega
  unfold Station.serve
  dsimp only
  rw [if_neg h5, if_neg (hop 1 (by decide)), if_neg (hop 2 (by decide)), if_neg (hop 3 (by decide)), if_neg (hop 4 (by decide)),
    if_neg (hop 5 (by decide))]
  split_ifs
  · exact answer_state _ _ _ _ _ _
  · split <;> exact answer_state _ _ _ _ _ _
  · exact answer_state _ _ _ _ _ _
  · rfl

end

end Sys2Proof.Machine

/-! A request by mail: the stations that it reaches, and the reply that the master reads. -/

namespace Sys2Proof.Machine

/-! ### The stations that serve a request (R136, R155) -/

/-- The stations `dest` serve a request, one after another. -/
def State.mailServed (s : State) (dest : List Nat) (busy : Bool) (id : List Nat) (m : RingMail) (tick : Nat) : State :=
  dest.foldl (fun u a => u.modStation a fun x => x.asks a (a == u.me) busy id m tick) s

theorem State.mailServed_eq (s : State) (dest : List Nat) (busy : Bool) (id : List Nat) (m : RingMail) (tick : Nat) :
    s.mailServed dest busy id m tick = { s with mrd.stations := (s.mailServed dest busy id m tick).mrd.stations } :=
  List.foldlRecOn (motive := fun u : State => u = { s with mrd.stations := u.mrd.stations }) dest _ rfl fun u hu a _ => by
    rw [hu]
    rfl

theorem State.station_mailServed_other {dest : List Nat} {a : Nat} (h : a ∉ dest) (s : State) (busy : Bool) (id : List Nat)
    (m : RingMail) (tick : Nat) : (s.mailServed dest busy id m tick).station a = s.station a :=
  List.foldlRecOn (motive := fun u : State => u.station a = s.station a) dest _ rfl fun u hu _ hb =>
    (u.station_modStation_other (ne_of_mem_of_not_mem hb h).symm _).trans hu

theorem State.station_mailServed {dest : List Nat} {a : Nat} {s : State} (hn : dest.Nodup) (h : a ∈ dest)
    (hlt : a < s.mrd.stations.length) (busy : Bool) (id : List Nat) (m : RingMail) (tick : Nat) :
    (s.mailServed dest busy id m tick).station a = (s.station a).asks a (a == s.me) busy id m tick := by
  induction dest generalizing s with
  | nil => simp at h
  | cons b l ih =>
    obtain ⟨hb, hl⟩ := List.nodup_cons.1 hn
    have hstep : s.mailServed (b :: l) busy id m tick =
        (s.modStation b fun x => x.asks b (b == s.me) busy id m tick).mailServed l busy id m tick := rfl
    rw [hstep]
    obtain rfl | ha := List.mem_cons.1 h
    · rw [State.station_mailServed_other hb, State.station_modStation_same hlt]
    · have hne : a ≠ b := fun e => hb (e ▸ ha)
      rw [ih hl ha (by simpa [State.modStation] using hlt), State.station_modStation_other s hne]
      rfl

/-! ### A request that goes out -/

/-- The request as the master queues it. -/
def State.mailed (s : State) (m : RingMail) : State :=
  { s with mrd.mailSeq := m.seq, mrd.mail := s.mrd.mail ++ [m] }

theorem State.ask_eq_mailServed (s : State) (dest : List Nat) (addr : Nat) (bcast : Bool) (op : Nat) (payload : List Nat)
    (busy : Bool) (id : List Nat) : s.ask dest addr bcast op payload busy id =
      (s.mailed (s.mailRequest addr bcast op payload)).mailServed dest busy id
        (s.mailRequest addr bcast op payload) s.mailTick :=
  rfl

section
variable (s : State) (dest : List Nat) (addr : Nat) (bcast : Bool) (op : Nat) (payload : List Nat) (busy : Bool)
  (id : List Nat)

/-- A request changes the mail and the stations alone. -/
theorem State.ask_eq : s.ask dest addr bcast op payload busy id =
    { s.mailed (s.mailRequest addr bcast op payload) with
      mrd.stations := (s.ask dest addr bcast op payload busy id).mrd.stations } := by
  rw [State.ask_eq_mailServed]
  exact State.mailServed_eq _ _ _ _ _ _

theorem State.station_ask {a : Nat} (hn : dest.Nodup) (h : a ∈ dest) (hlt : a < s.mrd.stations.length) :
    (s.ask dest addr bcast op payload busy id).station a =
      (s.station a).asks a (a == s.me) busy id (s.mailRequest addr bcast op payload) s.mailTick :=
  State.station_mailServed (s := s.mailed (s.mailRequest addr bcast op payload)) hn h hlt busy id _ _

end

/-- A request to one station. -/
def State.oneRequest (s : State) (a op : Nat) (payload : List Nat) : RingMail := s.mailRequest a false op payload

theorem State.askOne_eq (s : State) (a op : Nat) (payload : List Nat) (busy : Bool) (id : List Nat) :
    s.askOne a op payload busy id = { s.mailed (s.oneRequest a op payload) with
      mrd.stations := (s.askOne a op payload busy id).mrd.stations } :=
  s.ask_eq [a] a false op payload busy id

theorem State.station_askOne {s : State} {a : Nat} (h : a < s.mrd.stations.length) (op : Nat) (payload : List Nat)
    (busy : Bool) (id : List Nat) : (s.askOne a op payload busy id).station a =
      (s.station a).asks a (a == s.me) busy id (s.oneRequest a op payload) s.mailTick :=
  s.station_ask [a] a false op payload busy id (List.nodup_singleton a) List.mem_cons_self h

theorem State.askOne_regs (s : State) (a op : Nat) (payload : List Nat) (busy : Bool) (id : List Nat) :
    (s.askOne a op payload busy id).regs = s.regs := by
  rw [State.askOne_eq]
  rfl

theorem State.askOne_me (s : State) (a op : Nat) (payload : List Nat) (busy : Bool) (id : List Nat) :
    (s.askOne a op payload busy id).me = s.me := State.get_congr (s.askOne_regs a op payload busy id) _

/-- A station from SYNC on hears the passes (Table 4.8). -/
theorem asks_of_hears {x : Station} {own : Bool} (h : 2 ≤ x.state) (a : Nat) (busy : Bool) (id : List Nat)
    (m : RingMail) (tick : Nat) : x.asks a own busy id m tick = x.serve a own busy id m tick :=
  if_pos (by simp [h])

/-- A station that does not hear the passes has nothing to answer (Table 4.8). -/
theorem asks_of_deaf {x : Station} (h : x.state < 2) (a : Nat) (busy : Bool) (id : List Nat) (m : RingMail) (tick : Nat) :
    x.asks a false busy id m tick = { x with reply := none } :=
  if_neg (by simp [h])

/-! ### The reply (R136) -/

/-- The master reads the payload as far as it says it goes. -/
theorem State.replyOf_answer {s : State} {a b tick status : Nat} {x : Station} {m : RingMail} {p : List Nat}
    (h : s.station a = x.answer b m tick status p) (hm : m.bcast = false) (hs : 3 ≤ x.state ∨ a = s.me) :
    s.replyOf a = (status, p.take m.payload.length) := by
  have hx : 3 ≤ (s.station a).state ∨ a = s.me := by rwa [h, answer_state]
  have hreply : (s.station a).reply = some (tick, mailReply b m status p) := by rw [h, answer_one hm]
  simp only [State.replyOf, hreply, if_pos hx, mailReply, RingMail.seal, take_padTo]

/-- A station in SYNC has no C-pass to carry its reply (Table 4.8). -/
theorem State.replyOf_of_sync {s : State} {a : Nat} (h : (s.station a).state < 3) (ha : a ≠ s.me) :
    s.replyOf a = (1, []) := by
  unfold State.replyOf
  split
  · exact if_neg (by omega)
  · rfl

end Sys2Proof.Machine

/-! The master's requests by mail: the topology check and the images of the nodes (O38). -/

namespace Sys2Proof.Machine

/-! ### A station that fails the topology check (R154) -/

theorem testBit_setBit_true (n i : Nat) : (setBit n i true).testBit i = true := by
  simp [setBit, Nat.testBit_or, Nat.testBit_two_pow_self]

theorem State.failStation_mrd (s : State) (a reason : Nat) : (s.failStation a reason).mrd = s.mrd :=
  State.raise_mrd _ 23 _

/-- MRD_MISM is apart from what an event reads and writes, and from RING_READY. -/
theorem mismKey_apart {a : Nat} (h : a < 64) {f : Fld}
    (hf : f ∈ [R.LOG_MASK_VALUE (23 / 32), R.ALM_MODE_MODE, R.CHR_DISC_TAI_VALID, R.LOG_LOST_VALUE, R.ALM_MODE_RING_READY]) :
    f.key ≠ (R.MRD_MISM_BITS (a / 32)).key := by
  have hkeys : ∀ i < 2, ∀ f ∈ [R.LOG_MASK_VALUE (23 / 32), R.ALM_MODE_MODE, R.CHR_DISC_TAI_VALID, R.LOG_LOST_VALUE,
      R.ALM_MODE_RING_READY], f.key ≠ (R.MRD_MISM_BITS i).key := by decide
  exact hkeys (a / 32) (by omega) f hf

theorem bit_mism_failStation (s : State) {a : Nat} (h : a < 64) (reason : Nat) :
    bit ((s.failStation a reason).get (R.MRD_MISM_BITS (a / 32))) (a % 32) = true := by
  have hready := (mismKey_apart h (f := R.ALM_MODE_RING_READY) (by simp)).symm
  have hlost := (mismKey_apart h (f := R.LOG_LOST_VALUE) (by simp)).symm
  rw [State.failStation, State.refreshReady, State.get_put_other _ hready, State.get_raise _ _ _ hlost, State.setStBit,
    State.get_put_same, bit, R.MRD_MISM_BITS, Fld.at, Nat.testBit_mod_two_pow, testBit_setBit_true]
  simp [Nat.mod_lt]

theorem logGains_failStation (s : State) {a : Nat} (h : a < 64) (reason : Nat) :
    LogGains 23 [a, reason] s (s.failStation a reason) := by
  have hraise : LogGains 23 [a, reason] s ((s.setStBit R.MRD_MISM_BITS a true).raise 23 [a, reason]) :=
    (logGains_raise _ 23 _).of_sameRegs (sameRegs_put s (R.MRD_MISM_BITS (a / 32)) _) rfl rfl fun f hf hk =>
      mismKey_apart h (List.mem_append_left [R.LOG_LOST_VALUE, R.ALM_MODE_RING_READY] hf) (List.mem_singleton.1 hk)
  exact hraise.of_log_eq rfl

/-- A request leaves what a record shows. -/
theorem LogGains.of_askOne {s t : State} {c : Nat} {ps : List Nat} {a op : Nat} {payload : List Nat} {busy : Bool}
    {id : List Nat} (g : LogGains c ps (s.askOne a op payload busy id) t) : LogGains c ps s t := by
  refine g.of_sameRegs (ks := []) (fun f _ => State.get_congr (s.askOne_regs a op payload busy id) f) ?_ ?_ (by simp)
  · rw [State.askOne_eq]
    rfl
  · rw [State.askOne_eq]
    rfl

theorem State.askOne_mail (s : State) (a op : Nat) (payload : List Nat) (busy : Bool) (id : List Nat) :
    (s.askOne a op payload busy id).mrd.mail = s.mrd.mail ++ [s.oneRequest a op payload] := by
  rw [State.askOne_eq]
  rfl

theorem State.identFault_congr {s t : State} (h : s.regs = t.regs) (a : Nat) (r : IdentReply) :
    s.identFault a r = t.identFault a r := by
  have hcfg : s.cfg = t.cfg := by
    funext type i off n
    exact State.cfg_congr h type i off n
  unfold State.identFault State.stationsN
  rw [hcfg]

/-- IDENT sent, and its reply. -/
def State.identNoted (s : State) (st : Fin 64) (r : IdentReply) : State :=
  let s := s.askOne st 1 [] false r.bytes
  { s with mrd.ident := (s.mrd.ident.filter fun (p : Nat × IdentReply) => p.1 != st.val) ++ [(st.val, r)] }

theorem State.identNoted_regs (s : State) (st : Fin 64) (r : IdentReply) : (s.identNoted st r).regs = s.regs :=
  s.askOne_regs st 1 [] false r.bytes

theorem State.identNoted_mail (s : State) (st : Fin 64) (r : IdentReply) :
    (s.identNoted st r).mrd.mail = s.mrd.mail ++ [s.oneRequest st 1 []] := s.askOne_mail st 1 [] false r.bytes

theorem State.identFault_identNoted (s : State) (st : Fin 64) (r : IdentReply) :
    (s.identNoted st r).identFault st r = s.identFault st r := State.identFault_congr (s.identNoted_regs st r) st r

theorem State.mem_ident_identNoted (s : State) (st : Fin 64) (r : IdentReply) :
    (st.val, r) ∈ (s.identNoted st r).mrd.ident := List.mem_append_right _ (List.mem_singleton_self _)

/-- The record shows nothing of the request. -/
theorem LogGains.of_identNoted {s t : State} {st : Fin 64} {r : IdentReply} {c : Nat} {ps : List Nat}
    (g : LogGains c ps (s.identNoted st r) t) : LogGains c ps s t :=
  LogGains.of_askOne (a := st) (op := 1) (payload := []) (busy := false) (id := r.bytes) g

section
variable {s : State} {st : Fin 64} (hm : s.mastering = true) (hme : s.me = 0) (hh : s.has 0x0201 st = true)
include hm hme hh

theorem execIdent_eq (r : IdentReply) : execIdent st r s = match (s.identNoted st r).identFault st r with
    | some reason => .next ((s.identNoted st r).failStation st reason)
    | none => .next (s.identNoted st r) :=
  if_neg (by simp [hm, hme, hh])

theorem exec_ident_agrees {r : IdentReply} (h : s.identFault st r = none) :
    exec (.ident st r) s = .next (s.identNoted st r) := by
  change execIdent st r s = _
  rw [execIdent_eq hm hme hh, s.identFault_identNoted, h]

theorem exec_ident_fails {r : IdentReply} {n : Nat} (h : s.identFault st r = some n) :
    exec (.ident st r) s = .next ((s.identNoted st r).failStation st n) := by
  change execIdent st r s = _
  rw [execIdent_eq hm hme hh, s.identFault_identNoted, h]

theorem ident_compares (r : IdentReply) :
    ∃ (t : State) (m : RingMail), exec (.ident st r) s = .next t ∧
      t.mrd.mail = s.mrd.mail ++ [m] ∧ m.addr = st.val ∧ m.op = 1 ∧
      m.crcOk = true ∧ (st.val, r) ∈ t.mrd.ident ∧
      (s.identFault st r = none → t.regs = s.regs) ∧
      (∀ n, s.identFault st r = some n → bit (t.get (R.MRD_MISM_BITS (st.val / 32))) (st.val % 32) = true ∧
        LogGains 23 [st.val, n] s t) := by
  have hmail := s.identNoted_mail st r
  have hident := s.mem_ident_identNoted st r
  cases hf : s.identFault st r with
  | none =>
    exact ⟨_, s.oneRequest st 1 [], exec_ident_agrees hm hme hh hf, hmail, rfl, rfl, mail_crcOk_seal _, hident,
      fun _ => s.identNoted_regs st r, nofun⟩
  | some n =>
    have hmrd := (s.identNoted st r).failStation_mrd st n
    refine ⟨_, s.oneRequest st 1 [], exec_ident_fails hm hme hh hf, hmrd ▸ hmail, rfl, rfl, mail_crcOk_seal _,
      hmrd ▸ hident, nofun, fun k hk => ?_⟩
    obtain rfl : n = k := Option.some.inj hk
    exact ⟨bit_mism_failStation _ st.isLt n, (logGains_failStation (s.identNoted st r) st.isLt n).of_identNoted⟩

theorem identTimeout_fails (h : ∀ p ∈ s.mrd.ident, p.1 ≠ st.val) :
    ∃ t, exec (.identTimeout st) s = .next t ∧
      bit (t.get (R.MRD_MISM_BITS (st.val / 32))) (st.val % 32) = true ∧ LogGains 23 [st.val, 0] s t := by
  have hnone : s.mrd.ident.any (fun (p : Nat × IdentReply) => p.1 == st.val) = false := by simpa using h
  exact ⟨_, congrArg Host.Outcome.next (if_pos (by simp [hm, hme, hh, hnone])), bit_mism_failStation s st.isLt 0,
    logGains_failStation s st.isLt 0⟩

end

/-! ### Node images (R155 to R157) -/

theorem State.nodup_assigned (s : State) (img : Nat) : (s.assigned img).Nodup := (List.nodup_range.filter _).filter _

/-- The module's own station takes no image by mail. -/
theorem State.mem_assigned {s : State} {img a : Nat} (h : a ∈ s.assigned img) : a < 64 ∧ a ≠ s.me := by
  obtain ⟨hd, ha⟩ := List.mem_filter.1 h
  rw [Bool.and_eq_true, bne_iff_ne] at ha
  exact ⟨List.mem_range.1 (List.mem_filter.1 hd).1, ha.1⟩

/-- What a broadcast about an image does to a station that hears it. -/
theorem State.station_broadcast {s : State} {img a : Nat} (hs : s.Shaped) (ha : a ∈ s.assigned img)
    (h2 : 2 ≤ (s.station a).state) (op : Nat) (payload : List Nat) :
    (s.ask (s.assigned img) img true op payload false []).station a =
      (s.station a).serve a false false [] (s.mailRequest img true op payload) s.mailTick := by
  obtain ⟨hlt, hme⟩ := State.mem_assigned ha
  obtain ⟨-, hst, -⟩ := hs
  rw [State.station_ask s _ img true op payload false [] (s.nodup_assigned img) ha (by omega),
    asks_of_hears h2, beq_false_of_ne hme]

/-- Table 4.14: what LOAD_BEGIN carries. -/
def loadHeader (len entry : Nat) (digest : List Nat) : List Nat := leBytes 4 len ++ leBytes 4 entry ++ digest

theorem beginLoad_loadHeader (x : Station) {n len entry : Nat} {digest : List Nat} (hn : 64 ≤ n) (hl : len < 2 ^ 32)
    (he : entry < 2 ^ 32) (hd : digest.length = 32) :
    x.beginLoad (padTo n (loadHeader len entry digest)) =
      { x with state := 3, needLoad := true, outSafe := true, buf := [], imgLen := len, entry := entry, digest := digest } := by
  have hlen : (loadHeader len entry digest).length ≤ n := by
    simp only [loadHeader, List.length_append, leBytes_length, hd]
    omega
  have hbody : ∃ z, padTo n (loadHeader len entry digest) = leBytes 4 len ++ (leBytes 4 entry ++ (digest ++ z)) :=
    ⟨_, by rw [padTo_of_le hlen, loadHeader, List.append_assoc, List.append_assoc]⟩
  obtain ⟨z, hz⟩ := hbody
  have hdrop8 : (leBytes 4 len ++ (leBytes 4 entry ++ (digest ++ z))).drop 8 = digest ++ z := by
    rw [← List.drop_drop (i := 4) (j := 4), drop_leBytes_append, drop_leBytes_append]
  rw [hz, Station.beginLoad, hdrop8, drop_leBytes_append, take_leBytes_append, take_leBytes_append,
    leNat_leBytes_of_lt hl, leNat_leBytes_of_lt he, List.take_left' hd]

/-- A broadcast load begun. -/
def State.loadBegun (s : State) (img : Nat) (header : List Nat) : State :=
  { s.ask (s.assigned img) img true 2 header false [] with
    mrd.loads := ((s.ask (s.assigned img) img true 2 header false []).mrd.loads.filter fun l => l.1 != img) ++
      [(img, none, 0)]
    mrd.reload := (s.ask (s.assigned img) img true 2 header false []).mrd.reload.filter fun a => some a != none }

theorem exec_loadBegin_all {s : State} {img entry : Nat} {bytes digest : List Nat} (hm : s.mastering = true)
    (hi : s.nodeImage img = some (bytes, entry, digest)) (hr : ∀ a ∈ s.mrd.reload, s.cfg 0x0201 a 0x13 1 ≠ img) :
    exec (.loadBegin img) s = .next (s.loadBegun img (loadHeader bytes.length entry digest)) := by
  have halone : (s.mrd.reload.find? fun a => s.cfg 0x0201 a 0x13 1 == img) = none :=
    List.find?_eq_none.2 fun a ha => by simpa using hr a ha
  change execLoadBegin img s = _
  rw [execLoadBegin, hm, hi]
  dsimp only
  rw [halone]
  rfl

theorem State.ask_mail (s : State) (dest : List Nat) (addr : Nat) (bcast : Bool) (op : Nat) (payload : List Nat)
    (busy : Bool) (id : List Nat) : (s.ask dest addr bcast op payload busy id).mrd.mail =
      s.mrd.mail ++ [s.mailRequest addr bcast op payload] := by
  rw [State.ask_eq]
  rfl

theorem loadBegin_begins {s : State} {img entry : Nat} {bytes digest : List Nat} (hm : s.mastering = true) (hs : s.Shaped)
    (hi : s.nodeImage img = some (bytes, entry, digest)) (hr : ∀ a ∈ s.mrd.reload, s.cfg 0x0201 a 0x13 1 ≠ img)
    (hn : 64 ≤ s.get R.MRD_CFG_MAIL_LEN) (hl : bytes.length < 2 ^ 32) (he : entry < 2 ^ 32) (hd : digest.length = 32) :
    ∃ (t : State) (m : RingMail), exec (.loadBegin img) s = .next t ∧
      t.mrd.mail = s.mrd.mail ++ [m] ∧ m.addr = img ∧ m.bcast = true ∧ m.op = 2 ∧
      (img, none, 0) ∈ t.mrd.loads ∧
      ∀ a ∈ s.assigned img, 2 ≤ (s.station a).state → (t.station a).buf = [] ∧
        (t.station a).imgLen = bytes.length ∧ (t.station a).entry = entry ∧ (t.station a).needLoad = true ∧
        (t.station a).digest = digest ∧ (t.station a).state = 3 := by
  refine ⟨_, s.mailRequest img true 2 (loadHeader bytes.length entry digest), exec_loadBegin_all hm hi hr,
    s.ask_mail _ img true 2 _ false [], rfl, rfl, rfl, by simp [State.loadBegun], fun a ha h2 => ?_⟩
  have hst : (s.loadBegun img (loadHeader bytes.length entry digest)).station a = _ :=
    State.station_broadcast hs ha h2 2 (loadHeader bytes.length entry digest)
  rw [hst, serve_loadBegin _ _ _ _ _ rfl, answer_all rfl, State.mailRequest_payload, beginLoad_loadHeader _ hn hl he hd]
  exact ⟨rfl, rfl, rfl, rfl, rfl, rfl⟩

/-- Table 4.14: what LOAD_DATA carries. -/
def loadBlock (off : Nat) (bytes : List Nat) (n : Nat) : List Nat :=
  leBytes 4 off ++ [0, 0, 0, 0] ++ (bytes.drop off).take (n - 8)

theorem padTo_loadBlock {off n : Nat} {bytes : List Nat} (hn : 8 ≤ n) : padTo n (loadBlock off bytes n) =
    leBytes 4 off ++ ([0, 0, 0, 0] ++ ((bytes.drop off).take (n - 8) ++
      List.replicate (n - 8 - (bytes.length - off)) 0)) := by
  have hlen : (loadBlock off bytes n).length = 8 + min (n - 8) (bytes.length - off) := by
    simp [loadBlock]
    omega
  have hzeros : n - (8 + min (n - 8) (bytes.length - off)) = n - 8 - (bytes.length - off) := by omega
  rw [padTo_of_le (by omega), hlen, hzeros, loadBlock, List.append_assoc, List.append_assoc]

/-- R155: the padding after the last block is beyond the image. -/
theorem take_append_block {off n : Nat} {bytes buf : List Nat} (ho : buf.length = off) (hle : off ≤ bytes.length) :
    (buf ++ ((bytes.drop off).take n ++ List.replicate (n - (bytes.length - off)) 0)).take bytes.length =
      buf ++ (bytes.drop off).take n := by
  obtain h | h := le_total n (bytes.length - off)
  · rw [Nat.sub_eq_zero_of_le h, List.replicate_zero, List.append_nil]
    exact List.take_of_length_le (by simp; omega)
  · have hlen : (buf ++ (bytes.drop off).take n).length = bytes.length := by
      simp
      omega
    rw [← List.append_assoc, List.take_left' hlen]

theorem serve_loadBlock {x : Station} {a tick off n : Nat} {m : RingMail} {bytes : List Nat} (hop : m.op = 3)
    (hb : m.bcast = true) (hp : m.payload = padTo n (loadBlock off bytes n)) (hn : 8 ≤ n) (hle : off ≤ bytes.length)
    (hoff : off < 2 ^ 32) (hst : x.state = 3) (hbuf : x.buf.length = off) (hl : x.imgLen = bytes.length) :
    (x.serve a false false [] m tick).buf = x.buf ++ (bytes.drop off).take (n - 8) := by
  have hpay := hp.trans (padTo_loadBlock hn)
  have hnum : leNat (m.payload.take 4) = x.buf.length := by
    rw [hpay, take_leBytes_append, leNat_leBytes_of_lt hoff, hbuf]
  have hdrop : m.payload.drop 8 = (bytes.drop off).take (n - 8) ++ List.replicate (n - 8 - (bytes.length - off)) 0 := by
    rw [hpay, ← List.drop_drop (i := 4) (j := 4), drop_leBytes_append]
    rfl
  rw [serve_loadData _ _ _ _ _ hop, if_pos ⟨hst, hnum⟩, answer_all hb, hdrop, hl]
  exact take_append_block hbuf hle

/-- A block of a broadcast load sent. -/
def State.blockSent (s : State) (img off : Nat) (bytes : List Nat) : State :=
  let t := s.ask (s.assigned img) img true 3 (loadBlock off bytes (s.get R.MRD_CFG_MAIL_LEN)) false []
  { t with mrd.loads := t.mrd.loads.map fun (l : Nat × Option Nat × Nat) =>
    if l.1 = img then (img, none, off + (s.get R.MRD_CFG_MAIL_LEN - 8)) else l }

theorem exec_loadData_all {s : State} {img entry off : Nat} {bytes digest : List Nat} (hm : s.mastering = true)
    (hi : s.nodeImage img = some (bytes, entry, digest))
    (hl : s.mrd.loads.find? (fun l => l.1 == img) = some (img, none, off)) :
    exec (.loadData img) s = .next (s.blockSent img off bytes) := by
  change execLoadData img s = _
  rw [execLoadData, hm, hi, hl]
  rfl

theorem loadData_appends {s : State} {img entry off : Nat} {bytes digest : List Nat} (hm : s.mastering = true)
    (hs : s.Shaped) (hi : s.nodeImage img = some (bytes, entry, digest)) (hn : 64 ≤ s.get R.MRD_CFG_MAIL_LEN)
    (hle : off ≤ bytes.length) (hoff : off < 2 ^ 32)
    (hl : s.mrd.loads.find? (fun l => l.1 == img) = some (img, none, off)) :
    ∃ (t : State) (m : RingMail), exec (.loadData img) s = .next t ∧
      t.mrd.mail = s.mrd.mail ++ [m] ∧ m.op = 3 ∧
      ∀ a ∈ s.assigned img, (s.station a).state = 3 → (s.station a).buf.length = off →
        (s.station a).imgLen = bytes.length →
        (t.station a).buf = (s.station a).buf ++ (bytes.drop off).take (s.get R.MRD_CFG_MAIL_LEN - 8) := by
  refine ⟨_, s.mailRequest img true 3 (loadBlock off bytes (s.get R.MRD_CFG_MAIL_LEN)), exec_loadData_all hm hi hl,
    s.ask_mail _ img true 3 _ false [], rfl, fun a ha h3 hbuf hlen => ?_⟩
  have hst : (s.blockSent img off bytes).station a = _ := State.station_broadcast hs ha (by omega) 3 _
  rw [hst]
  exact serve_loadBlock rfl rfl rfl (by omega) hle hoff h3 hbuf hlen

end Sys2Proof.Machine

/-! The master's requests by mail: the end of a load, RUN, and what is read of the stations (O38). -/

namespace Sys2Proof.Machine

/-! ### A request to a station that is loaded or runs (R155, R156, R166) -/

/-- What a request to a station other than the module's own finds. -/
theorem State.station_askOne_other {s : State} {st : Fin 64} (hs : s.Shaped) (hme : st.val ≠ s.me)
    (h2 : 2 ≤ (s.station st).state) (op : Nat) (payload : List Nat) (busy : Bool) (id : List Nat) :
    (s.askOne st op payload busy id).station st =
      (s.station st).serve st false busy id (s.oneRequest st op payload) s.mailTick := by
  rw [State.station_askOne (hs.station_lt st), asks_of_hears h2, beq_false_of_ne hme]

/-- Loads of a station that have failed, with the one that now ends. -/
def State.loadTry (s : State) (a : Nat) : Nat :=
  (((s.mrd.loadTries.find? fun p => p.1 == a).map (·.2)).getD 0) + 1

/-- The failed loads of the other stations. -/
def State.otherTries (s : State) (a : Nat) : List (Nat × Nat) := s.mrd.loadTries.filter fun p => p.1 != a

/-- R156: what the answer to LOAD_END means for the station's load. -/
def State.loadEnded (s : State) (st : Fin 64) (status : Nat) : State :=
  if status = 0 then { s with mrd.loadTries := s.otherTries st }
  else if s.loadTry st < 3 then
    { s with mrd.loadTries := s.otherTries st ++ [(st.val, s.loadTry st)], mrd.reload := s.mrd.reload ++ [st.val] }
  else
    (({ s with mrd.loadTries := s.otherTries st, mrd.loadFailed := s.mrd.loadFailed ++ [st.val] } : State).raise 22
      [st, status]).refreshReady

theorem exec_loadEnd_loading {s : State} {st : Fin 64} (hm : s.mastering = true) (h3 : (s.station st).state = 3) :
    exec (.loadEnd st) s =
      .next ((s.askOne st 4 []).loadEnded st ((s.askOne st 4 []).replyOf st).1) := by
  change execLoadEnd st s = _
  rw [execLoadEnd, if_neg (by simp [hm, h3]), State.loadEnded, apply_ite Host.Outcome.next, apply_ite Host.Outcome.next]
  rfl

theorem replyOf_loadEnd {s : State} {st : Fin 64} (hs : s.Shaped) (h3 : (s.station st).state = 3) (hme : st.val ≠ s.me) :
    ((s.askOne st 4 []).replyOf st).1 = if (s.station st).imageDigest = (s.station st).digest then 0 else 3 := by
  have hst := State.station_askOne_other hs hme (by omega) 4 [] false []
  rw [serve_loadEnd _ _ _ _ _ rfl] at hst
  rw [State.replyOf_answer hst rfl (.inl (by simp [Station.noted, h3]))]

theorem State.loadTry_askOne (s : State) (a op : Nat) (payload : List Nat) (b : Nat) :
    (s.askOne a op payload).loadTry b = s.loadTry b := by
  rw [State.askOne_eq]
  rfl

theorem State.loadEnded_mail (s : State) (st : Fin 64) (status : Nat) : (s.loadEnded st status).mrd.mail = s.mrd.mail := by
  unfold State.loadEnded
  split_ifs
  · rfl
  · rfl
  · rw [State.refreshReady, State.put_mrd, State.raise_mrd]

theorem loadEnded_whole (s : State) (st : Fin 64) :
    (s.loadEnded st 0).mrd.loadFailed = s.mrd.loadFailed ∧ ∀ p ∈ (s.loadEnded st 0).mrd.loadTries, p.1 ≠ st.val := by
  rw [State.loadEnded, if_pos rfl]
  exact ⟨rfl, fun p hp => by simpa using (List.mem_filter.1 hp).2⟩

theorem loadEnded_again {s : State} {st : Fin 64} {status : Nat} (hs : status ≠ 0) (ht : s.loadTry st = 1) :
    st.val ∈ (s.loadEnded st status).mrd.reload ∧ (st.val, 1) ∈ (s.loadEnded st status).mrd.loadTries := by
  rw [State.loadEnded, if_neg hs, if_pos (by omega), ht]
  exact ⟨by simp, by simp⟩

theorem loadEnded_failed {s : State} {st : Fin 64} {status : Nat} (hs : status ≠ 0) (ht : s.loadTry st = 3) :
    st.val ∈ (s.loadEnded st status).mrd.loadFailed ∧ LogGains 22 [st, status] s (s.loadEnded st status) := by
  rw [State.loadEnded, if_neg hs, if_neg (by omega)]
  refine ⟨?_, ?_⟩
  · rw [State.refreshReady, State.put_mrd, State.raise_mrd]
    simp
  · exact logGains_raise { s with mrd.loadTries := s.otherTries st, mrd.loadFailed := s.mrd.loadFailed ++ [st.val] } 22
      [st, status]

theorem loadEnd_decides {s : State} {st : Fin 64} (hm : s.mastering = true) (hs : s.Shaped)
    (h3 : (s.station st).state = 3) (hme : st.val ≠ s.me) :
    ∃ (t : State) (m : RingMail), exec (.loadEnd st) s = .next t ∧
      t.mrd.mail = s.mrd.mail ++ [m] ∧ m.addr = st.val ∧ m.op = 4 ∧
      ((s.station st).imageDigest = (s.station st).digest → t.mrd.loadFailed = s.mrd.loadFailed ∧
        ∀ p ∈ t.mrd.loadTries, p.1 ≠ st.val) ∧
      ((s.station st).imageDigest ≠ (s.station st).digest →
        s.mrd.loadTries.find? (fun p => p.1 == st.val) = some (st.val, 2) →
        st.val ∈ t.mrd.loadFailed ∧ LogGains 22 [st, 3] s t) ∧
      ((s.station st).imageDigest ≠ (s.station st).digest → (∀ p ∈ s.mrd.loadTries, p.1 ≠ st.val) →
        st.val ∈ t.mrd.reload ∧ (st.val, 1) ∈ t.mrd.loadTries) := by
  have htry := s.loadTry_askOne st 4 [] st
  have hfailed : (s.askOne st 4 []).mrd.loadFailed = s.mrd.loadFailed := by rw [State.askOne_eq]; rfl
  refine ⟨_, s.oneRequest st 4 [], exec_loadEnd_loading hm h3, by rw [State.loadEnded_mail, State.askOne_mail], rfl, rfl,
    ?_⟩
  rw [replyOf_loadEnd hs h3 hme]
  refine ⟨fun hd => ?_, fun hd ht => ?_, fun hd ht => ?_⟩
  · rw [if_pos hd, ← hfailed]
    exact loadEnded_whole _ st
  · have h2 : s.loadTry st = 3 := by simp [State.loadTry, ht]
    rw [if_neg hd]
    obtain ⟨hmem, hlog⟩ := loadEnded_failed (status := 3) (by decide) (htry.trans h2)
    exact ⟨hmem, hlog.of_askOne⟩
  · have hnone : s.mrd.loadTries.find? (fun p => p.1 == st.val) = none :=
      List.find?_eq_none.2 fun p hp => by simpa using ht p hp
    have h0 : s.loadTry st = 1 := by simp [State.loadTry, hnone]
    rw [if_neg hd]
    exact loadEnded_again (by decide) (htry.trans h0)

/-! ### RUN (R69, R144, R156) -/

/-- The station runs its image: this start's load is done. -/
def State.runNoted (s : State) (st : Fin 64) (tick : Nat) : State :=
  { s with
    mrd.loaded := st.val :: s.mrd.loaded.filter (· != st.val)
    mrd.ranAt := (st.val, tick) :: s.mrd.ranAt.filter fun (p : Nat × Nat) => p.1 != st.val }

theorem exec_run_masters {s : State} (st : Fin 64) (busy : Bool) (hm : s.mastering = true) : exec (.run st busy) s =
    .next (if ((s.askOne st 5 [] busy).replyOf st).1 = 0 then (s.askOne st 5 [] busy).runNoted st s.mailTick
      else s.askOne st 5 [] busy) :=
  if_neg (by simp [hm])

theorem run_starts {s : State} {st : Fin 64} (hm : s.mastering = true) (hs : s.Shaped) (h3 : (s.station st).state = 3)
    (hme : st.val ≠ s.me) (hd : (s.station st).imageDigest = (s.station st).digest) (hb : (s.station st).buf ≠ []) :
    ∃ (t : State) (m : RingMail), exec (.run st false) s = .next t ∧ (t.station st).needLoad = false ∧
      (t.station st).state = (if (s.station st).timeOk then 4 else 2) ∧
      ((s.station st).timeOk = true → st.val ∈ t.mrd.loaded) ∧
      t.mrd.mail = s.mrd.mail ++ [m] ∧ m.addr = st.val ∧ m.op = 5 := by
  have hst := State.station_askOne_other hs hme (by omega) 5 [] false []
  rw [serve_run _ _ _ _ _ rfl, if_pos ⟨h3, hd, hb⟩] at hst
  have hran : ((s.askOne st 5 []).station st).needLoad = false ∧
      ((s.askOne st 5 []).station st).state = if (s.station st).timeOk then 4 else 2 := by
    rw [hst, answer_state, answer_one rfl]
    exact ⟨rfl, rfl⟩
  obtain ⟨hload, hstate⟩ := hran
  have hmail := s.askOne_mail st 5 [] false []
  have hexec := exec_run_masters st false hm
  cases ht : (s.station st).timeOk with
  | true =>
    have hreply : ((s.askOne st 5 []).replyOf st).1 = 0 := by
      rw [State.replyOf_answer hst rfl (.inl (by simp [Station.noted, Station.ran, ht]))]
    rw [if_pos hreply] at hexec
    exact ⟨_, s.oneRequest st 5 [], hexec, hload, ht ▸ hstate, fun _ => List.mem_cons_self, hmail, rfl, rfl⟩
  | false =>
    have hreply : ((s.askOne st 5 []).replyOf st).1 = 1 := by
      rw [State.replyOf_of_sync (by simp [hstate, ht]) (by rwa [State.askOne_me])]
    rw [if_neg (by omega)] at hexec
    exact ⟨_, s.oneRequest st 5 [], hexec, hload, ht ▸ hstate, nofun, hmail, rfl, rfl⟩

/-! ### SNAP_READ (R155, R166) -/

/-- Table 4.14: what SNAP_READ carries. -/
def snapRequest (t first : Nat) : List Nat := leBytes 6 t ++ [first % 256, 0]

theorem padTo_snapRequest {n t first : Nat} (hn : 8 ≤ n) (ht : t < 2 ^ 48) (hf : first < 256) :
    leNat ((padTo n (snapRequest t first)).take 6) = t ∧ (padTo n (snapRequest t first)).getD 6 0 = first := by
  have hlen : (snapRequest t first).length = 8 := by simp [snapRequest]
  rw [padTo_of_le (by omega), snapRequest, List.append_assoc, take_leBytes_append, leNat_leBytes_of_lt ht]
  refine ⟨rfl, ?_⟩
  rw [List.getD_append_right _ _ _ _ (by simp)]
  simp [Nat.mod_eq_of_lt hf]

/-- A mail holds the blocks that it asks for. -/
theorem snapBlocks_length {x : Station} {t first n : Nat} {b : List Nat} (h : x.snapBlocks t first n = some b) :
    b.length ≤ n := by
  obtain ⟨y, -, rfl⟩ := Option.map_eq_some_iff.1 h
  have hmul := Nat.mul_div_le (n - 8) 64
  rw [List.length_take]
  omega

/-- The blocks read out. -/
def State.snapNoted (s : State) (st : Fin 64) (slot : Fin 4) (first : Nat) (blocks : List Nat) : State :=
  { s with mrd.snapRead := (s.mrd.snapRead.filter fun p => !(p.1 == st.val && p.2.1 == slot.val && p.2.2.1 == first)) ++
      [(st.val, slot.val, first, blocks)] }

/-- The state after the request of SNAP_READ has gone out. -/
def State.snapAskedOf (s : State) (st : Fin 64) (slot : Fin 4) (first : Nat) (busy : Bool) : State :=
  s.askOne st 6 (snapRequest (s.chr.snaps.getD slot {}).t first) busy

theorem exec_snapRead_masters {s : State} (st : Fin 64) (slot : Fin 4) (first : Nat) (busy : Bool)
    (hm : s.mastering = true) : exec (.snapRead st slot first busy) s =
      .next (if ((s.snapAskedOf st slot first busy).replyOf st).1 = 0 then
        (s.snapAskedOf st slot first busy).snapNoted st slot first ((s.snapAskedOf st slot first busy).replyOf st).2
      else s.snapAskedOf st slot first busy) :=
  if_neg (by simp [hm])

theorem State.snapAskedOf_mrd (s : State) (st : Fin 64) (slot : Fin 4) (first : Nat) (busy : Bool) :
    (s.snapAskedOf st slot first busy).mrd.mail =
        s.mrd.mail ++ [s.oneRequest st 6 (snapRequest (s.chr.snaps.getD slot {}).t first)] ∧
      (s.snapAskedOf st slot first busy).mrd.snapRead = s.mrd.snapRead := by
  rw [State.snapAskedOf, State.askOne_eq]
  exact ⟨rfl, rfl⟩

theorem State.station_snapAskedOf {s : State} (st : Fin 64) (hs : s.Shaped) (h2 : 2 ≤ (s.station st).state)
    (slot : Fin 4) (first : Nat) (busy : Bool) : (s.snapAskedOf st slot first busy).station st =
      (s.station st).serve st (st.val == s.me) busy [] (s.oneRequest st 6 (snapRequest (s.chr.snaps.getD slot {}).t first))
        s.mailTick := by
  rw [State.snapAskedOf, State.station_askOne (hs.station_lt st), asks_of_hears h2]

theorem snapRead_reads {s : State} {st : Fin 64} {k : Fin 4} {n : Nat} {busy : Bool} (hm : s.mastering = true)
    (hs : s.Shaped) (hlen : 64 ≤ s.get R.MRD_CFG_MAIL_LEN) (hn : n < 256) (ht : (s.chr.snaps.getD k {}).t < 2 ^ 48)
    (h3 : 3 ≤ (s.station st).state) :
    ∃ (t : State) (m : RingMail), exec (.snapRead st k n busy) s = .next t ∧
      t.mrd.mail = s.mrd.mail ++ [m] ∧ m.addr = st.val ∧ m.op = 6 ∧
      (busy = true → t.mrd.snapRead = s.mrd.snapRead) ∧
      (∀ b, busy = false →
        (s.station st).snapBlocks (s.chr.snaps.getD k {}).t n (s.get R.MRD_CFG_MAIL_LEN) = some b →
        (st.val, k.val, n, b) ∈ t.mrd.snapRead) := by
  obtain ⟨hmail, hkept⟩ := s.snapAskedOf_mrd st k n busy
  have hst := State.station_snapAskedOf st hs (by omega) k n busy
  refine ⟨_, s.oneRequest st 6 (snapRequest (s.chr.snaps.getD k {}).t n), exec_snapRead_masters st k n busy hm, ?_, rfl, rfl,
    fun hb => ?_, fun b hb hblocks => ?_⟩
  · split_ifs <;> exact hmail
  · rw [hb, serve_busy] at hst
    have hreply := State.replyOf_answer hst rfl (.inl h3)
    rw [hb] at hkept ⊢
    rw [hreply, if_neg Nat.one_ne_zero, hkept]
  · obtain ⟨hat, hfirst⟩ := padTo_snapRequest (n := s.get R.MRD_CFG_MAIL_LEN) (by omega) ht hn
    have hserve := serve_snapRead (s.station st) st s.mailTick (st.val == s.me) []
      (s.oneRequest st 6 (snapRequest (s.chr.snaps.getD k {}).t n)) rfl (b := b)
    rw [State.oneRequest, State.mailRequest_payload, hat, hfirst, padTo_length] at hserve
    rw [hb, State.oneRequest, hserve hblocks] at hst
    have hreply := State.replyOf_answer hst rfl (.inl h3)
    rw [State.mailRequest_payload, padTo_length, List.take_of_length_le (snapBlocks_length hblocks)] at hreply
    rw [hb, hreply, if_pos rfl]
    exact List.mem_append_right _ (List.mem_singleton_self _)

/-! ### STATS (Table 4.14) -/

/-- The counters read out. -/
def State.statsNoted (s : State) (st : Fin 64) (bytes : List Nat) : State :=
  { s with mrd.stats := (s.mrd.stats.filter fun p => p.1 != st.val) ++
      [(st.val, (List.range 16).map fun i => natAt bytes (4 * i) 4)] }

theorem exec_stats_masters {s : State} (st : Fin 64) (hm : s.mastering = true) : exec (.stats st) s =
    .next (if ((s.askOne st 7 []).replyOf st).1 = 0 then
      (s.askOne st 7 []).statsNoted st ((s.askOne st 7 []).replyOf st).2 else s.askOne st 7 []) :=
  if_neg (by simp [hm])

/-- Sixteen counters of four bytes. -/
theorem counters_length (x : Station) : x.counters.length = 16 ∧ (x.counters.flatMap (leBytes 4)).length = 64 := by
  simp [Station.counters]

/-- The master reads the counters as the station wrote them, each in 32 bits. -/
theorem counters_read (x : Station) :
    (List.range 16).map (fun i => natAt (x.counters.flatMap (leBytes 4)) (4 * i) 4) = x.counters.map (· % 2 ^ 32) :=
  natAt_flatMap_leBytes 4 x.counters

theorem stats_reads {s : State} {st : Fin 64} (hm : s.mastering = true) (hs : s.Shaped)
    (hlen : 64 ≤ s.get R.MRD_CFG_MAIL_LEN) (h3 : 3 ≤ (s.station st).state) :
    ∃ (t : State) (m : RingMail) (l : List Nat), exec (.stats st) s = .next t ∧
      t.mrd.mail = s.mrd.mail ++ [m] ∧ m.op = 7 ∧ (st.val, l) ∈ t.mrd.stats ∧
      l.length = 16 ∧ l.take 6 = [(s.station st).cntHcrc.1, (s.station st).cntHcrc.2, (s.station st).cntSlot,
        (s.station st).cntMiss, (s.station st).cntDiff, (s.station st).cntProbe].map (· % 2 ^ 32) := by
  obtain ⟨hsixteen, hbytes⟩ := counters_length (s.station st)
  have hst : (s.askOne st 7 []).station st = _ := State.station_askOne (hs.station_lt st) 7 [] false []
  rw [asks_of_hears (by omega), serve_stats _ _ _ _ _ _ rfl] at hst
  have hreply := State.replyOf_answer hst rfl (.inl h3)
  rw [State.oneRequest, State.mailRequest_payload, padTo_length, List.take_of_length_le (by omega)] at hreply
  refine ⟨_, s.oneRequest st 7 [], (s.station st).counters.map (· % 2 ^ 32), exec_stats_masters st hm, ?_, rfl, ?_,
    by simp [hsixteen], rfl⟩
  · rw [hreply, if_pos rfl]
    exact s.askOne_mail st 7 [] false []
  · rw [hreply, if_pos rfl, ← counters_read]
    exact List.mem_append_right _ (List.mem_singleton_self _)

/-! ### A station that answers nothing (Table 4.8) -/

/-- A station that is OFF or in LISTEN hears no request, and one in SYNC sends no reply. -/
theorem replyOf_askOne_silent {s : State} {st : Fin 64} (hs : s.Shaped) (h3 : (s.station st).state < 3)
    (hme : st.val ≠ s.me) {op : Nat} (hop : 6 ≤ op) (payload : List Nat) (busy : Bool) :
    (s.askOne st op payload busy).replyOf st = (1, []) := by
  have hstate : ((s.askOne st op payload busy).station st).state = (s.station st).state := by
    rw [State.station_askOne (hs.station_lt st), beq_false_of_ne hme]
    by_cases h2 : 2 ≤ (s.station st).state
    · rw [asks_of_hears h2]
      exact serve_state (s.station st) st s.mailTick false [] (s.oneRequest st op payload) busy hop
    · rw [asks_of_deaf (by omega)]
  exact State.replyOf_of_sync (by omega) (by rwa [State.askOne_me])

/-- Settles O38. A request that a station serves is the whole exchange of its command, it reaches a node from SYNC on, and only
LOADING, RUN and SAFE answer it (log 56). Each command goes by `State.ask`, which changes the mail and the stations alone, and by
what `Station.serve` makes of its operation. -/
theorem ringMailCommands : Obligations.RingMailCommands := by
  unfold Obligations.RingMailCommands
  refine ⟨fun s st r hm hme hh => ident_compares hm hme hh r, fun s st hm hme hh => identTimeout_fails hm hme hh,
    fun s img entry bytes digest => loadBegin_begins, fun s img entry off bytes digest => loadData_appends,
    fun s st => loadEnd_decides, fun s st => run_starts, fun s st k n busy => snapRead_reads, fun s st => stats_reads,
    fun s st k n busy hm hs h3 hme =>
      ⟨⟨_, exec_stats_masters st hm, ?_⟩, ⟨_, exec_snapRead_masters st k n busy hm, ?_⟩⟩⟩
  · rw [replyOf_askOne_silent hs h3 hme (by decide), if_neg (by decide), State.askOne_eq]
    rfl
  · rw [State.snapAskedOf, replyOf_askOne_silent hs h3 hme (by decide), if_neg (by decide)]
    obtain ⟨-, hkept⟩ := s.snapAskedOf_mrd st k n busy
    exact hkept

end Sys2Proof.Machine

/-! What the output instant may change of a channel (R176, R218), as what each of its steps does (O40). -/

namespace Sys2Proof.Machine

theorem exec_outputApply (ch : Fin 128) (s : State) : exec (.outputApply ch) s = execOutputApply ch s := rfl

/-! ### What an output instant may change -/

/-- The registers that an output instant may write beside the contacts and the count of lost records. -/
def outFlds (c : Nat) : List Fld := [R.HLM_CHRAW_VALUE c, R.HLM_CHST_STATE c, R.HLM_HOV_ACTIVE c, R.HLM_HOVD_VALUE c]

theorem chanKey_outFlds (c : Nat) : ∀ f ∈ outFlds c, chanKey c f.key := by
  simp only [outFlds, List.forall_mem_cons, List.not_mem_nil, false_imp_iff, implies_true, and_true, chanKey,
    R.HLM_CHRAW_VALUE, R.HLM_CHST_STATE, R.HLM_HOV_ACTIVE, R.HLM_HOVD_VALUE, Fld.at]
  omega

/-- A channel's own part in its output instant; its event is the one of a return to RUN (R212). -/
structure OutputOnly (c : Nat) (s t : State) : Prop extends ChansOnly [c] s t where
  regs : SameRegs (outFlds c ++ [R.DIO_OUT_STATE, R.LOG_LOST_VALUE]) s t
  quiet : (s.chan c).back = false → (t.chan c).back = false ∧ t.log = s.log

theorem OutputOnly.refl (c : Nat) (s : State) : OutputOnly c s s :=
  ⟨ChansOnly.refl _ s, fun _ _ => rfl, fun h => ⟨h, rfl⟩⟩

theorem OutputOnly.trans {c : Nat} {s t u : State} (h : OutputOnly c s t) (g : OutputOnly c t u) : OutputOnly c s u :=
  ⟨h.toChansOnly.trans g.toChansOnly, fun f hf => (g.regs f hf).trans (h.regs f hf), fun hs =>
    have ⟨ht, htlog⟩ := h.quiet hs
    have ⟨hu, hulog⟩ := g.quiet ht
    ⟨hu, hulog.trans htlog⟩⟩

theorem outputOnly_put (s : State) {c : Nat} {f : Fld} (v : Nat) (h : f ∈ outFlds c) : OutputOnly c s (s.put f v) where
  toChansOnly := chansOnly_put s v (.inl ⟨c, List.mem_singleton_self c, chanKey_outFlds c f h⟩)
  regs g hg := State.get_put_other s (fun hk : g.key = f.key => hg (hk ▸ List.mem_map_of_mem (List.mem_append_left _ h))) v
  quiet h := ⟨h, rfl⟩

theorem outputOnly_puts {c : Nat} (es : List (Fld × Nat)) (s : State) (h : ∀ e ∈ es, e.1 ∈ outFlds c) :
    OutputOnly c s (s.puts es) := by
  induction es generalizing s with
  | nil => exact OutputOnly.refl c s
  | cons e es ih =>
    exact (outputOnly_put s e.2 (h e List.mem_cons_self)).trans (ih _ fun x hx => h x (List.mem_cons_of_mem _ hx))

theorem outputOnly_sinkWrite (s : State) (c : Nat) (v : Int) : OutputOnly c s (s.sinkWrite c v) where
  toChansOnly := chansOnly_sinkWrite s c v
  regs f hf := by
    simp only [outFlds, List.map_append, List.map_cons, List.map_nil, List.mem_append, List.mem_cons, List.not_mem_nil,
      or_false, not_or] at hf
    obtain ⟨⟨hraw, -⟩, hcontacts, -⟩ := hf
    exact (State.get_sinkWrite s v hcontacts).trans (State.get_put_other s hraw _)
  quiet h := by rw [State.chan_congr (s.sinkWrite_hlm c v), State.sinkWrite_log]; exact ⟨h, rfl⟩

/-! ### The return to RUN -/

/-- The record of a channel is changed, or there is none. -/
theorem State.chan_modChan_cases (s : State) (c : Nat) (f : Chan → Chan) :
    (s.modChan c f).chan c = f (s.chan c) ∨ (s.modChan c f).chan c = s.chan c := by
  by_cases h : c < s.hlm.chans.length
  · exact .inl (State.chan_modChan h f)
  · refine .inr ?_
    rw [State.chan, State.chan, State.modChan, List.getD_eq_default _ _ (by simpa using h),
      List.getD_eq_default _ _ (by simpa using h)]

/-- A channel in RUN, before the event of its return. -/
def State.runEntered (s : State) (c : Nat) : State :=
  (s.put (R.HLM_CHST_STATE c) 2).modChan c fun x => { x with back := false, missed := 0 }

theorem State.enterRun_eq (s : State) (c : Nat) :
    s.enterRun c = if (s.chan c).back then (s.runEntered c).chEvent c 0x02 (s.chan c).missed else s.runEntered c := rfl

theorem chansOnly_runEntered (s : State) (c : Nat) : ChansOnly [c] s (s.runEntered c) :=
  (chansOnly_chState s c 2).trans (chansOnly_modChan _ _ (List.mem_singleton_self c))

theorem chansOnly_enterRun (s : State) (c : Nat) : ChansOnly [c] s (s.enterRun c) := by
  rw [State.enterRun_eq]
  split_ifs
  · exact (chansOnly_runEntered s c).trans (chansOnly_raise [c] _ _ _)
  · exact chansOnly_runEntered s c

theorem State.get_enterRun (s : State) {c : Nat} {f : Fld} (hst : f.key ≠ (R.HLM_CHST_STATE c).key)
    (hlost : f.key ≠ R.LOG_LOST_VALUE.key) : (s.enterRun c).get f = s.get f := by
  have hrun : (s.runEntered c).get f = s.get f := State.get_put_other s hst 2
  rw [State.enterRun_eq]
  split_ifs
  · exact (State.get_raise _ _ _ hlost).trans hrun
  · exact hrun

theorem outputOnly_enterRun (s : State) (c : Nat) : OutputOnly c s (s.enterRun c) where
  toChansOnly := chansOnly_enterRun s c
  regs f hf := by
    simp only [outFlds, List.map_append, List.map_cons, List.map_nil, List.mem_append, List.mem_cons, List.not_mem_nil,
      or_false, not_or] at hf
    obtain ⟨⟨-, hst, -⟩, -, hlost⟩ := hf
    exact s.get_enterRun hst hlost
  quiet h := by
    rw [State.enterRun_eq, if_neg (by simp [h])]
    refine ⟨?_, rfl⟩
    obtain e | e :=
      State.chan_modChan_cases (s.put (R.HLM_CHST_STATE c) 2) c fun x => { x with back := false, missed := 0 }
    · exact congrArg Chan.back e
    · exact (congrArg Chan.back e).trans h

/-! ### One step of a hand-over (R218) -/

/-- How far the applied value is from a target. -/
theorem hoMove_distance (a t : Int) : (if t ≥ a then t - a else a - t) = (t - a).natAbs := by
  split_ifs <;> omega

/-- The hand-over has come to its target's value, or takes the last step to it. -/
def State.hoArrives (s : State) (c : Nat) (t : Int) (rate : Nat) : Prop :=
  bits (s.chanB c 0x1C 4) 28 4 = 2 ∨
    ((t - s.applied c).natAbs : Int) ≤ max (s.hctl c 0x08 4 : Int) (hoStep rate (s.kNow c))

/-- The sink at the target's value, the hand-over over. -/
def State.hoDone (s : State) (c : Nat) (t : Int) : State :=
  (s.puts [(R.HLM_HOV_ACTIVE c, 0), (R.HLM_HOVD_VALUE c, 0)]).sinkWrite c t

/-- The sink one step on. -/
def State.hoNear (s : State) (c : Nat) (t a : Int) : State :=
  (s.put (R.HLM_HOVD_VALUE c) (ofInt 32 (satS 32 (t - a)))).sinkWrite c a

theorem State.hoMove_arrived {s : State} {c : Nat} {t : Int} {rate : Nat} (h : s.hoArrives c t rate) :
    s.hoMove c t rate =
      if ((s.hoDone c t).chan c).target = 2 then (s.hoDone c t).enterRun c
      else (s.hoDone c t).put (R.HLM_CHST_STATE c) ((s.hoDone c t).chan c).target := by
  refine if_pos ?_
  rw [Bool.or_eq_true, beq_iff_eq, decide_eq_true_iff, hoMove_distance]
  exact h

theorem State.hoMove_moving {s : State} {c : Nat} {t : Int} {rate : Nat} (h : ¬ s.hoArrives c t rate) :
    s.hoMove c t rate = s.hoNear c t
      (if t > s.applied c then s.applied c + hoStep rate (s.kNow c) else s.applied c - hoStep rate (s.kNow c)) := by
  refine if_neg ?_
  rw [Bool.or_eq_true, beq_iff_eq, decide_eq_true_iff, hoMove_distance]
  exact h

theorem outputOnly_hoMove (s : State) (c : Nat) (t : Int) (rate : Nat) : OutputOnly c s (s.hoMove c t rate) := by
  have hdone : OutputOnly c s (s.hoDone c t) :=
    (outputOnly_puts _ s (by simp [outFlds])).trans (outputOnly_sinkWrite _ c t)
  by_cases h : s.hoArrives c t rate
  · rw [State.hoMove_arrived h]
    split_ifs
    · exact hdone.trans (outputOnly_enterRun _ c)
    · exact hdone.trans (outputOnly_put _ _ (by simp [outFlds]))
  · rw [State.hoMove_moving h]
    exact (outputOnly_put s _ (by simp [outFlds])).trans (outputOnly_sinkWrite _ c _)

/-! ### The output instant -/

/-- R218: the rate of a hand-over, toward SAFE_RAW after the law or in general. -/
def State.hoRate (s : State) (c : Nat) : Nat :=
  s.hctl c (if (s.chan c).svc.isNone && (s.chan c).target != 2 && s.get (R.HLM_HOV_CAUSE c) == 1 then 0x04 else 0x00) 4

/-- The output instant of a channel in HANDOVER. -/
def State.outputHo (s : State) (c : Nat) : State :=
  if (s.chan c).paused then s
  else match s.hoTarget c with
    | some v => s.hoMove c v (s.hoRate c)
    | none => s

/-- The value that the state of a channel gives its sink; in HOLD, or in RUN without a result, none. -/
def State.outputVal (s : State) (c : Nat) : Option Int :=
  (s.chan c).svc.or
    (if s.chState c = 2 then if s.inMan c then some (s.manRaw c) else (s.chan c).result
      else if s.chState c = 3 then none else some (s.safeRaw c))

theorem State.outputStep_off {s : State} {c : Nat} (h : s.sinkOff c = true) : s.outputStep c = s.sinkWrite c 0 := if_pos h

theorem State.outputStep_reset {s : State} {c : Nat} (hoff : s.sinkOff c = false) (h : s.chState c = 5) :
    s.outputStep c = s.sinkWrite c (s.safeRaw c) :=
  (if_neg (by simp [hoff])).trans (if_pos h)

theorem State.outputStep_handover {s : State} {c : Nat} (hoff : s.sinkOff c = false) (h : s.chState c = 6) :
    s.outputStep c = s.outputHo c :=
  (if_neg (by simp [hoff])).trans ((if_neg (by omega)).trans (if_pos h))

theorem State.outputStep_steady {s : State} {c : Nat} (hoff : s.sinkOff c = false) (h5 : s.chState c ≠ 5)
    (h6 : s.chState c ≠ 6) : s.outputStep c = (s.outputVal c).elim s (s.sinkWrite c) := by
  refine (if_neg (by simp [hoff])).trans ((if_neg h5).trans ((if_neg h6).trans ?_))
  rw [State.outputVal]
  cases (s.chan c).svc with
  | some v => rfl
  | none =>
    split_ifs
    · rfl
    · cases (s.chan c).result <;> rfl
    · rfl
    · rfl

/-- The output instant leaves the sink, writes a value into it, or moves a hand-over toward one. -/
theorem State.outputStep_cases (s : State) (c : Nat) :
    s.outputStep c = s ∨ (∃ v, s.outputStep c = s.sinkWrite c v) ∨ ∃ v rate, s.outputStep c = s.hoMove c v rate := by
  by_cases hoff : s.sinkOff c = true
  · exact .inr (.inl ⟨_, State.outputStep_off hoff⟩)
  have hoff : s.sinkOff c = false := by simpa using hoff
  by_cases h5 : s.chState c = 5
  · exact .inr (.inl ⟨_, State.outputStep_reset hoff h5⟩)
  by_cases h6 : s.chState c = 6
  · rw [State.outputStep_handover hoff h6, State.outputHo]
    split_ifs
    · exact .inl rfl
    · cases s.hoTarget c with
      | none => exact .inl rfl
      | some v => exact .inr (.inr ⟨v, _, rfl⟩)
  · rw [State.outputStep_steady hoff h5 h6]
    cases s.outputVal c with
    | none => exact .inl rfl
    | some v => exact .inr (.inl ⟨v, rfl⟩)

theorem outputOnly_outputStep (s : State) (c : Nat) : OutputOnly c s (s.outputStep c) := by
  obtain e | ⟨v, e⟩ | ⟨v, rate, e⟩ := s.outputStep_cases c <;> rw [e]
  · exact OutputOnly.refl c s
  · exact outputOnly_sinkWrite s c v
  · exact outputOnly_hoMove s c v rate

end Sys2Proof.Machine

/-! What the sink holds after the output instant (R176, R218, R221, R234), and through a reset (O40). -/

namespace Sys2Proof.Machine

/-! ### A value in the sink -/

theorem State.pc_sinkWrite {s : State} {c : Nat} (v : Int) (hs : s.dio.pcs.length = 16) (hoff : s.sinkOff c = false)
    (hkind : bits (s.chanB c 0x1C 4) 28 4 = 1) :
    ((s.sinkWrite c v).dio.pcs.getD (bits (s.chanB c 0x1C 4) 0 4) {}).val = v := by
  have hn : bits (s.chanB c 0x1C 4) 0 4 < s.dio.pcs.length := by
    rw [hs]
    exact Nat.mod_lt _ (by decide)
  rw [State.sinkWrite_eq, if_pos hkind, State.sinkVal, if_neg (by simp [hoff]), State.modPc]
  exact congrArg Pc.val (getD_modify_same _ hn {})

theorem testBit_setBit_same (n i : Nat) (b : Bool) : (setBit n i b).testBit i = b := by
  cases b with
  | false => exact testBit_setBit_false n i
  | true => exact testBit_setBit_true n i

theorem State.dioOut_rawShown (s : State) (c : Nat) (v : Int) (hc : c < 128) (n : Nat) :
    (s.rawShown c v).dioOut n = s.dioOut n := by
  have hground : SameGround s (s.rawShown c v) :=
    (chansOnly_put s _ (.inl ⟨c, List.mem_singleton_self c, chanKey_CHRAW c⟩)).sameGround (by simpa using hc)
  rw [State.dioOut, State.dioOut, hground.cfg]
  rfl

theorem State.contact_sinkWrite {s : State} {c : Nat} (v : Int) (hc : c < 128) (hoff : s.sinkOff c = false)
    (hkind : bits (s.chanB c 0x1C 4) 28 4 = 2) :
    bit ((s.sinkWrite c v).get R.DIO_OUT_STATE) (bits (s.chanB c 0x1C 4) 0 4) =
      (v != 0 && s.dioOut (bits (s.chanB c 0x1C 4) 0 4)) := by
  have hn : bits (s.chanB c 0x1C 4) 0 4 < R.DIO_OUT_STATE.w := Nat.mod_lt _ (by decide)
  rw [State.sinkWrite_eq, if_neg (by omega), if_pos hkind, State.sinkVal, if_neg (by simp [hoff]), State.get_put_same,
    bit, Nat.testBit_mod_two_pow, testBit_setBit_same, State.dioOut_rawShown _ _ _ hc, decide_eq_true hn, Bool.true_and]

theorem State.applied_sinkWrite {s : State} {c : Nat} {v : Int} (hc : c < 128) (hoff : s.sinkOff c = false)
    (hlo : -2 ^ 31 ≤ v) (hhi : v < 2 ^ 31) : (s.sinkWrite c v).applied c = v := by
  rw [State.applied, State.get_sinkWrite_raw s hc, if_neg (by simp [hoff]), toInt_ofInt hlo hhi]

/-- A value for a sink fits HLM_CHRAW (R178, R180). -/
theorem satSink_bounds (dst : Nat) (x : Int) : -2 ^ 31 ≤ satSink dst x ∧ satSink dst x < 2 ^ 31 := by
  unfold satSink satS clamp
  split_ifs <;> omega

/-! ### A hand-over's step -/

/-- Where a hand-over's step to SAFE_RAW leads (R218). -/
def HoStepped (c : Nat) (t : Int) (rate : Nat) (s u : State) : Prop :=
  (u.applied c = t ∧ u.get (R.HLM_HOV_ACTIVE c) = 0 ∧ u.chState c = (s.chan c).target % 8) ∨
    (u.chState c = s.chState c ∧ (s.hctl c 0x08 4 : Int) < (t - s.applied c).natAbs ∧
      ((s.applied c < t ∧ u.applied c = s.applied c + hoStep rate (s.kNow c)) ∨
        (t < s.applied c ∧ u.applied c = s.applied c - hoStep rate (s.kNow c))))

theorem hoStep_pos (rate k : Nat) : 1 ≤ hoStep rate k := Int.le_max_left _ _

section
variable {s : State} {c : Nat} (hc : c < 128) (hoff : s.sinkOff c = false)
include hc hoff

theorem State.hoDone_shown {t : Int} (hlo : -2 ^ 31 ≤ t) (hhi : t < 2 ^ 31) :
    (s.hoDone c t).applied c = t ∧ (s.hoDone c t).get (R.HLM_HOV_ACTIVE c) = 0 := by
  have hputs : OutputOnly c s (s.puts [(R.HLM_HOV_ACTIVE c, 0), (R.HLM_HOVD_VALUE c, 0)]) :=
    outputOnly_puts _ s (by simp [outFlds])
  have hoff' := (hputs.sameGround (by simpa using hc)).sinkOff c
  have hactive : R.HLM_HOV_ACTIVE c ∈ outFlds c := by simp [outFlds]
  have hraw : (R.HLM_HOV_ACTIVE c).key ≠ (R.HLM_CHRAW_VALUE c).key := by
    simp only [R.HLM_HOV_ACTIVE, R.HLM_CHRAW_VALUE, Fld.at]
    omega
  have hnodup : ([(R.HLM_HOV_ACTIVE c, 0), (R.HLM_HOVD_VALUE c, 0)].map fun e : Fld × Nat => e.1.key).Nodup := by
    simp only [List.map_cons, List.map_nil, List.nodup_cons, List.mem_singleton, List.not_mem_nil, not_false_eq_true,
      List.nodup_nil, and_true, R.HLM_HOV_ACTIVE, R.HLM_HOVD_VALUE, Fld.at]
    omega
  refine ⟨State.applied_sinkWrite hc (hoff'.trans hoff) hlo hhi, ?_⟩
  rw [State.hoDone, State.get_sinkWrite _ _ (contacts_ne hc (chanKey_outFlds c _ hactive)), State.rawShown,
    State.get_put_other _ hraw, State.get_puts_mem hnodup List.mem_cons_self]
  rfl

theorem State.hoNear_shown {t a : Int} (hlo : -2 ^ 31 ≤ a) (hhi : a < 2 ^ 31) :
    (s.hoNear c t a).applied c = a ∧ (s.hoNear c t a).chState c = s.chState c := by
  have hput : OutputOnly c s (s.put (R.HLM_HOVD_VALUE c) (ofInt 32 (satS 32 (t - a)))) :=
    outputOnly_put s _ (by simp [outFlds])
  have hoff' := (hput.sameGround (by simpa using hc)).sinkOff c
  have hkeys : (R.HLM_CHST_STATE c).key ≠ (R.HLM_CHRAW_VALUE c).key ∧
      (R.HLM_CHST_STATE c).key ≠ (R.HLM_HOVD_VALUE c).key := by
    simp only [R.HLM_CHST_STATE, R.HLM_CHRAW_VALUE, R.HLM_HOVD_VALUE, Fld.at]
    omega
  refine ⟨State.applied_sinkWrite hc (hoff'.trans hoff) hlo hhi, ?_⟩
  rw [State.chState, State.hoNear, State.get_sinkWrite _ _ (contacts_ne hc (chanKey_CHST_STATE c)), State.rawShown,
    State.get_put_other _ hkeys.1, State.get_put_other _ hkeys.2]
  rfl

theorem hoStepped_hoMove {t : Int} (hlo : -2 ^ 31 ≤ t) (hhi : t < 2 ^ 31) (rate : Nat)
    (hkind : bits (s.chanB c 0x1C 4) 28 4 ≠ 2) (htarget : (s.chan c).target ≠ 2) :
    HoStepped c t rate s (s.hoMove c t rate) := by
  by_cases h : s.hoArrives c t rate
  · obtain ⟨happlied, hactive⟩ := State.hoDone_shown hc hoff hlo hhi
    have hchan : ((s.hoDone c t).chan c).target = (s.chan c).target := by
      rw [State.hoDone, State.chan_congr (State.sinkWrite_hlm _ c t), State.chan_congr (State.puts_hlm _ _)]
    have hkeys : (R.HLM_CHRAW_VALUE c).key ≠ (R.HLM_CHST_STATE c).key ∧
        (R.HLM_HOV_ACTIVE c).key ≠ (R.HLM_CHST_STATE c).key := by
      simp only [R.HLM_CHST_STATE, R.HLM_CHRAW_VALUE, R.HLM_HOV_ACTIVE, Fld.at]
      omega
    rw [State.hoMove_arrived h, hchan, if_neg htarget]
    refine .inl ⟨?_, ?_, State.get_put_same _ _ _⟩
    · rw [State.applied, State.get_put_other _ hkeys.1]
      exact happlied
    · rw [State.get_put_other _ hkeys.2, hactive]
  · have hfar : max (s.hctl c 0x08 4 : Int) (hoStep rate (s.kNow c)) < ((t - s.applied c).natAbs : Int) := by
      simpa only [State.hoArrives, hkind, false_or, not_le] using h
    obtain ⟨hclose, hstep⟩ := max_lt_iff.1 hfar
    have hpos := hoStep_pos rate (s.kNow c)
    obtain ⟨hamin, hamax⟩ := toInt_bounds (s.get (R.HLM_CHRAW_VALUE c))
    rw [← State.applied] at hamin hamax
    rw [State.hoMove_moving h]
    split_ifs with hup
    · obtain ⟨happlied, hst⟩ :=
        State.hoNear_shown (t := t) (a := s.applied c + hoStep rate (s.kNow c)) hc hoff (by omega) (by omega)
      exact .inr ⟨hst, hclose, .inl ⟨hup, happlied⟩⟩
    · obtain ⟨happlied, hst⟩ :=
        State.hoNear_shown (t := t) (a := s.applied c - hoStep rate (s.kNow c)) hc hoff (by omega) (by omega)
      exact .inr ⟨hst, hclose, .inr ⟨by omega, happlied⟩⟩

end

/-! ### The output instant -/

/-- The result is gone, and a pause lasts one output instant. -/
def Chan.outputDone (x : Chan) : Chan := { x with result := none, paused := false }

/-- What the output instant of a channel does where it is due. -/
def State.outputApplied (s : State) (c : Nat) : State := ((s.outputStep c).modChan c Chan.outputDone).mailboxSink c

/-- The mailbox takes the value at the coming edge (R384): now the registers, the outputs and the Logbook stand. -/
theorem State.mailboxSink_eq (s : State) (c : Nat) : s.mailboxSink c = { s with spd := (s.mailboxSink c).spd } := by
  unfold State.mailboxSink
  dsimp only
  split_ifs <;> rfl

theorem State.outputApplied_eq (s : State) (c : Nat) :
    s.outputApplied c = { (s.outputStep c).modChan c Chan.outputDone with spd := (s.outputApplied c).spd } :=
  State.mailboxSink_eq _ c

theorem State.get_outputApplied (s : State) (c : Nat) (f : Fld) : (s.outputApplied c).get f = (s.outputStep c).get f := by
  rw [State.outputApplied_eq]
  rfl

theorem State.dio_outputApplied (s : State) (c : Nat) : (s.outputApplied c).dio = (s.outputStep c).dio := by
  rw [State.outputApplied_eq]
  rfl

theorem State.log_outputApplied (s : State) (c : Nat) : (s.outputApplied c).log = (s.outputStep c).log := by
  rw [State.outputApplied_eq]
  rfl

theorem State.chan_outputApplied (s : State) (c d : Nat) :
    (s.outputApplied c).chan d = ((s.outputStep c).modChan c Chan.outputDone).chan d := by
  rw [State.outputApplied_eq]
  rfl

theorem outputApply_idle (s : State) (ch : Fin 128)
    (h : s.outputsOn = false ∨ s.chanOn ch = false ∨ s.dueNow ch = false) : exec (.outputApply ch) s = .next s := by
  rw [exec_outputApply, execOutputApply, if_neg]
  rcases h with h | h | h <;> simp [h]

theorem exec_outputApply_due {s : State} {ch : Fin 128} (hout : s.outputsOn = true) (hon : s.chanOn ch = true)
    (hdue : s.dueNow ch = true) : exec (.outputApply ch) s = .next (s.outputApplied ch) := by
  rw [exec_outputApply, execOutputApply, if_pos (by simp [hout, hon, hdue])]
  rfl

/-- In HANDOVER with a cause that leads to SAFE_RAW the target's value is SAFE_RAW, and its rate that of R218. -/
theorem State.outputStep_toSafe {s : State} {c : Nat} (hoff : s.sinkOff c = false) (hsvc : (s.chan c).svc = none)
    (h6 : s.chState c = 6) (hpaused : (s.chan c).paused = false) (hcause : s.get (R.HLM_HOV_CAUSE c) = 1)
    (htarget : (s.chan c).target ≠ 2) : s.outputStep c = s.hoMove c (s.safeRaw c) (s.hctl c 0x04 4) := by
  have hto : s.hoTarget c = some (s.safeRaw c) := by
    unfold State.hoTarget
    dsimp only
    rw [hsvc]
    exact if_pos htarget
  have hrate : s.hoRate c = s.hctl c 0x04 4 := by
    rw [State.hoRate, if_pos (by simp [hsvc, htarget, hcause])]
  rw [State.outputStep_handover hoff h6, State.outputHo, if_neg (by simp [hpaused]), hto, hrate]

theorem State.raw_outputStep {s : State} {ch : Fin 128} (hoff : s.sinkOff ch = false) {v : Int}
    (h : s.outputStep ch = s.sinkWrite ch v) : (s.outputApplied ch).get (R.HLM_CHRAW_VALUE ch) = ofInt 32 v := by
  rw [State.get_outputApplied, h, State.get_sinkWrite_raw s ch.isLt, if_neg (by simp [hoff])]

section
variable {s : State} {ch : Fin 128} (hoff : s.sinkOff ch = false) (hsvc : (s.chan ch).svc = none)
include hoff hsvc

/-- Outside RESET and HANDOVER the sink takes the value that the channel's state gives it. -/
theorem State.outputStep_val {v : Int} (h5 : s.chState ch ≠ 5) (h6 : s.chState ch ≠ 6)
    (hv : (if s.chState ch = 2 then if s.inMan ch then some (s.manRaw ch) else (s.chan ch).result
      else if s.chState ch = 3 then none else some (s.safeRaw ch)) = some v) :
    s.outputStep ch = s.sinkWrite ch v := by
  rw [State.outputStep_steady hoff h5 h6, State.outputVal, hsvc, Option.none_or, hv, Option.elim_some]

theorem outputApplied_run (hs : s.Shaped) (h2 : s.chState ch = 2) (hauto : s.inMan ch = false) {v : Int}
    (hv : (s.chan ch).result = some v) :
    (s.outputApplied ch).get (R.HLM_CHRAW_VALUE ch) = ofInt 32 v ∧
      (bits (s.chanB ch 0x1C 4) 28 4 = 1 →
        ((s.outputApplied ch).dio.pcs.getD (bits (s.chanB ch 0x1C 4) 0 4) {}).val = v) ∧
      (bits (s.chanB ch 0x1C 4) 28 4 = 2 →
        bit ((s.outputApplied ch).get R.DIO_OUT_STATE) (bits (s.chanB ch 0x1C 4) 0 4) =
          (v != 0 && s.dioOut (bits (s.chanB ch 0x1C 4) 0 4))) := by
  obtain ⟨-, -, -, hpcs, -⟩ := hs
  have hstep : s.outputStep ch = s.sinkWrite ch v :=
    State.outputStep_val hoff hsvc (by omega) (by omega) (by rw [if_pos h2, if_neg (by simp [hauto]), hv])
  refine ⟨State.raw_outputStep hoff hstep, fun hkind => ?_, fun hkind => ?_⟩
  · rw [State.dio_outputApplied, hstep]
    exact State.pc_sinkWrite v hpcs hoff hkind
  · rw [State.get_outputApplied, hstep]
    exact State.contact_sinkWrite v ch.isLt hoff hkind

theorem outputApplied_safe (hst : s.chState ch ∈ [1, 4, 5]) :
    (s.outputApplied ch).get (R.HLM_CHRAW_VALUE ch) = ofInt 32 (s.safeRaw ch) := by
  refine State.raw_outputStep hoff ?_
  by_cases h5 : s.chState ch = 5
  · exact State.outputStep_reset hoff h5
  · have hst : s.chState ch = 1 ∨ s.chState ch = 4 := by simpa [h5] using hst
    exact State.outputStep_val hoff hsvc h5 (by omega) (by rw [if_neg (by omega), if_neg (by omega)])

theorem outputApplied_hold (h3 : s.chState ch = 3) :
    (s.outputApplied ch).get (R.HLM_CHRAW_VALUE ch) = s.get (R.HLM_CHRAW_VALUE ch) := by
  rw [State.get_outputApplied, State.outputStep_steady hoff (by omega) (by omega), State.outputVal, hsvc, Option.none_or,
    if_neg (by omega), if_pos h3, Option.elim_none]

theorem outputApplied_toSafe (h6 : s.chState ch = 6) (hpaused : (s.chan ch).paused = false)
    (hcause : s.get (R.HLM_HOV_CAUSE ch) = 1) (htarget : (s.chan ch).target ≠ 2)
    (hkind : bits (s.chanB ch 0x1C 4) 28 4 ≠ 2) :
    HoStepped ch (s.safeRaw ch) (s.hctl ch 0x04 4) s (s.outputApplied ch) := by
  obtain ⟨hlo, hhi⟩ := satSink_bounds (s.chanB ch 0x1C 4) (s.chanI ch 0x78 4)
  have hsteps := hoStepped_hoMove ch.isLt hoff hlo hhi (s.hctl ch 0x04 4) hkind htarget
  simp only [HoStepped, State.applied, State.chState, State.get_outputApplied,
    State.outputStep_toSafe hoff hsvc h6 hpaused hcause htarget] at hsteps ⊢
  exact hsteps

end

theorem outputApplied_paused {s : State} {ch : Fin 128} (hoff : s.sinkOff ch = false) (h6 : s.chState ch = 6)
    (hpaused : (s.chan ch).paused = true) (f : Fld) : (s.outputApplied ch).get f = s.get f := by
  rw [State.get_outputApplied, State.outputStep_handover hoff h6, State.outputHo, if_pos hpaused]

theorem outputApplied_off {s : State} {ch : Fin 128} (hoff : s.sinkOff ch = true) :
    (s.outputApplied ch).get (R.HLM_CHRAW_VALUE ch) = 0 := by
  rw [State.get_outputApplied, State.outputStep_off hoff, State.get_sinkWrite_raw s ch.isLt, if_pos hoff]

theorem outputApplied_others (s : State) {c d : Nat} (hd : d < 128) (hne : d ≠ c) :
    (s.outputApplied c).chan d = s.chan d ∧ (s.outputApplied c).chState d = s.chState d ∧
      (s.outputApplied c).applied d = s.applied d := by
  have honly := (outputOnly_outputStep s c).toChansOnly
  have hnot : d ∉ [c] := mt List.mem_singleton.1 hne
  refine ⟨?_, ?_, ?_⟩
  · rw [State.chan_outputApplied]
    exact ((chansOnly_modChan _ Chan.outputDone (List.mem_singleton_self c)).chan d hnot).trans (honly.chan d hnot)
  · exact (State.get_outputApplied s c _).trans (honly.chState hnot hd)
  · exact congrArg (toInt 32) ((State.get_outputApplied s c _).trans (honly.get_other hnot (chanKey_CHRAW d) hd))

theorem outputApplied_result {s : State} (hs : s.Shaped) (ch : Fin 128) : ((s.outputApplied ch).chan ch).result = none := by
  obtain ⟨-, -, hlen, -⟩ := hs
  have hstep := (outputOnly_outputStep s ch).length
  rw [State.chan_outputApplied, State.chan_modChan (by rw [hstep, hlen]; exact ch.isLt)]
  rfl

/-! ### Through a reset -/

/-- After its reset a channel is in another state (R207). -/
theorem GoesOn.not_reset {c : Nat} {s t : State} (h : GoesOn c s t) : t.chState c ≠ 5 := by
  by_cases hoff : s.sinkOff c = true
  · rw [h.off hoff]
    decide
  have hoff : s.sinkOff c = false := by simpa using hoff
  by_cases hsvc : (s.chan c).svc = none
  · by_cases hrem : (s.chan c).removed = true
    · rw [h.removed hoff hsvc hrem]
      decide
    have hrem : (s.chan c).removed = false := by simpa using hrem
    by_cases hmay : s.lawAllowed c = true ∧ s.ttBlocked (c / 16) = false
    · rw [(h.law hoff hsvc hrem hmay.1 hmay.2).1]
      decide
    · rw [not_and_or, Bool.not_eq_true, Bool.not_eq_false] at hmay
      rw [h.stopped hoff hsvc hrem hmay]
      decide
  · rw [(h.driven hoff hsvc).1]
    decide

/-- Settles O40. A hand-over that an overrun has paused takes no step at this instant (log entry 59). Every output instant
leaves the sink, writes a value into it or makes one step of R218 (`State.outputStep_cases`); the resets are O41's. -/
theorem helmOutputs : Obligations.HelmOutputs := by
  unfold Obligations.HelmOutputs
  refine ⟨outputApply_idle, fun s ch hs hout hon hdue => ?_, fun s ch n hs hreq hn hon hrun => ?_,
    fun s ch n hs hend hn => ?_, fun s g n hs hreq hn => ?_, fun s g n hs hend hn => ?_⟩
  · have honly := outputOnly_outputStep s ch
    refine ⟨_, exec_outputApply_due hout hon hdue, outputApplied_result hs ch, outputApplied_off,
      fun hoff hsvc => ⟨fun h2 hauto v => outputApplied_run hoff hsvc hs h2 hauto, fun h2 hman => ?_,
        outputApplied_hold hoff hsvc, outputApplied_safe hoff hsvc, fun h6 hpaused => ?_,
        fun h6 hpaused hcause htarget hkind => ?_⟩,
      fun c hc hne => outputApplied_others s hc hne, fun f hf => ?_, fun hback => ?_⟩
    · exact State.raw_outputStep hoff
        (State.outputStep_val hoff hsvc (by omega) (by omega) (by rw [if_pos h2, if_pos hman]))
    · have hkept := outputApplied_paused hoff h6 hpaused
      exact ⟨hkept _, (hkept _).trans h6⟩
    · have hsteps := outputApplied_toSafe hoff hsvc h6 hpaused hcause htarget hkind
      rwa [HoStepped, h6] at hsteps
    · exact (State.get_outputApplied s ch f).trans (honly.regs f hf)
    · exact (State.log_outputApplied s ch).trans (honly.quiet hback).2
  · obtain ⟨t, hexec, hst, -, hraw, -⟩ := channelReset_acts s ch n hs hreq hn hon hrun
    exact ⟨t, hexec, hst, hraw⟩
  · obtain ⟨-, -, hlen, -⟩ := hs
    have hgoes := goesOn_afterReset (s := s.rstOver ch) ch.isLt (ch.isLt.trans_eq hlen.symm)
    exact ⟨_, by rw [exec_channelResetEnd, State.chanResetEnd_due hend hn], hgoes.not_reset, hgoes.applied⟩
  · obtain ⟨t, hexec, -, -, -, -, -, -, hchans, -⟩ := groupReset_acts s g (.inl ⟨n, hreq, hn⟩)
    exact ⟨t, hexec, hchans⟩
  · obtain ⟨-, -, hlen, -⟩ := hs
    have hgoes : ∀ c ∈ s.groupChans g, GoesOn c s ((s.grpOver g).eachChan (s.groupChans g) State.afterReset) :=
      fun c hc => goesOn_grpOver hlen g.isLt hc
    refine ⟨_, ?_, fun c hc => ⟨(hgoes c hc).not_reset, (hgoes c hc).applied⟩⟩
    rw [exec_groupResetEnd, State.groupResetEnd_due hend hn, (sameGround_grpOver s g.isLt).groupChans]

end Sys2Proof.Machine

/-! What the computation of a channel may change, as what each of its parts does (R182 to R184, R232; O39). -/

namespace Sys2Proof.Machine

/-! ### What a computation may change -/

/-- The registers that the law of a channel, its states and its hand-overs may write. -/
def lawFlds (c : Nat) : List Fld :=
  [R.HLM_CHST_STATE c, R.HLM_CHST_SP_INVALID c, R.HLM_CHST_CLIP c, R.HLM_CHY_VALUE c, R.HLM_CHU_VALUE c, R.HLM_AM_AM c,
    R.HLM_AM_REQ c, R.HLM_AM_DISAGREE c, R.HLM_HOV_ACTIVE c, R.HLM_HOV_CAUSE c, R.HLM_HOV_TICKS c, R.HLM_HOVD_VALUE c]

/-- The counts that the end of a computation moves. -/
def countFlds (c : Nat) : List Fld :=
  [R.HLM_CHCNT_VALUE c, R.HLM_OVR_CONSEC c, R.HLM_OVR_TOTAL c, R.HLM_CHST_INVCNT c, R.HLM_CHST_IN_INVALID c]

theorem chanKey_lawFlds (c : Nat) : ∀ f ∈ lawFlds c, chanKey c f.key := by
  simp only [lawFlds, List.forall_mem_cons, List.not_mem_nil, false_imp_iff, implies_true, and_true, chanKey,
    R.HLM_CHST_STATE, R.HLM_CHST_SP_INVALID, R.HLM_CHST_CLIP, R.HLM_CHY_VALUE, R.HLM_CHU_VALUE, R.HLM_AM_AM, R.HLM_AM_REQ,
    R.HLM_AM_DISAGREE, R.HLM_HOV_ACTIVE, R.HLM_HOV_CAUSE, R.HLM_HOV_TICKS, R.HLM_HOVD_VALUE, Fld.at]
  omega

theorem chanKey_countFlds (c : Nat) : ∀ f ∈ countFlds c, chanKey c f.key := by
  simp only [countFlds, List.forall_mem_cons, List.not_mem_nil, false_imp_iff, implies_true, and_true, chanKey,
    R.HLM_CHCNT_VALUE, R.HLM_OVR_CONSEC, R.HLM_OVR_TOTAL, R.HLM_CHST_INVCNT, R.HLM_CHST_IN_INVALID, Fld.at]
  omega

/-- A channel's own part in its computation, with the registers `ks`: the sinks, the ring and the scratchpad stand, events
join the queue at its end, and no computation begins. -/
structure LawOnly (ks : List Fld) (c : Nat) (s t : State) : Prop extends ChansOnly [c] s t where
  dio : t.dio = s.dio
  mrd : t.mrd = s.mrd
  spd : t.spd = s.spd
  queue : s.log.queue <+: t.log.queue
  idle : (s.chan c).run = none → (t.chan c).run = none
  regs : SameRegs (R.LOG_LOST_VALUE :: ks) s t

section
variable {ks : List Fld} {c : Nat}

theorem LawOnly.refl (ks : List Fld) (c : Nat) (s : State) : LawOnly ks c s s :=
  ⟨ChansOnly.refl _ s, rfl, rfl, rfl, List.prefix_rfl, id, fun _ _ => rfl⟩

theorem LawOnly.trans {s t u : State} (h : LawOnly ks c s t) (g : LawOnly ks c t u) : LawOnly ks c s u :=
  ⟨h.toChansOnly.trans g.toChansOnly, g.dio.trans h.dio, g.mrd.trans h.mrd, g.spd.trans h.spd, h.queue.trans g.queue,
    g.idle ∘ h.idle, fun f hf => (g.regs f hf).trans (h.regs f hf)⟩

theorem LawOnly.mono {ls : List Fld} {s t : State} (h : LawOnly ks c s t) (hs : ks ⊆ ls) : LawOnly ls c s t :=
  { h with regs := fun f hf => h.regs f fun hk => hf (List.map_subset Fld.key (List.cons_subset_cons _ hs) hk) }

theorem lawOnly_put (s : State) {f : Fld} (v : Nat) (hc : chanKey c f.key) (hf : f ∈ ks) : LawOnly ks c s (s.put f v) where
  toChansOnly := chansOnly_put s v (.inl ⟨c, List.mem_singleton_self c, hc⟩)
  dio := rfl
  mrd := rfl
  spd := rfl
  queue := List.prefix_rfl
  idle := id
  regs g hg := State.get_put_other s
    (fun hk : g.key = f.key => hg (hk ▸ List.mem_map_of_mem (List.mem_cons_of_mem _ hf))) v

theorem lawOnly_puts (es : List (Fld × Nat)) (s : State) (h : ∀ e ∈ es, chanKey c e.1.key ∧ e.1 ∈ ks) :
    LawOnly ks c s (s.puts es) := by
  induction es generalizing s with
  | nil => exact LawOnly.refl ks c s
  | cons e es ih =>
    obtain ⟨hc, hf⟩ := h e List.mem_cons_self
    exact (lawOnly_put s e.2 hc hf).trans (ih _ fun x hx => h x (List.mem_cons_of_mem _ hx))

theorem lawOnly_raise (s : State) (code : Nat) (ps : List Nat) : LawOnly ks c s (s.raise code ps) where
  toChansOnly := chansOnly_raise [c] s code ps
  dio := s.raise_dio code ps
  mrd := s.raise_mrd code ps
  spd := s.raise_spd code ps
  queue := s.raise_queue_prefix code ps
  idle h := by rwa [State.chan_congr (s.raise_hlm code ps)]
  regs f hf := State.get_raise s code ps fun hk => hf (hk ▸ List.mem_cons_self)

theorem lawOnly_modChan (s : State) {f : Chan → Chan} (h : (s.chan c).run = none → (f (s.chan c)).run = none) :
    LawOnly ks c s (s.modChan c f) where
  toChansOnly := chansOnly_modChan s f (List.mem_singleton_self c)
  dio := rfl
  mrd := rfl
  spd := rfl
  queue := List.prefix_rfl
  idle hrun := by obtain e | e := s.chan_modChan_cases c f <;> rw [e] <;> simp [h, hrun]
  regs _ _ := rfl

/-- A free value is taken. -/
theorem lawOnly_free (s : State) (w : Nat) : LawOnly ks c s (s.free w).2 :=
  ⟨⟨rfl, rfl, rfl, rfl, rfl, fun _ _ => rfl, fun _ _ => rfl⟩, rfl, rfl, rfl, List.prefix_rfl, id, fun _ _ => rfl⟩

end

theorem lawOnly_putLaw (s : State) {c : Nat} {f : Fld} (v : Nat) (h : f ∈ lawFlds c) :
    LawOnly (lawFlds c) c s (s.put f v) :=
  lawOnly_put s v (chanKey_lawFlds c f h) h

theorem lawOnly_putsLaw {c : Nat} (es : List (Fld × Nat)) (s : State) (h : ∀ e ∈ es, e.1 ∈ lawFlds c) :
    LawOnly (lawFlds c) c s (s.puts es) :=
  lawOnly_puts es s fun e he => ⟨chanKey_lawFlds c _ (h e he), h e he⟩

theorem lawOnly_chEvent (s : State) (ks : List Fld) (c reason detail : Nat) : LawOnly ks c s (s.chEvent c reason detail) :=
  lawOnly_raise s _ _

/-! ### States and hand-overs -/

theorem State.chan_startHo {s : State} {c : Nat} (hc : c < s.hlm.chans.length) (cause target : Nat) :
    (s.startHo c cause target).chan c = { s.chan c with target := target, hoTold := false, paused := false } := by
  rw [State.startHo_eq, State.chEvent, State.chan_congr (State.raise_hlm _ _ _), State.chan_congr (State.puts_hlm _ _),
    State.hoMarked, State.chan_modChan hc]

theorem lawOnly_startHo (s : State) (c cause target : Nat) : LawOnly (lawFlds c) c s (s.startHo c cause target) := by
  rw [State.startHo_eq]
  exact ((lawOnly_modChan s id).trans (lawOnly_putsLaw _ (s.hoMarked c target) (by simp [hoPuts, lawFlds]))).trans
    (lawOnly_chEvent _ _ c _ _)

theorem lawOnly_startLaw (s : State) (c cause : Nat) : LawOnly (lawFlds c) c s (s.startLaw c cause) := by
  rw [State.startLaw_eq]
  exact ((lawOnly_putsLaw _ s (by simp [lawFlds])).trans (lawOnly_modChan _ id)).trans (lawOnly_startHo _ c cause 2)

/-- The record of a channel whose law stops. -/
def Chan.stopped (target why : Nat) (x : Chan) : Chan :=
  { x with why := why, result := none, back := target == 4, missed := if target = 4 then x.missed else 0 }

theorem State.stopLaw_eq (s : State) (c target why : Nat) :
    s.stopLaw c target why = (s.modChan c (Chan.stopped target why)).startHo c 1 target := rfl

theorem lawOnly_stopLaw (s : State) (c target why : Nat) : LawOnly (lawFlds c) c s (s.stopLaw c target why) := by
  rw [State.stopLaw_eq]
  exact (lawOnly_modChan s id).trans (lawOnly_startHo _ c 1 target)

theorem State.chan_stopLaw {s : State} {c : Nat} (hc : c < s.hlm.chans.length) (target why : Nat) :
    ((s.stopLaw c target why).chan c).result = none ∧ ((s.stopLaw c target why).chan c).why = why := by
  rw [State.stopLaw_eq, State.chan_startHo (by rwa [State.length_chans_modChan]), State.chan_modChan hc]
  exact ⟨rfl, rfl⟩

theorem lawOnly_enterRun (s : State) (c : Nat) : LawOnly (lawFlds c) c s (s.enterRun c) := by
  have hrun : LawOnly (lawFlds c) c s (s.runEntered c) :=
    (lawOnly_putLaw s 2 (by simp [lawFlds])).trans (lawOnly_modChan _ id)
  rw [State.enterRun_eq]
  split_ifs
  · exact hrun.trans (lawOnly_chEvent _ _ c _ _)
  · exact hrun

theorem lawOnly_enterHold (s : State) (c : Nat) : LawOnly (lawFlds c) c s (s.enterHold c) :=
  (lawOnly_putLaw s 3 (by simp [lawFlds])).trans (lawOnly_modChan _ id)

theorem State.chan_enterHold {s : State} {c : Nat} (hc : c < s.hlm.chans.length) :
    (s.enterHold c).chan c = { s.chan c with back := true } :=
  State.chan_modChan (s := s.put (R.HLM_CHST_STATE c) 3) hc _

theorem State.chState_enterHold (s : State) (c : Nat) : (s.enterHold c).chState c = 3 :=
  State.chState_put s c (by decide)

theorem State.chState_chEvent (s : State) (c d reason detail : Nat) :
    (s.chEvent d reason detail).chState c = s.chState c := by
  refine State.get_raise s _ _ ?_
  simp only [R.HLM_CHST_STATE, R.LOG_LOST_VALUE, Fld.at]
  omega

theorem State.chan_chEvent (s : State) (c d reason detail : Nat) : (s.chEvent d reason detail).chan c = s.chan c :=
  State.chan_congr (s.raise_hlm _ _) c

/-! ### The setpoint and its ramp (R182, R215) -/

/-- A setpoint's ramp leaves of a channel's record what decides of its computation and its state. -/
structure SameCourse (x y : Chan) : Prop where
  run : y.run = x.run
  result : y.result = x.result
  why : y.why = x.why

theorem sameCourse_rampSp (s : State) (c : Nat) (sp : Int) : SameCourse (s.chan c) (s.rampSp c sp).2 := by
  unfold State.rampSp
  dsimp only
  split
  · cases (s.chan c).spUsed with
    | none => exact ⟨rfl, rfl, rfl⟩
    | some old => refine ⟨?_, ?_, ?_⟩ <;> dsimp only <;> split <;> rfl
  · exact ⟨rfl, rfl, rfl⟩

theorem State.rampSkip_cases (s : State) (c : Nat) :
    s.rampSkip c = s ∨ ∃ x, SameCourse (s.chan c) x ∧ s.rampSkip c = s.modChan c fun _ => x := by
  unfold State.rampSkip
  cases (s.chan c).spUsed with
  | none => exact .inl rfl
  | some v =>
    obtain ⟨hrun, hresult, hwhy⟩ := sameCourse_rampSp s c (s.setpoint c).1
    dsimp only
    split_ifs
    · exact .inr ⟨{ (s.rampSp c (s.setpoint c).1).2 with spUsed := some v }, ⟨hrun, hresult, hwhy⟩, rfl⟩
    · exact .inl rfl

theorem lawOnly_rampSkip (s : State) (ks : List Fld) (c : Nat) : LawOnly ks c s (s.rampSkip c) := by
  obtain e | ⟨x, hx, e⟩ := s.rampSkip_cases c <;> rw [e]
  · exact LawOnly.refl ks c s
  · exact lawOnly_modChan s hx.run.trans

theorem sameCourse_rampSkip (s : State) (c : Nat) : SameCourse (s.chan c) ((s.rampSkip c).chan c) := by
  obtain e | ⟨x, hx, e⟩ := s.rampSkip_cases c <;> rw [e]
  · exact ⟨rfl, rfl, rfl⟩
  · obtain e | e := s.chan_modChan_cases c fun _ => x <;> rw [e]
    · exact hx
    · exact ⟨rfl, rfl, rfl⟩

theorem State.chState_rampSkip (s : State) (c d : Nat) : (s.rampSkip c).chState d = s.chState d := by
  obtain e | ⟨x, -, e⟩ := s.rampSkip_cases c <;> rw [e]
  rfl

/-- R182: the event of a setpoint that turns invalid. -/
def State.spTold (s : State) (c : Nat) : State :=
  if !(s.setpoint c).2 && !s.flag (R.HLM_CHST_SP_INVALID c) then s.chEvent c 0x04 (s.chanB c 0x0B 1) else s

/-- R182: the setpoint is latched. -/
def State.spLatched (s : State) (c : Nat) : State :=
  ((s.spTold c).put (R.HLM_CHST_SP_INVALID c) (b2n !(s.setpoint c).2)).modChan c fun x =>
    { x with spLast := if (s.setpoint c).2 then (s.setpoint c).1 else (s.chan c).spLast }

theorem State.takeSp_eq (s : State) (c : Nat) :
    (s.takeSp c).2 = (s.spLatched c).modChan c fun _ =>
      ((s.spLatched c).rampSp c (if (s.setpoint c).2 then (s.setpoint c).1 else (s.chan c).spLast)).2 := rfl

/-- The registers that a law writes before its output is known. -/
def lawEarly (c : Nat) : List Fld := [R.HLM_CHST_SP_INVALID c, R.HLM_AM_DISAGREE c]

theorem lawEarly_subset (c : Nat) : lawEarly c ⊆ lawFlds c := by
  intro f hf
  simp only [lawEarly, lawFlds, List.mem_cons, List.not_mem_nil, or_false] at hf ⊢
  tauto

theorem lawOnly_putEarly (s : State) {c : Nat} {f : Fld} (v : Nat) (h : f ∈ lawEarly c) :
    LawOnly (lawEarly c) c s (s.put f v) :=
  lawOnly_put s v (chanKey_lawFlds c f (lawEarly_subset c h)) h

theorem lawOnly_takeSp (s : State) (c : Nat) : LawOnly (lawEarly c) c s (s.takeSp c).2 := by
  have htold : LawOnly (lawEarly c) c s (s.spTold c) := by
    unfold State.spTold
    split_ifs
    · exact lawOnly_chEvent s _ c _ _
    · exact LawOnly.refl _ c s
  have hlatched : LawOnly (lawEarly c) c s (s.spLatched c) :=
    (htold.trans (lawOnly_putEarly _ _ (by simp [lawEarly]))).trans (lawOnly_modChan _ id)
  rw [State.takeSp_eq]
  exact hlatched.trans (lawOnly_modChan _ (sameCourse_rampSp _ c _).run.trans)

/-! ### The output of a law (R184) -/

/-- uo: u within OUT_MIN and OUT_MAX, and within its slew limit where OPTS asks for one. -/
def State.limitedOut (s : State) (c : Nat) (u : Int) : Int :=
  if s.opt c 1 then
    q24 (clamp
      (satQ (q32 (if (s.chan c).fresh then s.unscaleOut c (s.applied c) else (s.chan c).uoPrev) -
        roundDiv ((s.chanB c 0x68 4 : Int) * 2 ^ s.kNow c * 2 ^ 16) 10000))
      (satQ (q32 (if (s.chan c).fresh then s.unscaleOut c (s.applied c) else (s.chan c).uoPrev) +
        roundDiv ((s.chanB c 0x68 4 : Int) * 2 ^ s.kNow c * 2 ^ 16) 10000))
      (q32 (clamp (s.chanI c 0x60 4) (s.chanI c 0x64 4) u)))
  else clamp (s.chanI c 0x60 4) (s.chanI c 0x64 4) u

/-- The memories of a law that has given `uo`. -/
def State.lawKept (s : State) (c : Nat) (vals : List (Int × Bool)) (e : Eval) (i : Int) (track : Bool) (uo : Int)
    (x : Chan) : Chan :=
  { x with
    rPrev := e.r, uoPrev := if track then s.manVal c else uo, integ := i
    dl := e.out.mem.dl, vPrev := e.out.mem.v, ePrev := e.out.mem.e
    pPrev := some (vals.getD 4 (0, true)).1, fresh := false, old := []
    rawLaw := some (s.scaleOut c uo), result := some (s.scaleOut c uo)
    snR := e.r, snU := e.u i, snAux := ((vals.drop 1).take 3).map (·.1) }

/-- The registers of a law that has given `uo`. -/
def State.lawShown (s : State) (c : Nat) (e : Eval) (i : Int) (track : Bool) (uo : Int) : List (Fld × Nat) :=
  [(R.HLM_CHST_CLIP c, if track then 0 else clipOf (e.u i) (s.chanI c 0x60 4) (s.chanI c 0x64 4)),
    (R.HLM_CHY_VALUE c, ofInt 32 e.y), (R.HLM_CHU_VALUE c, ofInt 32 uo)]

theorem State.finish_eq (s : State) (c : Nat) (vals : List (Int × Bool)) (e : Eval) (i : Int) (track : Bool) :
    s.finish c vals e i track =
      (s.modChan c (s.lawKept c vals e i track (s.limitedOut c (e.u i)))).puts
        (s.lawShown c e i track (s.limitedOut c (e.u i))) := rfl

theorem lawOnly_finish (s : State) (c : Nat) (vals : List (Int × Bool)) (e : Eval) (i : Int) (track : Bool) :
    LawOnly (lawFlds c) c s (s.finish c vals e i track) := by
  rw [State.finish_eq]
  exact (lawOnly_modChan s id).trans (lawOnly_putsLaw _ _ (by simp [State.lawShown, lawFlds]))

theorem State.chState_finish (s : State) (c : Nat) (vals : List (Int × Bool)) (e : Eval) (i : Int) (track : Bool) :
    (s.finish c vals e i track).chState c = s.chState c := by
  rw [State.finish_eq, State.chState, State.get_puts_other]
  · rfl
  · simp only [State.lawShown, List.forall_mem_cons, List.not_mem_nil, false_imp_iff, implies_true, and_true,
      R.HLM_CHST_STATE, R.HLM_CHST_CLIP, R.HLM_CHY_VALUE, R.HLM_CHU_VALUE, Fld.at]
    omega

/-- The limits of a channel's output are words of 32 bits. -/
theorem State.chanI_bounds (s : State) (c off : Nat) : -2 ^ 31 ≤ s.chanI c off 4 ∧ s.chanI c off 4 < 2 ^ 31 :=
  toInt_bounds _

theorem State.limitedOut_bounds (s : State) (c : Nat) (u : Int) :
    -2 ^ 31 ≤ s.limitedOut c u ∧ s.limitedOut c u < 2 ^ 31 := by
  have hlo := s.chanI_bounds c 0x60
  have hhi := s.chanI_bounds c 0x64
  unfold State.limitedOut q24 satS clamp
  split_ifs <;> omega

theorem State.limitedOut_within {s : State} {c : Nat} (hslew : s.opt c 1 = false)
    (hle : s.chanI c 0x60 4 ≤ s.chanI c 0x64 4) (u : Int) :
    s.chanI c 0x60 4 ≤ s.limitedOut c u ∧ s.limitedOut c u ≤ s.chanI c 0x64 4 := by
  rw [State.limitedOut, if_neg (by simp [hslew])]
  unfold clamp
  omega

/-- A computation that has given a result (R184): it is formed from uo, which HLM_CHU shows. -/
structure LawGave (c : Nat) (s t : State) : Prop where
  result : (t.chan c).result = some (s.scaleOut c (toInt 32 (t.get (R.HLM_CHU_VALUE c))))
  within : s.opt c 1 = false → s.chanI c 0x60 4 ≤ s.chanI c 0x64 4 →
    s.chanI c 0x60 4 ≤ toInt 32 (t.get (R.HLM_CHU_VALUE c)) ∧ toInt 32 (t.get (R.HLM_CHU_VALUE c)) ≤ s.chanI c 0x64 4

theorem lawGave_finish {s : State} {c : Nat} (hc : c < s.hlm.chans.length) (vals : List (Int × Bool)) (e : Eval) (i : Int)
    (track : Bool) : LawGave c s (s.finish c vals e i track) := by
  obtain ⟨hmin, hmax⟩ := s.limitedOut_bounds c (e.u i)
  have hu : toInt 32 ((s.finish c vals e i track).get (R.HLM_CHU_VALUE c)) = s.limitedOut c (e.u i) := by
    have hput : (s.finish c vals e i track).get (R.HLM_CHU_VALUE c) = ofInt 32 (s.limitedOut c (e.u i)) :=
      State.get_put_of_lt _ (ofInt_lt 32 _)
    rw [hput, toInt_ofInt hmin hmax]
  refine ⟨?_, fun hslew hle => ?_⟩
  · rw [hu, State.finish_eq, State.chan_congr (State.puts_hlm _ _), State.chan_modChan hc]
    rfl
  · rw [hu]
    exact State.limitedOut_within hslew hle (e.u i)

/-- A law ends with its limiters (R200, R217, R223: only the choice of the integrator differs). -/
theorem State.runLaw_cases (s : State) (c : Nat) (vals : List (Int × Bool)) :
    ∃ u e i track, LawOnly (lawEarly c) c s u ∧ s.runLaw c vals = u.finish c vals e i track := by
  have htake := lawOnly_takeSp s c
  unfold State.runLaw
  generalize s.takeSp c = p at htake ⊢
  obtain ⟨sp, u⟩ := p
  dsimp only at htake ⊢
  split_ifs
  · exact ⟨_, _, _, _, htake.trans (lawOnly_putEarly u _ (List.mem_cons_of_mem _ List.mem_cons_self)), rfl⟩
  · exact ⟨_, _, _, _, htake, rfl⟩
  · exact ⟨_, _, _, _, htake, rfl⟩
  · exact ⟨_, _, _, _, htake, rfl⟩

theorem lawOnly_runLaw (s : State) (c : Nat) (vals : List (Int × Bool)) : LawOnly (lawFlds c) c s (s.runLaw c vals) := by
  obtain ⟨u, e, i, track, hu, heq⟩ := s.runLaw_cases c vals
  rw [heq]
  exact (hu.mono (lawEarly_subset c)).trans (lawOnly_finish u c vals e i track)

theorem SameGround.scaleOut {s t : State} (h : SameGround s t) (c : Nat) (uo : Int) : t.scaleOut c uo = s.scaleOut c uo := by
  have hopt : t.opt c 3 = s.opt c 3 := by rw [State.opt, State.opt, h.chanB]
  unfold State.scaleOut
  rw [hopt]
  simp only [State.chanI, State.cfgI, h.chanB, h.cfg]

theorem LawGave.of_ground {c : Nat} {s u t : State} (h : LawGave c u t) (hground : SameGround s u) : LawGave c s t := by
  obtain ⟨hresult, hwithin⟩ := h
  simp only [hground.scaleOut, State.opt, hground.chanB, State.chanI, State.cfgI, hground.cfg] at hresult hwithin
  exact ⟨hresult, hwithin⟩

theorem runLaw_shown {s : State} {c : Nat} (h128 : c < 128) (hc : c < s.hlm.chans.length) (vals : List (Int × Bool)) :
    (s.runLaw c vals).chState c = s.chState c ∧ LawGave c s (s.runLaw c vals) := by
  obtain ⟨u, e, i, track, hu, heq⟩ := s.runLaw_cases c vals
  have hst : u.chState c = s.chState c := by
    refine hu.regs _ ?_
    simp only [lawEarly, List.map_cons, List.map_nil, List.mem_cons, List.not_mem_nil, or_false, R.HLM_CHST_STATE,
      R.HLM_CHST_SP_INVALID, R.HLM_AM_DISAGREE, R.LOG_LOST_VALUE, Fld.at]
    omega
  rw [heq]
  exact ⟨(State.chState_finish u c vals e i track).trans hst,
    (lawGave_finish (by rw [hu.length]; exact hc) vals e i track).of_ground (hu.sameGround (by simpa using h128))⟩

end Sys2Proof.Machine

/-! The end of a computation, from valid inputs and from invalid ones, and an overrun (R182, R232, R233; O39). -/

namespace Sys2Proof.Machine

/-! ### Inputs that are faulty (R248) -/

theorem lawOnly_tellDirect (s : State) (ks : List Fld) (c : Nat) (vals : List (Int × Bool)) :
    LawOnly ks c s (s.tellDirect c vals) := by
  unfold State.tellDirect
  dsimp only
  refine LawOnly.trans ?_ (lawOnly_modChan _ id)
  exact List.foldlRecOn (motive := LawOnly ks c s) _ _ (LawOnly.refl ks c s) fun t ht d _ =>
    ht.trans (lawOnly_chEvent t ks c 0x18 d)

/-! ### A computation with an invalid input (R182) -/

/-- The registers of the inputs' validity. -/
def inFlds (c : Nat) : List Fld := [R.HLM_CHST_INVCNT c, R.HLM_CHST_IN_INVALID c]

theorem lawOnly_putIn (s : State) {c : Nat} {f : Fld} (v : Nat) (h : f ∈ inFlds c) :
    LawOnly (inFlds c) c s (s.put f v) := by
  refine lawOnly_put s v (chanKey_countFlds c f ?_) h
  simp only [inFlds, countFlds, List.mem_cons, List.not_mem_nil, or_false] at h ⊢
  tauto

/-- The validity of the inputs is none of a law's registers. -/
theorem LawOnly.keeps_in {c : Nat} {s t : State} (h : LawOnly (lawFlds c) c s t) {f : Fld} (hf : f ∈ inFlds c) :
    t.get f = s.get f := by
  refine h.regs f ?_
  simp only [inFlds, List.mem_cons, List.not_mem_nil, or_false] at hf
  simp only [lawFlds, List.map_cons, List.map_nil, List.mem_cons, List.not_mem_nil, or_false,
    R.HLM_CHST_STATE, R.HLM_CHST_SP_INVALID, R.HLM_CHST_CLIP, R.HLM_CHY_VALUE, R.HLM_CHU_VALUE, R.HLM_AM_AM, R.HLM_AM_REQ,
    R.HLM_AM_DISAGREE, R.HLM_HOV_ACTIVE, R.HLM_HOV_CAUSE, R.HLM_HOV_TICKS, R.HLM_HOVD_VALUE, R.LOG_LOST_VALUE, Fld.at]
  rcases hf with rfl | rfl <;> simp only [R.HLM_CHST_INVCNT, R.HLM_CHST_IN_INVALID, Fld.at] <;> omega

theorem inKeys_ne (c : Nat) : (R.HLM_CHST_INVCNT c).key ≠ (R.HLM_CHST_IN_INVALID c).key ∧
    (R.HLM_CHST_STATE c).key ≠ (R.HLM_CHST_INVCNT c).key ∧ (R.HLM_CHST_STATE c).key ≠ (R.HLM_CHST_IN_INVALID c).key := by
  simp only [R.HLM_CHST_INVCNT, R.HLM_CHST_IN_INVALID, R.HLM_CHST_STATE, Fld.at]
  omega

/-- A computation with an invalid input is counted. -/
def State.inCounted (s : State) (c : Nat) : State := (s.bump (R.HLM_CHST_INVCNT c)).put (R.HLM_CHST_IN_INVALID c) 1

/-- Without a result. -/
def State.inMissed (s : State) (c : Nat) : State :=
  ((s.inCounted c).rampSkip c).modChan c fun x => { x with missed := x.missed + 1, result := none }

/-- The input that the event names: a free value for one beyond AUX3. -/
def State.inDetail (s : State) (i : Nat) : Nat × State := if i ≤ 3 then (i, s) else s.free 32

/-- A channel in RUN goes to HOLD. -/
def State.inHeld (s : State) (c i : Nat) : State :=
  if s.chState c = 2 then ((((s.inMissed c).inDetail i).2.enterHold c).chEvent c 0x00 ((s.inMissed c).inDetail i).1)
  else s.inMissed c

/-- The law stops at INV_LIMIT invalid computations in a row. -/
def State.inStopped (s : State) (c : Nat) : State := (s.chEvent c 0x01 (s.chanB c 0x2D 1)).stopLaw c 4 1

theorem State.compInvalid_eq (s : State) (c i : Nat) :
    s.compInvalid c i =
      if (s.chState c = 2 ∨ s.chState c = 3 ∨ (s.chState c = 6 ∧ (s.chan c).target = 2)) ∧
          (s.inHeld c i).chanB c 0x2D 1 ≤ (s.inHeld c i).get (R.HLM_CHST_INVCNT c) then (s.inHeld c i).inStopped c
      else s.inHeld c i := rfl

theorem lawOnly_inCounted (s : State) (c : Nat) : LawOnly (inFlds c) c s (s.inCounted c) :=
  (lawOnly_putIn s _ List.mem_cons_self).trans (lawOnly_putIn _ 1 (List.mem_cons_of_mem _ List.mem_cons_self))

theorem lawOnly_inMissed (s : State) (c : Nat) : LawOnly (lawFlds c) c (s.inCounted c) (s.inMissed c) :=
  (lawOnly_rampSkip _ _ c).trans (lawOnly_modChan _ id)

theorem lawOnly_inDetail (s : State) (ks : List Fld) (c i : Nat) : LawOnly ks c s (s.inDetail i).2 := by
  unfold State.inDetail
  split_ifs
  · exact LawOnly.refl ks c s
  · exact lawOnly_free s 32

theorem lawOnly_inHeld (s : State) (c i : Nat) : LawOnly (lawFlds c) c (s.inCounted c) (s.inHeld c i) := by
  have hmissed := lawOnly_inMissed s c
  unfold State.inHeld
  split_ifs
  · exact ((hmissed.trans (lawOnly_inDetail _ _ c i)).trans (lawOnly_enterHold _ c)).trans (lawOnly_chEvent _ _ c _ _)
  · exact hmissed

theorem lawOnly_compInvalid (s : State) (c i : Nat) : LawOnly (lawFlds c) c (s.inCounted c) (s.compInvalid c i) := by
  have hheld := lawOnly_inHeld s c i
  rw [State.compInvalid_eq]
  split_ifs
  · exact (hheld.trans (lawOnly_chEvent _ _ c _ _)).trans (lawOnly_stopLaw _ c 4 1)
  · exact hheld

/-- What a computation with an invalid input leaves (R182). -/
structure InputFailed (c : Nat) (s t : State) : Prop where
  count : t.get (R.HLM_CHST_INVCNT c) = min (s.get (R.HLM_CHST_INVCNT c) + 1) 255
  invalid : t.get (R.HLM_CHST_IN_INVALID c) = 1
  result : (t.chan c).result = none
  state : s.chState c = 2 →
    t.chState c = if s.chanB c 0x2D 1 ≤ min (s.get (R.HLM_CHST_INVCNT c) + 1) 255 then 6 else 3

theorem State.get_inCounted (s : State) (c : Nat) :
    (s.inCounted c).get (R.HLM_CHST_INVCNT c) = min (s.get (R.HLM_CHST_INVCNT c) + 1) 255 ∧
      (s.inCounted c).get (R.HLM_CHST_IN_INVALID c) = 1 := by
  have hmin : min (s.get (R.HLM_CHST_INVCNT c) + 1) 255 < 2 ^ 8 := by omega
  exact ⟨(State.get_put_other _ (inKeys_ne c).1 1).trans (State.get_put_of_lt s (f := R.HLM_CHST_INVCNT c) hmin),
    State.get_put_same _ _ 1⟩

theorem State.result_inHeld {s : State} {c : Nat} (hc : c < s.hlm.chans.length) (i : Nat) :
    ((s.inHeld c i).chan c).result = none := by
  have hmissed : ((s.inMissed c).chan c).result = none := by
    rw [State.inMissed, State.chan_modChan (by rw [(lawOnly_rampSkip _ [] c).length]; exact hc)]
  unfold State.inHeld
  split_ifs
  · have hlen : c < ((s.inMissed c).inDetail i).2.hlm.chans.length := by
      rw [(lawOnly_inDetail _ [] c i).length, (lawOnly_inMissed s c).length]
      exact hc
    have hdetail : ((s.inMissed c).inDetail i).2.chan c = (s.inMissed c).chan c := by
      unfold State.inDetail
      split_ifs <;> rfl
    rw [State.chan_chEvent, State.chan_enterHold hlen, hdetail]
    exact hmissed
  · exact hmissed

theorem inputFailed_compInvalid {s : State} {c : Nat} (h128 : c < 128) (hc : c < s.hlm.chans.length) (i : Nat) :
    InputFailed c s (s.compInvalid c i) := by
  have hcounted := lawOnly_inCounted s c
  have hheld := lawOnly_inHeld s c i
  have hcomp := lawOnly_compInvalid s c i
  obtain ⟨hcount, hinvalid⟩ := s.get_inCounted c
  have hlen : c < (s.inHeld c i).hlm.chans.length := by
    rw [hheld.length]
    exact hc
  have hfail : (s.inHeld c i).chanB c 0x2D 1 = s.chanB c 0x2D 1 :=
    ((hcounted.toChansOnly.trans hheld.toChansOnly).sameGround (by simpa using h128)).chanB c 0x2D 1
  have hinv : (s.inHeld c i).get (R.HLM_CHST_INVCNT c) = min (s.get (R.HLM_CHST_INVCNT c) + 1) 255 :=
    (hheld.keeps_in List.mem_cons_self).trans hcount
  refine ⟨(hcomp.keeps_in List.mem_cons_self).trans hcount,
    (hcomp.keeps_in (List.mem_cons_of_mem _ List.mem_cons_self)).trans hinvalid, ?_, fun h2 => ?_⟩
  · rw [State.compInvalid_eq]
    split_ifs
    · exact (State.chan_stopLaw (by rw [(lawOnly_chEvent _ [] c _ _).length]; exact hlen) 4 1).1
    · exact State.result_inHeld hc i
  · rw [State.compInvalid_eq, hfail, hinv]
    simp only [h2, true_or, true_and]
    split_ifs
    · obtain ⟨hst, -⟩ := State.stopLaw_shown
        (s := (s.inHeld c i).chEvent c 0x01 ((s.inHeld c i).chanB c 0x2D 1)) (c := c)
        (by rw [(lawOnly_chEvent _ [] c _ _).length]; exact hlen) 4 1
      exact hst
    · rw [State.inHeld, if_pos h2, State.chState_chEvent, State.chState_enterHold]

/-! ### A computation whose inputs are valid (R182, R184) -/

/-- The inputs are valid again. -/
def State.inCleared (s : State) (c : Nat) : State := s.puts [(R.HLM_CHST_INVCNT c, 0), (R.HLM_CHST_IN_INVALID c, 0)]

/-- The computation of a channel, its state taken up again (R182). -/
def State.resumed (s : State) (c : Nat) : State := ((s.inCleared c).resume c).stampSample c

theorem State.compValid_eq (s : State) (c : Nat) (vals : List (Int × Bool)) :
    s.compValid c vals =
      if (s.resumed c).chState c = 2 ∨ ((s.resumed c).chState c = 6 ∧ ((s.resumed c).chan c).target = 2) then
        (s.resumed c).runLaw c vals
      else
        ((s.resumed c).put (R.HLM_CHY_VALUE c)
          (ofInt 32 ((s.resumed c).scaleIn c (vals.getD 0 (0, true)).1))).rampSkip c := rfl

theorem lawOnly_inCleared (s : State) (c : Nat) : LawOnly (inFlds c) c s (s.inCleared c) :=
  (lawOnly_putIn s 0 List.mem_cons_self).trans (lawOnly_putIn _ 0 (List.mem_cons_of_mem _ List.mem_cons_self))

theorem State.get_inCleared (s : State) (c : Nat) :
    (s.inCleared c).get (R.HLM_CHST_INVCNT c) = 0 ∧ (s.inCleared c).get (R.HLM_CHST_IN_INVALID c) = 0 :=
  ⟨(State.get_put_other _ (inKeys_ne c).1 0).trans (State.get_put_same _ _ 0), State.get_put_same _ _ 0⟩

theorem State.chState_inCleared (s : State) (c : Nat) : (s.inCleared c).chState c = s.chState c :=
  (State.get_put_other _ (inKeys_ne c).2.2 0).trans (State.get_put_other s (inKeys_ne c).2.1 0)

theorem lawOnly_resume (s : State) (c : Nat) : LawOnly (lawFlds c) c s (s.resume c) := by
  unfold State.resume
  dsimp only
  split_ifs
  · exact lawOnly_enterRun s c
  · exact lawOnly_startLaw s c 0
  · exact LawOnly.refl _ c s

/-- A channel in RUN has nothing to resume. -/
theorem State.resume_run {s : State} {c : Nat} (h2 : s.chState c = 2) : s.resume c = s := by
  unfold State.resume
  dsimp only
  rw [if_neg (by omega), if_neg (by omega)]

theorem lawOnly_stampSample (s : State) (ks : List Fld) (c : Nat) : LawOnly ks c s (s.stampSample c) := by
  unfold State.stampSample
  exact lawOnly_modChan s id

theorem lawOnly_resumed (s : State) (c : Nat) : LawOnly (lawFlds c) c (s.inCleared c) (s.resumed c) :=
  (lawOnly_resume _ c).trans (lawOnly_stampSample _ _ c)

theorem lawOnly_compValid (s : State) (c : Nat) (vals : List (Int × Bool)) :
    LawOnly (lawFlds c) c (s.inCleared c) (s.compValid c vals) := by
  have hresumed := lawOnly_resumed s c
  rw [State.compValid_eq]
  split_ifs
  · exact hresumed.trans (lawOnly_runLaw _ c vals)
  · exact (hresumed.trans (lawOnly_putLaw _ _ (by simp [lawFlds]))).trans (lawOnly_rampSkip _ _ c)

/-- What a computation with valid inputs leaves (R182, R184). -/
structure InputsTaken (c : Nat) (s t : State) : Prop where
  count : t.get (R.HLM_CHST_INVCNT c) = 0
  valid : t.get (R.HLM_CHST_IN_INVALID c) = 0
  law : s.chState c = 2 → t.chState c = 2 ∧ LawGave c s t

theorem inputsTaken_compValid {s : State} {c : Nat} (h128 : c < 128) (hc : c < s.hlm.chans.length)
    (vals : List (Int × Bool)) : InputsTaken c s (s.compValid c vals) := by
  have hcleared := lawOnly_inCleared s c
  have hcomp := lawOnly_compValid s c vals
  obtain ⟨hcount, hvalid⟩ := s.get_inCleared c
  refine ⟨(hcomp.keeps_in List.mem_cons_self).trans hcount,
    (hcomp.keeps_in (List.mem_cons_of_mem _ List.mem_cons_self)).trans hvalid, fun h2 => ?_⟩
  have hresumed := lawOnly_resumed s c
  have hst : (s.resumed c).chState c = 2 := by
    have h2' := (s.chState_inCleared c).trans h2
    rw [State.resumed, State.resume_run h2']
    exact h2'
  obtain ⟨hstays, hgave⟩ := runLaw_shown h128 (s := s.resumed c) (by rw [hresumed.length, hcleared.length]; exact hc) vals
  rw [State.compValid_eq, if_pos (.inl hst)]
  exact ⟨hstays.trans hst,
    hgave.of_ground ((hcleared.toChansOnly.trans hresumed.toChansOnly).sameGround (by simpa using h128))⟩

/-! ### What follows a computation (R215, R524) -/

/-- The registers, the sinks, the ring and the scratchpad stand, and of every channel its computation and its result. -/
structure SameResults (s t : State) : Prop where
  get : ∀ f : Fld, t.get f = s.get f
  dio : t.dio = s.dio
  mrd : t.mrd = s.mrd
  spd : t.spd = s.spd
  chan : ∀ d, (t.chan d).run = (s.chan d).run ∧ (t.chan d).result = (s.chan d).result

theorem SameResults.trans {s t u : State} (h : SameResults s t) (g : SameResults t u) : SameResults s u :=
  ⟨fun f => (g.get f).trans (h.get f), g.dio.trans h.dio, g.mrd.trans h.mrd, g.spd.trans h.spd,
    fun d => ⟨(g.chan d).1.trans (h.chan d).1, (g.chan d).2.trans (h.chan d).2⟩⟩

theorem sameResults_stillStep (s : State) (c : Nat) (inp : Int × Bool) : SameResults s (s.stillStep c inp) := by
  unfold State.stillStep
  dsimp only
  split_ifs <;> exact ⟨fun _ => rfl, rfl, rfl, rfl, fun _ => ⟨rfl, rfl⟩⟩

theorem sameResults_outerUpdate (s : State) (c : Nat) : SameResults s (s.outerUpdate c) := by
  unfold State.outerUpdate
  dsimp only
  split_ifs
  · refine ⟨fun _ => rfl, rfl, rfl, rfl, fun d => ?_⟩
    by_cases hd : bits (s.chanB c 0x1C 4) 0 7 = d
    · subst hd
      obtain e | e := s.chan_modChan_cases (bits (s.chanB c 0x1C 4) 0 7) fun x => { x with updNext := true } <;> rw [e] <;>
        exact ⟨rfl, rfl⟩
    · have hother : (s.modChan (bits (s.chanB c 0x1C 4) 0 7) fun x => { x with updNext := true }).chan d = s.chan d :=
        getD_modify_other _ _ hd _
      rw [hother]
      exact ⟨rfl, rfl⟩
  · exact ⟨fun _ => rfl, rfl, rfl, rfl, fun _ => ⟨rfl, rfl⟩⟩

/-! ### The end of a computation -/

theorem exec_computationEnd (ch : Fin 128) (s : State) : exec (.computationEnd ch) s = execComputationEnd ch s := rfl

theorem computationEnd_none {s : State} {ch : Fin 128} (h : (s.chan ch).run = none) :
    exec (.computationEnd ch) s = .next s := by
  rw [exec_computationEnd, execComputationEnd, h]

/-- A computation that has ended, its inputs read. -/
def State.compEnded (s : State) (c : Nat) : State :=
  State.modChan { s with hlm.badIn := s.hlm.badIn.filter fun b => b.1 != c } c fun x => { x with run := none }

/-- Without an input lost meanwhile the values are those read. -/
theorem inputs_unharmed {bad : List (Nat × Nat)} {c : Nat} (h : ∀ b ∈ bad, b.1 ≠ c) (vals : List (Int × Bool)) :
    (vals.zipIdx.map fun (v, i) => (v.1, v.2 && !bad.contains (c, i))) = vals := by
  have hkeep : ∀ p : (Int × Bool) × Nat, (p.1.1, p.1.2 && !bad.contains (c, p.2)) = p.1 := fun p => by
    have hnot : (c, p.2) ∉ bad := fun hmem => h _ hmem rfl
    simp [hnot]
  exact (List.map_congr_left fun p _ => hkeep p).trans (List.zipIdx_map_fst 0 vals)

theorem exec_computationEnd_ends {s : State} {ch : Fin 128} {vals : List (Int × Bool)} (hrun : (s.chan ch).run = some vals)
    (harith : ∀ c ∈ s.hlm.arith, c ≠ ch.val) (hbad : ∀ b ∈ s.hlm.badIn, b.1 ≠ ch.val) :
    exec (.computationEnd ch) s = .next ((s.compEnded ch).compEnd ch vals) := by
  have hnot : ¬ s.hlm.arith.contains ch.val = true := by
    rw [List.contains_iff_mem]
    exact fun hmem => harith _ hmem rfl
  rw [exec_computationEnd, execComputationEnd, hrun]
  dsimp only
  rw [if_neg hnot, inputs_unharmed hbad]
  rfl

theorem lawOnly_compEnded (s : State) (ks : List Fld) (c : Nat) : LawOnly ks c s (s.compEnded c) := by
  have hbad : LawOnly ks c s { s with hlm.badIn := s.hlm.badIn.filter fun b => b.1 != c } :=
    ⟨chansOnly_rest [c] s s.hlm.arith _ s.dio, rfl, rfl, rfl, List.prefix_rfl, id, fun _ _ => rfl⟩
  exact hbad.trans (lawOnly_modChan _ fun _ => rfl)

/-- The computation counts (R182), and is no overrun. -/
def State.compCounted (s : State) (c : Nat) : State :=
  s.puts [(R.HLM_CHCNT_VALUE c, s.get (R.HLM_CHCNT_VALUE c) + 1), (R.HLM_OVR_CONSEC c, 0)]

/-- What the inputs make of a computation. -/
def State.compJudged (s : State) (c : Nat) (vals : List (Int × Bool)) : State :=
  match firstInvalid vals with
  | some i => ((s.compCounted c).tellDirect c vals).compInvalid c i
  | none => ((s.compCounted c).tellDirect c vals).compValid c vals

theorem State.compEnd_eq (s : State) (c : Nat) (vals : List (Int × Bool)) :
    s.compEnd c vals = ((s.compJudged c vals).stillStep c (vals.getD 0 (0, true))).outerUpdate c := rfl

theorem sameResults_compEnd (s : State) (c : Nat) (vals : List (Int × Bool)) :
    SameResults (s.compJudged c vals) (s.compEnd c vals) := by
  rw [State.compEnd_eq]
  exact (sameResults_stillStep _ c _).trans (sameResults_outerUpdate _ c)

theorem State.compJudged_valid {vals : List (Int × Bool)} (h : ∀ v ∈ vals, v.2 = true) (s : State) (c : Nat) :
    s.compJudged c vals = ((s.compCounted c).tellDirect c vals).compValid c vals := by
  have hnone : firstInvalid vals = none := List.findIdx?_eq_none_iff.2 fun v hv => by simp [h v hv]
  rw [State.compJudged, hnone]

theorem State.compJudged_invalid {vals : List (Int × Bool)} (h : ∃ v ∈ vals, v.2 = false) (s : State) (c : Nat) :
    ∃ i, s.compJudged c vals = ((s.compCounted c).tellDirect c vals).compInvalid c i := by
  cases hfirst : firstInvalid vals with
  | none =>
    obtain ⟨v, hv, hbad⟩ := h
    have hgood := List.findIdx?_eq_none_iff.1 hfirst v hv
    simp [hbad] at hgood
  | some i => exact ⟨i, by rw [State.compJudged, hfirst]⟩

theorem lawOnly_compCounted (s : State) (c : Nat) :
    LawOnly [R.HLM_CHCNT_VALUE c, R.HLM_OVR_CONSEC c] c s (s.compCounted c) := by
  have hcnt : R.HLM_CHCNT_VALUE c ∈ countFlds c := by simp [countFlds]
  have hovr : R.HLM_OVR_CONSEC c ∈ countFlds c := by simp [countFlds]
  exact (lawOnly_put s _ (chanKey_countFlds c _ hcnt) (by simp)).trans
    (lawOnly_put _ 0 (chanKey_countFlds c _ hovr) (by simp))

/-- What comes after the counts of a computation, by its inputs. -/
theorem lawOnly_compJudged (s : State) (c : Nat) (vals : List (Int × Bool)) :
    LawOnly (inFlds c ++ lawFlds c) c (s.compCounted c) (s.compJudged c vals) := by
  have hin : inFlds c ⊆ inFlds c ++ lawFlds c := List.subset_append_left _ _
  have hlaw : lawFlds c ⊆ inFlds c ++ lawFlds c := List.subset_append_right _ _
  have htold := lawOnly_tellDirect (s.compCounted c) (inFlds c ++ lawFlds c) c vals
  unfold State.compJudged
  cases firstInvalid vals with
  | some i => exact (htold.trans ((lawOnly_inCounted _ c).mono hin)).trans ((lawOnly_compInvalid _ c i).mono hlaw)
  | none => exact (htold.trans ((lawOnly_inCleared _ c).mono hin)).trans ((lawOnly_compValid _ c vals).mono hlaw)

end Sys2Proof.Machine

/-! The start of a computation, its end and its overrun, settled (O39). -/

namespace Sys2Proof.Machine

/-! ### The start (R172, R177) -/

theorem exec_computationStart (ch : Fin 128) (ai : List AiSample) (s : State) :
    exec (.computationStart ch ai) s = execComputationStart ch ai s := rfl

/-- Selectors of other sources than the direct inputs name no faulty one. -/
theorem badDetails_other {l : List Nat} (h : ∀ k ∈ l, bits k 28 4 = 0) (f : Nat → Int × Bool) :
    badDetails (l.map fun k => (k, f k)) = [] := by
  rw [badDetails, List.map_eq_nil_iff, List.filter_eq_nil_iff]
  intro p hp
  obtain ⟨k, hk, rfl⟩ := List.mem_map.1 hp
  simp [h k hk]

/-- Without MAN_FORCE and MAN_SRC a computation reads its own inputs alone. -/
theorem State.manSels_unforced {s : State} {c : Nat} (hforce : bits (s.hctl c 0x14 4) 28 4 = 0)
    (hsrc : s.hctl c 0x0E 1 ≠ 2) : ∀ k ∈ s.manSels c, bits k 28 4 = 0 := by
  intro k hk
  rw [State.manSels, if_neg hsrc, List.nil_append] at hk
  split_ifs at hk
  · cases hk
  · exact List.mem_singleton.1 hk ▸ hforce

theorem State.manForce_unforced {s : State} {c : Nat} (ai : List AiSample) (hforce : bits (s.hctl c 0x14 4) 28 4 = 0) :
    s.manForce c ai = s := if_pos (.inl hforce)

theorem State.manSrc_unforced {s : State} {c : Nat} (ai : List AiSample) (hsrc : s.hctl c 0x0E 1 ≠ 2) :
    s.manSrc c ai = s := if_neg hsrc

theorem computationStart_starts {s : State} {ch : Fin 128} {ai : List AiSample} {x n : Nat} (hs : s.Shaped)
    (hdue : s.jobDue ch = true) (hslot : s.slot ch = some (x, n)) (hfree : s.cellFree (ch / 16) x = true)
    (hran : (s.chan ch).ranAt ≠ some s.chr.tick) (hforce : bits (s.hctl ch 0x14 4) 28 4 = 0)
    (hsrc : s.hctl ch 0x0E 1 ≠ 2) :
    ∃ t, exec (.computationStart ch ai) s = .next t ∧
      t.chan ch =
        { s.chan ch with run := some (s.readInputs ch ai), cell := x, ranAt := some s.chr.tick, manBad := [] } ∧
      t = { s with hlm.chans := t.hlm.chans } ∧ ∀ c, c ≠ ch.val → t.chan c = s.chan c := by
  obtain ⟨-, -, hlen, -⟩ := hs
  refine ⟨s.modChan ch fun y => { y with
    run := some (s.readInputs ch ai), cell := x, ranAt := some s.chr.tick, manBad := [] }, ?_, ?_, rfl, fun c hne => ?_⟩
  · rw [exec_computationStart, execComputationStart, hslot]
    dsimp only
    rw [if_pos (by simp [hdue, hran, hfree]), State.manForce_unforced ai hforce, State.manSrc_unforced ai hsrc,
      badDetails_other (State.manSels_unforced hforce hsrc)]
  · exact State.chan_modChan (ch.isLt.trans_eq hlen.symm) _
  · exact getD_modify_other _ _ (Ne.symm hne) _

theorem computationStart_idle {s : State} {ch : Fin 128} (ai : List AiSample)
    (h : s.jobDue ch = false ∨ s.slot ch = none ∨ (s.chan ch).ranAt = some s.chr.tick) :
    exec (.computationStart ch ai) s = .next s := by
  rw [exec_computationStart, execComputationStart]
  cases hslot : s.slot ch with
  | none => rfl
  | some p =>
    refine if_neg ?_
    rcases h with h | h | h
    · simp [h]
    · simp [hslot] at h
    · simp [h]

/-! ### The end (R182, R184) -/

/-- What the end of a computation leaves whatever its inputs (R182). -/
structure ComputationOver (c : Nat) (s t : State) : Prop where
  run : (t.chan c).run = none
  count : t.get (R.HLM_CHCNT_VALUE c) = (s.get (R.HLM_CHCNT_VALUE c) + 1) % 2 ^ 32
  consec : t.get (R.HLM_OVR_CONSEC c) = 0
  applied : t.applied c = s.applied c
  others : ∀ d : Nat, d < 128 → d ≠ c → t.chState d = s.chState d ∧ t.applied d = s.applied d
  dio : t.dio = s.dio
  mrd : t.mrd = s.mrd
  spd : t.spd = s.spd

/-- The counts of computations and HLM_CHRAW are none of the registers that the inputs and the law write. -/
theorem lawKeys_apart (c : Nat) :
    ∀ f ∈ [R.HLM_CHCNT_VALUE c, R.HLM_OVR_CONSEC c, R.HLM_OVR_TOTAL c, R.HLM_CHRAW_VALUE c],
      f.key ∉ (R.LOG_LOST_VALUE :: (inFlds c ++ lawFlds c)).map Fld.key := by
  rw [List.forall_mem_cons, List.forall_mem_cons, List.forall_mem_cons, List.forall_mem_singleton]
  simp only [List.not_mem_nil, inFlds, lawFlds, List.cons_append, List.nil_append, List.map_cons, List.map_nil,
    List.mem_cons, or_false, R.HLM_CHCNT_VALUE, R.HLM_OVR_CONSEC, R.HLM_OVR_TOTAL, R.HLM_CHRAW_VALUE,
    R.HLM_CHST_INVCNT, R.HLM_CHST_IN_INVALID, R.HLM_CHST_STATE, R.HLM_CHST_SP_INVALID, R.HLM_CHST_CLIP,
    R.HLM_CHY_VALUE, R.HLM_CHU_VALUE, R.HLM_AM_AM, R.HLM_AM_REQ, R.HLM_AM_DISAGREE, R.HLM_HOV_ACTIVE,
    R.HLM_HOV_CAUSE, R.HLM_HOV_TICKS, R.HLM_HOVD_VALUE, R.LOG_LOST_VALUE, Fld.at]
  omega

/-- The counts of computations and HLM_CHRAW are registers apart. -/
theorem countKeys_apart (c : Nat) :
    (R.HLM_CHCNT_VALUE c).key ≠ (R.HLM_OVR_CONSEC c).key ∧ (R.HLM_OVR_CONSEC c).key ≠ (R.HLM_OVR_TOTAL c).key ∧
      (R.HLM_CHRAW_VALUE c).key ∉ (R.LOG_LOST_VALUE :: [R.HLM_CHCNT_VALUE c, R.HLM_OVR_CONSEC c]).map Fld.key ∧
      (R.HLM_CHRAW_VALUE c).key ∉ (R.LOG_LOST_VALUE :: [R.HLM_OVR_CONSEC c, R.HLM_OVR_TOTAL c]).map Fld.key := by
  simp only [List.map_cons, List.map_nil, List.mem_cons, List.not_mem_nil, or_false, R.HLM_CHCNT_VALUE, R.HLM_OVR_CONSEC,
    R.HLM_OVR_TOTAL, R.HLM_CHRAW_VALUE, R.LOG_LOST_VALUE, Fld.at]
  omega

theorem State.get_compCounted (s : State) (c : Nat) :
    (s.compCounted c).get (R.HLM_CHCNT_VALUE c) = (s.get (R.HLM_CHCNT_VALUE c) + 1) % 2 ^ 32 ∧
      (s.compCounted c).get (R.HLM_OVR_CONSEC c) = 0 :=
  ⟨(State.get_put_other _ (countKeys_apart c).1 0).trans (State.get_put_same s _ _), State.get_put_same _ _ 0⟩

theorem computationOver_compEnd {s : State} {c : Nat} (hc : c < s.hlm.chans.length) (vals : List (Int × Bool)) :
    ComputationOver c s ((s.compEnded c).compEnd c vals) := by
  have hended := lawOnly_compEnded s [] c
  have hcounted := lawOnly_compCounted (s.compEnded c) c
  have hjudged := lawOnly_compJudged (s.compEnded c) c vals
  have hsame := sameResults_compEnd (s.compEnded c) c vals
  have honly := (hended.toChansOnly.trans hcounted.toChansOnly).trans hjudged.toChansOnly
  have hnone : ((s.compEnded c).chan c).run = none := by
    rw [State.compEnded, State.chan_modChan (by exact hc)]
  obtain ⟨hcount, hconsec⟩ := (s.compEnded c).get_compCounted c
  have hkept : ∀ f ∈ [R.HLM_CHCNT_VALUE c, R.HLM_OVR_CONSEC c, R.HLM_OVR_TOTAL c, R.HLM_CHRAW_VALUE c],
      ((s.compEnded c).compEnd c vals).get f = ((s.compEnded c).compCounted c).get f := fun f hf =>
    (hsame.get f).trans (hjudged.regs f (lawKeys_apart c f hf))
  have hraw : ((s.compEnded c).compEnd c vals).get (R.HLM_CHRAW_VALUE c) = s.get (R.HLM_CHRAW_VALUE c) :=
    (hkept _ (by simp)).trans (hcounted.regs _ (countKeys_apart c).2.2.1)
  exact
    { run := (hsame.chan c).1.trans (hjudged.idle (hcounted.idle hnone))
      count := (hkept _ (by simp)).trans hcount
      consec := (hkept _ (by simp)).trans hconsec
      applied := congrArg (toInt 32) hraw
      others := fun d hd hne =>
        have hnot : d ∉ [c] := mt List.mem_singleton.1 hne
        ⟨(hsame.get _).trans (honly.chState hnot hd),
          congrArg (toInt 32) ((hsame.get _).trans (honly.get_other hnot (chanKey_CHRAW d) hd))⟩
      dio := hsame.dio.trans (hjudged.dio.trans (hcounted.dio.trans hended.dio))
      mrd := hsame.mrd.trans (hjudged.mrd.trans (hcounted.mrd.trans hended.mrd))
      spd := hsame.spd.trans (hjudged.spd.trans (hcounted.spd.trans hended.spd)) }

/-- The state in which a computation's inputs are judged. -/
def State.compBegun (s : State) (c : Nat) (vals : List (Int × Bool)) : State :=
  ((s.compEnded c).compCounted c).tellDirect c vals

theorem lawOnly_compBegun (s : State) (c : Nat) (vals : List (Int × Bool)) :
    LawOnly [R.HLM_CHCNT_VALUE c, R.HLM_OVR_CONSEC c] c s (s.compBegun c vals) :=
  ((lawOnly_compEnded s _ c).trans (lawOnly_compCounted _ c)).trans (lawOnly_tellDirect _ _ c vals)

/-- The counts of computations say nothing of a channel's state and inputs. -/
theorem State.get_compBegun (s : State) (c : Nat) (vals : List (Int × Bool)) :
    (s.compBegun c vals).chState c = s.chState c ∧
      (s.compBegun c vals).get (R.HLM_CHST_INVCNT c) = s.get (R.HLM_CHST_INVCNT c) := by
  have honly := lawOnly_compBegun s c vals
  refine ⟨honly.regs _ ?_, honly.regs _ ?_⟩ <;>
    simp only [List.map_cons, List.map_nil, List.mem_cons, List.not_mem_nil, or_false, R.HLM_CHST_STATE, R.HLM_CHST_INVCNT,
      R.HLM_CHCNT_VALUE, R.HLM_OVR_CONSEC, R.LOG_LOST_VALUE, Fld.at] <;>
    omega

section
variable {s : State} {c : Nat} (h128 : c < 128) (hc : c < s.hlm.chans.length) {vals : List (Int × Bool)}
include h128 hc

theorem inputsTaken_compEnd (h : ∀ v ∈ vals, v.2 = true) : InputsTaken c s ((s.compEnded c).compEnd c vals) := by
  have hbegun := lawOnly_compBegun s c vals
  have hsame := sameResults_compEnd (s.compEnded c) c vals
  rw [State.compJudged_valid h] at hsame
  obtain ⟨hcount, hvalid, hlaw⟩ :=
    inputsTaken_compValid (s := s.compBegun c vals) h128 (by rw [hbegun.length]; exact hc) vals
  refine ⟨(hsame.get _).trans hcount, (hsame.get _).trans hvalid, fun h2 => ?_⟩
  obtain ⟨hst, hgave⟩ := hlaw ((s.get_compBegun c vals).1.trans h2)
  obtain ⟨hresult, hwithin⟩ := hgave.of_ground (hbegun.sameGround (by simpa using h128))
  have hu := hsame.get (R.HLM_CHU_VALUE c)
  refine ⟨(hsame.get _).trans hst, ⟨?_, ?_⟩⟩
  · rw [(hsame.chan c).2, hu]
    exact hresult
  · rw [hu]
    exact hwithin

theorem inputFailed_compEnd (h : ∃ v ∈ vals, v.2 = false) : InputFailed c s ((s.compEnded c).compEnd c vals) := by
  have hbegun := lawOnly_compBegun s c vals
  have hsame := sameResults_compEnd (s.compEnded c) c vals
  obtain ⟨i, hi⟩ := State.compJudged_invalid h (s.compEnded c) c
  rw [hi] at hsame
  obtain ⟨hcount, hinvalid, hresult, hstate⟩ :=
    inputFailed_compInvalid (s := s.compBegun c vals) h128 (by rw [hbegun.length]; exact hc) i
  obtain ⟨hst, hinv⟩ := s.get_compBegun c vals
  rw [hinv] at hcount
  rw [hst, hinv, (hbegun.sameGround (by simpa using h128)).chanB] at hstate
  exact ⟨(hsame.get _).trans hcount, (hsame.get _).trans hinvalid, (hsame.chan c).2.trans hresult,
    fun h2 => (hsame.get _).trans (hstate h2)⟩

end

/-! ### An overrun (R232, R233) -/

theorem exec_overrun (ch : Fin 128) (s : State) : exec (.overrun ch) s = execOverrun ch s := rfl

/-- An overrun is counted. -/
def State.ovrCounted (s : State) (c : Nat) : State := ((s.runDropped c).bump (R.HLM_OVR_CONSEC c)).bump (R.HLM_OVR_TOTAL c)

/-- The overrun's event. -/
def State.ovrRaised (s : State) (c : Nat) : State :=
  (s.ovrCounted c).chEvent c 0x10 ((s.ovrCounted c).get (R.HLM_OVR_CONSEC c))

/-- The computation is aborted. -/
def State.ovrDropped (s : State) (c : Nat) : State :=
  (s.ovrRaised c).modChan c fun x =>
    { x with run := none, result := none, missed := x.missed + 1, paused := (s.ovrCounted c).pauses c }

/-- A channel in RUN goes to HOLD. -/
def State.ovrHeld (s : State) (c : Nat) : State :=
  (if (s.ovrDropped c).chState c = 2 then (s.ovrDropped c).enterHold c else s.ovrDropped c).rampSkip c

/-- The third overrun in a row stops the law, toward SAFE; a channel whose sink is off is there. -/
def State.ovrStopped (s : State) (c : Nat) : State :=
  if (s.chEvent c 0x11 0).sinkOff c then (s.chEvent c 0x11 0).modChan c fun x => { x with why := 2 }
  else (s.chEvent c 0x11 0).stopLaw c 4 2

theorem State.abort_eq (s : State) (c : Nat) :
    s.abort c =
      if 3 ≤ (s.ovrCounted c).get (R.HLM_OVR_CONSEC c) ∧ ((s.ovrHeld c).chan c).why ≠ 2 ∧
          ((s.ovrHeld c).chan c).why ≠ 4 then
        (s.ovrHeld c).ovrStopped c
      else s.ovrHeld c := rfl

theorem lawOnly_ovrCounted (s : State) (c : Nat) :
    LawOnly [R.HLM_OVR_CONSEC c, R.HLM_OVR_TOTAL c] c s (s.ovrCounted c) := by
  have hconsec : R.HLM_OVR_CONSEC c ∈ countFlds c := by simp [countFlds]
  have htotal : R.HLM_OVR_TOTAL c ∈ countFlds c := by simp [countFlds]
  have hdropped : LawOnly [R.HLM_OVR_CONSEC c, R.HLM_OVR_TOTAL c] c s (s.runDropped c) :=
    ⟨chansOnly_rest [c] s _ _ s.dio, rfl, rfl, rfl, List.prefix_rfl, id, fun _ _ => rfl⟩
  exact (hdropped.trans (lawOnly_put _ _ (chanKey_countFlds c _ hconsec) (by simp))).trans
    (lawOnly_put _ _ (chanKey_countFlds c _ htotal) (by simp))

theorem State.get_ovrCounted (s : State) (c : Nat) :
    (s.ovrCounted c).get (R.HLM_OVR_CONSEC c) = min (s.get (R.HLM_OVR_CONSEC c) + 1) 255 ∧
      (s.ovrCounted c).get (R.HLM_OVR_TOTAL c) = min (s.get (R.HLM_OVR_TOTAL c) + 1) 65535 := by
  have hconsec : min (s.get (R.HLM_OVR_CONSEC c) + 1) 255 < 2 ^ 8 := by omega
  have htotal : min (s.get (R.HLM_OVR_TOTAL c) + 1) 65535 < 2 ^ 16 := by omega
  have hkeep : ((s.runDropped c).bump (R.HLM_OVR_CONSEC c)).get (R.HLM_OVR_TOTAL c) = s.get (R.HLM_OVR_TOTAL c) :=
    State.get_put_other _ (countKeys_apart c).2.1.symm _
  refine ⟨(State.get_put_other _ (countKeys_apart c).2.1 _).trans
    (State.get_put_of_lt _ (f := R.HLM_OVR_CONSEC c) hconsec), ?_⟩
  rw [State.ovrCounted, State.bump, hkeep]
  exact State.get_put_of_lt _ (f := R.HLM_OVR_TOTAL c) htotal

theorem lawOnly_ovrDropped (s : State) (ks : List Fld) (c : Nat) : LawOnly ks c (s.ovrCounted c) (s.ovrDropped c) :=
  (lawOnly_chEvent _ ks c _ _).trans (lawOnly_modChan _ fun _ => rfl)

theorem lawOnly_ovrHeld (s : State) (c : Nat) : LawOnly (lawFlds c) c (s.ovrDropped c) (s.ovrHeld c) := by
  unfold State.ovrHeld
  split_ifs
  · exact (lawOnly_enterHold _ c).trans (lawOnly_rampSkip _ _ c)
  · exact lawOnly_rampSkip _ _ c

theorem lawOnly_ovrStopped (s : State) (c : Nat) : LawOnly (lawFlds c) c s (s.ovrStopped c) := by
  unfold State.ovrStopped
  split_ifs
  · exact (lawOnly_chEvent _ _ c _ _).trans (lawOnly_modChan _ id)
  · exact (lawOnly_chEvent _ _ c _ _).trans (lawOnly_stopLaw _ c 4 2)

theorem lawOnly_abort (s : State) (c : Nat) : LawOnly (lawFlds c) c (s.ovrDropped c) (s.abort c) := by
  rw [State.abort_eq]
  split_ifs
  · exact (lawOnly_ovrHeld s c).trans (lawOnly_ovrStopped _ c)
  · exact lawOnly_ovrHeld s c

/-- What an overrun leaves (R232, R233). -/
structure Overrun (c : Nat) (s t : State) : Prop where
  run : (t.chan c).run = none
  result : (t.chan c).result = none
  consec : t.get (R.HLM_OVR_CONSEC c) = min (s.get (R.HLM_OVR_CONSEC c) + 1) 255
  total : t.get (R.HLM_OVR_TOTAL c) = min (s.get (R.HLM_OVR_TOTAL c) + 1) 65535
  told : LogNext (32 + 2 * (c / 16)) [c, 0x10, min (s.get (R.HLM_OVR_CONSEC c) + 1) 255] s t
  hold : s.chState c = 2 → min (s.get (R.HLM_OVR_CONSEC c) + 1) 255 < 3 → t.chState c = 3
  safe : 3 ≤ min (s.get (R.HLM_OVR_CONSEC c) + 1) 255 → (s.chan c).why ≠ 2 → (s.chan c).why ≠ 4 →
    (t.chan c).why = 2 ∧
      (s.sinkOff c = false → t.chState c = 6 ∧ (t.chan c).target = 4 ∧ t.get (R.HLM_HOV_CAUSE c) = 1)
  applied : t.applied c = s.applied c
  dio : t.dio = s.dio
  mrd : t.mrd = s.mrd
  spd : t.spd = s.spd
  others : ∀ d, d ≠ c → t.chan d = s.chan d

theorem State.chan_ovrDropped {s : State} {c : Nat} (hc : c < s.hlm.chans.length) :
    ((s.ovrDropped c).chan c).run = none ∧ ((s.ovrDropped c).chan c).result = none ∧
      ((s.ovrDropped c).chan c).why = (s.chan c).why := by
  have hlen : c < (s.ovrRaised c).hlm.chans.length := by
    rw [State.ovrRaised, (lawOnly_chEvent _ [] c _ _).length, (lawOnly_ovrCounted s c).length]
    exact hc
  rw [State.ovrDropped, State.chan_modChan hlen, State.ovrRaised, State.chan_chEvent]
  exact ⟨rfl, rfl, rfl⟩

theorem State.chan_ovrHeld {s : State} {c : Nat} (hc : c < s.hlm.chans.length) :
    ((s.ovrHeld c).chan c).result = none ∧ ((s.ovrHeld c).chan c).why = (s.chan c).why := by
  have hlen : c < (s.ovrDropped c).hlm.chans.length := by
    rw [(lawOnly_ovrDropped s [] c).length, (lawOnly_ovrCounted s c).length]
    exact hc
  obtain ⟨-, hresult, hwhy⟩ := State.chan_ovrDropped hc
  obtain ⟨-, hskipResult, hskipWhy⟩ :=
    sameCourse_rampSkip (if (s.ovrDropped c).chState c = 2 then (s.ovrDropped c).enterHold c else s.ovrDropped c) c
  rw [State.ovrHeld, hskipResult, hskipWhy]
  split_ifs
  · rw [State.chan_enterHold hlen]
    exact ⟨hresult, hwhy⟩
  · exact ⟨hresult, hwhy⟩

theorem State.chState_ovrDropped (s : State) (c : Nat) : (s.ovrDropped c).chState c = s.chState c := by
  have hcounted : (s.ovrCounted c).chState c = s.chState c := by
    refine (lawOnly_ovrCounted s c).regs _ ?_
    simp only [List.map_cons, List.map_nil, List.mem_cons, List.not_mem_nil, or_false, R.HLM_CHST_STATE, R.HLM_OVR_CONSEC,
      R.HLM_OVR_TOTAL, R.LOG_LOST_VALUE, Fld.at]
    omega
  exact (State.chState_chEvent _ c c _ _).trans hcounted

theorem State.chState_ovrHeld {s : State} {c : Nat} (h2 : s.chState c = 2) : (s.ovrHeld c).chState c = 3 := by
  rw [State.ovrHeld, State.chState_rampSkip, if_pos ((s.chState_ovrDropped c).trans h2), State.chState_enterHold]

theorem State.ovrStopped_shown {s : State} {c : Nat} (hc : c < s.hlm.chans.length) (h128 : c < 128) :
    ((s.ovrStopped c).chan c).why = 2 ∧
      ((s.chan c).result = none → ((s.ovrStopped c).chan c).result = none) ∧
      (s.sinkOff c = false → (s.ovrStopped c).chState c = 6 ∧ ((s.ovrStopped c).chan c).target = 4 ∧
        (s.ovrStopped c).get (R.HLM_HOV_CAUSE c) = 1) := by
  have htold := lawOnly_chEvent s (lawFlds c) c 0x11 0
  have hlen : c < (s.chEvent c 0x11 0).hlm.chans.length := by
    rw [htold.length]
    exact hc
  rw [State.ovrStopped, (htold.sameGround (by simpa using h128)).sinkOff]
  by_cases hoff : s.sinkOff c = true
  · rw [if_pos hoff, State.chan_modChan hlen, State.chan_chEvent]
    exact ⟨rfl, id, fun hon => by simp [hoff] at hon⟩
  · obtain ⟨hresult, hwhy⟩ := State.chan_stopLaw hlen 4 2
    have hmarked : c < ((s.chEvent c 0x11 0).modChan c (Chan.stopped 4 2)).hlm.chans.length := by
      rwa [State.length_chans_modChan]
    obtain ⟨hst, hcause, htarget, -⟩ := State.startHo_shown hmarked 1 4
    rw [if_neg hoff]
    exact ⟨hwhy, fun _ => hresult, fun _ => ⟨hst, htarget, hcause⟩⟩

theorem logNext_abort {s : State} {c : Nat} (h128 : c < 128) :
    LogNext (32 + 2 * (c / 16)) [c, 0x10, min (s.get (R.HLM_OVR_CONSEC c) + 1) 255] s (s.abort c) := by
  have hcounted := (lawOnly_ovrCounted s c).toChansOnly
  have hraised : LogGains (32 + 2 * (c / 16)) [c, 0x10, (s.ovrCounted c).get (R.HLM_OVR_CONSEC c)] s (s.ovrRaised c) :=
    (logGains_raise (s.ovrCounted c) _ _).of_shown (hcounted.shown (by omega)) rfl hcounted.now
  rw [(s.get_ovrCounted c).1] at hraised
  exact hraised.logNext (lawOnly_abort s c).queue

theorem overrun_abort {s : State} {c : Nat} (h128 : c < 128) (hc : c < s.hlm.chans.length) : Overrun c s (s.abort c) := by
  have hcounted := lawOnly_ovrCounted s c
  have hdropped := lawOnly_ovrDropped s (lawFlds c) c
  have habort := lawOnly_abort s c
  have hheld := lawOnly_ovrHeld s c
  have honly := (hcounted.toChansOnly.trans hdropped.toChansOnly).trans habort.toChansOnly
  have hlen : c < (s.ovrHeld c).hlm.chans.length := by
    rw [hheld.length, hdropped.length, hcounted.length]
    exact hc
  have hground : SameGround s (s.ovrHeld c) :=
    ((hcounted.toChansOnly.trans hdropped.toChansOnly).trans hheld.toChansOnly).sameGround (by simpa using h128)
  obtain ⟨hconsec, htotal⟩ := s.get_ovrCounted c
  obtain ⟨hrun, -⟩ := State.chan_ovrDropped hc
  obtain ⟨hresult, hwhy⟩ := State.chan_ovrHeld hc
  obtain ⟨hstopWhy, hstopResult, hstopShown⟩ := State.ovrStopped_shown hlen h128
  have hkept : ∀ f ∈ [R.HLM_CHCNT_VALUE c, R.HLM_OVR_CONSEC c, R.HLM_OVR_TOTAL c, R.HLM_CHRAW_VALUE c],
      (s.abort c).get f = (s.ovrCounted c).get f := fun f hf =>
    ((hdropped.trans habort).mono (List.subset_append_right (inFlds c) _)).regs f (lawKeys_apart c f hf)
  have heq := s.abort_eq c
  rw [hconsec, hwhy] at heq
  exact
    { run := habort.idle hrun
      result := by
        rw [heq]
        split_ifs
        · exact hstopResult hresult
        · exact hresult
      consec := (hkept _ (by simp)).trans hconsec
      total := (hkept _ (by simp)).trans htotal
      told := logNext_abort h128
      hold := fun h2 hfew => by
        rw [heq, if_neg (by omega)]
        exact State.chState_ovrHeld h2
      safe := fun hthird h2 h4 => by
        rw [heq, if_pos ⟨hthird, h2, h4⟩]
        exact ⟨hstopWhy, fun hoff => hstopShown ((hground.sinkOff c).trans hoff)⟩
      applied := congrArg (toInt 32) ((hkept _ (by simp)).trans (hcounted.regs _ (countKeys_apart c).2.2.2))
      dio := habort.dio.trans (hdropped.dio.trans hcounted.dio)
      mrd := habort.mrd.trans (hdropped.mrd.trans hcounted.mrd)
      spd := habort.spd.trans (hdropped.spd.trans hcounted.spd)
      others := fun d hne => honly.chan d (mt List.mem_singleton.1 hne) }

/-- A channel whose window of this tick is over. -/
def State.windowOver (s : State) (c : Nat) : State := s.modChan c fun x => { x with ranAt := some s.chr.tick }

/-- The tick count of a channel's last window says nothing of its overruns. -/
theorem Overrun.of_windowOver {s t : State} {c : Nat} (hc : c < s.hlm.chans.length) (h : Overrun c (s.windowOver c) t) :
    Overrun c s t := by
  have hwhy : ((s.windowOver c).chan c).why = (s.chan c).why := by rw [State.windowOver, State.chan_modChan hc]
  have hsafe := h.safe
  rw [hwhy] at hsafe
  exact { h with
    safe := hsafe
    others := fun d hne => (h.others d hne).trans (getD_modify_other _ _ (Ne.symm hne) _) }

theorem overrun_overruns {s : State} {ch : Fin 128} (hs : s.Shaped)
    (h : (s.chan ch).run.isSome = true ∨ (s.jobDue ch = true ∧ (s.chan ch).ranAt ≠ some s.chr.tick)) :
    ∃ t, exec (.overrun ch) s = .next t ∧ Overrun ch s t := by
  obtain ⟨-, -, hlen, -⟩ := hs
  have hc : ch.val < s.hlm.chans.length := ch.isLt.trans_eq hlen.symm
  have hgo : ((s.chan ch).run.isSome || (s.jobDue ch && (s.chan ch).ranAt != some s.chr.tick)) = true := by
    rcases h with h | ⟨hdue, hran⟩
    · simp [h]
    · simp [hdue, hran]
  refine ⟨(s.windowOver ch).abort ch, ?_, (overrun_abort ch.isLt ?_).of_windowOver hc⟩
  · rw [exec_overrun, execOverrun, if_pos hgo]
    rfl
  · rwa [State.windowOver, State.length_chans_modChan]

theorem overrun_idle {s : State} {ch : Fin 128} (hrun : (s.chan ch).run = none)
    (h : s.jobDue ch = false ∨ (s.chan ch).ranAt = some s.chr.tick) : exec (.overrun ch) s = .next s := by
  rw [exec_overrun, execOverrun, if_neg]
  rcases h with h | h <;> simp [hrun, h]

/-! ### HLM_OVR (Table 6.9) -/

theorem exec_hlmOvrRead (ch : Fin 128) (s : State) :
    exec (.hlmOvrRead ch) s =
      .next (State.put { s with rdata := s.get (R.HLM_OVR_TOTAL ch) * 2 ^ 16 + s.get (R.HLM_OVR_CONSEC ch) }
        (R.HLM_OVR_TOTAL ch) 0) := rfl

theorem hlmOvrRead_clears (s : State) (ch : Fin 128) :
    ∃ t, exec (.hlmOvrRead ch) s = .next t ∧
      t.rdata = 65536 * s.get (R.HLM_OVR_TOTAL ch) + s.get (R.HLM_OVR_CONSEC ch) ∧ t.get (R.HLM_OVR_TOTAL ch) = 0 ∧
      OnlyRead [R.HLM_OVR_TOTAL ch] s t := by
  refine ⟨_, exec_hlmOvrRead ch s, ?_, State.get_put_same _ _ 0, fun f hf => ?_, rfl⟩
  · exact congrArg (· + s.get (R.HLM_OVR_CONSEC ch)) (Nat.mul_comm _ 65536)
  · exact State.get_put_other _ (by simpa using hf) 0

/-- Settles O39. Choices of the model: a computation that has not started by the end of its window is an overrun (log entry
105), and the third overrun in a row leads toward SAFE from every state but a SAFE of the ladder (log entry 59). Everything
that a computation does is its channel's own (`LawOnly`) but an outer channel's update for its inner one, which leaves the
registers and results alone (`SameResults`). -/
theorem helmComputations : Obligations.HelmComputations := by
  unfold Obligations.HelmComputations
  refine ⟨fun s ch ai x n => computationStart_starts, fun s ch ai => computationStart_idle ai,
    fun s ch vals hs hrun harith hbad => ?_, fun s ch hs h => ?_,
    fun s ch hrun => ⟨computationEnd_none hrun, overrun_idle hrun⟩, hlmOvrRead_clears⟩
  · obtain ⟨-, -, hlen, -⟩ := hs
    have hc : ch.val < s.hlm.chans.length := ch.isLt.trans_eq hlen.symm
    obtain ⟨hover, hcount, hconsec, happlied, hothers, hdio, hmrd, hspd⟩ := computationOver_compEnd hc vals
    refine ⟨_, exec_computationEnd_ends hrun harith hbad, hover, hcount, hconsec, happlied, hothers, hdio, hmrd, hspd,
      fun hvalid => ?_, fun hinvalid => ?_⟩
    · obtain ⟨hinv, hgood, hlaw⟩ := inputsTaken_compEnd ch.isLt hc hvalid
      refine ⟨hinv, hgood, fun h2 => ?_⟩
      obtain ⟨hst, hresult, hwithin⟩ := hlaw h2
      exact ⟨hst, hresult, hwithin⟩
    · obtain ⟨hinv, hgood, hresult, hstate⟩ := inputFailed_compEnd ch.isLt hc hinvalid
      exact ⟨hinv, hgood, hresult, hstate⟩
  · obtain ⟨t, hexec, ht⟩ := overrun_overruns hs h
    exact ⟨t, hexec, ht.run, ht.result, ht.consec, ht.total, ht.told, ht.hold, ht.safe, ht.applied, ht.dio, ht.mrd, ht.spd,
      ht.others⟩

end Sys2Proof.Machine

/-! What the operations on Helm's groups and outputs share: the records, the registers that no event shows, and a hand-over's
registers. -/

namespace Sys2Proof.Machine

/-! ### Records -/

/-- The records in force stand. -/
structure SameRecords (s t : State) : Prop where
  alm : t.alm = s.alm
  get : ∀ f : Fld, 2 ^ 51 ≤ f.key → t.get f = s.get f

theorem SameRecords.trans {s t u : State} (h : SameRecords s t) (g : SameRecords t u) : SameRecords s u :=
  ⟨g.alm.trans h.alm, fun f hf => (g.get f hf).trans (h.get f hf)⟩

theorem sameRecords_of_eq {s t : State} (ha : t.alm = s.alm) (hr : t.regs = s.regs) : SameRecords s t :=
  ⟨ha, fun f _ => State.get_congr hr f⟩

theorem sameRecords_put (s : State) {f : Fld} (v : Nat) (h : f.key < 2 ^ 51) : SameRecords s (s.put f v) :=
  ⟨rfl, fun g hg => State.get_put_other s (by omega) v⟩

theorem sameRecords_puts (s : State) {es : List (Fld × Nat)} (h : ∀ e ∈ es, e.1.key < 2 ^ 51) :
    SameRecords s (s.puts es) :=
  ⟨s.puts_alm es, fun g hg => s.get_puts_other es g fun e he hk => absurd (h e he) (by omega)⟩

theorem SameGround.sameRecords {s t : State} (h : SameGround s t) : SameRecords s t :=
  ⟨h.alm, fun f hf => h.get f (.inl hf)⟩

section
variable {s t : State} (h : SameRecords s t)
include h

theorem SameRecords.cfg (type i off n : Nat) : t.cfg type i off n = s.cfg type i off n := by
  induction n generalizing off with
  | zero => rfl
  | succ n ih =>
    have hbyte : 2 ^ 51 ≤ (recByte type i off).key := by
      simp only [recByte]
      omega
    rw [State.cfg, State.cfg, h.get _ hbyte, ih]

theorem SameRecords.has (type i : Nat) : t.has type i = s.has type i := by
  unfold State.has
  rw [h.alm]

theorem SameRecords.chanB (c off n : Nat) : t.chanB c off n = s.chanB c off n := h.cfg 0x0300 c off n

theorem SameRecords.chanOn (c : Nat) : t.chanOn c = s.chanOn c := h.has 0x0300 c

theorem SameRecords.groupChans (g : Nat) : t.groupChans g = s.groupChans g := by
  unfold State.groupChans
  rw [funext h.chanOn]

theorem SameRecords.driversOf (dst : Nat) : t.driversOf dst = s.driversOf dst := by
  unfold State.driversOf
  simp only [h.chanOn, h.chanB]

end

theorem State.mem_driversOf {s : State} {dst c : Nat} :
    c ∈ s.driversOf dst ↔ c < 128 ∧ s.chanOn c = true ∧ s.chanB c 0x1C 4 = dst := by
  simp [State.driversOf]

theorem State.nodup_driversOf (s : State) (dst : Nat) : (s.driversOf dst).Nodup := List.nodup_range.filter _

theorem State.lt_of_mem_driversOf {s : State} {dst c : Nat} (h : c ∈ s.driversOf dst) : c < 128 := (State.mem_driversOf.1 h).1

/-! ### Registers that no record of an event shows -/

/-- The keys of Helm's registers. -/
def helmKey (k : Nat) : Prop := 8 * 0xF000310000 ≤ k ∧ k < 8 * 0xF000A00000

theorem helmKey_of_chanKey {c k : Nat} (hc : c < 128) (h : chanKey c k) : helmKey k := by
  unfold chanKey at h
  unfold helmKey
  omega

/-- A record shows none of Helm's registers. -/
theorem LogGains.of_helmPuts {s t : State} {es : List (Fld × Nat)} {c : Nat} {ps : List Nat}
    (g : LogGains c ps (s.puts es) t) (h : ∀ e ∈ es, helmKey e.1.key) : LogGains c ps s t := by
  refine g.of_shown (fun f hf => s.get_puts_other es f fun e he hk => ?_) (s.puts_log es) (by
    rw [State.now, State.now, State.puts_chr])
  have hkey := h e he
  simp only [helmKey, ← hk] at hkey
  simp only [List.mem_cons, List.not_mem_nil, or_false] at hf
  rcases hf with rfl | rfl | rfl <;> simp only [R.LOG_MASK_VALUE, R.ALM_MODE_MODE, R.CHR_DISC_TAI_VALID, Fld.at] at hkey <;>
    omega

theorem LogGains.of_helmPut {s t : State} {f : Fld} {v c : Nat} {ps : List Nat} (g : LogGains c ps (s.put f v) t)
    (h : helmKey f.key) : LogGains c ps s t :=
  LogGains.of_helmPuts (es := [(f, v)]) g (by simpa using h)

/-- An event of a channel's own operation is the one that it would raise before. -/
theorem LogGains.of_chansOnly {l : List Nat} {s u t : State} {c : Nat} {ps : List Nat} (g : LogGains c ps u t)
    (h : ChansOnly l s u) (hl : u.log = s.log) (hc : c / 32 = 1) : LogGains c ps s t :=
  g.of_shown (h.shown hc) hl h.now

/-! ### The registers of a hand-over -/

/-- The count of lost records is no channel's register. -/
theorem lost_ne_of_chanKey {c : Nat} {f : Fld} (h : chanKey c f.key) : f.key ≠ R.LOG_LOST_VALUE.key := by
  simp only [chanKey, R.LOG_LOST_VALUE, Fld.at] at h ⊢
  omega

/-- Each register of a hand-over shows it. -/
theorem State.get_startHo {s : State} {c cause target : Nat} {f : Fld} {v : Nat}
    (h : (f, v) ∈ hoPuts (s.hoMarked c target) c cause) : (s.startHo c cause target).get f = v % 2 ^ f.w := by
  rw [State.startHo_eq, State.chEvent,
    State.get_raise _ _ _ (lost_ne_of_chanKey (chanKey_hoPuts (s.hoMarked c target) c cause _ h))]
  exact State.get_puts_mem (nodup_hoPuts _ c cause) h _

theorem State.get_startHo_other {s : State} {c cause target : Nat} {f : Fld} (hc : chanKey c f.key)
    (h : ∀ e ∈ hoPuts (s.hoMarked c target) c cause, f.key ≠ e.1.key) : (s.startHo c cause target).get f = s.get f := by
  rw [State.startHo_eq, State.chEvent, State.get_raise _ _ _ (lost_ne_of_chanKey hc), State.get_puts_other _ _ _ h]
  rfl

theorem State.chState_startHo (s : State) (c cause target : Nat) : (s.startHo c cause target).chState c = 6 :=
  State.get_startHo (f := R.HLM_CHST_STATE c) (v := 6) (by simp [hoPuts])

theorem State.hovCause_startHo (s : State) (c cause target : Nat) :
    (s.startHo c cause target).get (R.HLM_HOV_CAUSE c) = cause % 8 :=
  State.get_startHo (by simp [hoPuts])

theorem State.hovTicks_startHo (s : State) (c cause target : Nat) :
    (s.startHo c cause target).get (R.HLM_HOV_TICKS c) = 0 :=
  State.get_startHo (v := 0) (by simp [hoPuts])

theorem logGains_startHo (s : State) {c : Nat} (hc : c < 128) (cause target : Nat) :
    LogGains (32 + 2 * (c / 16)) [c, 0x12, cause] s (s.startHo c cause target) := by
  rw [State.startHo_eq]
  refine (logGains_raise _ _ _).of_chansOnly
    ((chansOnly_modChan s _ (List.mem_singleton_self c)).trans (chansOnly_puts _ (s.hoMarked c target) fun e he =>
      .inl ⟨c, List.mem_singleton_self c, chanKey_hoPuts (s.hoMarked c target) c cause e he⟩)) ?_ (by omega)
  rw [State.puts_log]
  rfl

end Sys2Proof.Machine

/-! Requests for AUTO and MAN (R224, R225; O42). -/

namespace Sys2Proof.Machine

theorem exec_autoRequest (ch : Fin 128) (s : State) : exec (.autoRequest ch) s = .next (s.autoRequest ch) := rfl

theorem exec_manRequest (ch : Fin 128) (s : State) : exec (.manRequest ch) s = .next (s.manRequest ch) := rfl

/-- A channel's requests for AUTO and MAN are taken. -/
def State.amTaken (s : State) (c : Nat) : State := { s with hlm.amReq := s.hlm.amReq.filter fun r => r.1 != c }

theorem State.autoRequest_none {s : State} {c : Nat} (h : (c, 0) ∉ s.hlm.amReq) : s.autoRequest c = s :=
  if_neg (by simpa using h)

theorem State.manRequest_none {s : State} {c : Nat} (h : (c, 1) ∉ s.hlm.amReq) : s.manRequest c = s :=
  if_neg (by simpa using h)

theorem amRequest_none (s : State) (ch : Fin 128) (h : ∀ r ∈ s.hlm.amReq, r.1 ≠ ch.val) :
    exec (.autoRequest ch) s = .next s ∧ exec (.manRequest ch) s = .next s := by
  rw [exec_autoRequest, exec_manRequest, State.autoRequest_none fun hmem => h _ hmem rfl,
    State.manRequest_none fun hmem => h _ hmem rfl]
  exact ⟨rfl, rfl⟩

/-! ### A request for AUTO that is refused (R225) -/

/-- What HLM_AM shows of a request for AUTO that is refused. -/
def refusedPuts (c r : Nat) : List (Fld × Nat) := [(R.HLM_AM_REFUSED c, 1), (R.HLM_AM_REASON c, r), (R.HLM_AM_REQ c, 1)]

theorem chanKey_refusedPuts (c r : Nat) : ∀ e ∈ refusedPuts c r, chanKey c e.1.key := by
  simp only [refusedPuts, List.forall_mem_cons, List.not_mem_nil, false_imp_iff, implies_true, and_true, chanKey,
    R.HLM_AM_REFUSED, R.HLM_AM_REASON, R.HLM_AM_REQ, Fld.at]
  omega

theorem nodup_refusedPuts (c r : Nat) : ((refusedPuts c r).map fun e => e.1.key).Nodup := by
  simp only [refusedPuts, List.map_cons, List.map_nil, List.nodup_cons, List.mem_cons, List.not_mem_nil, or_false, not_or,
    not_false_eq_true, List.nodup_nil, and_true, R.HLM_AM_REFUSED, R.HLM_AM_REASON, R.HLM_AM_REQ, Fld.at]
  omega

/-- The reasons of R225. -/
theorem State.autoRefusal_le {s : State} {c r : Nat} (h : s.autoRefusal c = some r) : r ≤ 4 := by
  unfold State.autoRefusal at h
  split_ifs at h <;> cases h <;> decide

theorem State.autoRequest_refused {s : State} {c r : Nat} (h : (c, 0) ∈ s.hlm.amReq) (hr : s.autoRefusal c = some r) :
    s.autoRequest c = ((s.amTaken c).puts (refusedPuts c r)).chEvent c 0x14 r := by
  have hr' : (s.amTaken c).autoRefusal c = some r := hr
  unfold State.autoRequest
  rw [if_pos (List.contains_iff_mem.2 h)]
  dsimp only
  split
  · next q hq =>
    obtain rfl : r = q := Option.some.inj (hr'.symm.trans hq)
    rfl
  · next hq => cases hr'.symm.trans hq

theorem autoRequest_refuses {s : State} {ch : Fin 128} (h : (ch.val, 0) ∈ s.hlm.amReq) {r : Nat}
    (hr : s.autoRefusal ch = some r) :
    ∃ t, exec (.autoRequest ch) s = .next t ∧ t.get (R.HLM_AM_REFUSED ch) = 1 ∧ t.get (R.HLM_AM_REASON ch) = r ∧
      t.get (R.HLM_AM_REQ ch) = 1 ∧ t.inMan ch = s.inMan ch ∧ t.chState ch = s.chState ch ∧
      LogGains (32 + 2 * (ch / 16)) [ch, 0x14, r] s t := by
  have hwidth : r < 2 ^ 4 := (State.autoRefusal_le hr).trans_lt (by decide)
  have hput {f : Fld} {v : Nat} (hf : (f, v) ∈ refusedPuts ch r) :
      (((s.amTaken ch).puts (refusedPuts ch r)).chEvent ch 0x14 r).get f = v % 2 ^ f.w :=
    (State.get_raise _ _ _ (lost_ne_of_chanKey (chanKey_refusedPuts ch r _ hf))).trans
      (State.get_puts_mem (nodup_refusedPuts ch r) hf _)
  have hkept {f : Fld} (hc : chanKey ch f.key) (hf : ∀ e ∈ refusedPuts ch r, f.key ≠ e.1.key) :
      (((s.amTaken ch).puts (refusedPuts ch r)).chEvent ch 0x14 r).get f = s.get f :=
    (State.get_raise _ _ _ (lost_ne_of_chanKey hc)).trans (State.get_puts_other _ _ _ hf)
  have ham := hkept (f := R.HLM_AM_AM ch) (by simp only [chanKey, R.HLM_AM_AM, Fld.at]; omega) (by
    simp only [refusedPuts, List.forall_mem_cons, List.not_mem_nil, false_imp_iff, implies_true, and_true, R.HLM_AM_AM,
      R.HLM_AM_REFUSED, R.HLM_AM_REASON, R.HLM_AM_REQ, Fld.at]
    omega)
  have hst := hkept (chanKey_CHST_STATE ch) (by
    simp only [refusedPuts, List.forall_mem_cons, List.not_mem_nil, false_imp_iff, implies_true, and_true,
      R.HLM_CHST_STATE, R.HLM_AM_REFUSED, R.HLM_AM_REASON, R.HLM_AM_REQ, Fld.at]
    omega)
  refine ⟨_, by rw [exec_autoRequest, State.autoRequest_refused h hr],
    hput (v := 1) (by simp [refusedPuts]),
    (hput (v := r) (by simp [refusedPuts])).trans (Nat.mod_eq_of_lt hwidth),
    hput (v := 1) (by simp [refusedPuts]), congrArg (· != 0) ham, hst, ?_⟩
  exact (logGains_raise ((s.amTaken ch).puts (refusedPuts ch r)) _ _).of_helmPuts fun e he =>
    helmKey_of_chanKey ch.isLt (chanKey_refusedPuts ch r e he)

/-! ### A request that acts (R224, R225) -/

/-- HLM_AM.AM shows AUTO or MAN. -/
def State.amShown (s : State) (c v : Nat) : State := (s.amTaken c).put (R.HLM_AM_AM c) v

theorem chanKey_AM (c : Nat) : chanKey c (R.HLM_AM_AM c).key := by
  simp only [chanKey, R.HLM_AM_AM, Fld.at]
  omega

theorem State.inMan_startHo (s : State) (c cause target : Nat) : (s.startHo c cause target).inMan c = s.inMan c := by
  refine congrArg (· != 0) (State.get_startHo_other (chanKey_AM c) ?_)
  simp only [hoPuts, List.forall_mem_cons, List.not_mem_nil, false_imp_iff, implies_true, and_true, R.HLM_AM_AM,
    R.HLM_CHST_STATE, R.HLM_HOV_ACTIVE, R.HLM_HOV_CAUSE, R.HLM_HOV_TICKS, R.HLM_HOVD_VALUE, Fld.at]
  omega

theorem State.inMan_amShown (s : State) (c : Nat) {v : Nat} (hv : v < 2) : (s.amShown c v).inMan c = (v != 0) :=
  congrArg (· != 0) (State.get_put_of_lt (s.amTaken c) (f := R.HLM_AM_AM c) hv)

theorem State.chState_amShown (s : State) (c v : Nat) : (s.amShown c v).chState c = s.chState c := by
  refine State.get_put_other (s.amTaken c) ?_ v
  simp only [R.HLM_CHST_STATE, R.HLM_AM_AM, Fld.at]
  omega

theorem State.toLaw_amShown (s : State) (c v : Nat) : (s.amShown c v).toLaw c = s.toLaw c := by
  unfold State.toLaw
  rw [State.chState_amShown]
  rfl

theorem chansOnly_amShown (s : State) (c v : Nat) : ChansOnly [c] (s.amTaken c) (s.amShown c v) :=
  chansOnly_put _ v (.inl ⟨c, List.mem_singleton_self c, chanKey_AM c⟩)

theorem State.helmsman_amShown (s : State) {c : Nat} (hc : c < 128) (v : Nat) :
    (s.amShown c v).helmsman c = s.helmsman c := by
  have hrec : SameRecords s (s.amShown c v) := (sameRecords_of_eq rfl rfl : SameRecords s (s.amTaken c)).trans
    ((chansOnly_amShown s c v).sameGround (by simpa using hc)).sameRecords
  unfold State.helmsman
  rw [hrec.chanB]

/-- The law of a channel that returns to AUTO starts from what its sink holds (R190). -/
def State.autoFreed (s : State) (c : Nat) : State :=
  (s.amShown c 0).modChan c fun x => { x with fresh := true, result := none }

theorem State.toLaw_autoFreed (s : State) (c : Nat) : (s.autoFreed c).toLaw c = s.toLaw c := by
  have htarget : ((s.autoFreed c).chan c).target = ((s.amShown c 0).chan c).target := by
    rw [State.autoFreed]
    obtain e | e := (s.amShown c 0).chan_modChan_cases c fun x => { x with fresh := true, result := none } <;> rw [e]
  have hst : (s.autoFreed c).chState c = (s.amShown c 0).chState c := rfl
  rw [← s.toLaw_amShown c 0, State.toLaw, State.toLaw, htarget, hst]

theorem State.autoRequest_acts {s : State} {c : Nat} (hc : c < 128) (h : (c, 0) ∈ s.hlm.amReq) (hr : s.autoRefusal c = none)
    (hman : s.inMan c = true) :
    s.autoRequest c =
      if s.helmsman c then (s.amShown c 0).put (R.HLM_HOV_CAUSE c) 4
      else if s.toLaw c then (s.autoFreed c).startHo c 2 2 else s.autoFreed c := by
  have hr' : (s.amTaken c).autoRefusal c = none := hr
  have hman' : (s.amTaken c).inMan c = true := hman
  unfold State.autoRequest
  rw [if_pos (List.contains_iff_mem.2 h)]
  dsimp only
  split
  · next q hq => cases hr'.symm.trans hq
  · rw [← s.helmsman_amShown hc 0, ← s.toLaw_autoFreed c]
    refine (if_neg ?_).trans rfl
    simp only [Bool.not_eq_true', Bool.not_eq_false]
    exact hman'


theorem autoRequest_helmsman {s : State} {ch : Fin 128} (h : (ch.val, 0) ∈ s.hlm.amReq) (hr : s.autoRefusal ch = none)
    (hman : s.inMan ch = true) (hhelm : s.helmsman ch = true) :
    ∃ t, exec (.autoRequest ch) s = .next t ∧ t.inMan ch = false ∧ t.get (R.HLM_HOV_CAUSE ch) = 4 ∧
      t.chState ch = s.chState ch ∧ t.hlm.chans = s.hlm.chans := by
  have ham : (R.HLM_AM_AM ch).key ≠ (R.HLM_HOV_CAUSE ch).key := by
    simp only [R.HLM_AM_AM, R.HLM_HOV_CAUSE, Fld.at]
    omega
  have hst : (R.HLM_CHST_STATE ch).key ≠ (R.HLM_HOV_CAUSE ch).key := by
    simp only [R.HLM_CHST_STATE, R.HLM_HOV_CAUSE, Fld.at]
    omega
  refine ⟨_, by rw [exec_autoRequest, State.autoRequest_acts ch.isLt h hr hman, if_pos hhelm], ?_,
    State.get_put_same (s.amShown ch 0) (R.HLM_HOV_CAUSE ch) 4, ?_, rfl⟩
  · exact (congrArg (· != 0) (State.get_put_other (s.amShown ch 0) ham 4)).trans (s.inMan_amShown ch (v := 0) (by decide))
  · exact (State.get_put_other (s.amShown ch 0) hst 4).trans (s.chState_amShown ch 0)

theorem autoRequest_handsOver {s : State} {ch : Fin 128} (h : (ch.val, 0) ∈ s.hlm.amReq) (hr : s.autoRefusal ch = none)
    (hman : s.inMan ch = true) (hhelm : s.helmsman ch = false) (hlaw : s.toLaw ch = true) :
    ∃ t, exec (.autoRequest ch) s = .next t ∧ t.inMan ch = false ∧ t.chState ch = 6 ∧ t.get (R.HLM_HOV_CAUSE ch) = 2 ∧
      t.get (R.HLM_HOV_TICKS ch) = 0 ∧ LogGains (32 + 2 * (ch / 16)) [ch, 0x12, 2] s t := by
  refine ⟨_, by rw [exec_autoRequest, State.autoRequest_acts ch.isLt h hr hman, if_neg (by simp [hhelm]), if_pos hlaw],
    (State.inMan_startHo (s.autoFreed ch) ch 2 2).trans (s.inMan_amShown ch (v := 0) (by decide)), State.chState_startHo _ ch 2 2,
    State.hovCause_startHo _ ch 2 2, State.hovTicks_startHo _ ch 2 2, ?_⟩
  have hgains : LogGains (32 + 2 * (ch / 16)) [ch, 0x12, 2] (s.amShown ch 0) ((s.autoFreed ch).startHo ch 2 2) :=
    logGains_startHo (s.autoFreed ch) ch.isLt 2 2
  exact hgains.of_helmPut (s := s.amTaken ch) (helmKey_of_chanKey ch.isLt (chanKey_AM ch))

theorem State.manRequest_acts {s : State} {c : Nat} (h : (c, 1) ∈ s.hlm.amReq) (hman : s.inMan c = false) :
    s.manRequest c = if s.toLaw c then (s.amShown c 1).startHo c 3 2 else s.amShown c 1 := by
  have hman' : (s.amTaken c).inMan c ≠ true := by
    rw [Ne, Bool.not_eq_true]
    exact hman
  rw [← s.toLaw_amShown c 1]
  exact (if_pos (List.contains_iff_mem.2 h)).trans (if_neg hman')

theorem manRequest_handsOver (s : State) (ch : Fin 128) (h : (ch.val, 1) ∈ s.hlm.amReq) (hman : s.inMan ch = false)
    (hlaw : s.toLaw ch = true) :
    ∃ t, exec (.manRequest ch) s = .next t ∧ t.inMan ch = true ∧ t.chState ch = 6 ∧ t.get (R.HLM_HOV_CAUSE ch) = 3 ∧
      LogGains (32 + 2 * (ch / 16)) [ch, 0x12, 3] s t := by
  refine ⟨_, by rw [exec_manRequest, State.manRequest_acts h hman, if_pos hlaw],
    (State.inMan_startHo (s.amShown ch 1) ch 3 2).trans (s.inMan_amShown ch (v := 1) (by decide)), State.chState_startHo _ ch 3 2,
    State.hovCause_startHo _ ch 3 2, ?_⟩
  exact (logGains_startHo (s.amShown ch 1) ch.isLt 3 2).of_helmPut (s := s.amTaken ch)
    (helmKey_of_chanKey ch.isLt (chanKey_AM ch))

end Sys2Proof.Machine

/-! The rebuild of a timetable (R202) and the fallbacks that the Pilot computes (R235; O42). -/

namespace Sys2Proof.Machine

theorem exec_timetableRebuild (g : Fin 8) (s : State) : exec (.timetableRebuild g) s = execTimetableRebuild g s := rfl

/-! ### The rates (R202, R239) -/

/-- The rates of a channel's record. -/
def ratePuts (s : State) (c : Nat) : List (Fld × Nat) :=
  [(R.HLM_RATE_K_NOW c, s.chanB c 2 1), (R.HLM_RATE_TOFF_NOW c, s.chanB c 3 1)]

theorem State.takeRate_eq (s : State) (c : Nat) :
    s.takeRate c = if (s.chan c).shed then s else s.puts (ratePuts s c) := rfl

theorem chanKey_RATE (c : Nat) : chanKey c (R.HLM_RATE_K_NOW c).key ∧ chanKey c (R.HLM_RATE_TOFF_NOW c).key := by
  simp only [chanKey, R.HLM_RATE_K_NOW, R.HLM_RATE_TOFF_NOW, Fld.at]
  omega

theorem nodup_ratePuts (s : State) (c : Nat) : ((ratePuts s c).map fun e => e.1.key).Nodup := by
  simp only [ratePuts, List.map_cons, List.map_nil, List.nodup_cons, List.mem_cons, List.not_mem_nil, or_false,
    not_false_eq_true, List.nodup_nil, and_true, R.HLM_RATE_K_NOW, R.HLM_RATE_TOFF_NOW, Fld.at]
  omega

theorem chansOnly_takeRate (s : State) (c : Nat) : ChansOnly [c] s (s.takeRate c) := by
  obtain ⟨hk, htoff⟩ := chanKey_RATE c
  rw [State.takeRate_eq]
  split_ifs
  · exact ChansOnly.refl [c] s
  · refine chansOnly_puts _ s ?_
    simp only [ratePuts, List.forall_mem_cons, List.not_mem_nil, false_imp_iff, implies_true, and_true]
    exact ⟨.inl ⟨c, List.mem_singleton_self c, hk⟩, .inl ⟨c, List.mem_singleton_self c, htoff⟩⟩

theorem State.takeRate_log (s : State) (c : Nat) : (s.takeRate c).log = s.log := by
  rw [State.takeRate_eq]
  split_ifs
  · rfl
  · exact s.puts_log _

theorem State.takeRate_shown {s : State} {c : Nat} (h : (s.chan c).shed = false) :
    (s.takeRate c).kNow c = s.chanB c 2 1 % 8 ∧ (s.takeRate c).toffNow c = s.chanB c 3 1 % 128 := by
  rw [State.takeRate_eq, if_neg (by simp [h])]
  exact ⟨State.get_puts_mem (nodup_ratePuts s c) List.mem_cons_self s,
    State.get_puts_mem (nodup_ratePuts s c) (List.mem_cons_of_mem _ List.mem_cons_self) s⟩

/-! ### A rebuild that passes its checks -/

/-- What a rebuild shows. -/
def rebuiltPuts (g : Nat) : List (Fld × Nat) :=
  [(R.HLM_GSTAT_TT_STALE g, 0), (R.HLM_GSTAT_TT_FAIL g, 0), (R.HLM_FB_READY g, 0)]

/-- The group with the rates of its records. -/
def State.ratesTaken (s : State) (g : Nat) : State :=
  (s.puts (rebuiltPuts g)).eachChan ((s.puts (rebuiltPuts g)).groupChans g) State.takeRate

/-- The group's timetable and copies are those of the records in force. -/
def State.ttFormed (s : State) (g : Nat) : State :=
  let u := (s.setTt g ⟨s.groupA g, s.ttRebuild g⟩).listCopies g
  { u with hlm.ttNew := u.hlm.ttNew ++ [g] }

theorem State.ttFormed_kept (s : State) (g : Nat) :
    (s.ttFormed g).regs = s.regs ∧ (s.ttFormed g).log = s.log ∧ (s.ttFormed g).chr = s.chr := ⟨rfl, rfl, rfl⟩

theorem State.mem_ttNew_ttFormed (s : State) (g : Nat) : g ∈ (s.ttFormed g).hlm.ttNew :=
  List.mem_append_right _ (List.mem_singleton_self g)

/-- The group rebuilt, before the event. -/
def State.rebuilt (s : State) (g : Nat) : State := (s.ratesTaken g).ttFormed g

theorem exec_timetableRebuild_passed {s : State} {g : Fin 8} (hstale : s.get (R.HLM_GSTAT_TT_STALE g) ≠ 0)
    (hcode : s.rebuildCode g = 0) : exec (.timetableRebuild g) s = .next ((s.rebuilt g).grpEvent g 1 0) := by
  rw [exec_timetableRebuild, execTimetableRebuild, if_neg (by simpa [State.flag] using hstale)]
  exact if_pos hcode

/-- The registers of a group that a rebuild and a fallback write. -/
def groupKey (g k : Nat) : Prop :=
  8 * (0xF000310000 + 0x10000 * g) ≤ k ∧ k < 8 * (0xF000310000 + 0x10000 * g) + 0x20 ∨
    8 * (0xF000316400 + 0x10000 * g) ≤ k ∧ k < 8 * (0xF000316400 + 0x10000 * g) + 0x20

theorem helmKey_of_groupKey {g k : Nat} (hg : g < 8) (h : groupKey g k) : helmKey k := by
  unfold groupKey at h
  unfold helmKey
  omega

theorem lost_ne_of_helmKey {k : Nat} (h : helmKey k) : k ≠ R.LOG_LOST_VALUE.key := by
  simp only [helmKey, R.LOG_LOST_VALUE, Fld.at] at h ⊢
  omega

/-- The registers of a group are no channel's. -/
theorem not_chansKey_of_groupKey {g k : Nat} (hg : g < 8) (h : groupKey g k) (l : List Nat) : ¬ chansKey l k := by
  rintro (⟨d, hd, hk⟩ | hk | hk)
  · unfold groupKey at h
    unfold chanKey at hk
    omega
  · simp only [groupKey, R.DIO_OUT_STATE, Fld.at] at h hk
    omega
  · exact lost_ne_of_helmKey (helmKey_of_groupKey hg h) hk

theorem groupKey_GSTAT (g : Nat) : groupKey g (R.HLM_GSTAT_TT_STALE g).key ∧ groupKey g (R.HLM_GSTAT_TT_FAIL g).key ∧
    groupKey g (R.HLM_GSTAT_TT_CODE g).key ∧ groupKey g (R.HLM_GSTAT_DEGRADED g).key := by
  simp only [groupKey, R.HLM_GSTAT_TT_STALE, R.HLM_GSTAT_TT_FAIL, R.HLM_GSTAT_TT_CODE, R.HLM_GSTAT_DEGRADED, Fld.at]
  omega

theorem groupKey_FB (g : Nat) : groupKey g (R.HLM_FB_READY g).key ∧ groupKey g (R.HLM_FB_STEPS g).key := by
  simp only [groupKey, R.HLM_FB_READY, R.HLM_FB_STEPS, Fld.at]
  omega

theorem groupKey_rebuiltPuts (g : Nat) : ∀ e ∈ rebuiltPuts g, groupKey g e.1.key := by
  obtain ⟨hstale, hfail, -⟩ := groupKey_GSTAT g
  simpa [rebuiltPuts] using ⟨hstale, hfail, (groupKey_FB g).1⟩

theorem nodup_rebuiltPuts (g : Nat) : ((rebuiltPuts g).map fun e => e.1.key).Nodup := by
  simp only [rebuiltPuts, List.map_cons, List.map_nil, List.nodup_cons, List.mem_cons, List.not_mem_nil, or_false, not_or,
    not_false_eq_true, List.nodup_nil, and_true, R.HLM_GSTAT_TT_STALE, R.HLM_GSTAT_TT_FAIL, R.HLM_FB_READY, Fld.at]
  omega

theorem sameRecords_rebuiltPuts (s : State) {g : Nat} (hg : g < 8) : SameRecords s (s.puts (rebuiltPuts g)) :=
  sameRecords_puts s fun e he => ((helmKey_of_groupKey hg (groupKey_rebuiltPuts g e he)).2).trans (by decide)

theorem chansOnly_ratesTaken (s : State) {g : Nat} (hg : g < 8) :
    ChansOnly (s.groupChans g) (s.puts (rebuiltPuts g)) (s.ratesTaken g) := by
  rw [State.ratesTaken, (sameRecords_rebuiltPuts s hg).groupChans]
  exact chansOnly_eachChan chansOnly_takeRate _ _

theorem State.log_ratesTaken (s : State) (g : Nat) : (s.ratesTaken g).log = s.log :=
  List.foldlRecOn (motive := fun t : State => t.log = s.log) _ _ (s.puts_log _) fun t ht c _ => (t.takeRate_log c).trans ht

theorem State.ratesTaken_shown (s : State) {g : Nat} (hg : g < 8) {f : Fld} (hf : (f, 0) ∈ rebuiltPuts g) :
    (s.ratesTaken g).get f = 0 :=
  ((chansOnly_ratesTaken s hg).get f (not_chansKey_of_groupKey hg (groupKey_rebuiltPuts g _ hf) _)).trans
    ((State.get_puts_mem (nodup_rebuiltPuts g) hf s).trans (Nat.zero_mod _))

theorem State.ratesTaken_rates {s : State} {g c : Nat} (hg : g < 8) (hc : c ∈ s.groupChans g)
    (hshed : (s.chan c).shed = false) :
    (s.ratesTaken g).kNow c = s.chanB c 2 1 % 8 ∧ (s.ratesTaken g).toffNow c = s.chanB c 3 1 % 128 := by
  have h128 := State.lt_of_mem_groupChans hg hc
  have hputs := sameRecords_rebuiltPuts s hg
  obtain ⟨hkeyK, hkeyT⟩ := chanKey_RATE c
  obtain ⟨a, b, u, ha, hb, hal, hbefore, hafter⟩ :=
    eachChan_at chansOnly_takeRate (s.nodup_groupChans g) hc (s.puts (rebuiltPuts g))
  have hrec : SameRecords s u :=
    hputs.trans (hbefore.sameGround fun d hd => State.lt_of_mem_groupChans hg (hal d hd)).sameRecords
  have hchan : u.chan c = s.chan c := (hbefore.chan c ha).trans (State.chan_congr (s.puts_hlm _) c)
  obtain ⟨hk, htoff⟩ := State.takeRate_shown (s := u) (c := c) (by rw [hchan]; exact hshed)
  rw [hrec.chanB] at hk htoff
  rw [State.ratesTaken, hputs.groupChans]
  exact ⟨(hafter.get_other hb hkeyK h128).trans hk, (hafter.get_other hb hkeyT h128).trans htoff⟩

theorem logGains_rebuilt (s : State) {g : Nat} (hg : g < 8) :
    LogGains (33 + 2 * g) [1, 0] s ((s.rebuilt g).grpEvent g 1 0) := by
  obtain ⟨hregs, hlog, hchr⟩ := (s.ratesTaken g).ttFormed_kept g
  have honly := chansOnly_ratesTaken s hg
  have hcode : (33 + 2 * g) / 32 = 1 := by omega
  have hnow : (s.rebuilt g).now = (s.ratesTaken g).now := by rw [State.rebuilt, State.now, State.now, hchr]
  have hgains : LogGains (33 + 2 * g) [1, 0] (s.puts (rebuiltPuts g)) ((s.rebuilt g).grpEvent g 1 0) :=
    (logGains_raise _ _ _).of_shown (fun f hf => (State.get_congr hregs f).trans (honly.shown hcode f hf))
      (hlog.trans ((s.log_ratesTaken g).trans (s.puts_log _).symm)) (hnow.trans honly.now)
  exact hgains.of_helmPuts fun e he => helmKey_of_groupKey hg (groupKey_rebuiltPuts g e he)

/-! ### A rebuild that fails its checks -/

/-- What a failed rebuild shows. -/
def failedPuts (g code : Nat) : List (Fld × Nat) :=
  [(R.HLM_GSTAT_TT_STALE g, 0), (R.HLM_GSTAT_TT_FAIL g, 1), (R.HLM_GSTAT_TT_CODE g, code)]

theorem groupKey_failedPuts (g code : Nat) : ∀ e ∈ failedPuts g code, groupKey g e.1.key := by
  obtain ⟨hstale, hfail, hcode, -⟩ := groupKey_GSTAT g
  simpa [failedPuts] using ⟨hstale, hfail, hcode⟩

theorem nodup_failedPuts (g code : Nat) : ((failedPuts g code).map fun e => e.1.key).Nodup := by
  simp only [failedPuts, List.map_cons, List.map_nil, List.nodup_cons, List.mem_cons, List.not_mem_nil, or_false, not_or,
    not_false_eq_true, List.nodup_nil, and_true, R.HLM_GSTAT_TT_STALE, R.HLM_GSTAT_TT_FAIL, R.HLM_GSTAT_TT_CODE, Fld.at]
  omega

theorem exec_timetableRebuild_failed {s : State} {g : Fin 8} (hstale : s.get (R.HLM_GSTAT_TT_STALE g) ≠ 0)
    (hcode : s.rebuildCode g ≠ 0) :
    exec (.timetableRebuild g) s = .next ((s.puts (failedPuts g (s.rebuildCode g))).grpEvent g 2 (s.rebuildCode g)) := by
  rw [exec_timetableRebuild, execTimetableRebuild, if_neg (by simpa [State.flag] using hstale)]
  exact if_neg hcode

theorem State.get_failedPuts (s : State) {g code : Nat} (hg : g < 8) {f : Fld} {v : Nat} (h : (f, v) ∈ failedPuts g code) :
    ((s.puts (failedPuts g code)).grpEvent g 2 code).get f = v % 2 ^ f.w :=
  (State.get_raise _ _ _ (lost_ne_of_helmKey (helmKey_of_groupKey hg (groupKey_failedPuts g code _ h)))).trans
    (State.get_puts_mem (nodup_failedPuts g code) h s)

theorem timetableRebuild_rebuilds (s : State) (g : Fin 8) (hstale : s.get (R.HLM_GSTAT_TT_STALE g) ≠ 0) :
    ∃ t, exec (.timetableRebuild g) s = .next t ∧ t.get (R.HLM_GSTAT_TT_STALE g) = 0 ∧
      (s.rebuildCode g = 0 → t.get (R.HLM_GSTAT_TT_FAIL g) = 0 ∧ t.get (R.HLM_FB_READY g) = 0 ∧
        LogGains (33 + 2 * g) [1, 0] s t ∧ g.val ∈ t.hlm.ttNew ∧
        ∀ c ∈ s.groupChans g, (s.chan c).shed = false →
          t.kNow c = s.chanB c 2 1 % 8 ∧ t.toffNow c = s.chanB c 3 1 % 128) ∧
      (s.rebuildCode g ≠ 0 → t.get (R.HLM_GSTAT_TT_FAIL g) = 1 ∧
        t.get (R.HLM_GSTAT_TT_CODE g) = s.rebuildCode g % 256 ∧ LogGains (33 + 2 * g) [2, s.rebuildCode g] s t ∧
        OnlyLogged [R.HLM_GSTAT_TT_STALE g, R.HLM_GSTAT_TT_FAIL g, R.HLM_GSTAT_TT_CODE g] s t) := by
  by_cases hcode : s.rebuildCode g = 0
  · obtain ⟨hregs, -⟩ := (s.ratesTaken g).ttFormed_kept g
    have hget {f : Fld} (hf : f.key ≠ R.LOG_LOST_VALUE.key) :
        ((s.rebuilt g).grpEvent g 1 0).get f = (s.ratesTaken g).get f :=
      (State.get_raise _ _ _ hf).trans (State.get_congr hregs f)
    have hput {f : Fld} (hf : (f, 0) ∈ rebuiltPuts g) : ((s.rebuilt g).grpEvent g 1 0).get f = 0 :=
      (hget (lost_ne_of_helmKey (helmKey_of_groupKey g.isLt (groupKey_rebuiltPuts g _ hf)))).trans
        (s.ratesTaken_shown g.isLt hf)
    refine ⟨_, exec_timetableRebuild_passed hstale hcode, hput (by simp [rebuiltPuts]), fun _ =>
      ⟨hput (by simp [rebuiltPuts]), hput (by simp [rebuiltPuts]), logGains_rebuilt s g.isLt, ?_, fun c hc hshed => ?_⟩,
      fun hne => absurd hcode hne⟩
    · rw [State.grpEvent, State.raise_hlm]
      exact (s.ratesTaken g).mem_ttNew_ttFormed g
    · obtain ⟨hkeyK, hkeyT⟩ := chanKey_RATE c
      obtain ⟨hk, htoff⟩ := State.ratesTaken_rates g.isLt hc hshed
      exact ⟨(hget (lost_ne_of_chanKey hkeyK)).trans hk, (hget (lost_ne_of_chanKey hkeyT)).trans htoff⟩
  · refine ⟨_, exec_timetableRebuild_failed hstale hcode, s.get_failedPuts g.isLt (v := 0) (by simp [failedPuts]),
      fun h => absurd h hcode, fun _ => ⟨s.get_failedPuts g.isLt (v := 1) (by simp [failedPuts]),
        s.get_failedPuts g.isLt (v := s.rebuildCode g) (by simp [failedPuts]), ?_, ?_⟩⟩
    · exact (logGains_raise (s.puts (failedPuts g (s.rebuildCode g))) _ _).of_helmPuts fun e he =>
        helmKey_of_groupKey g.isLt (groupKey_failedPuts g _ e he)
    · exact onlyLogged_trans (onlyLogged_of_regs (onlyRegs_puts s (failedPuts g (s.rebuildCode g)))) (onlyLogged_raise _ _ _)

theorem timetableRebuild_none (s : State) (g : Fin 8) (h : s.get (R.HLM_GSTAT_TT_STALE g) = 0) :
    exec (.timetableRebuild g) s = .next s := by
  rw [exec_timetableRebuild, execTimetableRebuild, if_pos (by simp [State.flag, h])]

/-! ### Fallbacks computed (R235) -/

/-- The cells of a group without a spare. -/
def State.noSpare (s : State) (g : Nat) : List Nat := (List.range 4).filter fun x => bit (s.get (R.HLM_FB_NOSPARE g)) x

/-- The slices for which a cell's fallback is formed: without one of its own, where its fallback is not yet due. -/
def State.fbSlices (s : State) (g x : Nat) : List Nat :=
  if s.hlm.fbDue.contains (4 * g + x) then s.groupA g else (s.groupA g).set x ((s.groupA g).getD x 0 - 1)

/-- The fallbacks of a group in place of those it had. -/
def State.fbsFormed (s : State) (g : Nat) : State :=
  { s with hlm.fbs :=
      (s.hlm.fbs.filter fun f => f.cell / 4 != g) ++ (s.noSpare g).map fun x => s.fallbackOf g x (s.fbSlices g x) }

theorem sum_noSpare (n : Nat) : (((List.range 4).filter fun x => bit n x).map (2 ^ ·)).sum = n % 16 := by
  have hbit : ((List.range 4).filter fun x => bit n x) = (List.range 4).filter fun x => bit (n % 2 ^ 4) x :=
    List.filter_congr fun x hx => by
      rw [bit, bit, Nat.testBit_mod_two_pow, decide_eq_true (List.mem_range.1 hx), Bool.true_and]
  have hall : ∀ m : Fin 16, (((List.range 4).filter fun x => bit m x).map (2 ^ ·)).sum = m.val := by decide
  rw [hbit]
  exact hall ⟨n % 16, Nat.mod_lt _ (by decide)⟩

theorem exec_fallbackCompute {s : State} {g : Fin 8} (hup : s.alm.pilotUp = true) (hmgmt : s.alm.mgmtFailed = false)
    (hmode : s.mode ≠ mLIMP) :
    exec (.fallbackCompute g) s =
      .next (((s.fbsFormed g).put (R.HLM_FB_READY g) (s.get (R.HLM_FB_NOSPARE g) % 16)).grpEvent g 0x13
        (s.get (R.HLM_FB_NOSPARE g) % 16)) := by
  rw [← sum_noSpare]
  exact if_neg (by simp [hup, hmgmt, hmode])

theorem fallbackCompute_forms (s : State) (g : Fin 8) (hup : s.alm.pilotUp = true) (hmgmt : s.alm.mgmtFailed = false)
    (hmode : s.mode ≠ mLIMP) :
    ∃ t, exec (.fallbackCompute g) s = .next t ∧ t.get (R.HLM_FB_READY g) = s.get (R.HLM_FB_NOSPARE g) % 16 ∧
      (∀ x : Fin 4, bit (s.get (R.HLM_FB_NOSPARE g)) x = true → ∃ f ∈ t.hlm.fbs, f.cell = 4 * g + x) ∧
      LogGains (33 + 2 * g) [0x13, s.get (R.HLM_FB_NOSPARE g) % 16] s t ∧
      OnlyLogged [R.HLM_FB_READY g] { s with hlm.fbs := t.hlm.fbs } t := by
  have hkey := helmKey_of_groupKey g.isLt (groupKey_FB g).1
  refine ⟨_, exec_fallbackCompute hup hmgmt hmode, ?_, fun x hx => ⟨s.fallbackOf g x (s.fbSlices g x), ?_, rfl⟩, ?_, ?_⟩
  · rw [State.grpEvent, State.get_raise _ _ _ (lost_ne_of_helmKey hkey)]
    exact State.get_put_of_lt _ (f := R.HLM_FB_READY g) (Nat.mod_lt _ (by decide))
  · rw [State.grpEvent, State.raise_hlm]
    exact List.mem_append_right _ (List.mem_map_of_mem (List.mem_filter.2 ⟨List.mem_range.2 x.isLt, hx⟩))
  · exact (logGains_raise _ _ _).of_helmPut (s := s.fbsFormed g) hkey
  · have honly := onlyLogged_trans (onlyLogged_put (s.fbsFormed g) (R.HLM_FB_READY g) (s.get (R.HLM_FB_NOSPARE g) % 16))
      (onlyLogged_raise _ (33 + 2 * g) [0x13, s.get (R.HLM_FB_NOSPARE g) % 16])
    rw [State.grpEvent, State.raise_hlm]
    exact honly

end Sys2Proof.Machine

/-! The fallback that comes into force (R236, R237; O42). -/

namespace Sys2Proof.Machine

theorem exec_fallbackApply (x : Fin 32) (s : State) : exec (.fallbackApply x) s = execFallbackApply x s := rfl

/-! ### What the ladder's steps leave as it was -/

/-- Registers that are no channel's and what waits for its edge stand, events join the queue at its end, and a channel that is removed
stays so. -/
structure LadderKept (s t : State) : Prop where
  get : ∀ f : Fld, (∀ l, ¬ chansKey l f.key) → t.get f = s.get f
  fbDue : t.hlm.fbDue = s.hlm.fbDue
  length : t.hlm.chans.length = s.hlm.chans.length
  queue : s.log.queue <+: t.log.queue
  removed : ∀ d, (s.chan d).removed = true → (t.chan d).removed = true

theorem LadderKept.refl (s : State) : LadderKept s s := ⟨fun _ _ => rfl, rfl, rfl, List.prefix_rfl, fun _ => id⟩

theorem LadderKept.trans {s t u : State} (h : LadderKept s t) (g : LadderKept t u) : LadderKept s u :=
  ⟨fun f hf => (g.get f hf).trans (h.get f hf), g.fbDue.trans h.fbDue, g.length.trans h.length,
    h.queue.trans g.queue, fun d => g.removed d ∘ h.removed d⟩

theorem LadderKept.ite {c : Prop} [Decidable c] {s t u : State} (h : LadderKept s t) (g : LadderKept s u) :
    LadderKept s (if c then t else u) := by
  split_ifs
  · exact h
  · exact g

theorem ladderKept_foldl {α : Type} {f : State → α → State} (hf : ∀ t a, LadderKept t (f t a)) (l : List α) (s : State) :
    LadderKept s (l.foldl f s) :=
  List.foldlRecOn (motive := LadderKept s) l f (LadderKept.refl s) fun t ht a _ => ht.trans (hf t a)

theorem ladderKept_raise (s : State) (c : Nat) (ps : List Nat) : LadderKept s (s.raise c ps) where
  get f hf := (chansOnly_raise [] s c ps).get f (hf [])
  fbDue := by rw [State.raise_hlm]
  length := by rw [State.raise_hlm]
  queue := s.raise_queue_prefix c ps
  removed d h := by rwa [State.chan_congr (s.raise_hlm c ps)]

/-- Registers of channels written. -/
theorem ladderKept_puts {c : Nat} {es : List (Fld × Nat)} (h : ∀ e ∈ es, chanKey c e.1.key) (s : State) :
    LadderKept s (s.puts es) where
  get f hf := (chansOnly_puts es s fun e he => .inl ⟨c, List.mem_singleton_self c, h e he⟩).get f (hf [c])
  fbDue := by rw [State.puts_hlm]
  length := by rw [State.puts_hlm]
  queue := by rw [State.puts_log]
  removed d hd := by rwa [State.chan_congr (s.puts_hlm es)]

theorem ladderKept_modChan (s : State) (c : Nat) {f : Chan → Chan} (h : ∀ x, x.removed = true → (f x).removed = true) :
    LadderKept s (s.modChan c f) where
  get _ _ := rfl
  fbDue := rfl
  length := s.length_chans_modChan c f
  queue := List.prefix_rfl
  removed d hd := by
    by_cases hcd : c = d
    · subst hcd
      obtain e | e := s.chan_modChan_cases c f <;> rw [e]
      · exact h _ hd
      · exact hd
    · rwa [State.chan, State.modChan, getD_modify_other _ _ hcd]

theorem ladderKept_startHo (s : State) (c cause target : Nat) : LadderKept s (s.startHo c cause target) := by
  have hmarked : LadderKept s (s.hoMarked c target) := ladderKept_modChan s c fun _ => id
  rw [State.startHo_eq]
  exact (hmarked.trans (ladderKept_puts (chanKey_hoPuts _ c cause) _)).trans (ladderKept_raise _ _ _)

theorem ladderKept_stopLaw (s : State) (c target why : Nat) : LadderKept s (s.stopLaw c target why) := by
  have hstopped : LadderKept s (s.modChan c (Chan.stopped target why)) := ladderKept_modChan s c fun _ => id
  rw [State.stopLaw_eq]
  exact hstopped.trans (ladderKept_startHo _ c 1 target)

theorem ladderKept_startLaw (s : State) (c cause : Nat) : LadderKept s (s.startLaw c cause) := by
  have hkeys : ∀ e ∈ [(R.HLM_AM_AM c, b2n (s.hctl c 0x0E 1 != 0)), (R.HLM_AM_REQ c, b2n (s.hctl c 0x0E 1 != 0))],
      chanKey c e.1.key := by
    simp only [List.forall_mem_cons, List.not_mem_nil, false_imp_iff, implies_true, and_true, chanKey, R.HLM_AM_AM,
      R.HLM_AM_REQ, Fld.at]
    omega
  have hfresh : LadderKept
      (s.puts [(R.HLM_AM_AM c, b2n (s.hctl c 0x0E 1 != 0)), (R.HLM_AM_REQ c, b2n (s.hctl c 0x0E 1 != 0))])
      (s.lawFresh c) := ladderKept_modChan _ c fun _ => id
  rw [State.startLaw_eq]
  exact ((ladderKept_puts hkeys s).trans hfresh).trans (ladderKept_startHo _ c cause 2)

theorem ladderKept_timetableChanged (s : State) (c : Nat) : LadderKept s (s.timetableChanged c) :=
  LadderKept.ite (LadderKept.ite (ladderKept_startLaw s c 0) (ladderKept_stopLaw s c 1 0)) (LadderKept.refl s)

theorem ladderKept_shedChan (s : State) (e : Nat × Nat × Nat) : LadderKept s (s.shedChan e) := by
  obtain ⟨hk, htoff⟩ := chanKey_RATE e.1
  have hkeys : ∀ x ∈ [(R.HLM_RATE_K_NOW e.1, e.2.1), (R.HLM_RATE_TOFF_NOW e.1, e.2.2)], chanKey e.1 x.1.key := by
    simpa using ⟨hk, htoff⟩
  have hmarked : LadderKept s (s.modChan e.1 fun x => { x with shed := true }) := ladderKept_modChan s e.1 fun _ => id
  exact (hmarked.trans (ladderKept_puts hkeys _)).trans (ladderKept_raise _ _ _)

/-! ### The channels removed (R237) -/

/-- A channel that the ladder removes, before the event. -/
def State.chanRemoved (s : State) (c : Nat) : State := s.modChan c fun x => { x with removed := true, run := none }

theorem State.removeChan_eq (s : State) (c : Nat) :
    s.removeChan c = ((s.chanRemoved c).chEvent c 0x11 1).stopLaw c 4 4 := rfl

theorem ladderKept_chanRemoved (s : State) (c : Nat) : LadderKept (s.chanRemoved c) (s.removeChan c) := by
  rw [State.removeChan_eq]
  exact (ladderKept_raise (s.chanRemoved c) _ _).trans (ladderKept_stopLaw _ c 4 4)

theorem ladderKept_removeChan (s : State) (c : Nat) : LadderKept s (s.removeChan c) :=
  (ladderKept_modChan s c fun _ _ => rfl).trans (ladderKept_chanRemoved s c)

theorem removed_foldl_removeChan {s : State} {l : List Nat} {c : Nat} (hc : c ∈ l) (hlen : c < s.hlm.chans.length) :
    ((l.foldl State.removeChan s).chan c).removed = true := by
  obtain ⟨a, b, rfl⟩ := List.append_of_mem hc
  rw [List.foldl_append, List.foldl_cons]
  have hbefore := ladderKept_foldl ladderKept_removeChan a s
  refine (ladderKept_foldl ladderKept_removeChan b _).removed c ((ladderKept_chanRemoved _ c).removed c ?_)
  rw [State.chanRemoved, State.chan_modChan (by rwa [hbefore.length])]

/-! ### The ladder -/

/-- The channels as the ladder leaves them, with the fallback's timetable. -/
def State.laddered (s : State) (g : Nat) (f : Fallback) : State :=
  (f.removed.foldl State.removeChan (f.shed.foldl State.shedChan s)).setTt g f.tt

theorem ladderKept_setTt (s : State) (g : Nat) (w : Timetable) : LadderKept s (s.setTt g w) :=
  ⟨fun _ _ => rfl, rfl, rfl, List.prefix_rfl, fun _ => id⟩

theorem ladderKept_laddered (s : State) (g : Nat) (f : Fallback) : LadderKept s (s.laddered g f) :=
  ((ladderKept_foldl ladderKept_shedChan f.shed s).trans (ladderKept_foldl ladderKept_removeChan f.removed _)).trans
    (ladderKept_setTt _ g f.tt)

theorem removed_laddered {s : State} (g : Nat) {f : Fallback} {c : Nat} (hc : c ∈ f.removed)
    (hlen : c < s.hlm.chans.length) : ((s.laddered g f).chan c).removed = true :=
  (ladderKept_setTt _ g f.tt).removed c (removed_foldl_removeChan hc (by
    rwa [(ladderKept_foldl ladderKept_shedChan f.shed s).length]))

/-- The events of a ladder. -/
def State.ladderTold (s : State) (g : Nat) (f : Fallback) : State :=
  if f.removed = [] then s.grpEvent g 0x11 f.steps
  else (s.grpEvent g 0x11 f.steps).grpEvent g 0x12 f.removed.length

theorem ladderKept_ladderTold (s : State) (g : Nat) (f : Fallback) : LadderKept s (s.ladderTold g f) :=
  LadderKept.ite (ladderKept_raise s _ _) ((ladderKept_raise s _ _).trans (ladderKept_raise _ _ _))

/-- What a ladder shows of its group. -/
def degradedPuts (g steps : Nat) : List (Fld × Nat) :=
  [(R.HLM_GSTAT_DEGRADED g, 1), (R.ALM_MODE_DEGRADED, 1), (R.HLM_FB_STEPS g, steps)]

theorem nodup_degradedPuts {g : Nat} (hg : g < 8) (steps : Nat) : ((degradedPuts g steps).map fun e => e.1.key).Nodup := by
  simp only [degradedPuts, List.map_cons, List.map_nil, List.nodup_cons, List.mem_cons, List.not_mem_nil, or_false, not_or,
    not_false_eq_true, List.nodup_nil, and_true, R.HLM_GSTAT_DEGRADED, R.ALM_MODE_DEGRADED, R.HLM_FB_STEPS, Fld.at]
  omega

theorem State.applyLadder_eq (s : State) (g : Nat) (f : Fallback) :
    ∃ steps, s.applyLadder g f = ((s.laddered g f).ladderTold g f).puts (degradedPuts g steps) := ⟨_, rfl⟩


theorem not_chansKey_MODE_DEGRADED (l : List Nat) : ¬ chansKey l R.ALM_MODE_DEGRADED.key := by
  rintro (⟨d, hd, hk⟩ | hk | hk)
  · simp only [chanKey, R.ALM_MODE_DEGRADED, Fld.at] at hk
    omega
  · simp [R.ALM_MODE_DEGRADED, R.DIO_OUT_STATE, Fld.at] at hk
  · simp [R.ALM_MODE_DEGRADED, R.LOG_LOST_VALUE, Fld.at] at hk

/-! ### The edge at which a fallback is due (R236) -/

/-- A fallback that comes into force: its cell waits no more, and its group has none ready. -/
def State.fbTaken (s : State) (x : Nat) : State :=
  State.put { s with hlm.fbDue := s.hlm.fbDue.filter (· != x), hlm.fbTold := s.hlm.fbTold.filter (· != x) }
    (R.HLM_FB_READY (x / 4)) 0

def State.fbBegun (s : State) (x : Nat) : State := (s.fbTaken x).grpEvent (x / 4) 0x10 (x % 4)

/-- The fallback in force, before the channels start again. -/
def State.fbInForce (s : State) (x : Nat) (f : Fallback) : State := (s.fbBegun x).applyLadder (x / 4) f

theorem exec_fallbackApply_ready {s : State} {x : Fin 32} {f : Fallback} (hdue : x.val ∈ s.hlm.fbDue)
    (hready : bit (s.get (R.HLM_FB_READY (x / 4))) (x % 4) = true)
    (hfind : s.hlm.fbs.find? (fun f => f.cell == x.val) = some f) :
    exec (.fallbackApply x) s = .next ((s.fbInForce x f).eachChan
      ((s.fbBegun x).groupChans (x / 4)) State.timetableChanged) := by
  rw [exec_fallbackApply, execFallbackApply, if_neg (by simpa using hdue)]
  dsimp only
  rw [if_pos hready, hfind]
  rfl

theorem fallbackApply_applies (s : State) (x : Fin 32) (f : Fallback) (hdue : x.val ∈ s.hlm.fbDue) (hs : s.Shaped)
    (hready : bit (s.get (R.HLM_FB_READY (x / 4))) (x % 4) = true)
    (hfind : s.hlm.fbs.find? (fun f => f.cell == x.val) = some f) :
    ∃ t, exec (.fallbackApply x) s = .next t ∧ t.get (R.HLM_GSTAT_DEGRADED (x / 4)) = 1 ∧
      t.get R.ALM_MODE_DEGRADED = 1 ∧ t.get (R.HLM_FB_READY (x / 4)) = 0 ∧ x.val ∉ t.hlm.fbDue ∧
      LogNext (33 + 2 * (x / 4)) [0x10, x % 4] s t ∧ ∀ c ∈ f.removed, c < 128 → (t.chan c).removed = true := by
  obtain ⟨-, -, hlen, -⟩ := hs
  have hg : x.val / 4 < 8 := by omega
  obtain ⟨-, -, -, hdegraded⟩ := groupKey_GSTAT (x / 4)
  obtain ⟨hfbReady, -⟩ := groupKey_FB (x / 4)
  obtain ⟨steps, hladder⟩ := (s.fbBegun x).applyLadder_eq (x / 4) f
  have hbegun : LadderKept (s.fbTaken x) (s.fbBegun x) := ladderKept_raise _ _ _
  have hbefore := (ladderKept_laddered (s.fbBegun x) (x / 4) f).trans (ladderKept_ladderTold _ (x / 4) f)
  have hafter : LadderKept (s.fbInForce x f) ((s.fbInForce x f).eachChan
    ((s.fbBegun x).groupChans (x / 4)) State.timetableChanged) := ladderKept_foldl ladderKept_timetableChanged _ _
  have hput {e : Fld × Nat} (he : e ∈ degradedPuts (x / 4) steps) :
      (s.fbInForce x f).get e.1 = e.2 % 2 ^ e.1.w := by
    rw [State.fbInForce, hladder]
    exact State.get_puts_mem (nodup_degradedPuts hg steps) he _
  have hkeepsReady : (s.fbInForce x f).get (R.HLM_FB_READY (x / 4)) = 0 := by
    have hne : ∀ e ∈ degradedPuts (x / 4) steps, (R.HLM_FB_READY (x / 4)).key ≠ e.1.key := by
      simp only [degradedPuts, List.forall_mem_cons, List.not_mem_nil, false_imp_iff, implies_true, and_true,
        R.HLM_FB_READY, R.HLM_GSTAT_DEGRADED, R.ALM_MODE_DEGRADED, R.HLM_FB_STEPS, Fld.at]
      omega
    rw [State.fbInForce, hladder, State.get_puts_other _ _ _ hne,
      (hbegun.trans hbefore).get _ (not_chansKey_of_groupKey hg hfbReady)]
    exact State.get_put_same _ (R.HLM_FB_READY (x / 4)) 0
  refine ⟨_, exec_fallbackApply_ready hdue hready hfind,
    (hafter.get _ (not_chansKey_of_groupKey hg hdegraded)).trans
      (hput (e := (R.HLM_GSTAT_DEGRADED (x / 4), 1)) (by simp [degradedPuts])),
    (hafter.get _ not_chansKey_MODE_DEGRADED).trans (hput (e := (R.ALM_MODE_DEGRADED, 1)) (by simp [degradedPuts])),
    (hafter.get _ (not_chansKey_of_groupKey hg hfbReady)).trans hkeepsReady, ?_, ?_, fun c hc h128 => ?_⟩
  · rw [hafter.fbDue, State.fbInForce, hladder, State.puts_hlm, (hbegun.trans hbefore).fbDue]
    simp [State.fbTaken]
  · have hgains : LogGains (33 + 2 * (x / 4)) [0x10, x % 4] s (s.fbBegun x) :=
      (logGains_raise (s.fbTaken x) _ _).of_helmPut
        (s := { s with hlm.fbDue := s.hlm.fbDue.filter (· != x.val), hlm.fbTold := s.hlm.fbTold.filter (· != x.val) })
        (helmKey_of_groupKey hg hfbReady)
    refine hgains.logNext (List.IsPrefix.trans ?_ hafter.queue)
    rw [State.fbInForce, hladder, State.puts_log]
    exact hbefore.queue
  · refine hafter.removed c ?_
    rw [State.fbInForce, hladder, State.chan_congr (State.puts_hlm _ _)]
    refine (ladderKept_ladderTold _ (x / 4) f).removed c (removed_laddered (x / 4) hc ?_)
    rw [hbegun.length]
    exact hlen ▸ h128

theorem exec_fallbackApply_wait {s : State} {x : Fin 32} (hdue : x.val ∈ s.hlm.fbDue) (htold : x.val ∉ s.hlm.fbTold)
    (hready : bit (s.get (R.HLM_FB_READY (x / 4))) (x % 4) = false) :
    exec (.fallbackApply x) s =
      .next (State.grpEvent { s with hlm.fbTold := s.hlm.fbTold ++ [x.val] } (x / 4) 0x14 (x % 4)) := by
  rw [exec_fallbackApply, execFallbackApply, if_neg (by simpa using hdue)]
  dsimp only
  rw [if_neg (by simp [hready])]
  exact if_neg (by simpa using htold)

theorem fallbackApply_waits (s : State) (x : Fin 32) (hdue : x.val ∈ s.hlm.fbDue) (htold : x.val ∉ s.hlm.fbTold)
    (hready : bit (s.get (R.HLM_FB_READY (x / 4))) (x % 4) = false) :
    ∃ t, exec (.fallbackApply x) s = .next t ∧ x.val ∈ t.hlm.fbTold ∧ x.val ∈ t.hlm.fbDue ∧
      LogGains (33 + 2 * (x / 4)) [0x14, x % 4] s t ∧ OnlyLogged [] { s with hlm.fbTold := t.hlm.fbTold } t := by
  refine ⟨_, exec_fallbackApply_wait hdue htold hready, ?_⟩
  rw [State.grpEvent, State.raise_hlm]
  exact ⟨List.mem_append_right _ (List.mem_singleton_self _), hdue,
    logGains_raise { s with hlm.fbTold := s.hlm.fbTold ++ [x.val] } _ _, onlyLogged_raise _ _ _⟩

/-! ### The obligation -/

/-- Settles O42. A rebuild that fails clears TT_STALE too, and TT_FAIL stands after it: the model's choice (log entry 120). The
ladder's steps and the channels that start again leave alone every register that is no channel's (`LadderKept`). -/
theorem helmRequestsAndTimetables : Obligations.HelmRequestsAndTimetables := by
  unfold Obligations.HelmRequestsAndTimetables
  refine ⟨fun s ch h => ⟨fun r => autoRequest_refuses h, autoRequest_helmsman h, autoRequest_handsOver h⟩,
    manRequest_handsOver, amRequest_none, timetableRebuild_rebuilds, timetableRebuild_none, fallbackCompute_forms,
    fallbackApply_applies, fallbackApply_waits, fun s v w m g hm => ?_, fun s g w v n hn hpend => ?_⟩
  · exact ⟨_, exec_broadcast v w m s,
      ((s.broadcastAsked v.toNat w m.toNat).mem_bcPend_broadcast v.toNat w m.toNat g).2 (.inl hm)⟩
  · obtain ⟨t, hexec, hword, hleft, -⟩ := broadcastAct_last s g w v n [] hn hpend
    exact ⟨t, hexec, hword, hleft⟩

end Sys2Proof.Machine

/-! A sink that goes off and comes back (R233, R234): what it does to a channel, and to the channels that drive an output. -/

namespace Sys2Proof.Machine

/-! ### What runs beside the PWR domain -/

/-- Of the PWR domain the events that it holds alone change, and events join the queue at its end. -/
structure SupplyKept (s t : State) : Prop where
  pwr : t.pwr = { s.pwr with held := t.pwr.held }
  queue : s.log.queue <+: t.log.queue

theorem SupplyKept.refl (s : State) : SupplyKept s s := ⟨rfl, List.prefix_rfl⟩

theorem SupplyKept.trans {s t u : State} (h : SupplyKept s t) (g : SupplyKept t u) : SupplyKept s u :=
  ⟨by rw [g.pwr, h.pwr], h.queue.trans g.queue⟩

theorem supplyKept_of_eq {s t : State} (hp : t.pwr = s.pwr) (hl : t.log = s.log) : SupplyKept s t :=
  ⟨by rw [hp], by rw [hl]⟩

theorem supplyKept_raise (s : State) (c : Nat) (ps : List Nat) : SupplyKept s (s.raise c ps) :=
  ⟨s.raise_pwr_eq c ps, s.raise_queue_prefix c ps⟩

theorem supplyKept_foldl {α : Type} {f : State → α → State} (hf : ∀ t a, SupplyKept t (f t a)) (l : List α) (s : State) :
    SupplyKept s (l.foldl f s) :=
  List.foldlRecOn (motive := SupplyKept s) l f (SupplyKept.refl s) fun t ht a _ => ht.trans (hf t a)

theorem State.sinkWrite_pwr (s : State) (c : Nat) (v : Int) : (s.sinkWrite c v).pwr = s.pwr := by
  obtain ⟨d, e⟩ | ⟨w, e⟩ := s.sinkWrite_cases c v <;> rw [e] <;> rfl

theorem supplyKept_startHo (s : State) (c cause target : Nat) : SupplyKept s (s.startHo c cause target) := by
  have hshown : SupplyKept s ((s.hoMarked c target).puts (hoPuts (s.hoMarked c target) c cause)) :=
    supplyKept_of_eq (State.puts_pwr (s.hoMarked c target) _) (State.puts_log (s.hoMarked c target) _)
  rw [State.startHo_eq]
  exact hshown.trans (supplyKept_raise _ _ _)

theorem supplyKept_startLaw (s : State) (c cause : Nat) : SupplyKept s (s.startLaw c cause) := by
  have hfresh : SupplyKept s (s.lawFresh c) := supplyKept_of_eq (State.puts_pwr s _) (State.puts_log s _)
  rw [State.startLaw_eq]
  exact hfresh.trans (supplyKept_startHo _ c cause 2)

/-! ### A sink that goes off (R234) -/

/-- The record of a channel whose sink is off: in SAFE for it, where overruns do not keep it there. -/
def Chan.sinkLost (x : Chan) : Chan :=
  { x with why := if x.why = 2 then 2 else 3, result := none, target := 4, back := true }

/-- Before STANDBY a channel that does not run stays as it is, and in RESET it waits for the end (R207). -/
def State.faultStays (s : State) (c : Nat) : Bool := decide (s.chState c ≤ 1 ∧ s.mode < mSTANDBY) || s.chState c == 5

/-- What a channel whose sink goes off shows. -/
def faultPuts (s : State) (c : Nat) : List (Fld × Nat) :=
  [(R.HLM_CHST_STATE c, if s.faultStays c then s.chState c else 4), (R.HLM_HOV_ACTIVE c, 0), (R.HLM_HOVD_VALUE c, 0)]

/-- The channel of a sink that goes off, before the sink and the event. -/
def State.faultShown (s : State) (c : Nat) : State := (s.modChan c Chan.sinkLost).puts (faultPuts s c)

theorem State.sinkFault_eq (s : State) (c detail : Nat) :
    s.sinkFault c detail = ((s.faultShown c).sinkWrite c 0).chEvent c 0x17 detail := rfl

theorem chanKey_faultPuts (s : State) (c : Nat) : ∀ e ∈ faultPuts s c, chanKey c e.1.key := by
  simp only [faultPuts, List.forall_mem_cons, List.not_mem_nil, false_imp_iff, implies_true, and_true, chanKey,
    R.HLM_CHST_STATE, R.HLM_HOV_ACTIVE, R.HLM_HOVD_VALUE, Fld.at]
  omega

theorem nodup_faultPuts (s : State) (c : Nat) : ((faultPuts s c).map fun e => e.1.key).Nodup := by
  simp only [faultPuts, List.map_cons, List.map_nil, List.nodup_cons, List.mem_cons, List.not_mem_nil, or_false, not_or,
    not_false_eq_true, List.nodup_nil, and_true, R.HLM_CHST_STATE, R.HLM_HOV_ACTIVE, R.HLM_HOVD_VALUE, Fld.at]
  omega

theorem chansOnly_faultShown (s : State) (c : Nat) : ChansOnly [c] s (s.faultShown c) :=
  (chansOnly_modChan s _ (List.mem_singleton_self c)).trans
    (chansOnly_puts _ _ fun e he => .inl ⟨c, List.mem_singleton_self c, chanKey_faultPuts s c e he⟩)

theorem chansOnly_sinkFault (detail : Nat) (s : State) (c : Nat) : ChansOnly [c] s (s.sinkFault c detail) := by
  rw [State.sinkFault_eq]
  exact ((chansOnly_faultShown s c).trans (chansOnly_sinkWrite _ c 0)).trans (chansOnly_raise _ _ _ _)

theorem supplyKept_sinkFault (detail : Nat) (s : State) (c : Nat) : SupplyKept s (s.sinkFault c detail) := by
  have hshown : SupplyKept s (s.faultShown c) :=
    supplyKept_of_eq (State.puts_pwr (s.modChan c Chan.sinkLost) _) (State.puts_log (s.modChan c Chan.sinkLost) _)
  rw [State.sinkFault_eq]
  exact (hshown.trans (supplyKept_of_eq (State.sinkWrite_pwr _ c 0) (State.sinkWrite_log _ c 0))).trans (supplyKept_raise _ _ _)

theorem State.sinkFault_dio (s : State) (c detail : Nat) :
    (s.sinkFault c detail).dio = ((s.faultShown c).sinkWrite c 0).dio := by
  rw [State.sinkFault_eq, State.chEvent, State.raise_dio]

/-- A channel whose sink is off, from its state before. -/
structure SinkLost (c : Nat) (s t : State) : Prop where
  raw : t.get (R.HLM_CHRAW_VALUE c) = 0
  why : (t.chan c).why = if (s.chan c).why = 2 then 2 else 3
  reset : s.chState c = 5 → t.chState c = 5
  safe : s.chState c ≠ 5 → 2 ≤ s.chState c ∨ mSTANDBY ≤ s.mode → t.chState c = 4

theorem sinkLost_sinkFault {s : State} {c : Nat} (hc : c < 128) (hlen : c < s.hlm.chans.length) (detail : Nat) :
    SinkLost c s (s.sinkFault c detail) := by
  have hst : (s.sinkFault c detail).chState c = (if s.faultStays c then s.chState c else 4) % 8 := by
    have hne : (R.HLM_CHST_STATE c).key ≠ (R.HLM_CHRAW_VALUE c).key := by
      simp only [R.HLM_CHST_STATE, R.HLM_CHRAW_VALUE, Fld.at]
      omega
    rw [State.sinkFault_eq, State.chState_chEvent, State.chState,
      State.get_sinkWrite _ _ (contacts_ne hc (chanKey_CHST_STATE c)), State.rawShown, State.get_put_other _ hne]
    exact State.get_puts_mem (nodup_faultPuts s c) List.mem_cons_self _
  refine ⟨?_, ?_, fun h5 => ?_, fun h5 hruns => ?_⟩
  · rw [State.sinkFault_eq, State.chEvent, State.get_raise _ _ _ (lost_ne_of_chanKey (chanKey_CHRAW c)),
      State.get_sinkWrite_raw _ hc]
    exact ite_self 0
  · rw [State.sinkFault_eq, State.chan_chEvent, State.chan_congr (State.sinkWrite_hlm _ c 0), State.faultShown,
      State.chan_congr (State.puts_hlm _ _), State.chan_modChan hlen]
    rfl
  · rw [hst, if_pos (by simp [State.faultStays, h5]), h5]
  · have hstays : s.faultStays c = false := by
      simp only [State.faultStays, Bool.or_eq_false_iff, decide_eq_false_iff_not, beq_eq_false_iff_ne]
      exact ⟨by omega, h5⟩
    rw [hst, if_neg (by simp [hstays])]

/-- What acts before on other channels, and what acts after on other channels. -/
theorem SinkLost.between {a b : List Nat} {c : Nat} {r s t u : State} (h : SinkLost c s t) (hc : c < 128)
    (hbefore : ChansOnly a r s) (ha : c ∉ a) (hmode : s.mode = r.mode) (hafter : ChansOnly b t u) (hb : c ∉ b) :
    SinkLost c r u := by
  obtain ⟨hraw, hwhy, hreset, hsafe⟩ := h
  rw [hbefore.chan c ha] at hwhy
  rw [hbefore.chState ha hc] at hreset hsafe
  rw [hmode] at hsafe
  rw [← hafter.chState hb hc] at hreset hsafe
  exact ⟨(hafter.get_other hb (chanKey_CHRAW c) hc).trans hraw, (congrArg Chan.why (hafter.chan c hb)).trans hwhy, hreset, hsafe⟩

theorem sinkLost_eachChan {s : State} {l : List Nat} (hn : l.Nodup) (h128 : ∀ c ∈ l, c < 128)
    (hlen : s.hlm.chans.length = 128) (detail : Nat) {c : Nat} (hc : c ∈ l) :
    SinkLost c s (s.eachChan l fun s c => s.sinkFault c detail) := by
  obtain ⟨a, b, u, ha, hb, hal, hbefore, hafter⟩ := eachChan_at (chansOnly_sinkFault detail) hn hc s
  have hmode := (hbefore.sameGround fun d hd => h128 d (hal d hd)).mode
  exact (sinkLost_sinkFault (h128 c hc) (by rw [hbefore.length, hlen]; exact h128 c hc) detail).between (h128 c hc) hbefore ha
    hmode hafter hb

/-! ### A sink that is restored (R234) -/

/-- The channel waits for its sink, or overruns keep it in SAFE. -/
def State.sinkWaited (s : State) (c : Nat) : Bool :=
  !s.sinkOff c && s.chState c == 4 && ((s.chan c).why == 3 || (s.chan c).why == 2)

/-- How a channel goes on from its restored sink. -/
def State.sinkReturned (s : State) (c : Nat) : State :=
  if (s.chan c).why = 2 then s.startHo c 6 4
  else if (s.chan c).removed then (s.modChan c fun x => { x with why := 4 }).startHo c 6 4
  else if s.lawRuns c then s.startLaw c 6
  else (s.modChan c fun x => { x with why := 0, back := false, missed := 0 }).startHo c 6 1

theorem State.sinkRestored_eq (s : State) (c : Nat) :
    s.sinkRestored c = if s.sinkWaited c then s.sinkReturned c else s := rfl

theorem chansOnly_sinkRestored (s : State) (c : Nat) : ChansOnly [c] s (s.sinkRestored c) := by
  rw [State.sinkRestored_eq, State.sinkReturned]
  split_ifs
  · exact chansOnly_startHo s c 6 4
  · exact (chansOnly_modChan s _ (List.mem_singleton_self c)).trans (chansOnly_startHo _ c 6 4)
  · exact chansOnly_startLaw s c 6
  · exact (chansOnly_modChan s _ (List.mem_singleton_self c)).trans (chansOnly_startHo _ c 6 1)
  · exact ChansOnly.refl _ s

theorem supplyKept_sinkRestored (s : State) (c : Nat) : SupplyKept s (s.sinkRestored c) := by
  have hmarked (f : Chan → Chan) : SupplyKept s (s.modChan c f) := supplyKept_of_eq rfl rfl
  rw [State.sinkRestored_eq, State.sinkReturned]
  split_ifs
  · exact supplyKept_startHo s c 6 4
  · exact (hmarked _).trans (supplyKept_startHo _ c 6 4)
  · exact supplyKept_startLaw s c 6
  · exact (hmarked _).trans (supplyKept_startHo _ c 6 1)
  · exact SupplyKept.refl s

/-- Of the channels that wait for an output the one whose law may run hands over to it with cause 6. -/
theorem eachChan_sinkRestored_law {s : State} {l : List Nat} (hn : l.Nodup) (h128 : ∀ c ∈ l, c < 128) {c : Nat} (hc : c ∈ l)
    (hoff : s.sinkOff c = false) (hst : s.chState c = 4) (hwhy : (s.chan c).why = 3) (hlaw : s.lawRuns c = true) :
    (s.eachChan l State.sinkRestored).chState c = 6 ∧ (s.eachChan l State.sinkRestored).get (R.HLM_HOV_CAUSE c) = 6 := by
  obtain ⟨a, b, u, ha, hb, hal, hbefore, hafter⟩ := eachChan_at chansOnly_sinkRestored hn hc s
  have hground := hbefore.sameGround fun d hd => h128 d (hal d hd)
  have hchan := hbefore.chan c ha
  have hrem : (s.chan c).removed = false := by
    simp only [State.lawRuns, Bool.and_eq_true, Bool.not_eq_true'] at hlaw
    exact hlaw.2
  have hlawU : u.lawRuns c = true := by
    rw [State.lawRuns, hground.lawAllowed, hchan]
    exact hlaw
  have hwaited : u.sinkWaited c = true := by
    simp [State.sinkWaited, hground.sinkOff, hoff, hbefore.chState ha (h128 c hc), hst, hchan, hwhy]
  have hreturned : u.sinkRestored c = u.startLaw c 6 := by
    rw [State.sinkRestored_eq, if_pos hwaited, State.sinkReturned, if_neg (by simp [hchan, hwhy]),
      if_neg (by simp [hchan, hrem]), if_pos hlawU]
  have hcause : chanKey c (R.HLM_HOV_CAUSE c).key := by
    simp only [chanKey, R.HLM_HOV_CAUSE, Fld.at]
    omega
  rw [hafter.chState hb (h128 c hc), hafter.get_other hb hcause (h128 c hc), hreturned, State.startLaw_eq]
  exact ⟨State.chState_startHo _ c 6 2, State.hovCause_startHo _ c 6 2⟩

end Sys2Proof.Machine

/-! Current outputs: the start of a PWM period (R241, R242) and the coil estimate (R243; O43). -/

namespace Sys2Proof.Machine

theorem exec_pwmPeriodStart (x : PwmStart) (s : State) : exec (.pwmPeriodStart x) s = execPwmPeriodStart x s := rfl

theorem exec_coilEstimate (n : Fin 16) (mv ua : Nat) (o : Bool) (s : State) :
    exec (.coilEstimate n mv ua o) s = execCoilEstimate n mv ua o s := rfl

/-! ### The start of a PWM period (R241 to R243) -/

/-- The dither period in force has gone by, or there is none. -/
def Pc.dithEnded (p : Pc) : Bool := p.dithPer == 0 || decide (p.dithPer ≤ p.dithT + p.period)

/-- The band in which an output starts its PWM period. -/
def State.bandTaken (s : State) (n : Nat) (p : Pc) : Nat :=
  if p.dithEnded then p.bandDue else s.get (R.DIO_PC_STAT_BAND n)

/-- What the regulator takes in a band. -/
def State.pwmTaken (s : State) (n band : Nat) (v : Int) : Int := if s.pcOff n then 0 else s.correct n band v

/-- An output `q` at the start of a PWM period, from what it held, `p`. -/
def State.pwmStarted (s : State) (n band : Nat) (p q : Pc) : Pc :=
  let per := if p.dithEnded then s.pccfg n 4 4 else p.dithPer
  let amp := if p.dithEnded then s.pccfg n (0x20 + 40 * band) 4 else p.dithAmp
  let gone := if p.dithEnded then 0 else p.dithT + p.period
  { q with
    taken := s.pwmTaken n band p.val
    ref := if s.pcOff n then 0 else max 0 (s.pwmTaken n band p.val + dither amp per gone)
    period := s.pccfg n 0 2
    ofs := s.pccfg n 2 2
    dithPer := per
    dithAmp := amp
    dithT := gone }

/-- The band shown, at the phase of the start. -/
def State.bandShown (s : State) (n band phase : Nat) : State :=
  ({ s with chr.phase := phase } : State).put (R.DIO_PC_STAT_BAND n) band

theorem sameGround_bandShown (s : State) {n : Nat} (hn : n < 16) (band phase : Nat) :
    SameGround s (s.bandShown n band phase) := by
  refine (⟨rfl, rfl, fun _ _ => rfl⟩ : SameGround s { s with chr.phase := phase }).trans (sameGround_put _ band ?_)
  simp only [groundKey, R.ALM_MODE_MODE, R.DIO_OFLT_OC, R.DIO_PC_STAT_BAND, Fld.at]
  omega

theorem SameRecords.pccfg {s t : State} (h : SameRecords s t) (n off w : Nat) : t.pccfg n off w = s.pccfg n off w :=
  h.cfg 0x1100 n off w

theorem SameRecords.correct {s t : State} (h : SameRecords s t) (n band : Nat) (v : Int) :
    t.correct n band v = s.correct n band v := by
  simp only [State.correct, h.pccfg]

theorem SameGround.pwmStarted {s t : State} (h : SameGround s t) {n : Nat} (hn : n < 16) (band : Nat) (p : Pc) :
    t.pwmStarted n band p = s.pwmStarted n band p := by
  funext q
  simp only [State.pwmStarted, State.pwmTaken, h.pcOff hn, h.sameRecords.pccfg, h.sameRecords.correct]

theorem State.atPhase_of_lt (s : State) (x : Fin 10000) : s.atPhase x = { s with chr.phase := x } := by
  rw [State.atPhase, Nat.mod_eq_of_lt x.isLt]

theorem exec_pwmPeriodStart_due {s : State} {x : PwmStart} (hhas : s.has 0x1100 x.n = true)
    (hdue : (10000 * s.chr.tick + x.phase) % (s.pwmNow x.n).1 = (s.pwmNow x.n).2) {p : Pc}
    (hp : p = s.dio.pcs.getD x.n {}) :
    exec (.pwmPeriodStart x) s = .next ((s.bandShown x.n (s.bandTaken x.n p) x.phase).modPc x.n
      (s.pwmStarted x.n (s.bandTaken x.n p) p)) := by
  subst hp
  rw [exec_pwmPeriodStart, execPwmPeriodStart, State.atPhase_of_lt,
    ← (sameGround_bandShown s x.n.isLt (s.bandTaken x.n (s.dio.pcs.getD x.n {})) x.phase).pwmStarted x.n.isLt]
  refine (if_neg ?_).trans rfl
  simp only [Bool.or_eq_true, Bool.not_eq_true', bne_iff_ne, not_or, ne_eq, not_not, Bool.not_eq_false]
  exact ⟨hhas, hdue⟩

theorem pwmPeriodStart_idle (s : State) (x : PwmStart)
    (h : (10000 * s.chr.tick + x.phase) % (s.pwmNow x.n).1 ≠ (s.pwmNow x.n).2) :
    exec (.pwmPeriodStart x) s = .next (s.atPhase x.phase) := by
  rw [exec_pwmPeriodStart, execPwmPeriodStart]
  refine if_pos ?_
  rw [Bool.or_eq_true, bne_iff_ne]
  exact .inr h

theorem pwmPeriodStart_starts (s : State) (x : PwmStart) (p : Pc) (hs : s.Shaped) (hhas : s.has 0x1100 x.n = true)
    (hp : p = s.dio.pcs.getD x.n {})
    (hdue : (10000 * s.chr.tick + x.phase) % (s.pwmNow x.n).1 = (s.pwmNow x.n).2) :
    ∃ t, exec (.pwmPeriodStart x) s = .next t ∧
      (s.pcOff x.n = true → (t.dio.pcs.getD x.n {}).taken = 0 ∧ (t.dio.pcs.getD x.n {}).ref = 0) ∧
      (s.pcOff x.n = false → p.dithPer = 0 →
        t.get (R.DIO_PC_STAT_BAND x.n) = p.bandDue % 8 ∧
        (t.dio.pcs.getD x.n {}).taken = s.correct x.n p.bandDue p.val) ∧
      (s.pcOff x.n = false → p.dithT + p.period < p.dithPer →
        t.get (R.DIO_PC_STAT_BAND x.n) = s.get (R.DIO_PC_STAT_BAND x.n) % 8 ∧
        (t.dio.pcs.getD x.n {}).taken = s.correct x.n (s.get (R.DIO_PC_STAT_BAND x.n)) p.val ∧
        (t.dio.pcs.getD x.n {}).ref = max 0 (s.correct x.n (s.get (R.DIO_PC_STAT_BAND x.n)) p.val +
          dither p.dithAmp p.dithPer ((p.dithT + p.period : Nat) : Int)) ∧
        (t.dio.pcs.getD x.n {}).dithAmp = p.dithAmp ∧ (t.dio.pcs.getD x.n {}).dithT = p.dithT + p.period) ∧
      (t.dio.pcs.getD x.n {}).period = s.pccfg x.n 0 2 ∧
      (∀ m, m ≠ x.n.val → t.dio.pcs.getD m {} = s.dio.pcs.getD m {}) ∧
      OnlyRegs [R.DIO_PC_STAT_BAND x.n] { s with dio.pcs := t.dio.pcs, chr.phase := x.phase } t := by
  obtain ⟨-, -, -, hlen, -⟩ := hs
  have hpc : (s.dio.pcs.modify x.n (s.pwmStarted x.n (s.bandTaken x.n p) p)).getD x.n {} =
      s.pwmStarted x.n (s.bandTaken x.n p) p p := by
    rw [getD_modify_same _ (x.n.isLt.trans_eq hlen.symm), ← hp]
  have hband : (s.bandShown x.n (s.bandTaken x.n p) x.phase).get (R.DIO_PC_STAT_BAND x.n) = s.bandTaken x.n p % 8 :=
    State.get_put_same _ (R.DIO_PC_STAT_BAND x.n) _
  refine ⟨_, exec_pwmPeriodStart_due hhas hdue hp, fun hoff => ?_, fun hoff hper => ?_, fun hoff hper => ?_,
    congrArg Pc.period hpc, fun m hm => getD_modify_other _ _ (Ne.symm hm) _, ?_⟩
  · refine ⟨(congrArg Pc.taken hpc).trans (if_pos hoff), (congrArg Pc.ref hpc).trans (if_pos hoff)⟩
  · have hended : s.bandTaken x.n p = p.bandDue := if_pos (by simp [Pc.dithEnded, hper])
    rw [← hended]
    exact ⟨hband, (congrArg Pc.taken hpc).trans (if_neg (by simp [hoff]))⟩
  · have hruns : p.dithEnded = false := by
      simp only [Pc.dithEnded, Bool.or_eq_false_iff, beq_eq_false_iff_ne, decide_eq_false_iff_not]
      omega
    have hkeeps : s.bandTaken x.n p = s.get (R.DIO_PC_STAT_BAND x.n) := if_neg (by simp [hruns])
    rw [← hkeeps]
    refine ⟨hband, (congrArg Pc.taken hpc).trans ?_, (congrArg Pc.ref hpc).trans ?_, (congrArg Pc.dithAmp hpc).trans ?_,
      (congrArg Pc.dithT hpc).trans ?_⟩ <;> simp [State.pwmStarted, State.pwmTaken, hoff, hruns]
  · exact ⟨(onlyRegs_put { s with chr.phase := x.phase.val } _ _).1, rfl⟩

/-! ### The coil estimate (R243) -/

/-- Nothing but the registers `ks`, the current outputs, and events. -/
def OnlyCoil (ks : List Fld) (s t : State) : Prop := ∃ l, OnlyLogged ks { s with dio.pcs := l } t

theorem OnlyCoil.trans {ks ls : List Fld} {s t u : State} (h : OnlyCoil ks s t) (g : OnlyCoil ls t u) :
    OnlyCoil (ks ++ ls) s u := by
  obtain ⟨l, h⟩ := h
  obtain ⟨m, g⟩ := g
  have hafter : OnlyLogged ks { s with dio.pcs := m } { t with dio.pcs := m } := ⟨h.1, by rw [h.2]⟩
  exact ⟨m, onlyLogged_trans hafter g⟩

theorem OnlyCoil.onlyLogged {ks : List Fld} {s t : State} (h : OnlyCoil ks s t) :
    OnlyLogged ks { s with dio.pcs := t.dio.pcs } t := by
  obtain ⟨l, h⟩ := h
  have hl : t.dio.pcs = l := by rw [h.2]
  rwa [hl]

theorem onlyCoil_of_logged {ks : List Fld} {s t : State} (h : OnlyLogged ks s t) : OnlyCoil ks s t := ⟨s.dio.pcs, h⟩

theorem onlyCoil_modPc (s : State) (n : Nat) (f : Pc → Pc) : OnlyCoil [] s (s.modPc n f) :=
  ⟨_, onlyLogged_of_regs (onlyRegs_refl _ _)⟩

theorem onlyLogged_pcEvent (s : State) (n detail : Nat) : OnlyLogged [] s (s.pcEvent n detail) :=
  List.foldlRecOn (motive := OnlyLogged [] s) _ _ (onlyLogged_of_regs (onlyRegs_refl [] s)) fun _ ht _ _ =>
    onlyLogged_trans ht (onlyLogged_raise _ _ _)

/-- No current flows at full duty, or the resistance estimated is above 200 ohms (Table 6.3). -/
def State.coilOpen (s : State) (n : Nat) (o : Bool) : Bool :=
  o || ((s.dio.pcs.getD n {}).est && decide (200000 < s.get (R.DIO_PC_R_VALUE n)))

/-- The open load shown, with its event when it is new. -/
def State.openShown (s : State) (n : Nat) (o : Bool) : State :=
  if s.coilOpen n o && !s.flag (R.DIO_PC_STAT_OPEN n) then
    (s.put (R.DIO_PC_STAT_OPEN n) (b2n (s.coilOpen n o))).pcEvent n 1
  else s.put (R.DIO_PC_STAT_OPEN n) (b2n (s.coilOpen n o))

theorem onlyLogged_openShown (s : State) (n : Nat) (o : Bool) :
    OnlyLogged [] (s.put (R.DIO_PC_STAT_OPEN n) (b2n (s.coilOpen n o))) (s.openShown n o) := by
  rw [State.openShown]
  split_ifs
  · exact onlyLogged_pcEvent _ n 1
  · exact onlyLogged_of_regs (onlyRegs_refl [] _)

theorem onlyCoil_openShown (s : State) (n : Nat) (o : Bool) : OnlyCoil [R.DIO_PC_STAT_OPEN n] s (s.openShown n o) :=
  onlyCoil_of_logged (onlyLogged_trans (onlyLogged_put s _ _) (onlyLogged_openShown s n o))

theorem State.get_openShown (s : State) {n : Nat} (hn : n < 16) (o : Bool) :
    (s.openShown n o).get (R.DIO_PC_STAT_OPEN n) = b2n (s.coilOpen n o) := by
  have hne : (R.DIO_PC_STAT_OPEN n).key ∉ [R.LOG_LOST_VALUE].map Fld.key := by
    simp only [List.map_cons, List.map_nil, List.mem_singleton, R.DIO_PC_STAT_OPEN, R.LOG_LOST_VALUE, Fld.at]
    omega
  rw [(onlyLogged_openShown s n o).1 _ hne]
  exact State.get_put_of_lt s (f := R.DIO_PC_STAT_OPEN n) (b2n_lt_two_pow _ Nat.one_pos)

/-- The resistance of a mean voltage and current, in mΩ. -/
def coilOhms (mv ua : Nat) : Nat := (roundDiv ((mv : Int) * 1000000) ua).toNat

/-- The resistance and the temperature that an estimate gives. -/
def coilPuts (s : State) (n r : Nat) : List (Fld × Nat) :=
  [(R.DIO_PC_R_VALUE n, min r (2 ^ 32 - 1)), (R.DIO_PC_T_TCOIL n, ofInt 16 (s.coilTemp n r))]

/-- The estimate formed. -/
def State.coilFormed (s : State) (n r : Nat) : State :=
  (s.modPc n fun p => { p with est := true }).puts (coilPuts s n r)

theorem exec_coilEstimate_has {s : State} {n : Fin 16} (mv ua : Nat) (o : Bool) (hhas : s.has 0x1100 n = true) :
    exec (.coilEstimate n mv ua o) s =
      .next (((if decide (50000 ≤ ua) then s.coilFormed n (coilOhms mv ua) else s).bandStep n).openShown n o) := by
  rw [exec_coilEstimate, execCoilEstimate, if_neg (by simp [hhas])]
  rfl

theorem State.get_bandStep (s : State) (n : Nat) (f : Fld) : (s.bandStep n).get f = s.get f := rfl

theorem nodup_coilPuts (s : State) (n r : Nat) : ((coilPuts s n r).map fun e => e.1.key).Nodup := by
  simp only [coilPuts, List.map_cons, List.map_nil, List.nodup_cons, List.mem_cons, List.not_mem_nil, or_false,
    not_false_eq_true, List.nodup_nil, and_true, R.DIO_PC_R_VALUE, R.DIO_PC_T_TCOIL, Fld.at]
  omega

theorem State.coilFormed_shown (s : State) {n : Nat} (hlen : n < s.dio.pcs.length) (r : Nat) :
    (s.coilFormed n r).get (R.DIO_PC_R_VALUE n) = min r (2 ^ 32 - 1) ∧
      (s.coilFormed n r).get (R.DIO_PC_T_TCOIL n) = ofInt 16 (s.coilTemp n r) ∧
      (((s.coilFormed n r).bandStep n).dio.pcs.getD n {}).est = true := by
  have hput {f : Fld} {v : Nat} (h : (f, v) ∈ coilPuts s n r) : (s.coilFormed n r).get f = v % 2 ^ f.w :=
    State.get_puts_mem (nodup_coilPuts s n r) h _
  have hdio : (s.coilFormed n r).dio = (s.modPc n fun p => { p with est := true }).dio := State.puts_dio _ _
  refine ⟨(hput (by simp [coilPuts])).trans (Nat.mod_eq_of_lt ?_), (hput (by simp [coilPuts])).trans
    (Nat.mod_eq_of_lt (ofInt_lt 16 _)), ?_⟩
  · exact (Nat.min_le_right _ _).trans_lt (by decide : 2 ^ 32 - 1 < 2 ^ 32)
  · rw [State.bandStep, State.modPc, hdio, State.modPc, getD_modify_same _ (by rwa [List.length_modify]),
      getD_modify_same _ hlen]

theorem onlyCoil_coilFormed (s : State) (n r : Nat) :
    OnlyCoil [R.DIO_PC_R_VALUE n, R.DIO_PC_T_TCOIL n] s (s.coilFormed n r) :=
  (onlyCoil_modPc s n _).trans (onlyCoil_of_logged (onlyLogged_of_regs (onlyRegs_puts _ (coilPuts s n r))))

theorem coilEstimate_forms (s : State) (n : Fin 16) (mv ua : Nat) (o : Bool) (hs : s.Shaped) (hhas : s.has 0x1100 n = true)
    (hua : 50000 ≤ ua) :
    ∃ t r, exec (.coilEstimate n mv ua o) s = .next t ∧ r = (roundDiv ((mv : Int) * 1000000) ua).toNat ∧
      t.get (R.DIO_PC_R_VALUE n) = min r (2 ^ 32 - 1) ∧ t.get (R.DIO_PC_T_TCOIL n) = ofInt 16 (s.coilTemp n r) ∧
      t.get (R.DIO_PC_STAT_OPEN n) = b2n (o || decide (200000 < min r (2 ^ 32 - 1))) ∧
      OnlyLogged [R.DIO_PC_R_VALUE n, R.DIO_PC_T_TCOIL n, R.DIO_PC_STAT_OPEN n] { s with dio.pcs := t.dio.pcs } t := by
  obtain ⟨-, -, -, hlen, -⟩ := hs
  obtain ⟨hr, htemp, hest⟩ := s.coilFormed_shown (n.isLt.trans_eq hlen.symm) (coilOhms mv ua)
  have hkept {f : Fld} (hf : f.key ∉ [R.LOG_LOST_VALUE, R.DIO_PC_STAT_OPEN n].map Fld.key) :
      (((s.coilFormed n (coilOhms mv ua)).bandStep n).openShown n o).get f = (s.coilFormed n (coilOhms mv ua)).get f :=
    ((onlyLogged_trans (onlyLogged_put _ _ _) (onlyLogged_openShown _ n o)).1 f hf).trans (State.get_bandStep _ n f)
  refine ⟨_, coilOhms mv ua, by rw [exec_coilEstimate_has mv ua o hhas, if_pos (by simpa using hua)], by rw [coilOhms],
    (hkept ?_).trans hr, (hkept ?_).trans htemp, ?_, ?_⟩
  · simp only [List.map_cons, List.map_nil, List.mem_cons, List.not_mem_nil, or_false, R.LOG_LOST_VALUE, R.DIO_PC_R_VALUE,
      R.DIO_PC_STAT_OPEN, Fld.at]
    omega
  · simp only [List.map_cons, List.map_nil, List.mem_cons, List.not_mem_nil, or_false, R.LOG_LOST_VALUE, R.DIO_PC_T_TCOIL,
      R.DIO_PC_STAT_OPEN, Fld.at]
    omega
  · have hrU : ((s.coilFormed n (coilOhms mv ua)).bandStep n).get (R.DIO_PC_R_VALUE n) = min (coilOhms mv ua) (2 ^ 32 - 1) :=
      (State.get_bandStep _ _ _).trans hr
    rw [State.get_openShown _ n.isLt, State.coilOpen, hest, hrU, Bool.true_and]
  · exact (((onlyCoil_coilFormed s n _).trans (onlyCoil_modPc _ n _)).trans (onlyCoil_openShown _ n o)).onlyLogged

theorem coilEstimate_small (s : State) (n : Fin 16) (mv ua : Nat) (o : Bool) (hhas : s.has 0x1100 n = true)
    (hua : ua < 50000) :
    ∃ t, exec (.coilEstimate n mv ua o) s = .next t ∧ (o = true → t.get (R.DIO_PC_STAT_OPEN n) = 1) ∧
      OnlyLogged [R.DIO_PC_STAT_OPEN n] { s with dio.pcs := t.dio.pcs } t := by
  refine ⟨_, by rw [exec_coilEstimate_has mv ua o hhas, if_neg (by simpa using hua)], fun ho => ?_, ?_⟩
  · rw [State.get_openShown _ n.isLt, State.coilOpen, ho]
    rfl
  · exact ((onlyCoil_modPc s n _).trans (onlyCoil_openShown (s.bandStep n) n o)).onlyLogged

end Sys2Proof.Machine

/-! Current outputs: overcurrent (R244), the loss of UV and its return (R34, R234; O43). -/

namespace Sys2Proof.Machine

theorem exec_pcOvercurrent (n : Fin 16) (s : State) :
    exec (.pcOvercurrent n) s = .next ((s.put (R.DIO_PC_STAT_OC n) 1).pcFault n 0) := rfl

theorem exec_pcOcClear (n : Fin 16) (s : State) : exec (.pcOcClear n) s = .next (s.pcOcClear n) := rfl

theorem exec_uvLoss (mv : Nat) (s : State) : exec (.uvLoss mv) s = execUvLoss mv s := rfl

theorem exec_uvRestore (mv : Nat) (s : State) : exec (.uvRestore mv) s = execUvRestore mv s := rfl

/-! ### The sink of a driver -/

/-- The number of current output `n` as a destination (Table 5.4). -/
theorem bits_currentOutput {n : Nat} (hn : n < 16) :
    bits (0x10000000 + n) 28 4 = 1 ∧ bits (0x10000000 + n) 0 4 = n := by
  simp only [bits]
  omega

/-- The number of digital output `n` as a destination (Table 5.4). -/
theorem bits_digitalOutput {n : Nat} (hn : n < 16) :
    bits (0x20000000 + n) 28 4 = 2 ∧ bits (0x20000000 + n) 0 4 = n := by
  simp only [bits]
  omega

theorem State.sinkOff_of_currentOutput {s : State} {n c : Nat} (hn : n < 16) (hc : c ∈ s.driversOf (0x10000000 + n)) :
    s.sinkOff c = s.pcOff n := by
  obtain ⟨-, -, hdst⟩ := State.mem_driversOf.1 hc
  obtain ⟨hkind, hnum⟩ := bits_currentOutput hn
  simp only [State.sinkOff, hdst, hkind, hnum, if_true]

theorem State.sinkOff_of_digitalOutput {s : State} {n c : Nat} (hn : n < 16) (hc : c ∈ s.driversOf (0x20000000 + n)) :
    s.sinkOff c = bit (s.get R.DIO_OFLT_OC) n := by
  obtain ⟨-, -, hdst⟩ := State.mem_driversOf.1 hc
  obtain ⟨hkind, hnum⟩ := bits_digitalOutput hn
  simp only [State.sinkOff, hdst, hkind, hnum, if_true]
  exact if_neg (by decide)

/-- A driver of a current output whose sink goes off sets the value of that output to 0. -/
theorem State.sinkFault_pcs {s : State} {n c : Nat} (hn : n < 16) (hc : c ∈ s.driversOf (0x10000000 + n)) (detail : Nat) :
    (s.sinkFault c detail).dio.pcs = s.dio.pcs.modify n fun p => { p with val := 0 } := by
  obtain ⟨h128, -, hdst⟩ := State.mem_driversOf.1 hc
  have hshown : (s.faultShown c).chanB c 0x1C 4 = 0x10000000 + n :=
    (((chansOnly_faultShown s c).sameGround fun d hd => List.mem_singleton.1 hd ▸ h128).chanB c _ _).trans hdst
  have hdio : (s.faultShown c).dio = s.dio := State.puts_dio (s.modChan c Chan.sinkLost) _
  obtain ⟨hkind, hnum⟩ := bits_currentOutput hn
  have hval : (s.faultShown c).sinkVal c 0 = 0 := ite_self 0
  have hraw (t : State) (f : Pc → Pc) : ((t.rawShown c 0).modPc n f).dio.pcs = t.dio.pcs.modify n f := rfl
  rw [State.sinkFault_dio, State.sinkWrite_eq, hshown, hnum, if_pos hkind, hraw, hval, hdio]

/-! ### A current output off and on again (R234) -/

/-- An output that switches off. -/
def Pc.stopped (p : Pc) : Pc := { p with val := 0, taken := 0, ref := 0 }

theorem State.pcFault_eq (s : State) (n detail : Nat) :
    s.pcFault n detail = (s.modPc n Pc.stopped).eachChan (s.driversOf (0x10000000 + n)) fun s c => s.sinkFault c detail :=
  rfl

theorem State.pcRestore_eq (s : State) (n : Nat) :
    s.pcRestore n = s.eachChan (s.driversOf (0x10000000 + n)) State.sinkRestored := rfl

theorem chansOnly_pcFault (s : State) (n detail : Nat) :
    ChansOnly (s.driversOf (0x10000000 + n)) s (s.pcFault n detail) := by
  have hstopped : ChansOnly (s.driversOf (0x10000000 + n)) s (s.modPc n Pc.stopped) := chansOnly_rest _ s _ _ _
  rw [State.pcFault_eq]
  exact hstopped.trans (chansOnly_eachChan (chansOnly_sinkFault detail) _ _)

theorem chansOnly_pcRestore (s : State) (n : Nat) : ChansOnly (s.driversOf (0x10000000 + n)) s (s.pcRestore n) := by
  rw [State.pcRestore_eq]
  exact chansOnly_eachChan chansOnly_sinkRestored _ s

theorem State.sameGround_pcFault (s : State) (n detail : Nat) : SameGround s (s.pcFault n detail) :=
  (chansOnly_pcFault s n detail).sameGround fun _ => State.lt_of_mem_driversOf

theorem State.sameGround_pcRestore (s : State) (n : Nat) : SameGround s (s.pcRestore n) :=
  (chansOnly_pcRestore s n).sameGround fun _ => State.lt_of_mem_driversOf

theorem supplyKept_pcFault (s : State) (n detail : Nat) : SupplyKept s (s.pcFault n detail) := by
  have hstopped : SupplyKept s (s.modPc n Pc.stopped) := supplyKept_of_eq rfl rfl
  rw [State.pcFault_eq]
  exact hstopped.trans (supplyKept_foldl (supplyKept_sinkFault detail) _ _)

theorem supplyKept_pcRestore (s : State) (n : Nat) : SupplyKept s (s.pcRestore n) := by
  rw [State.pcRestore_eq]
  exact supplyKept_foldl supplyKept_sinkRestored _ s

/-- The drivers of an output that switches off change no other output, and nothing more of their own. -/
theorem State.pcFault_pcs (s : State) {n : Nat} (hn : n < 16) (detail : Nat) :
    (s.pcFault n detail).dio.pcs = s.dio.pcs.modify n Pc.stopped := by
  have hground : SameGround s (s.modPc n Pc.stopped) := ⟨rfl, rfl, fun _ _ => rfl⟩
  have hdrives : SameGround s (s.pcFault n detail) ∧ (s.pcFault n detail).dio.pcs = s.dio.pcs.modify n Pc.stopped := by
    rw [State.pcFault_eq]
    refine List.foldlRecOn (motive := fun t => SameGround s t ∧ t.dio.pcs = s.dio.pcs.modify n Pc.stopped) _ _
      ⟨hground, rfl⟩ fun t ⟨hground, hpcs⟩ c hc => ⟨hground.trans ?_, ?_⟩
    · exact (chansOnly_sinkFault detail t c).sameGround fun d hd => List.mem_singleton.1 hd ▸ State.lt_of_mem_driversOf hc
    · rw [State.sinkFault_pcs hn (by rwa [hground.sameRecords.driversOf]), hpcs, List.modify_modify_eq]
      rfl
  exact hdrives.2

theorem State.pcFault_stopped (s : State) {n : Nat} (hn : n < 16) (hlen : s.dio.pcs.length = 16) (detail : Nat) :
    ((s.pcFault n detail).dio.pcs.getD n {}).val = 0 ∧ ((s.pcFault n detail).dio.pcs.getD n {}).taken = 0 := by
  rw [State.pcFault_pcs s hn, getD_modify_same _ (hn.trans_eq hlen.symm)]
  exact ⟨rfl, rfl⟩

theorem SinkLost.of_before {c : Nat} {r s t : State} (h : SinkLost c s t) (hst : s.chState c = r.chState c)
    (hmode : s.mode = r.mode) (hchan : s.chan c = r.chan c) : SinkLost c r t := by
  obtain ⟨hraw, hwhy, hreset, hsafe⟩ := h
  rw [hst] at hreset hsafe
  rw [hmode] at hsafe
  rw [hchan] at hwhy
  exact ⟨hraw, hwhy, hreset, hsafe⟩

theorem sinkLost_pcFault {s : State} {n c : Nat} (hlen : s.hlm.chans.length = 128) (detail : Nat)
    (hc : c ∈ s.driversOf (0x10000000 + n)) : SinkLost c s (s.pcFault n detail) :=
  (sinkLost_eachChan (s := s.modPc n Pc.stopped) (s.nodup_driversOf _) (fun _ => State.lt_of_mem_driversOf) hlen detail
    hc).of_before rfl rfl rfl

/-! ### Overcurrent (R244) -/

/-- The keys of the current outputs' status registers. -/
def pcStatKey (k : Nat) : Prop := 8 * 0xF001100000 ≤ k ∧ k < 8 * 0xF001100000 + 0x800

theorem pcStatKey_of {n : Nat} (hn : n < 16) :
    ∀ f ∈ [R.DIO_PC_STAT_OC n, R.DIO_PC_STAT_FAULTY n, R.DIO_PC_STAT_SUPPLY_LOST n], pcStatKey f.key := by
  simp only [List.forall_mem_cons, List.not_mem_nil, false_imp_iff, implies_true, and_true, pcStatKey, R.DIO_PC_STAT_OC,
    R.DIO_PC_STAT_FAULTY, R.DIO_PC_STAT_SUPPLY_LOST, Fld.at]
  omega

/-- A current output's status register is no record byte, no channel's register, and not the mode. -/
theorem pcStatKey_apart {k : Nat} (h : pcStatKey k) :
    k < 2 ^ 51 ∧ R.ALM_MODE_MODE.key ≠ k ∧ ∀ c < 128, ∀ f : Fld, chanKey c f.key → f.key ≠ k := by
  simp only [pcStatKey] at h
  refine ⟨by omega, ?_, fun c hc f hf => ?_⟩
  · simp only [R.ALM_MODE_MODE, Fld.at]
    omega
  · simp only [chanKey] at hf
    omega

theorem SinkLost.of_pcStat {s t : State} {f : Fld} {v c : Nat} (hf : pcStatKey f.key) (hc : c < 128)
    (h : SinkLost c (s.put f v) t) : SinkLost c s t := by
  obtain ⟨-, hmode, hchan⟩ := pcStatKey_apart hf
  exact h.of_before (State.get_put_other s (hchan c hc (R.HLM_CHST_STATE c) (chanKey_CHST_STATE c)) v)
    (State.get_put_other s hmode v) rfl

theorem pcOvercurrent_stops (s : State) (n : Fin 16) (hs : s.Shaped) :
    ∃ t, exec (.pcOvercurrent n) s = .next t ∧ t.get (R.DIO_PC_STAT_OC n) = 1 ∧ (t.dio.pcs.getD n {}).val = 0 ∧
      (t.dio.pcs.getD n {}).taken = 0 ∧
      ∀ c ∈ s.driversOf (0x10000000 + n), t.get (R.HLM_CHRAW_VALUE c) = 0 ∧
        (t.chan c).why = (if (s.chan c).why = 2 then 2 else 3) ∧ (s.chState c = 5 → t.chState c = 5) ∧
        (s.chState c ≠ 5 → 2 ≤ s.chState c ∨ mSTANDBY ≤ s.mode → t.chState c = 4) := by
  obtain ⟨-, -, hchans, hpcs, -⟩ := hs
  have hkey : pcStatKey (R.DIO_PC_STAT_OC n).key := pcStatKey_of n.isLt _ (by simp)
  have hground : groundKey (R.DIO_PC_STAT_OC n).key := by
    simp only [groundKey, R.DIO_PC_STAT_OC, Fld.at]
    omega
  obtain ⟨hval, htaken⟩ := (s.put (R.DIO_PC_STAT_OC n) 1).pcFault_stopped n.isLt hpcs 0
  refine ⟨_, exec_pcOvercurrent n s, ?_, hval, htaken, fun c hc => ?_⟩
  · rw [(State.sameGround_pcFault _ n 0).get _ hground]
    exact State.get_put_same s (R.DIO_PC_STAT_OC n) 1
  · have hdrives : c ∈ (s.put (R.DIO_PC_STAT_OC n) 1).driversOf (0x10000000 + n) := by
      rwa [(sameRecords_put s 1 (pcStatKey_apart hkey).1).driversOf]
    obtain ⟨hraw, hwhy, hreset, hsafe⟩ :=
      (sinkLost_pcFault (s := s.put (R.DIO_PC_STAT_OC n) 1) hchans 0 hdrives).of_pcStat hkey (State.lt_of_mem_driversOf hc)
    exact ⟨hraw, hwhy, hreset, hsafe⟩

/-- What the outputs' status registers do not touch: whether the law of a channel may run. -/
theorem SameRecords.lawRuns {s t : State} (h : SameRecords s t) (hmode : t.mode = s.mode) {c : Nat}
    (hchan : t.chan c = s.chan c) : t.lawRuns c = s.lawRuns c := by
  simp only [State.lawRuns, State.lawAllowed, h.chanOn, h.chanB, hmode, hchan]

theorem pcOcClear_returns (s : State) (n : Fin 16) (hoc : s.get (R.DIO_PC_STAT_OC n) ≠ 0) :
    ∃ t, exec (.pcOcClear n) s = .next t ∧ t.get (R.DIO_PC_STAT_OC n) = 0 ∧
      (s.get (R.DIO_PC_STAT_FAULTY n) = 0 → s.get (R.DIO_PC_STAT_SUPPLY_LOST n) = 0 → s.pwr.uvLost = false →
        ∀ c ∈ s.driversOf (0x10000000 + n), s.chState c = 4 → (s.chan c).why = 3 → s.lawRuns c = true →
          t.chState c = 6 ∧ t.get (R.HLM_HOV_CAUSE c) = 6) := by
  have hkey : pcStatKey (R.DIO_PC_STAT_OC n).key := pcStatKey_of n.isLt _ (by simp)
  obtain ⟨hrec, hmode, hchan⟩ := pcStatKey_apart hkey
  have hrecords := sameRecords_put s 0 hrec
  have hcleared : (s.put (R.DIO_PC_STAT_OC n) 0).get (R.DIO_PC_STAT_OC n) = 0 := State.get_put_same s (R.DIO_PC_STAT_OC n) 0
  have hground : groundKey (R.DIO_PC_STAT_OC n).key := by
    simp only [groundKey, R.DIO_PC_STAT_OC, Fld.at]
    omega
  refine ⟨_, by rw [exec_pcOcClear, State.pcOcClear, if_pos (by simpa [State.flag] using hoc)], ?_,
    fun hfaulty hsupply huv c hc hst hwhy hlaw => ?_⟩
  · rw [(State.sameGround_pcRestore _ n).get _ hground, hcleared]
  · have h128 := State.lt_of_mem_driversOf hc
    have hdrives : c ∈ (s.put (R.DIO_PC_STAT_OC n) 0).driversOf (0x10000000 + n) := by rwa [hrecords.driversOf]
    have hother {f : Fld} (hf : f.key ≠ (R.DIO_PC_STAT_OC n).key) := State.get_put_other s hf 0
    have hfaultyKept : (s.put (R.DIO_PC_STAT_OC n) 0).get (R.DIO_PC_STAT_FAULTY n) = 0 := by
      rw [hother (by simp only [R.DIO_PC_STAT_FAULTY, R.DIO_PC_STAT_OC, Fld.at]; omega), hfaulty]
    have hsupplyKept : (s.put (R.DIO_PC_STAT_OC n) 0).get (R.DIO_PC_STAT_SUPPLY_LOST n) = 0 := by
      rw [hother (by simp only [R.DIO_PC_STAT_SUPPLY_LOST, R.DIO_PC_STAT_OC, Fld.at]; omega), hsupply]
    have hoff : (s.put (R.DIO_PC_STAT_OC n) 0).sinkOff c = false := by
      rw [State.sinkOff_of_currentOutput n.isLt hdrives]
      simp [State.pcOff, State.flag, hcleared, hfaultyKept, hsupplyKept, huv]
    rw [State.pcRestore_eq]
    exact eachChan_sinkRestored_law (State.nodup_driversOf _ _) (fun _ => State.lt_of_mem_driversOf) hdrives hoff
      ((State.get_put_other s (hchan c h128 _ (chanKey_CHST_STATE c)) 0).trans hst) hwhy
      ((hrecords.lawRuns (State.get_put_other s hmode 0) rfl).trans hlaw)

end Sys2Proof.Machine

/-! Current outputs: the loss of UV and its return (R34, R234; O43). -/

namespace Sys2Proof.Machine

/-! ### The outputs in turn -/

/-- What holds of every step but that of `a` holds up to it and after it. -/
theorem exists_foldl_at {α β : Type} {R : β → β → Prop} (hrefl : ∀ b, R b b) (htrans : ∀ {b c d}, R b c → R c d → R b d)
    {f : β → α → β} {l : List α} (hn : l.Nodup) {a : α} (ha : a ∈ l) (hf : ∀ x ∈ l, x ≠ a → ∀ b, R b (f b x)) (b : β) :
    ∃ c, R b c ∧ R (f c a) (l.foldl f b) := by
  obtain ⟨l₁, l₂, rfl⟩ := List.append_of_mem ha
  obtain ⟨-, hn₂, hcross⟩ := List.nodup_append.1 hn
  have hsteps {m : List α} (hm : ∀ x ∈ m, x ∈ l₁ ++ a :: l₂ ∧ x ≠ a) (b : β) : R b (m.foldl f b) :=
    List.foldlRecOn (motive := R b) m f (hrefl b) fun c hc x hx => htrans hc (hf x (hm x hx).1 (hm x hx).2 c)
  refine ⟨l₁.foldl f b, hsteps (fun x hx => ⟨by simp [hx], hcross x hx a List.mem_cons_self⟩) b, ?_⟩
  rw [List.foldl_append, List.foldl_cons]
  exact hsteps (fun x hx => ⟨by simp [hx], fun e => (List.nodup_cons.1 hn₂).1 (e ▸ hx)⟩) _

/-- For each output SUPPLY_LOST is set to `v`, and beside it its drivers alone change. -/
def SupplySwitches (v : Nat) (step : State → Nat → State) : Prop :=
  ∀ s m, ChansOnly ((s.put (R.DIO_PC_STAT_SUPPLY_LOST m) v).driversOf (0x10000000 + m))
    (s.put (R.DIO_PC_STAT_SUPPLY_LOST m) v) (step s m)

/-- Output `n` and the channels that drive it stand, and so do the records and the mode. -/
structure OutputStands (n : Nat) (s t : State) : Prop where
  records : SameRecords s t
  mode : t.mode = s.mode
  supply : t.get (R.DIO_PC_STAT_SUPPLY_LOST n) = s.get (R.DIO_PC_STAT_SUPPLY_LOST n)
  chans : t.hlm.chans.length = s.hlm.chans.length
  drivers : ∀ c ∈ s.driversOf (0x10000000 + n), t.chState c = s.chState c

theorem OutputStands.refl (n : Nat) (s : State) : OutputStands n s s :=
  ⟨⟨rfl, fun _ _ => rfl⟩, rfl, rfl, rfl, fun _ _ => rfl⟩

theorem OutputStands.trans {n : Nat} {s t u : State} (h : OutputStands n s t) (g : OutputStands n t u) :
    OutputStands n s u where
  records := h.records.trans g.records
  mode := g.mode.trans h.mode
  supply := g.supply.trans h.supply
  chans := g.chans.trans h.chans
  drivers := fun c hc => (g.drivers c (by rwa [h.records.driversOf])).trans (h.drivers c hc)

theorem supplyKey {n : Nat} (hn : n < 16) : pcStatKey (R.DIO_PC_STAT_SUPPLY_LOST n).key := pcStatKey_of hn _ (by simp)

section
variable {v : Nat} {step : State → Nat → State} (h : SupplySwitches v step)
include h

/-- A register beside the channels' windows, the lost records and the output's SUPPLY_LOST. -/
theorem SupplySwitches.get_other {m : Nat} (s : State) {f : Fld} (hlow : f.key % 0x80000 < 0x1000)
    (hlost : f.key ≠ R.LOG_LOST_VALUE.key) (hne : f.key ≠ (R.DIO_PC_STAT_SUPPLY_LOST m).key) : (step s m).get f = s.get f := by
  rw [(h s m).get_group hlow hlost, State.get_put_other s hne]

/-- The step of another output. -/
theorem SupplySwitches.stands {n m : Nat} (hn : n < 16) (hm : m < 16) (hne : m ≠ n) (s : State) :
    OutputStands n s (step s m) := by
  obtain ⟨hrec, hmode, hchan⟩ := pcStatKey_apart (supplyKey hm)
  have hrecords := sameRecords_put s v hrec
  have hground := (h s m).sameGround fun _ => State.lt_of_mem_driversOf
  refine ⟨hrecords.trans hground.sameRecords, hground.mode.trans (State.get_put_other s hmode v),
    h.get_other s ?_ ?_ ?_, (h s m).length, fun c hc => ?_⟩
  · simp only [R.DIO_PC_STAT_SUPPLY_LOST, Fld.at]
    omega
  · simp only [R.LOG_LOST_VALUE, R.DIO_PC_STAT_SUPPLY_LOST, Fld.at]
    omega
  · simp only [R.DIO_PC_STAT_SUPPLY_LOST, Fld.at]
    omega
  · obtain ⟨h128, -, hdst⟩ := State.mem_driversOf.1 hc
    have hnot : c ∉ (s.put (R.DIO_PC_STAT_SUPPLY_LOST m) v).driversOf (0x10000000 + m) := by
      rw [hrecords.driversOf, State.mem_driversOf, hdst]
      omega
    rw [(h s m).chState hnot h128]
    exact State.get_put_other s (hchan c h128 _ (chanKey_CHST_STATE c)) v

theorem SupplySwitches.supply {m : Nat} (hm : m < 16) (s : State) : (step s m).get (R.DIO_PC_STAT_SUPPLY_LOST m) = v % 2 := by
  have hground : groundKey (R.DIO_PC_STAT_SUPPLY_LOST m).key := by
    simp only [groundKey, R.DIO_PC_STAT_SUPPLY_LOST, Fld.at]
    omega
  rw [((h s m).sameGround fun _ => State.lt_of_mem_driversOf).get _ hground]
  exact State.get_put_same s (R.DIO_PC_STAT_SUPPLY_LOST m) v

theorem SupplySwitches.exists_at {n : Nat} (hn : n < 16) (s : State) :
    ∃ u, OutputStands n s u ∧ OutputStands n (step u n) ((List.range 16).foldl step s) :=
  exists_foldl_at (OutputStands.refl n) OutputStands.trans List.nodup_range (List.mem_range.2 hn)
    (fun _ hm hne t => h.stands hn (List.mem_range.1 hm) hne t) s

theorem SupplySwitches.foldl_supply {n : Nat} (hn : n < 16) (s : State) :
    ((List.range 16).foldl step s).get (R.DIO_PC_STAT_SUPPLY_LOST n) = v % 2 := by
  obtain ⟨u, -, hafter⟩ := h.exists_at hn s
  rw [hafter.supply, h.supply hn]

/-- What PWR shows of UV stands. -/
theorem SupplySwitches.foldl_shown {f : Fld} (hf : f ∈ [R.PWR_SUPPLY_UV_MV, R.PWR_STATUS_UV_LOSS]) (s : State) :
    ((List.range 16).foldl step s).get f = s.get f := by
  obtain ⟨hlow, hlost, hbelow⟩ := (by decide : ∀ f ∈ [R.PWR_SUPPLY_UV_MV, R.PWR_STATUS_UV_LOSS],
    f.key % 0x80000 < 0x1000 ∧ f.key ≠ R.LOG_LOST_VALUE.key ∧ f.key < 8 * 0xF001100000) f hf
  have hother (m : Nat) (hm : m < 16) : f.key ≠ (R.DIO_PC_STAT_SUPPLY_LOST m).key :=
    (hbelow.trans_le (supplyKey hm).1).ne
  exact List.foldlRecOn (motive := fun t => t.get f = s.get f) _ step rfl fun t ht m hm =>
    (h.get_other t hlow hlost (hother m (List.mem_range.1 hm))).trans ht

end

/-! ### The loss of UV (R34) -/

/-- An output that has lost its supply. -/
def State.outputLost (s : State) (n : Nat) : State := (s.put (R.DIO_PC_STAT_SUPPLY_LOST n) 1).pcFault n 2

/-- UV lost and shown at its level, before the event. -/
def State.uvDown (s : State) (mv : Nat) : State :=
  State.put { s.uvLevel mv with pwr.uvLost := true } R.PWR_STATUS_UV_LOSS 1

/-- UV lost, shown, and its event raised. -/
def State.uvGone (s : State) (mv : Nat) : State := (s.uvDown mv).raise 122 []

theorem exec_uvLoss_below {s : State} {mv : Nat} (huv : s.pwr.uvLost = false) (hmv : mv < 8000) :
    exec (.uvLoss mv) s = .next ((List.range 16).foldl State.outputLost (s.uvGone mv)) := by
  rw [exec_uvLoss, execUvLoss, if_neg (by simp [huv, hmv])]
  rfl

theorem supplySwitches_outputLost : SupplySwitches 1 State.outputLost := fun _ n => chansOnly_pcFault _ n 2

theorem supplyKept_outputLost (s : State) (n : Nat) : SupplyKept s (s.outputLost n) :=
  (supplyKept_of_eq rfl rfl : SupplyKept s (s.put (R.DIO_PC_STAT_SUPPLY_LOST n) 1)).trans (supplyKept_pcFault _ n 2)

theorem State.outputLost_pcs (s : State) {n : Nat} (hn : n < 16) :
    (s.outputLost n).dio.pcs = s.dio.pcs.modify n Pc.stopped := State.pcFault_pcs _ hn 2

theorem State.sameRecords_outputLost (u : State) {n : Nat} (hn : n < 16) : SameRecords u (u.outputLost n) :=
  (sameRecords_put u 1 (pcStatKey_apart (supplyKey hn)).1).trans (State.sameGround_pcFault _ n 2).sameRecords

/-- The outputs' commands when every supply is lost. -/
theorem foldl_outputLost_stopped {s : State} {n : Nat} (hn : n < 16) (hlen : s.dio.pcs.length = 16) :
    (((List.range 16).foldl State.outputLost s).dio.pcs.getD n {}).val = 0 ∧
      (((List.range 16).foldl State.outputLost s).dio.pcs.getD n {}).taken = 0 := by
  obtain ⟨u, hbefore, hafter⟩ := exists_foldl_at
    (R := fun s t : State => t.dio.pcs.length = s.dio.pcs.length ∧ t.dio.pcs.getD n {} = s.dio.pcs.getD n {})
    (fun _ => ⟨rfl, rfl⟩) (fun h g => ⟨g.1.trans h.1, g.2.trans h.2⟩) (f := State.outputLost) List.nodup_range
    (List.mem_range.2 hn) (fun m hm hne t => by
      rw [t.outputLost_pcs (List.mem_range.1 hm)]
      exact ⟨List.length_modify _ _ _, getD_modify_other _ _ hne _⟩) s
  rw [hafter.2, u.outputLost_pcs hn, getD_modify_same _ (hn.trans_eq (hbefore.1.trans hlen).symm)]
  exact ⟨rfl, rfl⟩

theorem foldl_outputLost_safe {s : State} {n c : Nat} (hn : n < 16) (hlen : s.hlm.chans.length = 128)
    (hc : c ∈ s.driversOf (0x10000000 + n)) (hst : s.chState c ≠ 5) (hruns : 2 ≤ s.chState c ∨ mSTANDBY ≤ s.mode) :
    ((List.range 16).foldl State.outputLost s).chState c = 4 := by
  obtain ⟨u, hbefore, hafter⟩ := supplySwitches_outputLost.exists_at hn s
  have hrec := (pcStatKey_apart (supplyKey hn)).1
  have hu : c ∈ u.driversOf (0x10000000 + n) := by rwa [hbefore.records.driversOf]
  have hput : c ∈ (u.put (R.DIO_PC_STAT_SUPPLY_LOST n) 1).driversOf (0x10000000 + n) := by
    rwa [(sameRecords_put u 1 hrec).driversOf]
  have hlost : SinkLost c u (u.outputLost n) :=
    (sinkLost_pcFault (s := u.put (R.DIO_PC_STAT_SUPPLY_LOST n) 1) (hbefore.chans.trans hlen) 2 hput).of_pcStat (supplyKey hn)
      (State.lt_of_mem_driversOf hc)
  have hafterRec : c ∈ (u.outputLost n).driversOf (0x10000000 + n) := by
    rw [(u.sameRecords_outputLost hn).driversOf]
    exact hu
  rw [hafter.drivers c hafterRec]
  refine hlost.safe ?_ ?_ <;> rw [hbefore.drivers c hc]
  · exact hst
  · rwa [hbefore.mode]

theorem sameRegs_uvDown (s : State) (mv : Nat) : SameRegs [R.PWR_SUPPLY_UV_MV, R.PWR_STATUS_UV_LOSS] s (s.uvDown mv) :=
  sameRegs_trans (sameRegs_put { s with pwr.uv := mv } R.PWR_SUPPLY_UV_MV mv)
    (sameRegs_put { s.uvLevel mv with pwr.uvLost := true } R.PWR_STATUS_UV_LOSS 1)

theorem State.get_uvGone_other (s : State) (mv : Nat) {f : Fld}
    (h : f.key ∉ [R.LOG_LOST_VALUE, R.PWR_SUPPLY_UV_MV, R.PWR_STATUS_UV_LOSS].map Fld.key) :
    (s.uvGone mv).get f = s.get f := by
  simp only [List.map_cons, List.map_nil, List.mem_cons, List.not_mem_nil, or_false, not_or] at h
  rw [State.uvGone, State.get_raise _ _ _ h.1]
  exact sameRegs_uvDown s mv f (by simpa using h.2)

theorem State.uvGone_shown (s : State) {mv : Nat} (hmv : mv < 8000) :
    (s.uvGone mv).get R.PWR_STATUS_UV_LOSS = 1 ∧ (s.uvGone mv).get R.PWR_SUPPLY_UV_MV = mv := by
  refine ⟨?_, ?_⟩
  · rw [State.uvGone, State.get_raise _ _ _ (by decide)]
    exact State.get_put_same _ R.PWR_STATUS_UV_LOSS 1
  · rw [State.uvGone, State.get_raise _ _ _ (by decide), State.uvDown, State.get_put_other _ (by decide)]
    exact (State.get_put_same { s with pwr.uv := mv } R.PWR_SUPPLY_UV_MV mv).trans 
      (Nat.mod_eq_of_lt (hmv.trans (by decide)))

theorem State.uvGone_pwr (s : State) (mv : Nat) : (s.uvGone mv).pwr.uvLost = true ∧ (s.uvGone mv).pwr.uv = mv := by
  rw [State.uvGone, State.raise_pwr_eq]
  exact ⟨rfl, rfl⟩

theorem sameRecords_uvGone (s : State) (mv : Nat) : SameRecords s (s.uvGone mv) := by
  refine ⟨(State.raise_alm _ 122 []).trans rfl, fun f hf => s.get_uvGone_other mv ?_⟩
  simp only [List.map_cons, List.map_nil, List.mem_cons, List.not_mem_nil, or_false, R.LOG_LOST_VALUE, R.PWR_SUPPLY_UV_MV,
    R.PWR_STATUS_UV_LOSS, Fld.at]
  omega

theorem State.chState_uvGone (s : State) (mv c : Nat) : (s.uvGone mv).chState c = s.chState c := by
  refine s.get_uvGone_other mv ?_
  simp only [List.map_cons, List.map_nil, List.mem_cons, List.not_mem_nil, or_false, R.LOG_LOST_VALUE, R.PWR_SUPPLY_UV_MV,
    R.PWR_STATUS_UV_LOSS, R.HLM_CHST_STATE, Fld.at]
  omega

theorem logGains_uvGone (s : State) (mv : Nat) : LogGains 122 [] s (s.uvGone mv) :=
  (logGains_raise (s.uvDown mv) 122 []).of_now_eq (sameRegs_uvDown s mv) rfl rfl (by decide)

theorem uvLoss_stops (s : State) (mv : Nat) (hs : s.Shaped) (huv : s.pwr.uvLost = false) (hmv : mv < 8000) :
    ∃ t, exec (.uvLoss mv) s = .next t ∧ t.pwr.uvLost = true ∧ t.pwr.uv = mv ∧ t.get R.PWR_STATUS_UV_LOSS = 1 ∧
      t.get R.PWR_SUPPLY_UV_MV = mv ∧
      LogNext 122 [] s t ∧
      ∀ n : Fin 16, t.get (R.DIO_PC_STAT_SUPPLY_LOST n) = 1 ∧ (t.dio.pcs.getD n {}).val = 0 ∧
        (t.dio.pcs.getD n {}).taken = 0 ∧
        ∀ c ∈ s.driversOf (0x10000000 + n), s.chState c ≠ 5 → 2 ≤ s.chState c ∨ mSTANDBY ≤ s.mode → t.chState c = 4 := by
  obtain ⟨-, -, hchans, hpcs, -⟩ := hs
  have hkept : SupplyKept (s.uvGone mv) ((List.range 16).foldl State.outputLost (s.uvGone mv)) :=
    supplyKept_foldl supplyKept_outputLost _ _
  obtain ⟨hlost, hlevel⟩ := s.uvGone_pwr mv
  obtain ⟨hloss, hshown⟩ := s.uvGone_shown hmv
  have hlenPcs : (s.uvGone mv).dio.pcs.length = 16 := by
    rw [State.uvGone, State.raise_dio]
    exact hpcs
  have hlenChans : (s.uvGone mv).hlm.chans.length = 128 := by
    rw [State.uvGone, State.raise_hlm]
    exact hchans
  refine ⟨_, exec_uvLoss_below huv hmv, ?_, ?_, ?_, ?_, (logGains_uvGone s mv).logNext hkept.queue, fun n => ?_⟩
  · exact (congrArg Pwr.uvLost hkept.pwr).trans hlost
  · exact (congrArg Pwr.uv hkept.pwr).trans hlevel
  · exact (supplySwitches_outputLost.foldl_shown (by simp) _).trans hloss
  · exact (supplySwitches_outputLost.foldl_shown (by simp) _).trans hshown
  · obtain ⟨hval, htaken⟩ := foldl_outputLost_stopped n.isLt hlenPcs
    refine ⟨supplySwitches_outputLost.foldl_supply n.isLt _, hval, htaken, fun c hc hst hruns => ?_⟩
    have hmode : (s.uvGone mv).mode = s.mode := s.get_uvGone_other mv (by decide)
    have hdrives : c ∈ (s.uvGone mv).driversOf (0x10000000 + n) := by
      rw [(sameRecords_uvGone s mv).driversOf]
      exact hc
    refine foldl_outputLost_safe n.isLt hlenChans hdrives ?_ ?_ <;> rw [s.chState_uvGone mv c]
    · exact hst
    · rw [hmode]
      exact hruns

/-! ### The return of UV (R34) -/

/-- An output whose supply is back. -/
def State.outputBack (s : State) (n : Nat) : State := (s.put (R.DIO_PC_STAT_SUPPLY_LOST n) 0).pcRestore n

/-- UV back and shown at its level. -/
def State.uvBack (s : State) (mv : Nat) : State := { s.uvLevel mv with pwr.uvLost := false }

theorem exec_uvRestore_above {s : State} {mv : Nat} (huv : s.pwr.uvLost = true) (hmv : 9000 ≤ mv) :
    exec (.uvRestore mv) s = .next ((List.range 16).foldl State.outputBack (s.uvBack mv)) := by
  rw [exec_uvRestore, execUvRestore, if_neg (by simp [huv, hmv])]
  rfl

theorem supplySwitches_outputBack : SupplySwitches 0 State.outputBack := fun _ n => chansOnly_pcRestore _ n

theorem supplyKept_outputBack (s : State) (n : Nat) : SupplyKept s (s.outputBack n) :=
  (supplyKept_of_eq rfl rfl : SupplyKept s (s.put (R.DIO_PC_STAT_SUPPLY_LOST n) 0)).trans (supplyKept_pcRestore _ n)

theorem uvRestore_returns (s : State) (mv : Nat) (huv : s.pwr.uvLost = true) (hmv : 9000 ≤ mv) :
    ∃ t, exec (.uvRestore mv) s = .next t ∧ t.pwr.uvLost = false ∧ t.pwr.uv = mv ∧
      t.get R.PWR_SUPPLY_UV_MV = mv % 65536 ∧
      ∀ n : Fin 16, t.get (R.DIO_PC_STAT_SUPPLY_LOST n) = 0 := by
  have hkept : SupplyKept (s.uvBack mv) ((List.range 16).foldl State.outputBack (s.uvBack mv)) :=
    supplyKept_foldl supplyKept_outputBack _ _
  have hlevel : (s.uvBack mv).get R.PWR_SUPPLY_UV_MV = mv % 65536 :=
    State.get_put_same { s with pwr.uv := mv } R.PWR_SUPPLY_UV_MV mv
  refine ⟨_, exec_uvRestore_above huv hmv, congrArg Pwr.uvLost hkept.pwr, congrArg Pwr.uv hkept.pwr,
    (supplySwitches_outputBack.foldl_shown (by simp) _).trans hlevel,
    fun n => supplySwitches_outputBack.foldl_supply n.isLt _⟩

theorem uv_stands (s : State) (mv : Nat) : (s.pwr.uvLost = true ∨ 8000 ≤ mv → exec (.uvLoss mv) s = .next s) ∧
    (s.pwr.uvLost = false ∨ mv < 9000 → exec (.uvRestore mv) s = .next s) := by
  refine ⟨fun h => ?_, fun h => ?_⟩
  · rw [exec_uvLoss, execUvLoss, if_pos (by simpa using h)]
  · rw [exec_uvRestore, execUvRestore, if_pos (by simpa using h)]

/-- Settles O43. The order at a loss of UV goes output by output: what switches one off leaves the others and their drivers
alone. In RESET too PWR_SUPPLY.UV_MV follows the commands (log 135), and the dither lies symmetric about 0 (log 102). -/
theorem currentOutputs : Obligations.CurrentOutputs :=
  ⟨pwmPeriodStart_starts, pwmPeriodStart_idle, coilEstimate_forms, coilEstimate_small, pcOvercurrent_stops, pcOcClear_returns,
    uvLoss_stops, uvRestore_returns, uv_stands⟩

end Sys2Proof.Machine

/-! Analogue and pulse inputs (R246, R247, R249, R250, R116; O44). -/

namespace Sys2Proof.Machine

theorem exec_aiBurdenDisconnect (n : Fin 24) (s : State) :
    exec (.aiBurdenDisconnect n) s = execAiBurdenDisconnect n s := rfl

theorem exec_aiBurdenClear (n : Fin 24) (s : State) : exec (.aiBurdenClear n) s = .next (s.put (R.DIO_AI_STAT_BURDEN n) 0) := rfl

theorem exec_aiCalibrationDone (m : Fin 26) (ok : Bool) (s : State) :
    exec (.aiCalibrationDone m ok) s = execAiCalibrationDone m ok s := rfl

theorem exec_aiModulatorTakeover (n : Fin 24) (d : Int) (s : State) :
    exec (.aiModulatorTakeover n d) s = execAiModulatorTakeover n d s := rfl

theorem exec_pulseEdge (n : Fin 16) (x : PulseIn) (s : State) : exec (.pulseEdge n x) s = execPulseEdge n x s := rfl

theorem exec_pulseTimeout (n : Fin 16) (s : State) : exec (.pulseTimeout n) s = execPulseTimeout n s := rfl

/-! ### Burdens (R246) -/

theorem aiBurden_switched (s : State) (n : Fin 24) :
    (s.has 0x1101 n = true → s.cfg 0x1101 n 0 1 = 2 →
      ∃ t, exec (.aiBurdenDisconnect n) s = .next t ∧ t.get (R.DIO_AI_STAT_BURDEN n) = 1 ∧
        t.get (R.DIO_AI_STAT_FAULTY n) = 1 ∧ OnlyRegs [R.DIO_AI_STAT_BURDEN n, R.DIO_AI_STAT_FAULTY n] s t) ∧
    ∃ t, exec (.aiBurdenClear n) s = .next t ∧ t.get (R.DIO_AI_STAT_BURDEN n) = 0 ∧
      OnlyRegs [R.DIO_AI_STAT_BURDEN n] s t := by
  refine ⟨fun hhas htype => ?_, _, exec_aiBurdenClear n s, State.get_put_same s (R.DIO_AI_STAT_BURDEN n) 0,
    onlyRegs_put s _ 0⟩
  have hnodup : ([(R.DIO_AI_STAT_BURDEN n, 1), (R.DIO_AI_STAT_FAULTY n, 1)].map fun e => e.1.key).Nodup := by
    simp [R.DIO_AI_STAT_BURDEN, R.DIO_AI_STAT_FAULTY, Fld.at]
  refine ⟨s.puts [(R.DIO_AI_STAT_BURDEN n, 1), (R.DIO_AI_STAT_FAULTY n, 1)], ?_, ?_, ?_, onlyRegs_puts s
    [(R.DIO_AI_STAT_BURDEN n, 1), (R.DIO_AI_STAT_FAULTY n, 1)]⟩
  · rw [exec_aiBurdenDisconnect, execAiBurdenDisconnect, if_pos (by simp [hhas, htype])]
  · exact State.get_puts_mem hnodup (f := R.DIO_AI_STAT_BURDEN n) (v := 1) (by simp) s
  · exact State.get_puts_mem hnodup (f := R.DIO_AI_STAT_FAULTY n) (v := 1) (by simp) s

/-! ### Modulators (R247) -/

theorem aiCalibrationDone_ends (s : State) (m : Fin 26) (hm : m.val ∈ s.dio.calib) :
    exec (.aiCalibrationDone m true) s = .next { s with
      dio.calib := s.dio.calib.filter (· != m.val), dio.ready := s.dio.ready ++ [m.val] } ∧
    exec (.aiCalibrationDone m false) s = .next { s with
      dio.calib := s.dio.calib.filter (· != m.val), dio.retired := s.dio.retired ++ [m.val] } := by
  have hin : s.dio.calib.contains m.val = true := List.contains_iff_mem.2 hm
  refine ⟨?_, ?_⟩ <;> rw [exec_aiCalibrationDone, execAiCalibrationDone, if_pos hin] <;> rfl

/-- An input that takes the first modulator ready, and gives its own to the calibration. -/
def State.modulatorTaken (s : State) (n m : Nat) (rest : List Nat) : State :=
  { s with
    dio.ready := rest
    dio.calib := s.dio.calib ++ (s.dio.aiMod.getD n none).toList
    dio.aiMod := s.dio.aiMod.set n (some m) }

theorem exec_aiModulatorTakeover_ready {s : State} {n : Fin 24} (d : Int) {m : Nat} {rest : List Nat}
    (hready : s.dio.ready = m :: rest) (hmay : s.has 0x1101 n = false ∨ bit (s.cfg 0x1101 n 2 1) 0 = true) :
    exec (.aiModulatorTakeover n d) s =
      .next ((s.modulatorTaken n m rest).put (R.DIO_AI_STAT_CAL_DELTA n) (ofInt 24 d)) := by
  have hgo : ¬ (s.has 0x1101 n && !bit (s.cfg 0x1101 n 2 1) 0) = true := by
    rcases hmay with h | h <;> simp [h]
  rw [exec_aiModulatorTakeover, execAiModulatorTakeover]
  simp only [hready]
  exact (if_neg hgo).trans rfl

theorem aiModulatorTakeover_takes (s : State) (n : Fin 24) (d : Int) (m : Nat) (rest : List Nat) (hs : s.Shaped)
    (hready : s.dio.ready = m :: rest) (hmay : s.has 0x1101 n = false ∨ bit (s.cfg 0x1101 n 2 1) 0 = true) :
    ∃ t, exec (.aiModulatorTakeover n d) s = .next t ∧ t.dio.aiMod.getD n none = some m ∧ t.dio.ready = rest ∧
      (∀ o, s.dio.aiMod.getD n none = some o → o ∈ t.dio.calib) ∧
      t.get (R.DIO_AI_STAT_CAL_DELTA n) = ofInt 24 d ∧ (m ∉ s.dio.retired → t.noMod n = false) ∧
      OnlyRegs [R.DIO_AI_STAT_CAL_DELTA n] { s with dio := t.dio } t := by
  obtain ⟨-, -, -, -, -, hlen, -⟩ := hs
  have hmod : (s.dio.aiMod.set n (some m)).getD n none = some m := by
    simp [List.getD_eq_getElem?_getD, List.getElem?_set_self (n.isLt.trans_eq hlen.symm)]
  refine ⟨_, exec_aiModulatorTakeover_ready d hready hmay, hmod, rfl, fun o ho => ?_,
    State.get_put_of_lt (s.modulatorTaken n m rest) (f := R.DIO_AI_STAT_CAL_DELTA n) (ofInt_lt 24 d), fun hm => ?_,
    onlyRegs_put (s.modulatorTaken n m rest) _ _⟩
  · exact List.mem_append_right _ (Option.mem_toList.2 ho)
  · have htaken : ((s.modulatorTaken n m rest).put (R.DIO_AI_STAT_CAL_DELTA n) (ofInt 24 d)).dio.aiMod.getD n none = some m :=
      hmod
    rw [State.noMod, htaken]
    exact Bool.eq_false_iff.2 fun h => hm (List.contains_iff_mem.1 h)

/-! ### Pulse inputs (R116, R249, R250) -/

theorem pulseEdge_idle (s : State) (n : Fin 16) (x : PulseIn) (h : s.inMode [mRESET, mLOAD] = true) :
    exec (.pulseEdge n x) s = .next s := by
  rw [exec_pulseEdge, execPulseEdge, if_pos h]

/-- A pulse input with the edge of a stamp among those of its tick. -/
def Pulse.heard (t : Nat) (p : Pulse) : Pulse :=
  { p with n := p.n + 1, first := if p.n = 0 then t else p.first, last := t, lastEdge := some t, idle := 0 }

/-- A pulse input whose edge a crossing hides (R116). -/
def Pulse.hidden (p : Pulse) : Pulse := { p with behind := p.behind + 1 }

/-- A pulse input whose hidden edges come into the count with the next one, `k` edges in all. -/
def Pulse.counted (k at_ : Nat) (p : Pulse) : Pulse := { p with behind := 0, at_ := p.at_ ++ List.replicate k at_ }

/-- The count with the edge and those hidden before it. -/
def State.piCount (s : State) (n : Nat) : Nat := s.get (R.DIO_PI_CNT_VALUE n) + (s.dio.pis.getD n {}).behind + 1

theorem exec_pulseEdge_runs {s : State} (n : Fin 16) (x : PulseIn) (h : s.inMode [mRESET, mLOAD] = false) :
    exec (.pulseEdge n x) s =
      let u := s.tookStamp (ptPi n) x.stamp
      let v := if x.gray then (u.modPi n Pulse.hidden).raise 13 [0xC000 + n.val] else u.pulseCount n (u.cyclesAt x.stamp)
      .next ((v.stampOr x.stamp).2.modPi n (Pulse.heard (v.stampOr x.stamp).1)) := by
  rw [exec_pulseEdge, execPulseEdge, if_neg (by simp [h])]
  rfl

theorem State.pulseCount_eq (s : State) (n at_ : Nat) :
    s.pulseCount n at_ = (s.put (R.DIO_PI_CNT_VALUE n) (s.piCount n)).modPi n
      (Pulse.counted ((s.dio.pis.getD n {}).behind + 1) at_) := rfl

/-- Two changes of one pulse input. -/
theorem modPi_modPi_dio (s : State) (n : Nat) (f g : Pulse → Pulse) :
    ((s.modPi n f).modPi n g).dio.pis = s.dio.pis.modify n (g ∘ f) := List.modify_modify_eq f g n _

theorem pulseEdge_counts (s : State) (n : Fin 16) (stamp : Nat) (hs : s.Shaped) (hmode : s.inMode [mRESET, mLOAD] = false) :
    ∃ t, exec (.pulseEdge n ⟨some stamp, false⟩) s = .next t ∧
      t.get (R.DIO_PI_CNT_VALUE n) =
        (s.get (R.DIO_PI_CNT_VALUE n) + (s.dio.pis.getD n {}).behind + 1) % 2 ^ 32 ∧ (t.dio.pis.getD n {}).behind = 0 ∧
      (t.dio.pis.getD n {}).n = (s.dio.pis.getD n {}).n + 1 ∧ (t.dio.pis.getD n {}).last = stamp ∧
      (t.dio.pis.getD n {}).idle = 0 ∧
      OnlyRegs [R.DIO_PI_CNT_VALUE n] { s with dio.pis := t.dio.pis, chr.stamps := t.chr.stamps } t := by
  obtain ⟨-, -, -, -, hlen, -⟩ := hs
  obtain ⟨q, hq⟩ : ∃ q, s.tookStamp (ptPi n) (some stamp) = { s with chr.stamps := q } := ⟨_, s.tookStamp_eq _ _⟩
  have hexec : exec (.pulseEdge n ⟨some stamp, false⟩) s =
      .next ((State.pulseCount { s with chr.stamps := q } n (s.cyclesAt (some stamp))).modPi n (Pulse.heard stamp)) := by
    rw [exec_pulseEdge_runs n _ hmode, hq]
    rfl
  have hpi (at_ : Nat) : ((State.pulseCount { s with chr.stamps := q } n at_).modPi n (Pulse.heard stamp)).dio.pis.getD n {} =
      Pulse.heard stamp (Pulse.counted ((s.dio.pis.getD n {}).behind + 1) at_ (s.dio.pis.getD n {})) := by
    rw [State.pulseCount_eq, modPi_modPi_dio]
    exact getD_modify_same _ (n.isLt.trans_eq hlen.symm) _
  refine ⟨_, hexec, ?_, congrArg Pulse.behind (hpi _), congrArg Pulse.n (hpi _), congrArg Pulse.last (hpi _),
    congrArg Pulse.idle (hpi _), ?_⟩
  · exact State.get_put_same { s with chr.stamps := q } (R.DIO_PI_CNT_VALUE n) _
  · exact ⟨(onlyRegs_put { s with chr.stamps := q } (R.DIO_PI_CNT_VALUE n) _).1, rfl⟩

/-- The stamp of an event, or the free value in its place, leaves all but the count of free values. -/
theorem State.stampOr_kept (s : State) (x : Option Nat) :
    (s.stampOr x).2.regs = s.regs ∧ (s.stampOr x).2.log = s.log ∧ (s.stampOr x).2.dio = s.dio := by
  cases x <;> exact ⟨rfl, rfl, rfl⟩

theorem pulseEdge_hides (s : State) (n : Fin 16) (x : Option Nat) (hs : s.Shaped) (hmode : s.inMode [mRESET, mLOAD] = false) :
    ∃ t, exec (.pulseEdge n ⟨x, true⟩) s = .next t ∧
      t.get (R.DIO_PI_CNT_VALUE n) = s.get (R.DIO_PI_CNT_VALUE n) ∧ LogGains 13 [0xC000 + n] s t ∧
      (t.dio.pis.getD n {}).behind = (s.dio.pis.getD n {}).behind + 1 ∧
      (t.dio.pis.getD n {}).n = (s.dio.pis.getD n {}).n + 1 ∧ (t.dio.pis.getD n {}).idle = 0 := by
  obtain ⟨-, -, -, -, hlen, -⟩ := hs
  obtain ⟨q, hq⟩ : ∃ q, s.tookStamp (ptPi n) x = { s with chr.stamps := q } := ⟨_, s.tookStamp_eq _ _⟩
  set u : State := State.modPi { s with chr.stamps := q } n Pulse.hidden with hu
  obtain ⟨hregs, hlog, hdio⟩ := (u.raise 13 [0xC000 + n.val]).stampOr_kept x
  have hexec : exec (.pulseEdge n ⟨x, true⟩) s = .next ((((u.raise 13 [0xC000 + n.val]).stampOr x).2).modPi n
      (Pulse.heard ((u.raise 13 [0xC000 + n.val]).stampOr x).1)) := by
    rw [exec_pulseEdge_runs n _ hmode, hq]
    rfl
  have hpi (t : Nat) : ((((u.raise 13 [0xC000 + n.val]).stampOr x).2).modPi n (Pulse.heard t)).dio.pis.getD n {} =
      Pulse.heard t (Pulse.hidden (s.dio.pis.getD n {})) := by
    rw [State.modPi, hdio, State.raise_dio, hu]
    exact (congrArg (List.getD · n {}) (modPi_modPi_dio { s with chr.stamps := q } n _ _)).trans
      (getD_modify_same _ (n.isLt.trans_eq hlen.symm) _)
  refine ⟨_, hexec, ?_, ?_, congrArg Pulse.behind (hpi _), congrArg Pulse.n (hpi _), congrArg Pulse.idle (hpi _)⟩
  · have hne : (R.DIO_PI_CNT_VALUE n).key ≠ R.LOG_LOST_VALUE.key := by
      simp only [R.DIO_PI_CNT_VALUE, R.LOG_LOST_VALUE, Fld.at]
      omega
    exact (State.get_congr hregs _).trans (State.get_raise u _ _ hne)
  · have hgains : LogGains 13 [0xC000 + n] s (u.raise 13 [0xC000 + n.val]) :=
      (logGains_raise u 13 [0xC000 + n]).of_now_eq (ks := []) (fun _ _ => rfl) rfl rfl (by decide)
    exact hgains.of_log_eq hlog

theorem pulseTimeout_ends (s : State) (n : Fin 16) (hhas : s.has 0x1102 n = true) (hrate : s.cfg 0x1102 n 3 1 = 1) :
    (s.cfg 0x1102 n 6 2 ≤ (s.dio.pis.getD n {}).idle →
      ∃ t, exec (.pulseTimeout n) s = .next t ∧ t.get (R.DIO_PI_RATE_VALUE n) = 0 ∧
        OnlyRegs [R.DIO_PI_RATE_VALUE n] s t) ∧
    ((s.dio.pis.getD n {}).idle < s.cfg 0x1102 n 6 2 → exec (.pulseTimeout n) s = .next s) := by
  refine ⟨fun hidle => ⟨s.put (R.DIO_PI_RATE_VALUE n) 0, ?_, State.get_put_same s (R.DIO_PI_RATE_VALUE n) 0,
    onlyRegs_put s _ 0⟩, fun hidle => ?_⟩
  · rw [exec_pulseTimeout, execPulseTimeout]
    exact if_pos (by simpa [hhas, hrate] using hidle)
  · rw [exec_pulseTimeout, execPulseTimeout]
    exact if_neg (by simpa [hhas, hrate] using hidle)

end Sys2Proof.Machine

/-! Digital inputs and outputs (R251, R234; O44). -/

namespace Sys2Proof.Machine

theorem exec_dioEdge (n : Fin 16) (h : Bool) (x : Option Nat) (us : Nat) (s : State) :
    exec (.dioEdge n h x us) s = execDioEdge n h x us s := rfl

/-! ### An edge of a digital input -/

/-- The time in µs that FILTER holds a level back. -/
def State.dioFilter (s : State) (n : Nat) : Nat := if s.has 0x1103 n then s.cfg 0x1103 n 1 1 else 0

/-- A digital input with the stamp of its last edge. -/
def State.edgeKept (s : State) (n stamp : Nat) : State :=
  { s with dio.edge := (s.dio.edge.filter fun e => e.1 != n) ++ [(n, stamp)] }

/-- A digital input's edge; a level that stays through FILTER waits for its time. -/
def State.edgeSeen (s : State) (n : Nat) (h : Bool) (at_ stamp us : Nat) : State :=
  if s.dioFilter n ≤ us then
    { s.edgeKept n stamp with dio.deb := s.dio.deb ++ [(n, h, at_ + 100 * s.dioFilter n)] }
  else s.edgeKept n stamp

theorem State.edgeSeen_kept (s : State) (n : Nat) (h : Bool) (at_ stamp us : Nat) :
    (n, stamp) ∈ (s.edgeSeen n h at_ stamp us).dio.edge ∧
      s.edgeSeen n h at_ stamp us =
        { s with dio.edge := (s.edgeSeen n h at_ stamp us).dio.edge, dio.deb := (s.edgeSeen n h at_ stamp us).dio.deb } := by
  have hmem : (n, stamp) ∈ (s.edgeKept n stamp).dio.edge := List.mem_append_right _ List.mem_cons_self
  rw [State.edgeSeen]
  split_ifs <;> exact ⟨hmem, rfl⟩

theorem State.edgeSeen_deb (s : State) (n : Nat) (h : Bool) (at_ stamp us : Nat) :
    (s.edgeSeen n h at_ stamp us).dio.deb =
      if s.dioFilter n ≤ us then s.dio.deb ++ [(n, h, at_ + 100 * s.dioFilter n)] else s.dio.deb := by
  rw [State.edgeSeen]
  split_ifs <;> rfl

theorem exec_dioEdge_in {s : State} {n : Fin 16} (h : Bool) (x : Option Nat) (us : Nat) (hin : s.dioOut n = false) :
    exec (.dioEdge n h x us) s =
      .next ((((s.tookStamp (ptDio n) x).stampOr x).2).edgeSeen n h (s.cyclesAt x) ((s.tookStamp (ptDio n) x).stampOr x).1 us) := by
  have htook : (s.tookStamp (ptDio n) x).dioOut n = false ∧ (s.tookStamp (ptDio n) x).cyclesAt x = s.cyclesAt x := by
    rw [s.tookStamp_eq]
    exact ⟨hin, by cases x <;> rfl⟩
  obtain ⟨hout, hat⟩ := htook
  rw [exec_dioEdge, execDioEdge, ← hat]
  exact (if_neg (by simp [hout])).trans rfl

theorem dioEdge_stamped (s : State) (n : Fin 16) (h : Bool) (stamp us flt : Nat) (hin : s.dioOut n = false)
    (hflt : flt = if s.has 0x1103 n then s.cfg 0x1103 n 1 1 else 0) :
    ∃ t, exec (.dioEdge n h (some stamp) us) s = .next t ∧ (n.val, stamp) ∈ t.dio.edge ∧
      (flt ≤ us → t.dio.deb = s.dio.deb ++
        [(n.val, h, (10000 * (s.chr.tick : Int) + ((stamp : Int) - s.chr.base) / 8).toNat + 100 * flt)]) ∧
      (us < flt → t.dio.deb = s.dio.deb) ∧
      t = { s with dio.edge := t.dio.edge, dio.deb := t.dio.deb, chr.stamps := t.chr.stamps } := by
  subst hflt
  obtain ⟨q, hq⟩ : ∃ q, s.tookStamp (ptDio n) (some stamp) = { s with chr.stamps := q } := ⟨_, s.tookStamp_eq _ _⟩
  set u : State := { s with chr.stamps := q } with hu
  have hexec : exec (.dioEdge n h (some stamp) us) s = .next (u.edgeSeen n h (s.cyclesAt (some stamp)) stamp us) := by
    rw [exec_dioEdge_in h (some stamp) us hin, hq]
    rfl
  obtain ⟨hedge, hframe⟩ := u.edgeSeen_kept n h (s.cyclesAt (some stamp)) stamp us
  have hdeb := u.edgeSeen_deb n h (s.cyclesAt (some stamp)) stamp us
  have hstamps : (u.edgeSeen n h (s.cyclesAt (some stamp)) stamp us).chr.stamps = q := by rw [hframe]
  refine ⟨_, hexec, hedge, fun hlong => hdeb.trans (if_pos hlong),
    fun hshort => hdeb.trans (if_neg (Nat.not_le_of_lt hshort)), ?_⟩
  rw [hstamps]
  exact hframe

theorem dioEdge_unstamped (s : State) (n : Fin 16) (h : Bool) (us : Nat) (hin : s.dioOut n = false) :
    ∃ t, exec (.dioEdge n h none us) s = .next t ∧ (∃ x, (n.val, x) ∈ t.dio.edge) ∧
      t = { s with dio.edge := t.dio.edge, dio.deb := t.dio.deb, freeCtr := s.freeCtr + 1 } := by
  obtain ⟨hedge, hframe⟩ := State.edgeSeen_kept { s with freeCtr := s.freeCtr + 1 } n h (s.cyclesAt none) (s.free 64).1 us
  exact ⟨_, exec_dioEdge_in h none us hin, ⟨_, hedge⟩, hframe⟩

/-! ### The levels at a tick edge (R177, R251) -/

/-- The levels shown, and those that FILTER still holds back. -/
def LevelsStand (s t : State) : Prop := t.get R.DIO_IN_LEVEL = s.get R.DIO_IN_LEVEL ∧ t.dio.deb = s.dio.deb

theorem LevelsStand.trans {s t u : State} (h : LevelsStand s t) (g : LevelsStand t u) : LevelsStand s u :=
  ⟨g.1.trans h.1, g.2.trans h.2⟩

theorem levelsStand_foldl {α : Type} {f : State → α → State} {l : List α} (hf : ∀ x ∈ l, ∀ t, LevelsStand t (f t x)) (s : State) :
    LevelsStand s (l.foldl f s) :=
  List.foldlRecOn (motive := LevelsStand s) l f ⟨rfl, rfl⟩ fun t ht x hx => ht.trans (hf x hx t)

theorem levelsStand_puts (s : State) {es : List (Fld × Nat)} (h : ∀ e ∈ es, e.1.key ≠ R.DIO_IN_LEVEL.key) :
    LevelsStand s (s.puts es) :=
  ⟨s.get_puts_other es _ fun e he hk => h e he hk.symm, by rw [State.puts_dio]⟩

theorem levelsStand_ite {p : Prop} [Decidable p] {s t u : State} (ht : LevelsStand s t) (hu : LevelsStand s u) :
    LevelsStand s (if p then t else u) := by
  split <;> assumption

theorem levelsStand_pulseTick (s : State) (n : Nat) : LevelsStand s (s.pulseTick n) := by
  have hne : R.DIO_IN_LEVEL.key ≠ (R.DIO_PI_RATE_VALUE n).key := by
    simp only [R.DIO_IN_LEVEL, R.DIO_PI_RATE_VALUE, Fld.at]
    omega
  exact levelsStand_ite ⟨State.get_put_other _ hne _, rfl⟩ ⟨rfl, rfl⟩

/-- The levels taken over at a tick edge. -/
def State.levelsTaken (s : State) : State :=
  { s.put R.DIO_IN_LEVEL (s.dioLevel (10000 * s.chr.tick)) with
    dio.deb := s.dio.deb.filter fun d => decide (10000 * s.chr.tick < d.2.2) }

theorem levelsStand_dioEdge (s : State) (i : TickIn) : LevelsStand s.levelsTaken (s.dioEdge i) := by
  unfold State.dioEdge
  refine LevelsStand.trans (LevelsStand.trans (LevelsStand.trans (⟨rfl, rfl⟩ : LevelsStand s.levelsTaken
    { s.levelsTaken with dio.imu := (List.range 6).map fun k => i.imu.getD k 0, dio.imuFault := i.imuFault })
    (levelsStand_foldl (fun x hx t => levelsStand_puts t ?_) _)) (levelsStand_foldl (fun n hn t => levelsStand_puts t ?_) _))
    (levelsStand_foldl (fun n _ t => levelsStand_pulseTick t n) _)
  · have hx24 : x.n < 24 := by simpa using (List.mem_filter.1 hx).2
    simp only [List.forall_mem_cons, List.not_mem_nil, false_imp_iff, implies_true, and_true, R.DIO_IN_LEVEL,
      R.DIO_AI_VAL_VALUE, R.DIO_AI_STAT_FAULTY, Fld.at]
    omega
  · have hn16 := List.mem_range.1 hn
    simp only [List.forall_mem_cons, List.not_mem_nil, false_imp_iff, implies_true, and_true, R.DIO_IN_LEVEL,
      R.DIO_PC_I_VALUE, R.DIO_PC_STAT_DUTY_MAX, Fld.at]
    omega

theorem dioEdge_levels (s : State) (i : TickIn) :
    (s.dioEdge i).get R.DIO_IN_LEVEL = s.dioLevel (10000 * s.chr.tick) % 65536 ∧
      ∀ d ∈ (s.dioEdge i).dio.deb, 10000 * s.chr.tick < d.2.2 := by
  obtain ⟨hlevel, hdeb⟩ := levelsStand_dioEdge s i
  refine ⟨hlevel.trans (State.get_put_same s R.DIO_IN_LEVEL _), fun d hd => ?_⟩
  rw [hdeb] at hd
  exact of_decide_eq_true (List.mem_filter.1 hd).2

end Sys2Proof.Machine

/-! The overcurrent of a digital output and its clear (R251, R234, R41; O44). -/

namespace Sys2Proof.Machine

theorem exec_dioOfltClear (m : BitVec 16) (s : State) : exec (.dioOfltClear m) s = .next (s.dioOfltClear m.toNat) := rfl

/-! ### Bits cleared -/

theorem clearBits_two_pow (n i : Nat) : clearBits n (2 ^ i) = setBit n i false := by
  rw [clearBits, setBit, if_neg Bool.false_ne_true, Nat.and_two_pow]
  cases n.testBit i <;> simp

theorem clearBits_div_two (n m : Nat) : clearBits n m / 2 = clearBits (n / 2) (m / 2) := by
  have hdiv := Nat.and_div_two (a := n) (b := m)
  have hle : n &&& m ≤ n := Nat.and_le_left
  have hmod := Nat.and_mod_two_eq_one (a := n) (b := m)
  rw [clearBits, clearBits, ← hdiv]
  omega

theorem testBit_clearBits {n m i : Nat} (h : m.testBit i = true) : (clearBits n m).testBit i = false := by
  induction i generalizing n m with
  | zero =>
    have hle : n &&& m ≤ n := Nat.and_le_left
    have hmod := Nat.and_mod_two_eq_one (a := n) (b := m)
    rw [Nat.testBit_zero, decide_eq_true_iff] at h
    rw [Nat.testBit_zero, decide_eq_false_iff_not, clearBits]
    omega
  | succ i ih =>
    rw [Nat.testBit_succ, clearBits_div_two]
    exact ih (by rwa [Nat.testBit_succ] at h)

/-! ### Overcurrent (R251) -/

/-- A digital output whose overcurrent is latched, its contact off. -/
def State.contactTripped (s : State) (n : Nat) : State :=
  (s.orBits R.DIO_OFLT_OC (2 ^ n)).clrBits R.DIO_OUT_STATE (2 ^ n)

theorem exec_dioOvercurrent (n : Fin 16) (s : State) :
    exec (.dioOvercurrent n) s = .next ((s.contactTripped n).eachChan ((s.contactTripped n).driversOf (0x20000000 + n))
      fun s c => s.sinkFault c 4) := rfl

theorem onlyRegs_contactTripped (s : State) (n : Nat) :
    OnlyRegs [R.DIO_OFLT_OC, R.DIO_OUT_STATE] s (s.contactTripped n) :=
  onlyRegs_trans (onlyRegs_put s R.DIO_OFLT_OC _) (onlyRegs_put (s.orBits R.DIO_OFLT_OC (2 ^ n)) R.DIO_OUT_STATE _)

theorem State.contactTripped_shown (s : State) {n : Nat} (hn : n < 16) :
    bit ((s.contactTripped n).get R.DIO_OFLT_OC) n = true ∧ bit ((s.contactTripped n).get R.DIO_OUT_STATE) n = false := by
  refine ⟨?_, ?_⟩
  · have hoc : (s.contactTripped n).get R.DIO_OFLT_OC = (s.get R.DIO_OFLT_OC ||| 2 ^ n) % 2 ^ 16 :=
      (State.get_put_other _ (by decide) _).trans (State.get_put_same s R.DIO_OFLT_OC _)
    rw [hoc, bit, Nat.testBit_mod_two_pow, Nat.testBit_or, Nat.testBit_two_pow_self]
    simp [hn]
  · have hout : (s.contactTripped n).get R.DIO_OUT_STATE =
        clearBits ((s.orBits R.DIO_OFLT_OC (2 ^ n)).get R.DIO_OUT_STATE) (2 ^ n) % 2 ^ 16 :=
      State.get_put_same _ R.DIO_OUT_STATE _
    rw [hout, bit, Nat.testBit_mod_two_pow, clearBits_two_pow, testBit_setBit_false, Bool.and_false]

/-- A driver of a digital output whose sink goes off leaves its contact off. -/
theorem State.contact_sinkFault {s : State} {n c : Nat} (hn : n < 16) (hc : c ∈ s.driversOf (0x20000000 + n)) (detail : Nat) :
    bit ((s.sinkFault c detail).get R.DIO_OUT_STATE) n = false := by
  obtain ⟨h128, -, hdst⟩ := State.mem_driversOf.1 hc
  have hshown : (s.faultShown c).chanB c 0x1C 4 = 0x20000000 + n :=
    (((chansOnly_faultShown s c).sameGround fun d hd => List.mem_singleton.1 hd ▸ h128).chanB c _ _).trans hdst
  obtain ⟨hkind, hnum⟩ := bits_digitalOutput hn
  have hval : (s.faultShown c).sinkVal c 0 = 0 := ite_self 0
  rw [State.sinkFault_eq, State.chEvent, State.get_raise _ _ _ (by decide), State.sinkWrite_eq, hshown, hnum, hkind,
    if_neg (by decide), if_pos rfl, hval, State.get_put_same, bit, Nat.testBit_mod_two_pow, testBit_setBit_same]
  simp

theorem dioOvercurrent_trips (s : State) (n : Fin 16) (hs : s.Shaped) :
    ∃ t, exec (.dioOvercurrent n) s = .next t ∧ bit (t.get R.DIO_OFLT_OC) n = true ∧ bit (t.get R.DIO_OUT_STATE) n = false ∧
      ∀ c ∈ s.driversOf (0x20000000 + n), t.get (R.HLM_CHRAW_VALUE c) = 0 ∧
        (s.chState c ≠ 5 → 2 ≤ s.chState c ∨ mSTANDBY ≤ s.mode → t.chState c = 4) := by
  obtain ⟨-, -, hchans, -⟩ := hs
  set u := s.contactTripped n with hu
  obtain ⟨hregs, hrest⟩ : OnlyRegs [R.DIO_OFLT_OC, R.DIO_OUT_STATE] s u := onlyRegs_contactTripped s n
  obtain ⟨hoc, hout⟩ := s.contactTripped_shown n.isLt
  have hrecords : SameRecords s u := by
    refine ⟨by rw [hrest], fun f hf => hregs f ?_⟩
    simp only [List.map_cons, List.map_nil, List.mem_cons, List.not_mem_nil, or_false, R.DIO_OFLT_OC, R.DIO_OUT_STATE, Fld.at]
    omega
  have hground : SameGround u (u.eachChan (u.driversOf (0x20000000 + n)) fun s c => s.sinkFault c 4) :=
    (chansOnly_eachChan (chansOnly_sinkFault 4) _ u).sameGround fun _ => State.lt_of_mem_driversOf
  have hlen : u.hlm.chans.length = 128 := by rw [hrest]; exact hchans
  refine ⟨_, exec_dioOvercurrent n s, ?_, ?_, fun c hc => ?_⟩
  · rw [hground.get _ (.inr (.inr (.inl rfl)))]
    exact hoc
  · have hkept : SameGround u (u.eachChan (u.driversOf (0x20000000 + n)) fun s c => s.sinkFault c 4) ∧
        bit ((u.eachChan (u.driversOf (0x20000000 + n)) fun s c => s.sinkFault c 4).get R.DIO_OUT_STATE) n = false :=
      List.foldlRecOn (motive := fun t => SameGround u t ∧ bit (t.get R.DIO_OUT_STATE) n = false) _ _
        ⟨⟨rfl, rfl, fun _ _ => rfl⟩, hout⟩ fun t ⟨hground, _⟩ c hc =>
          ⟨hground.trans ((chansOnly_sinkFault 4 t c).sameGround fun d hd =>
              List.mem_singleton.1 hd ▸ State.lt_of_mem_driversOf hc),
            State.contact_sinkFault n.isLt (by rwa [hground.sameRecords.driversOf]) 4⟩
    exact hkept.2
  · have h128 := State.lt_of_mem_driversOf hc
    have hdrives : c ∈ u.driversOf (0x20000000 + n) := by rwa [hrecords.driversOf]
    have hst : u.chState c = s.chState c := by
      refine hregs (R.HLM_CHST_STATE c) ?_
      simp only [List.map_cons, List.map_nil, List.mem_cons, List.not_mem_nil, or_false, R.DIO_OFLT_OC, R.DIO_OUT_STATE,
        R.HLM_CHST_STATE, Fld.at]
      omega
    have hmode : u.mode = s.mode := hregs R.ALM_MODE_MODE (by decide)
    have hchan : u.chan c = s.chan c := State.chan_congr (by rw [hrest]) c
    obtain ⟨hraw, -, -, hsafe⟩ := (sinkLost_eachChan (u.nodup_driversOf _) (fun _ => State.lt_of_mem_driversOf) hlen 4
      hdrives).of_before hst hmode hchan
    exact ⟨hraw, hsafe⟩

/-! ### The clear (R251, R234) -/

/-- Records, mode and outputs stand, and so does channel `c` with its registers. -/
structure ChannelStands (c : Nat) (s t : State) : Prop where
  ground : SameGround s t
  chan : t.chan c = s.chan c
  get : ∀ f : Fld, chanKey c f.key → t.get f = s.get f

theorem ChannelStands.refl (c : Nat) (s : State) : ChannelStands c s s := ⟨⟨rfl, rfl, fun _ _ => rfl⟩, rfl, fun _ _ => rfl⟩

theorem ChannelStands.trans {c : Nat} {s t u : State} (h : ChannelStands c s t) (g : ChannelStands c t u) :
    ChannelStands c s u :=
  ⟨h.ground.trans g.ground, g.chan.trans h.chan, fun f hf => (g.get f hf).trans (h.get f hf)⟩

theorem ChansOnly.channelStands {l : List Nat} {s t : State} (h : ChansOnly l s t) (h128 : ∀ d ∈ l, d < 128) {c : Nat}
    (hc : c ∉ l) (hc128 : c < 128) : ChannelStands c s t :=
  ⟨h.sameGround h128, h.chan c hc, fun _ hf => h.get_other hc hf hc128⟩

/-- The outputs of a mask whose overcurrent is latched. -/
def State.contactsBack (s : State) (m : Nat) : List Nat :=
  (List.range 16).filter fun n => bit m n && bit (s.get R.DIO_OFLT_OC) n

/-- The channels of a digital output on the return of their sink. -/
def State.contactRestored (s : State) (n : Nat) : State := s.eachChan (s.driversOf (0x20000000 + n)) State.sinkRestored

theorem State.dioOfltClear_eq (s : State) (m : Nat) :
    s.dioOfltClear m = (s.contactsBack m).foldl State.contactRestored (s.clrBits R.DIO_OFLT_OC m) := rfl

theorem State.sameGround_contactRestored (s : State) (n : Nat) : SameGround s (s.contactRestored n) :=
  (chansOnly_eachChan chansOnly_sinkRestored _ s).sameGround fun _ => State.lt_of_mem_driversOf

/-- A channel that drives digital output `n` stands while another output's channels return. -/
theorem State.channelStands_contactRestored {s : State} {n m c : Nat} (hne : m ≠ n) (hc : c ∈ s.driversOf (0x20000000 + n)) :
    ChannelStands c s (s.contactRestored m) := by
  obtain ⟨h128, -, hdst⟩ := State.mem_driversOf.1 hc
  have hnot : c ∉ s.driversOf (0x20000000 + m) := by
    rw [State.mem_driversOf, hdst]
    omega
  exact (chansOnly_eachChan chansOnly_sinkRestored _ s).channelStands (fun _ => State.lt_of_mem_driversOf) hnot h128

/-- A channel that waits for a digital output in the clear. -/
theorem foldl_contactRestored_law {s : State} {l : List Nat} (hn : l.Nodup) {n c : Nat} (hl : n ∈ l)
    (hc : c ∈ s.driversOf (0x20000000 + n)) (hoff : s.sinkOff c = false) (hst : s.chState c = 4) (hwhy : (s.chan c).why = 3)
    (hlaw : s.lawRuns c = true) :
    (l.foldl State.contactRestored s).chState c = 6 ∧ (l.foldl State.contactRestored s).get (R.HLM_HOV_CAUSE c) = 6 := by
  obtain ⟨u, hbefore, hafter⟩ := exists_foldl_at
    (R := fun s t => c ∈ s.driversOf (0x20000000 + n) → ChannelStands c s t) (fun s _ => ChannelStands.refl c s)
    (fun h g hs => (h hs).trans (g (by rwa [(h hs).ground.sameRecords.driversOf]))) (f := State.contactRestored) hn hl
    (fun m _ hne t ht => State.channelStands_contactRestored hne ht) s
  obtain ⟨hground, hchan, hget⟩ := hbefore hc
  have hu : c ∈ u.driversOf (0x20000000 + n) := by
    rw [hground.sameRecords.driversOf]
    exact hc
  have hdrives : c ∈ (u.contactRestored n).driversOf (0x20000000 + n) := by
    rw [(u.sameGround_contactRestored n).sameRecords.driversOf]
    exact hu
  obtain ⟨-, -, hkept⟩ := hafter hdrives
  have hcause : chanKey c (R.HLM_HOV_CAUSE c).key := by
    simp only [chanKey, R.HLM_HOV_CAUSE, Fld.at]
    omega
  obtain ⟨hst6, hcause6⟩ := eachChan_sinkRestored_law (u.nodup_driversOf (0x20000000 + n))
    (fun _ => State.lt_of_mem_driversOf) hu ((hground.sinkOff c).trans hoff) ((hget _ (chanKey_CHST_STATE c)).trans hst) ((congrArg Chan.why hchan).trans hwhy)
    ((hground.sameRecords.lawRuns hground.mode hchan).trans hlaw)
  exact ⟨(hkept _ (chanKey_CHST_STATE c)).trans hst6, (hkept _ hcause).trans hcause6⟩

theorem dioOfltClear_returns (s : State) (m : BitVec 16) : ∃ t, exec (.dioOfltClear m) s = .next t ∧
    t.get R.DIO_OFLT_OC = clearBits (s.get R.DIO_OFLT_OC) m.toNat % 65536 ∧
    ∀ n : Fin 16, bit m.toNat n = true → bit (s.get R.DIO_OFLT_OC) n = true →
      ∀ c ∈ s.driversOf (0x20000000 + n), s.chState c = 4 → (s.chan c).why = 3 → s.lawRuns c = true →
        t.chState c = 6 ∧ t.get (R.HLM_HOV_CAUSE c) = 6 := by
  set u := s.clrBits R.DIO_OFLT_OC m.toNat with hu
  have hoc : u.get R.DIO_OFLT_OC = clearBits (s.get R.DIO_OFLT_OC) m.toNat % 65536 := State.get_put_same s R.DIO_OFLT_OC _
  have hother {f : Fld} (hf : f.key ≠ R.DIO_OFLT_OC.key) : u.get f = s.get f := State.get_put_other s hf _
  have hrecords : SameRecords s u := sameRecords_put s _ (by decide)
  have hmode : u.mode = s.mode := hother (f := R.ALM_MODE_MODE) (by decide)
  have hground : SameGround u ((s.contactsBack m.toNat).foldl State.contactRestored u) :=
    List.foldlRecOn (motive := SameGround u) _ _ ⟨rfl, rfl, fun _ _ => rfl⟩ fun t ht n _ =>
      ht.trans (t.sameGround_contactRestored n)
  refine ⟨_, exec_dioOfltClear m s, ?_, fun n hm hlatched c hc hst hwhy hlaw => ?_⟩
  · rw [State.dioOfltClear_eq, hground.get _ (.inr (.inr (.inl rfl))), hoc]
  · have hdrives : c ∈ u.driversOf (0x20000000 + n) := by
      rw [hrecords.driversOf]
      exact hc
    have hback : n.val ∈ s.contactsBack m.toNat :=
      List.mem_filter.2 ⟨List.mem_range.2 n.isLt, by rw [hm, hlatched]; rfl⟩
    have hoff : u.sinkOff c = false := by
      rw [State.sinkOff_of_digitalOutput n.isLt hdrives, hoc, bit, show 65536 = 2 ^ 16 from rfl, Nat.testBit_mod_two_pow,
        testBit_clearBits hm, Bool.and_false]
    have hchst : u.chState c = s.chState c :=
      hother (f := R.HLM_CHST_STATE c) (by simp only [R.HLM_CHST_STATE, R.DIO_OFLT_OC, Fld.at]; omega)
    rw [State.dioOfltClear_eq]
    exact foldl_contactRestored_law (List.nodup_range.filter _) hback hdrives hoff (hchst.trans hst) hwhy
      ((hrecords.lawRuns hmode rfl).trans hlaw)

/-- Settles O44. A clear takes the outputs in turn: no channel drives two of them, so each returns as if its output were alone.
EV013 names the crossing of pulse input n as 0xC000 + n (log 62), and an edge whose stamp its point lost takes a free value in
its place (log 101). -/
theorem directInputsAndOutputs : Obligations.DirectInputsAndOutputs :=
  ⟨aiBurden_switched, aiCalibrationDone_ends, aiModulatorTakeover_takes, pulseEdge_idle, pulseEdge_counts, pulseEdge_hides,
    pulseTimeout_ends, dioEdge_stamped, dioEdge_unstamped, dioEdge_levels, dioOvercurrent_trips, dioOfltClear_returns⟩

end Sys2Proof.Machine
